-- ==== Sys2Proof/Word.lean ====
section
/-! DEFINITION. The word and byte types of the block (R84: every access is one 32-bit word). -/

namespace Sys2Proof

/-- A 32-bit word of a register page or memory window (R84). -/
abbrev Word := BitVec 32

/-- A byte, as carried by frames and messages. -/
abbrev Byte := BitVec 8

end Sys2Proof
end

