-- ==== Sys2Proof/Machine/RegSpec.lean ====
section
/-! DEFINITION. How a register field is named and described: its place, its access code (R10) and the reach level that
restores it (R11). -/

namespace Sys2Proof.Machine

/-- A field: bits `hi` down to `lo` of the word at address `addr`. -/
structure Fld where
  addr : Nat
  hi   : Nat
  lo   : Nat
deriving DecidableEq, Repr

/-- A value wider than 32 bits: `words` words from address `addr`, the lowest-addressed word the least significant
(R86). -/
structure Wide where
  addr  : Nat
  words : Nat
deriving DecidableEq, Repr

/-- The access codes of R10. -/
inductive Access where
  | rw | ro | wo | w1c | rc | rwl
deriving DecidableEq, Repr

/-- The Reset column of a register table (R11): a reach level, `dom` for the reach of the page's domain (R75), or
`none` for a field that no reset restores. -/
inductive ResetCol where
  | block | app | sys | full | bkp | dom | none
deriving DecidableEq, Repr

/-- One row of a register table: the offset of its first instance, the strides and counts of its repetitions
(greatest stride first), how many words one value takes, the bits, the access code, the Reset column, the reset
value, and the range that R531 clamps a written value to. -/
structure FieldSpec where
  off   : Nat
  dims  : List (Nat × Nat)
  words : Nat
  hi    : Nat
  lo    : Nat
  acc   : Access
  reach : ResetCol
  dflt  : Nat
  range : Option (Nat × Nat)
deriving DecidableEq, Repr

/-- The kinds of register page (R73). -/
inductive PageKind where
  | SYS | RST | PWR | CLK | BKP | RTC | TBS | EVR | UPD | KEY | PGD | MAC | TWN | CAN | CANCH | SCN | LPE | MOT | ANG
  | MTR | FIO | SAF | LFT | FIR | CAL | ATB | ECC | TILE | CAR | AXIS | CIRC | PULSE
deriving DecidableEq, Repr

/-- The memory windows (R71). -/
inductive WindowKind where
  | point | program | scanData | loop | segment | slot | record
deriving DecidableEq, Repr

end Sys2Proof.Machine
end

