-- ==== Sys2Proof/Machine/Bits.lean ====
section
/-! DEFINITION. Bit fields, signed readings and saturation. -/

namespace Sys2Proof.Machine

/-- The value of bits `hi` down to `lo` of a word. -/
def getBits (w : Word) (hi lo : Nat) : Nat := (w >>> lo).toNat % 2 ^ (hi + 1 - lo)

/-- The mask of bits `hi` down to `lo`. -/
def maskBits (hi lo : Nat) : Word := BitVec.ofNat 32 (2 ^ (hi + 1 - lo) - 1) <<< lo

/-- A word with bits `hi` down to `lo` replaced by the low bits of `v`. -/
def setBits (w : Word) (hi lo v : Nat) : Word :=
  (w &&& ~~~ (maskBits hi lo)) ||| ((BitVec.ofNat 32 v <<< lo) &&& maskBits hi lo)

/-- The two's complement reading of an `n`-bit value. -/
def toSigned (n v : Nat) : Int := if v < 2 ^ (n - 1) then (v : Int) else (v : Int) - (2 ^ n : Nat)

/-- The `n`-bit two's complement code of an integer. -/
def ofSigned (n : Nat) (i : Int) : Nat := (i % ((2 ^ n : Nat) : Int)).toNat

/-- Saturation of a count at a maximum. -/
def satTo (mx v : Nat) : Nat := if mx < v then mx else v

/-- Bit `i` of a number. -/
def bitOf (v i : Nat) : Bool := v / 2 ^ i % 2 == 1

/-- A Boolean as a one-bit field value. -/
def b2n (b : Bool) : Nat := if b then 1 else 0

/-- Clamp a natural number between two bounds. -/
def clampN (lo hi v : Nat) : Nat := if v < lo then lo else if hi < v then hi else v

/-- Clamp an integer between two bounds. -/
def clampI (lo hi v : Int) : Int := if v < lo then lo else if hi < v then hi else v

/-- Round the exact quotient `n / d` (`d` positive) to the nearest integer, ties to even. -/
def divRoundEven (n : Int) (d : Nat) : Int :=
  let q := n / (d : Int)
  let r := n % (d : Int)
  if 2 * r < d then q else if (d : Int) < 2 * r then q + 1 else if q % 2 = 0 then q else q + 1

/-- The integer square root, rounded down (bitwise, from bit `k` down). -/
def isqrtAux (n : Nat) : Nat → Nat → Nat
  | 0, r => r
  | k + 1, r => let c := r + 2 ^ k; if c * c ≤ n then isqrtAux n k c else isqrtAux n k r

/-- The integer square root of a number below 2^256, rounded down. -/
def isqrt (n : Nat) : Nat := isqrtAux n 128 0

end Sys2Proof.Machine
end

