-- ==== Sys2Proof/Machine/Fields.lean ====
section
/-! DEFINITION. Names of the registers, fields and interrupt or error bits, transcribed from the register tables
of the spec (each chapter's tables; page numbers and addresses by R9 and R71 to R73). `c`, `n`, … are the instance
and table indices in the order page instance, first index, second index. -/

namespace Sys2Proof.Machine

/-! ## Page numbers (R73) -/
namespace Page
abbrev SYS : Nat := 0
abbrev RST : Nat := 1
abbrev PWR : Nat := 2
abbrev CLK : Nat := 3
abbrev BKP : Nat := 4
abbrev RTC : Nat := 5
abbrev TBS : Nat := 6
abbrev EVR : Nat := 7
abbrev UPD : Nat := 8
abbrev KEY : Nat := 9
abbrev PGD : Nat := 0xa
abbrev MAC (n : Nat) : Nat := 0xb + n
abbrev TWN : Nat := 0xe
abbrev CAN : Nat := 0xf
abbrev CANCH (n : Nat) : Nat := 0x10 + n
abbrev SCN : Nat := 0x14
abbrev LPE : Nat := 0x15
abbrev MOT : Nat := 0x16
abbrev ANG : Nat := 0x17
abbrev MTR : Nat := 0x18
abbrev FIO : Nat := 0x19
abbrev SAF : Nat := 0x1a
abbrev LFT : Nat := 0x1b
abbrev FIR : Nat := 0x1c
abbrev CAL : Nat := 0x1d
abbrev ATB : Nat := 0x1e
abbrev ECC : Nat := 0x1f
abbrev TILE (n : Nat) : Nat := 0x20 + n
abbrev CAR (n : Nat) : Nat := 0x30 + n
abbrev AXIS (n : Nat) : Nat := 0x40 + n
abbrev CIRC (n : Nat) : Nat := 0x60 + n
abbrev PULSE (n : Nat) : Nat := 0x90 + n
end Page

/-! ## IRQ_STAT and ERR_STAT bits -/
namespace Irq
abbrev TBS_LOCKED : Nat := 0
abbrev TBS_HOLDOVER : Nat := 1
abbrev TBS_STEP : Nat := 2
abbrev TBS_GM_CHANGE : Nat := 3
abbrev TBS_BIG_OFS : Nat := 4
abbrev TBS_HOLD_LONG : Nat := 5
abbrev TBS_TXTS_A : Nat := 6
abbrev TBS_TXTS_B : Nat := 7
abbrev RTC_SECOND : Nat := 0
abbrev RTC_DST_DONE : Nat := 1
abbrev RTC_DISC_STEP : Nat := 2
abbrev RTC_OSF : Nat := 3
abbrev RTC_SWO : Nat := 4
abbrev ANG_COMMIT : Nat := 0
abbrev ANG_DONE : Nat := 1
abbrev ANG_MISSED : Nat := 2
abbrev ANG_BASE_LOST : Nat := 3
abbrev ANG_SNAP : Nat := 4
abbrev ANG_EVT : Nat := 8
abbrev TILE_IN_CHANGE : Nat := 0
abbrev TILE_FAULT : Nat := 1
abbrev TILE_SAFE : Nat := 2
abbrev TILE_LINK : Nat := 3
abbrev TILE_SHED : Nat := 4
abbrev TILE_UNDERRUN : Nat := 5
abbrev TILE_TEST : Nat := 6
abbrev TILE_TBL_DONE : Nat := 7
abbrev SCN_MODE : Nat := 0
abbrev SCN_OVERRUN : Nat := 1
abbrev SCN_WARN : Nat := 2
abbrev SCN_FAULT : Nat := 3
abbrev SCN_BREAK : Nat := 4
abbrev SCN_UNDELIV : Nat := 5
abbrev SCN_FORCE_DROP : Nat := 6
abbrev SCN_SWAP_DONE : Nat := 7
abbrev SCN_RET_SAVED : Nat := 8
abbrev LPE_TRIP : Nat := 0
abbrev LPE_SAT : Nat := 1
abbrev LPE_APPLIED : Nat := 2
abbrev LPE_IN_BAD : Nat := 3
abbrev LPE_MODE : Nat := 4
abbrev AXIS_DONE : Nat := 0
abbrev AXIS_STOPPED : Nat := 1
abbrev AXIS_FAULT : Nat := 2
abbrev AXIS_SEG_EVT : Nat := 3
abbrev AXIS_LATE : Nat := 4
abbrev AXIS_GEAR_CHG : Nat := 5
abbrev AXIS_COMMIT : Nat := 6
abbrev LFT_CALL_NEW : Nat := 0
abbrev LFT_COMMIT : Nat := 1
abbrev LFT_REASSIGN : Nat := 2
abbrev LFT_CAR_MODE : Nat := 3
abbrev CAR_MODE : Nat := 0
abbrev CAR_POS_LOST : Nat := 1
abbrev CAR_ARRIVED : Nat := 2
abbrev CAR_STOP_COMMIT : Nat := 3
abbrev CAR_LEARN_DONE : Nat := 4
abbrev CAR_FAULT : Nat := 5
abbrev CAR_DOOR_STATE : Nat := 8
abbrev CAR_DOOR_FAULT : Nat := 9
abbrev CAR_REVERSED : Nat := 10
abbrev CAR_NUDGE : Nat := 11
abbrev SAF_TRIP : Nat := 0
abbrev SAF_STATE : Nat := 1
abbrev SAF_PERM : Nat := 2
abbrev SAF_RESET : Nat := 3
abbrev SAF_CONN : Nat := 4
abbrev SAF_SUT_DONE : Nat := 5
abbrev MTR_DEM_END : Nat := 0
abbrev MTR_UNMETERED : Nat := 1
abbrev MTR_UNSAVED : Nat := 2
abbrev MTR_OVR : Nat := 3
abbrev MTR_VPRES : Nat := 4
abbrev PGD_REFUSED : Nat := 0
abbrev PGD_SCHED : Nat := 1
abbrev PGD_RETAG : Nat := 2
abbrev MAC_RX_DONE : Nat := 0
abbrev MAC_TX_DONE : Nat := 1
abbrev MAC_LINK : Nat := 2
abbrev MAC_GCL_SWAP : Nat := 3
abbrev MAC_NO_DESC : Nat := 4
abbrev CANCH_RX : Nat := 0
abbrev CANCH_TX_ABANDON : Nat := 1
abbrev CANCH_BUSOFF : Nat := 2
abbrev CANCH_WAKE : Nat := 3
abbrev CANCH_NODE : Nat := 4
abbrev KEY_ORPHANED : Nat := 0
abbrev KEY_LOCK : Nat := 1
abbrev KEY_OWNER : Nat := 2
abbrev TWN_STATE : Nat := 0
abbrev TWN_GIVE_UP : Nat := 1
abbrev TWN_LINK : Nat := 2
abbrev TWN_DIVERGE : Nat := 3
abbrev TWN_RESYNC_DONE : Nat := 4
abbrev EVR_RECORD : Nat := 0
abbrev EVR_SEVERE : Nat := 1
abbrev EVR_MERGED : Nat := 2
abbrev UPD_STAGED : Nat := 0
abbrev UPD_VERIFY_FAIL : Nat := 1
abbrev UPD_ACTIVATED : Nat := 2
abbrev UPD_ROLLBACK : Nat := 3
abbrev ATB_BIST : Nat := 0
abbrev ATB_TEMP : Nat := 1
abbrev ECC_UE : Nat := 0
abbrev ECC_PASS : Nat := 1
abbrev FIR_MODE : Nat := 0
abbrev FIR_VA_FAULT : Nat := 1
abbrev FIR_FF_PHASE : Nat := 2
abbrev CLK_FALLBACK : Nat := 0
abbrev CLK_EXT_CHANGE : Nat := 1
abbrev FIO_SAFE : Nat := 0
abbrev FIO_LINK : Nat := 8
abbrev MOT_GRP_DONE : Nat := 0
abbrev MOT_GRP_FAULT : Nat := 1
abbrev CIRC_REVERSE : Nat := 0
abbrev CIRC_OVR : Nat := 1
abbrev PULSE_NO_CH : Nat := 0
abbrev CAN_FUSE : Nat := 0
abbrev CAN_ENC : Nat := 4
end Irq
namespace Err
abbrev NO_RIGHT : Nat := 10
abbrev SIZE : Nat := 9
abbrev FRZ_TMO : Nat := 8
abbrev ECC_UE : Nat := 7
abbrev ECC_CE : Nat := 6
abbrev WIDE_TORN : Nat := 5
abbrev KEY_ERR : Nat := 4
abbrev ROLE_OFF : Nat := 3
abbrev RO_WR : Nat := 2
abbrev LOCKED_WR : Nat := 1
abbrev RSVD_ACC : Nat := 0
abbrev TBS_TXTS_A_OVF : Nat := 16
abbrev TBS_TXTS_B_OVF : Nat := 17
abbrev TBS_SET_REFUSED : Nat := 18
abbrev TBS_CFG_RANGE : Nat := 19
abbrev RTC_DATE_INVALID : Nat := 16
abbrev RTC_DST_REFUSED : Nat := 17
abbrev RTC_RANGE_END : Nat := 18
abbrev RTC_DISC_ACTIVE : Nat := 19
abbrev RTC_CFG_RANGE : Nat := 20
abbrev ANG_SLOT_BUSY : Nat := 16
abbrev ANG_RECALL_LATE : Nat := 17
abbrev ANG_DONE_OVF : Nat := 18
abbrev ANG_CFG_RANGE : Nat := 19
abbrev ANG_SEQ_LATE : Nat := 20
abbrev ANG_ARM_INVALID : Nat := 21
abbrev TILE_SINK_BUDGET : Nat := 16
abbrev TILE_MODE_INVALID : Nat := 17
abbrev TILE_TBL_FAIL : Nat := 18
abbrev TILE_CFG_RANGE : Nat := 19
abbrev TILE_LINK_LOST : Nat := 20
abbrev TILE_PULSE_OVF : Nat := 21
abbrev SCN_NOT_READY : Nat := 16
abbrev SCN_SWAP_INVALID : Nat := 17
abbrev SCN_IMG_RO : Nat := 18
abbrev SCN_CFG_RANGE : Nat := 19
abbrev SCN_FORCE_REFUSED : Nat := 20
abbrev SCN_RET_LOST : Nat := 21
abbrev SCN_RET_OLD : Nat := 22
abbrev LPE_CFG_INVALID : Nat := 16
abbrev LPE_MODE_REFUSED : Nat := 17
abbrev AXIS_CHAIN_INVALID : Nat := 16
abbrev AXIS_CMD_REFUSED : Nat := 17
abbrev AXIS_CFG_RANGE : Nat := 18
abbrev AXIS_POOL_EMPTY : Nat := 19
abbrev LFT_CALL_INVALID : Nat := 16
abbrev LFT_CALL_FULL : Nat := 17
abbrev LFT_CFG_RANGE : Nat := 18
abbrev CAR_CMD_REFUSED : Nat := 16
abbrev CAR_CFG_RANGE : Nat := 17
abbrev CAR_DOOR_REFUSED : Nat := 18
abbrev SAF_PARAM_INVALID : Nat := 16
abbrev SAF_RESET_WIRING : Nat := 17
abbrev MTR_CFG_INVALID : Nat := 16
abbrev MTR_CFG_BUSY : Nat := 17
abbrev MTR_CKPT_LOST : Nat := 18
abbrev MTR_CFG_RANGE : Nat := 19
abbrev MTR_CKPT_FAIL : Nat := 20
abbrev PGD_CFG_INVALID : Nat := 16
abbrev MAC_GCL_INVALID : Nat := 16
abbrev MAC_TX_NOFIT : Nat := 17
abbrev MAC_RING_INVALID : Nat := 18
abbrev MAC_CFG_RANGE : Nat := 19
abbrev MAC_NT_FULL : Nat := 20
abbrev CANCH_ID_CLASH : Nat := 16
abbrev CANCH_TXQ_FULL : Nat := 17
abbrev CANCH_ACK_RANGE : Nat := 18
abbrev CANCH_CFG_BUSY : Nat := 19
abbrev CANCH_CFG_RANGE : Nat := 20
abbrev CANCH_NOT_READY : Nat := 21
abbrev KEY_KEY_REFUSED : Nat := 16
abbrev KEY_HANDLE_FULL : Nat := 17
abbrev KEY_MRAM_FAIL : Nat := 18
abbrev KEY_CFG_RANGE : Nat := 19
abbrev TWN_PAIR_FAIL : Nat := 16
abbrev TWN_RESYNC_FAIL : Nat := 17
abbrev TWN_CFG_RANGE : Nat := 18
abbrev EVR_SIDE_OVF : Nat := 16
abbrev EVR_DROP_SEV : Nat := 17
abbrev EVR_CFG_RANGE : Nat := 18
abbrev UPD_REFUSED : Nat := 16
abbrev CAL_CAL_INVALID : Nat := 16
abbrev CAL_CAL_FAIL : Nat := 17
abbrev FIR_CFG_INVALID : Nat := 16
abbrev FIR_RESET_REFUSED : Nat := 17
abbrev CLK_MON : Nat := 16
abbrev CLK_REF_LOST : Nat := 24
abbrev MOT_POOL_WR : Nat := 16
abbrev MOT_SEG_BUSY : Nat := 17
abbrev MOT_POOL_EMPTY : Nat := 18
abbrev MOT_GRP_INVALID : Nat := 19
abbrev MOT_CFG_RANGE : Nat := 20
abbrev MOT_BIND_INVALID : Nat := 21
abbrev CIRC_CFG_INVALID : Nat := 16
abbrev CIRC_CFG_BUSY : Nat := 17
abbrev PULSE_CFG_INVALID : Nat := 16
abbrev PULSE_CFG_RANGE : Nat := 17
end Err

/-! ## Fields -/
namespace Reg
def HDR_TYPE (p : Nat) : Fld := ⟨0x1000 * p + 0, 31, 16⟩
def HDR_INSTANCE (p : Nat) : Fld := ⟨0x1000 * p + 0, 15, 0⟩
def HDR_MAJOR (p : Nat) : Fld := ⟨0x1000 * p + 4, 31, 16⟩
def HDR_MINOR (p : Nat) : Fld := ⟨0x1000 * p + 4, 15, 0⟩
def HDR_CAP_BLK (p : Nat) : Fld := ⟨0x1000 * p + 8, 27, 0⟩
def HDR_LOCK (p : Nat) : Fld := ⟨0x1000 * p + 0xc, 3, 3⟩
def HDR_FREEZE (p : Nat) : Fld := ⟨0x1000 * p + 0xc, 2, 2⟩
def HDR_SOFT_RESET (p : Nat) : Fld := ⟨0x1000 * p + 0xc, 1, 1⟩
def HDR_ENABLE (p : Nat) : Fld := ⟨0x1000 * p + 0xc, 0, 0⟩
def HDR_STAT_BLK (p : Nat) : Fld := ⟨0x1000 * p + 0x10, 31, 8⟩
def HDR_LOCKED (p : Nat) : Fld := ⟨0x1000 * p + 0x10, 3, 3⟩
def HDR_FROZEN (p : Nat) : Fld := ⟨0x1000 * p + 0x10, 2, 2⟩
def HDR_BUSY (p : Nat) : Fld := ⟨0x1000 * p + 0x10, 1, 1⟩
def HDR_ENABLED (p : Nat) : Fld := ⟨0x1000 * p + 0x10, 0, 0⟩
def HDR_IRQ_STAT (p : Nat) : Fld := ⟨0x1000 * p + 0x14, 31, 0⟩
def HDR_IRQ_EN (p : Nat) : Fld := ⟨0x1000 * p + 0x18, 31, 0⟩
def HDR_IRQ_FORCE (p : Nat) : Fld := ⟨0x1000 * p + 0x1c, 31, 0⟩
def HDR_ERR_STAT (p : Nat) : Fld := ⟨0x1000 * p + 0x20, 31, 0⟩
def HDR_ERR_CNT (p : Nat) : Fld := ⟨0x1000 * p + 0x24, 31, 0⟩
def CLK_EXT_PRES : Fld := ⟨0x3040, 11, 11⟩
def CLK_REF_FALLBACK : Fld := ⟨0x3040, 10, 10⟩
def CLK_REF_SRC : Fld := ⟨0x3040, 9, 8⟩
def CLK_LOCK : Fld := ⟨0x3040, 7, 0⟩
def CLK_MON_CNT : Fld := ⟨0x3044, 31, 0⟩
def CLK_FREQ (c : Nat) : Fld := ⟨0x3080 + 4 * c, 31, 0⟩
def PWR_BKP_LOW : Fld := ⟨0x2040, 11, 11⟩
def PWR_PWR_WARN : Fld := ⟨0x2040, 10, 10⟩
def PWR_MODE : Fld := ⟨0x2040, 9, 8⟩
def PWR_SHED : Fld := ⟨0x2040, 7, 5⟩
def PWR_B_LOAD : Fld := ⟨0x2040, 4, 4⟩
def PWR_A_LOAD : Fld := ⟨0x2040, 3, 3⟩
def PWR_B_DET : Fld := ⟨0x2040, 2, 2⟩
def PWR_A_DET : Fld := ⟨0x2040, 1, 1⟩
def PWR_BUS_OK : Fld := ⟨0x2040, 0, 0⟩
def PWR_A_GRANT : Fld := ⟨0x2044, 31, 0⟩
def PWR_B_GRANT : Fld := ⟨0x2048, 31, 0⟩
def PWR_BUS_MV : Fld := ⟨0x204c, 31, 0⟩
def PWR_BUDGET_MW : Fld := ⟨0x2050, 31, 0⟩
def PWR_CAR_STOP : Fld := ⟨0x2054, 1, 1⟩
def PWR_WARN_TEST : Fld := ⟨0x2054, 0, 0⟩
def PWR_HOLD_MS : Fld := ⟨0x2058, 31, 16⟩
def PWR_FINAL_OK : Fld := ⟨0x2058, 0, 0⟩
def RST_RST_CAUSE : Fld := ⟨0x1040, 11, 0⟩
def RST_RST_REACH : Fld := ⟨0x1044, 2, 0⟩
def RST_CMD_KEY : Fld := ⟨0x1048, 31, 16⟩
def RST_CMD_REACH : Fld := ⟨0x1048, 2, 0⟩
def RST_REF_FALLBACK : Fld := ⟨0x104c, 7, 7⟩
def RST_STRAP_ERR : Fld := ⟨0x104c, 6, 6⟩
def RST_CLK_ACTIVE : Fld := ⟨0x104c, 5, 4⟩
def RST_STRAP_CLK : Fld := ⟨0x104c, 3, 2⟩
def RST_STRAP_BOOT : Fld := ⟨0x104c, 1, 0⟩
def RST_RST_TOTAL : Fld := ⟨0x1050, 31, 0⟩
def RST_POWER_CYCLES : Fld := ⟨0x1054, 31, 0⟩
def RST_FAIL_RUN : Fld := ⟨0x1058, 7, 0⟩
def RST_TACK_EXIT : Fld := ⟨0x105c, 2, 2⟩
def RST_TACK : Fld := ⟨0x105c, 1, 1⟩
def RST_START_OK : Fld := ⟨0x105c, 0, 0⟩
def RST_START_TMO : Fld := ⟨0x1060, 31, 0⟩
def RST_RST_N_STUCK : Fld := ⟨0x1064, 0, 0⟩
def SYS_SERIAL_LO : Fld := ⟨0x40, 31, 0⟩
def SYS_SERIAL_HI : Fld := ⟨0x44, 31, 0⟩
def SYS_PAGE_PRESENT (w : Nat) : Fld := ⟨0x48 + 4 * w, 31, 0⟩
def SYS_IRQ_PEND (w : Nat) : Fld := ⟨0x5c + 4 * w, 31, 0⟩
def SYS_UDP_PORT : Fld := ⟨0x80, 15, 0⟩
def SYS_RX_BUF : Fld := ⟨0x84, 31, 16⟩
def SYS_EN_MNT : Fld := ⟨0x84, 2, 2⟩
def SYS_EN_B : Fld := ⟨0x84, 1, 1⟩
def SYS_EN_A : Fld := ⟨0x84, 0, 0⟩
def SYS_HALF_OPEN : Fld := ⟨0x88, 15, 10⟩
def SYS_SESSIONS : Fld := ⟨0x88, 9, 0⟩
def SYS_BLT_DROP : Fld := ⟨0x8c, 31, 0⟩
def SYS_BLT_OPEN_FAIL : Fld := ⟨0x90, 31, 0⟩
def SYS_BLT_IDLE : Fld := ⟨0x94, 31, 0⟩
def SYS_BLT_OPEN_RATE : Fld := ⟨0x98, 31, 0⟩
def TBS_TIME_FRAC : Fld := ⟨0x6040, 31, 16⟩
def TBS_TIME_VALID : Fld := ⟨0x6040, 2, 2⟩
def TBS_TIME_SERVO : Fld := ⟨0x6040, 1, 0⟩
def TBS_TIME_NS : Fld := ⟨0x6044, 31, 0⟩
def TBS_TIME_SEC_LO : Fld := ⟨0x6048, 31, 0⟩
def TBS_TIME_SEC_HI : Fld := ⟨0x604c, 15, 0⟩
def TBS_SET (w : Nat) : Fld := ⟨0x6050 + 4 * w, 31, 0⟩
def TBS_DOMAIN : Fld := ⟨0x6060, 31, 24⟩
def TBS_STEP_ARM : Fld := ⟨0x6060, 8, 8⟩
def TBS_PORT_B_EN : Fld := ⟨0x6060, 7, 7⟩
def TBS_PORT_A_EN : Fld := ⟨0x6060, 6, 6⟩
def TBS_TRANSPORT : Fld := ⟨0x6060, 5, 4⟩
def TBS_SLAVE_ONLY : Fld := ⟨0x6060, 3, 3⟩
def TBS_DELAY_MECH : Fld := ⟨0x6060, 2, 2⟩
def TBS_MODE_BC : Fld := ⟨0x6060, 1, 1⟩
def TBS_PTP_EN : Fld := ⟨0x6060, 0, 0⟩
def TBS_LOG_SYNC : Fld := ⟨0x6064, 31, 24⟩
def TBS_LOG_DELAY : Fld := ⟨0x6064, 23, 16⟩
def TBS_LOG_ANN : Fld := ⟨0x6064, 15, 8⟩
def TBS_ANN_TMO : Fld := ⟨0x6064, 7, 0⟩
def TBS_PRIORITY1 : Fld := ⟨0x6068, 31, 24⟩
def TBS_PRIORITY2 : Fld := ⟨0x6068, 23, 16⟩
def TBS_CLOCK_CLASS : Fld := ⟨0x6068, 15, 8⟩
def TBS_KP : Fld := ⟨0x606c, 31, 16⟩
def TBS_KI : Fld := ⟨0x606c, 15, 0⟩
def TBS_SLEW_PPB : Fld := ⟨0x6070, 31, 0⟩
def TBS_LOCK_N : Fld := ⟨0x6074, 31, 24⟩
def TBS_OUTLIER : Fld := ⟨0x6074, 23, 0⟩
def TBS_HOLD_WARN : Fld := ⟨0x6078, 31, 0⟩
def TBS_FREQ : Fld := ⟨0x607c, 31, 0⟩
def TBS_OFS : Wide := ⟨0x6080, 2⟩
def TBS_MPD : Fld := ⟨0x6088, 31, 0⟩
def TBS_PORT_B_STATE : Fld := ⟨0x608c, 13, 11⟩
def TBS_PORT_A_STATE : Fld := ⟨0x608c, 10, 8⟩
def TBS_PARENT_PORT : Fld := ⟨0x608c, 7, 6⟩
def TBS_BIG_OFFSET : Fld := ⟨0x608c, 5, 5⟩
def TBS_SLEW_LIMIT : Fld := ⟨0x608c, 4, 4⟩
def TBS_STEPPED : Fld := ⟨0x608c, 3, 3⟩
def TBS_VALID : Fld := ⟨0x608c, 2, 2⟩
def TBS_SERVO : Fld := ⟨0x608c, 1, 0⟩
def TBS_HOLD_S : Fld := ⟨0x6090, 31, 0⟩
def TBS_GM_ID : Wide := ⟨0x6094, 2⟩
def TBS_STEP : Wide := ⟨0x609c, 2⟩
def TBS_REJ_CNT : Fld := ⟨0x60a4, 31, 0⟩
def TBS_LEAP61 : Fld := ⟨0x60a8, 17, 17⟩
def TBS_LEAP59 : Fld := ⟨0x60a8, 16, 16⟩
def TBS_UTC_OFS : Fld := ⟨0x60a8, 15, 0⟩
def TBS_ING_LAT_A : Fld := ⟨0x60b0, 31, 0⟩
def TBS_EGR_LAT_A : Fld := ⟨0x60b4, 31, 0⟩
def TBS_ING_LAT_B : Fld := ⟨0x60b8, 31, 0⟩
def TBS_EGR_LAT_B : Fld := ⟨0x60bc, 31, 0⟩
def TBS_ASYM_A : Fld := ⟨0x60c0, 31, 0⟩
def TBS_ASYM_B : Fld := ⟨0x60c4, 31, 0⟩
def TBS_TXTS_A_ID : Fld := ⟨0x60d0, 31, 16⟩
def TBS_TXTS_A_FRAC : Fld := ⟨0x60d0, 15, 0⟩
def TBS_TXTS_A_NS : Fld := ⟨0x60d4, 31, 0⟩
def TBS_TXTS_A_SEC_LO : Fld := ⟨0x60d8, 31, 0⟩
def TBS_TXTS_A_SEC_HI : Fld := ⟨0x60dc, 15, 0⟩
def TBS_TXTS_A_COUNT : Fld := ⟨0x60e0, 4, 0⟩
def TBS_TXTS_A_DROP : Fld := ⟨0x60e4, 31, 0⟩
def RTC_SUBSEC : Fld := ⟨0x5040, 31, 17⟩
def RTC_HOUR : Fld := ⟨0x5040, 16, 12⟩
def RTC_MIN : Fld := ⟨0x5040, 11, 6⟩
def RTC_SEC : Fld := ⟨0x5040, 5, 0⟩
def RTC_DST : Fld := ⟨0x5044, 21, 21⟩
def RTC_WDAY : Fld := ⟨0x5044, 20, 18⟩
def RTC_YEAR_OFS : Fld := ⟨0x5044, 17, 9⟩
def RTC_MONTH : Fld := ⟨0x5044, 8, 5⟩
def RTC_DAY : Fld := ⟨0x5044, 4, 0⟩
def RTC_STG_HOUR : Fld := ⟨0x5048, 16, 12⟩
def RTC_STG_MIN : Fld := ⟨0x5048, 11, 6⟩
def RTC_STG_SEC : Fld := ⟨0x5048, 5, 0⟩
def RTC_STG_DST : Fld := ⟨0x504c, 21, 21⟩
def RTC_STG_YEAR_OFS : Fld := ⟨0x504c, 17, 9⟩
def RTC_STG_MONTH : Fld := ⟨0x504c, 8, 5⟩
def RTC_STG_DAY : Fld := ⟨0x504c, 4, 0⟩
def RTC_CMD : Fld := ⟨0x5050, 1, 0⟩
def RTC_ZONE : Fld := ⟨0x5054, 15, 0⟩
def RTC_UTC_OFS_BKP : Fld := ⟨0x5058, 15, 0⟩
def RTC_SWO_SRC : Fld := ⟨0x505c, 7, 6⟩
def RTC_SWO_VALID : Fld := ⟨0x505c, 5, 5⟩
def RTC_SWO_ARMED : Fld := ⟨0x505c, 4, 4⟩
def RTC_PEND_DST : Fld := ⟨0x505c, 3, 3⟩
def RTC_DISC : Fld := ⟨0x505c, 2, 2⟩
def RTC_OSF : Fld := ⟨0x505c, 0, 0⟩
def RTC_SWO_TIME : Fld := ⟨0x5060, 31, 0⟩
def RTC_SWO_DATE : Fld := ⟨0x5064, 31, 0⟩
def RTC_SWO_CNT : Fld := ⟨0x5068, 31, 0⟩
def RTC_DISC_EN : Fld := ⟨0x506c, 0, 0⟩
def RTC_DISC_STEP_CNT : Fld := ⟨0x5070, 31, 0⟩
def BKP_BKP_LOW : Fld := ⟨0x4040, 3, 3⟩
def BKP_COIN_PRES : Fld := ⟨0x4040, 2, 2⟩
def BKP_SOURCE : Fld := ⟨0x4040, 1, 0⟩
def BKP_SCAP_MV : Fld := ⟨0x4044, 31, 0⟩
def BKP_COIN_MV : Fld := ⟨0x4048, 31, 0⟩
def BKP_BKP_REG (w : Nat) : Fld := ⟨0x4080 + 4 * w, 31, 0⟩
def SLOT_STATE (n : Nat) : Fld := ⟨0x6000000 + 32 * n, 31, 29⟩
def SLOT_BASE (n : Nat) : Fld := ⟨0x6000000 + 32 * n, 28, 25⟩
def SLOT_ACTION (n : Nat) : Fld := ⟨0x6000000 + 32 * n, 24, 21⟩
def SLOT_NEXT (n : Nat) : Fld := ⟨0x6000000 + 32 * n, 20, 20⟩
def SLOT_DIR (n : Nat) : Fld := ⟨0x6000000 + 32 * n, 19, 18⟩
def SLOT_COIL (n : Nat) : Fld := ⟨0x6000000 + 32 * n, 17, 17⟩
def SLOT_LATE_OK (n : Nat) : Fld := ⟨0x6000000 + 32 * n, 16, 16⟩
def SLOT_CMD (n : Nat) : Fld := ⟨0x6000000 + 32 * n, 13, 12⟩
def SLOT_COORD (n : Nat) : Wide := ⟨0x6000004 + 32 * n, 2⟩
def SLOT_ARG (n : Nat) : Fld := ⟨0x600000c + 32 * n, 31, 0⟩
def SLOT_HORIZON (n : Nat) : Fld := ⟨0x6000010 + 32 * n, 31, 16⟩
def SLOT_PRED (n : Nat) : Wide := ⟨0x6000014 + 32 * n, 2⟩
def SLOT_CODE (n : Nat) : Fld := ⟨0x600001c + 32 * n, 31, 28⟩
def SLOT_DEV (n : Nat) : Fld := ⟨0x600001c + 32 * n, 27, 0⟩
def ANG_HZN_DEF : Fld := ⟨0x17040, 31, 16⟩
def ANG_PRED_EN : Fld := ⟨0x17040, 0, 0⟩
def ANG_SEQ : Wide := ⟨0x17044, 2⟩
def ANG_FREQ_A : Fld := ⟨0x1704c, 31, 16⟩
def ANG_HELD_A : Fld := ⟨0x1704c, 1, 1⟩
def ANG_LOCK_A : Fld := ⟨0x1704c, 0, 0⟩
def ANG_PH_A : Wide := ⟨0x17050, 2⟩
def ANG_FREQ_B : Fld := ⟨0x17058, 31, 16⟩
def ANG_HELD_B : Fld := ⟨0x17058, 1, 1⟩
def ANG_LOCK_B : Fld := ⟨0x17058, 0, 0⟩
def ANG_PH_B : Wide := ⟨0x1705c, 2⟩
def ANG_CAR_VALID : Fld := ⟨0x17064, 7, 0⟩
def ANG_N_COMMITTED : Fld := ⟨0x17068, 26, 16⟩
def ANG_N_ARMED : Fld := ⟨0x17068, 10, 0⟩
def ANG_MISS_CNT : Fld := ⟨0x1706c, 31, 0⟩
def ANG_RECALL_CNT : Fld := ⟨0x17070, 31, 0⟩
def ANG_SEQ_LATE : Fld := ⟨0x17074, 31, 0⟩
def ANG_PRED_MAX : Fld := ⟨0x17078, 31, 0⟩
def ANG_DONE_CODE : Fld := ⟨0x17080, 15, 12⟩
def ANG_DONE_SLOT : Fld := ⟨0x17080, 9, 0⟩
def ANG_DONE_SEQ : Wide := ⟨0x17084, 2⟩
def ANG_DONE_TS : Wide := ⟨0x1708c, 2⟩
def ANG_DONE_COUNT : Fld := ⟨0x17094, 6, 0⟩
def ANG_DONE_DROP : Fld := ⟨0x17098, 31, 0⟩
def ANG_SNAP_ADDR (s w : Nat) : Fld := ⟨0x17100 + 0x80 * s + 4 * w, 31, 0⟩
def ANG_SNAP_DATA (s w : Nat) : Fld := ⟨0x17120 + 0x80 * s + 4 * w, 31, 0⟩
def ANG_SNAP_TS (s : Nat) : Wide := ⟨0x17140 + 0x80 * s, 2⟩
def ANG_SNAP_SEQ (s : Nat) : Wide := ⟨0x17148 + 0x80 * s, 2⟩
def ANG_SNAP_CNT (s : Nat) : Fld := ⟨0x17150 + 0x80 * s, 31, 16⟩
def ANG_SNAP_OVERWRITTEN (s : Nat) : Fld := ⟨0x17150 + 0x80 * s, 0, 0⟩
def ANG_LEARN (k : Nat) : Fld := ⟨0x17400 + 4 * k, 31, 31⟩
def ANG_SRC (k : Nat) : Fld := ⟨0x17400 + 4 * k, 30, 29⟩
def ANG_ON_READY (k : Nat) : Fld := ⟨0x17400 + 4 * k, 28, 28⟩
def ANG_OFF_READY (k : Nat) : Fld := ⟨0x17400 + 4 * k, 27, 27⟩
def ANG_FB_CH (k : Nat) : Fld := ⟨0x17400 + 4 * k, 23, 16⟩
def ANG_I_IN (k : Nat) : Fld := ⟨0x17400 + 4 * k, 15, 10⟩
def ANG_ON_US (k : Nat) : Fld := ⟨0x17800 + 8 * k, 31, 16⟩
def ANG_ON_JIT (k : Nat) : Fld := ⟨0x17800 + 8 * k, 15, 0⟩
def ANG_OFF_US (k : Nat) : Fld := ⟨0x17804 + 8 * k, 31, 16⟩
def ANG_OFF_JIT (k : Nat) : Fld := ⟨0x17804 + 8 * k, 15, 0⟩
def FIO_HOLD_MS : Fld := ⟨0x19040, 31, 16⟩
def FIO_GO_SAFE_ALL : Fld := ⟨0x19040, 1, 1⟩
def FIO_HOLD : Fld := ⟨0x19040, 0, 0⟩
def FIO_SAFE : Fld := ⟨0x19044, 23, 16⟩
def FIO_LIVE : Fld := ⟨0x19044, 15, 8⟩
def FIO_LINK_UP : Fld := ⟨0x19044, 7, 0⟩
def FIO_CUR_TOTAL : Fld := ⟨0x19048, 31, 0⟩
def FIO_IN_IMG (t : Nat) : Fld := ⟨0x19080 + 4 * t, 31, 0⟩
def FIO_OUT_IMG (t : Nat) : Fld := ⟨0x190a0 + 4 * t, 31, 0⟩
def TILE_GO_SAFE (p : Nat) : Fld := ⟨0x20040 + 0x1000 * p, 2, 2⟩
def TILE_AUTO_RESTORE (p : Nat) : Fld := ⟨0x20040 + 0x1000 * p, 1, 1⟩
def TILE_BARRIER_US (p : Nat) : Fld := ⟨0x20044 + 0x1000 * p, 31, 0⟩
def TILE_LANE_B_UP (p : Nat) : Fld := ⟨0x20048 + 0x1000 * p, 9, 9⟩
def TILE_LANE_A_UP (p : Nat) : Fld := ⟨0x20048 + 0x1000 * p, 8, 8⟩
def TILE_SAFE_CAUSE (p : Nat) : Fld := ⟨0x20048 + 0x1000 * p, 7, 6⟩
def TILE_TBL_BAD (p : Nat) : Fld := ⟨0x20048 + 0x1000 * p, 5, 5⟩
def TILE_FS_REV (p : Nat) : Fld := ⟨0x20048 + 0x1000 * p, 4, 4⟩
def TILE_FS_FAIL (p : Nat) : Fld := ⟨0x20048 + 0x1000 * p, 3, 3⟩
def TILE_LIVE (p : Nat) : Fld := ⟨0x20048 + 0x1000 * p, 2, 2⟩
def TILE_SAFE (p : Nat) : Fld := ⟨0x20048 + 0x1000 * p, 1, 1⟩
def TILE_LINK_UP (p : Nat) : Fld := ⟨0x20048 + 0x1000 * p, 0, 0⟩
def TILE_FS_MV (p : Nat) : Fld := ⟨0x2004c + 0x1000 * p, 31, 0⟩
def TILE_CUR_MA (p : Nat) : Fld := ⟨0x20050 + 0x1000 * p, 31, 0⟩
def TILE_TEMP (p : Nat) : Fld := ⟨0x20054 + 0x1000 * p, 31, 0⟩
def TILE_IN (p : Nat) : Fld := ⟨0x20058 + 0x1000 * p, 31, 0⟩
def TILE_OUT (p : Nat) : Fld := ⟨0x2005c + 0x1000 * p, 31, 0⟩
def TILE_OUT_RB (p : Nat) : Fld := ⟨0x20060 + 0x1000 * p, 31, 0⟩
def TILE_FAULT_SUM (p : Nat) : Fld := ⟨0x20064 + 0x1000 * p, 31, 0⟩
def TILE_LINK_BAD (p : Nat) : Fld := ⟨0x20068 + 0x1000 * p, 31, 0⟩
def TILE_LINK_GAP (p : Nat) : Fld := ⟨0x2006c + 0x1000 * p, 31, 0⟩
def TILE_BARRIER_CNT (p : Nat) : Fld := ⟨0x20070 + 0x1000 * p, 31, 0⟩
def TILE_SHED_CNT (p : Nat) : Fld := ⟨0x20074 + 0x1000 * p, 31, 0⟩
def TILE_TEST_ABORT (p : Nat) : Fld := ⟨0x20078 + 0x1000 * p, 31, 0⟩
def TILE_TBL_VER (p : Nat) : Fld := ⟨0x2007c + 0x1000 * p, 31, 0⟩
def TILE_SAFE_COMMIT (p : Nat) : Fld := ⟨0x20080 + 0x1000 * p, 0, 0⟩
def TILE_PULSE_CHANNEL (p : Nat) : Fld := ⟨0x20084 + 0x1000 * p, 12, 8⟩
def TILE_PULSE_COUNT (p : Nat) : Fld := ⟨0x20084 + 0x1000 * p, 7, 0⟩
def TILE_CH_MODE (p n : Nat) : Fld := ⟨0x20100 + 0x1000 * p + 4 * n, 31, 28⟩
def TILE_TYPE (p n : Nat) : Fld := ⟨0x20100 + 0x1000 * p + 4 * n, 27, 27⟩
def TILE_WB (p n : Nat) : Fld := ⟨0x20100 + 0x1000 * p + 4 * n, 26, 26⟩
def TILE_CONT (p n : Nat) : Fld := ⟨0x20100 + 0x1000 * p + 4 * n, 25, 25⟩
def TILE_PAIRED (p n : Nat) : Fld := ⟨0x20100 + 0x1000 * p + 4 * n, 24, 24⟩
def TILE_FILTER (p n : Nat) : Fld := ⟨0x20100 + 0x1000 * p + 4 * n, 23, 16⟩
def TILE_PRIO (p n : Nat) : Fld := ⟨0x20100 + 0x1000 * p + 4 * n, 15, 14⟩
def TILE_SUB (p n : Nat) : Fld := ⟨0x20100 + 0x1000 * p + 4 * n, 13, 12⟩
def TILE_RETRY (p n : Nat) : Fld := ⟨0x20100 + 0x1000 * p + 4 * n, 11, 11⟩
def TILE_TEST (p n : Nat) : Fld := ⟨0x20100 + 0x1000 * p + 4 * n, 10, 10⟩
def TILE_SAFETY (p n : Nat) : Fld := ⟨0x20100 + 0x1000 * p + 4 * n, 9, 9⟩
def TILE_TWIN (p n : Nat) : Fld := ⟨0x20100 + 0x1000 * p + 4 * n, 7, 7⟩
def TILE_PARTNER (p n : Nat) : Fld := ⟨0x20100 + 0x1000 * p + 4 * n, 4, 0⟩
def TILE_EXT_DRIVE (p n : Nat) : Fld := ⟨0x20180 + 0x1000 * p + 4 * n, 15, 15⟩
def TILE_SHORT (p n : Nat) : Fld := ⟨0x20180 + 0x1000 * p + 4 * n, 14, 14⟩
def TILE_OPEN_LOAD (p n : Nat) : Fld := ⟨0x20180 + 0x1000 * p + 4 * n, 13, 13⟩
def TILE_OVERTEMP (p n : Nat) : Fld := ⟨0x20180 + 0x1000 * p + 4 * n, 12, 12⟩
def TILE_CH_FS_FAIL (p n : Nat) : Fld := ⟨0x20180 + 0x1000 * p + 4 * n, 11, 11⟩
def TILE_CUR_SHED (p n : Nat) : Fld := ⟨0x20180 + 0x1000 * p + 4 * n, 10, 10⟩
def TILE_BREAK (p n : Nat) : Fld := ⟨0x20180 + 0x1000 * p + 4 * n, 9, 9⟩
def TILE_TEST_FAIL (p n : Nat) : Fld := ⟨0x20180 + 0x1000 * p + 4 * n, 8, 8⟩
def TILE_TEST_DUE (p n : Nat) : Fld := ⟨0x20180 + 0x1000 * p + 4 * n, 7, 7⟩
def TILE_CH_SAFE (p n : Nat) : Fld := ⟨0x20180 + 0x1000 * p + 4 * n, 1, 1⟩
def TILE_CH_LEVEL (p n : Nat) : Fld := ⟨0x20180 + 0x1000 * p + 4 * n, 0, 0⟩
def TILE_PARAM_HI (p n : Nat) : Fld := ⟨0x20200 + 0x1000 * p + 4 * n, 31, 16⟩
def TILE_PARAM_LO (p n : Nat) : Fld := ⟨0x20200 + 0x1000 * p + 4 * n, 15, 0⟩
def TILE_CH_ACTION (p n : Nat) : Fld := ⟨0x20280 + 0x1000 * p + 4 * n, 1, 0⟩
def TILE_COUNT (p n : Nat) : Wide := ⟨0x20300 + 0x1000 * p + 8 * n, 2⟩
def TILE_LAST_EDGE (p n : Nat) : Wide := ⟨0x20400 + 0x1000 * p + 8 * n, 2⟩
def TILE_STEP_EN (p s : Nat) : Fld := ⟨0x20600 + 0x1000 * p + 0x10 * s, 31, 31⟩
def TILE_STEP_DIR_SETUP (p s : Nat) : Fld := ⟨0x20600 + 0x1000 * p + 0x10 * s, 23, 16⟩
def TILE_STEP_DIR_CH (p s : Nat) : Fld := ⟨0x20600 + 0x1000 * p + 0x10 * s, 12, 8⟩
def TILE_STEP_CH (p s : Nat) : Fld := ⟨0x20600 + 0x1000 * p + 0x10 * s, 4, 0⟩
def TILE_STEP_WIDTH (p s : Nat) : Fld := ⟨0x20604 + 0x1000 * p + 0x10 * s, 15, 0⟩
def TILE_STEP_RUN (p s : Nat) : Fld := ⟨0x20608 + 0x1000 * p + 0x10 * s, 31, 31⟩
def TILE_STEP_UNDERRUN (p s : Nat) : Fld := ⟨0x20608 + 0x1000 * p + 0x10 * s, 30, 30⟩
def TILE_STEP_FILL (p s : Nat) : Fld := ⟨0x20608 + 0x1000 * p + 0x10 * s, 8, 0⟩
def TILE_STEP_POS (p s : Nat) : Fld := ⟨0x2060c + 0x1000 * p + 0x10 * s, 31, 0⟩
def SCN_RET_LOST_RUN : Fld := ⟨0x14040, 7, 7⟩
def SCN_AUTO_RUN : Fld := ⟨0x14040, 6, 6⟩
def SCN_STOP_OUT : Fld := ⟨0x14040, 5, 5⟩
def SCN_CMD : Fld := ⟨0x14044, 3, 0⟩
def SCN_FAULT : Fld := ⟨0x14048, 31, 24⟩
def SCN_STOP_CAUSE : Fld := ⟨0x14048, 23, 20⟩
def SCN_RET_OLD : Fld := ⟨0x14048, 15, 15⟩
def SCN_RET_LOST : Fld := ⟨0x14048, 14, 14⟩
def SCN_FORCED : Fld := ⟨0x14048, 13, 13⟩
def SCN_SWAP_PEND : Fld := ⟨0x14048, 12, 12⟩
def SCN_ACTIVE_BANK : Fld := ⟨0x14048, 11, 11⟩
def SCN_PROG_OK : Fld := ⟨0x14048, 10, 10⟩
def SCN_SAVE_BUSY : Fld := ⟨0x14048, 9, 9⟩
def SCN_PHASE : Fld := ⟨0x14048, 3, 2⟩
def SCN_MODE : Fld := ⟨0x14048, 1, 0⟩
def SCN_CYCLE_US : Fld := ⟨0x1404c, 31, 0⟩
def SCN_PHASE_US : Fld := ⟨0x14050, 31, 0⟩
def SCN_OVR_LIMIT : Fld := ⟨0x14054, 15, 8⟩
def SCN_WARN_PCT : Fld := ⟨0x14054, 7, 0⟩
def SCN_SCAN_WDT_US : Fld := ⟨0x14058, 31, 0⟩
def SCN_HOLD_MAX_S : Fld := ⟨0x1405c, 31, 0⟩
def SCN_RET_PER_MS : Fld := ⟨0x14060, 31, 0⟩
def SCN_BREAK_EN : Fld := ⟨0x14064, 31, 31⟩
def SCN_BREAK_ADDR : Fld := ⟨0x14064, 17, 0⟩
def SCN_PC : Fld := ⟨0x14068, 17, 0⟩
def SCN_LAST_SCAN_NS : Fld := ⟨0x1406c, 31, 0⟩
def SCN_MAX_SCAN_NS : Fld := ⟨0x14070, 31, 0⟩
def SCN_LAST_DT_US : Fld := ⟨0x14074, 31, 0⟩
def SCN_SCAN_CNT : Wide := ⟨0x14078, 2⟩
def SCN_OVR_CNT : Fld := ⟨0x14080, 31, 0⟩
def SCN_WARN_CNT : Fld := ⟨0x14084, 31, 0⟩
def SCN_SWAP_SKIP : Fld := ⟨0x14088, 31, 0⟩
def SCN_UNDELIV_CNT : Fld := ⟨0x1408c, 31, 0⟩
def SCN_FORCE_DROP : Fld := ⟨0x14090, 31, 0⟩
def SCN_RET_GEN : Fld := ⟨0x14094, 31, 0⟩
def SCN_PROG_ID : Fld := ⟨0x14098, 31, 0⟩
def SCN_OUT_COUNT : Fld := ⟨0x1409c, 29, 16⟩
def SCN_IN_COUNT : Fld := ⟨0x1409c, 13, 0⟩
def SCN_RET_LEN : Fld := ⟨0x140a0, 31, 0⟩
def SCN_SWAP_ERR : Fld := ⟨0x140a4, 2, 0⟩
def SCN_FORCE_SYM_ID (f : Nat) : Fld := ⟨0x14800 + 0x10 * f, 31, 0⟩
def SCN_FORCE_EN (f : Nat) : Fld := ⟨0x14804 + 0x10 * f, 31, 31⟩
def SCN_FORCE_DROPPED (f : Nat) : Fld := ⟨0x14804 + 0x10 * f, 30, 30⟩
def SCN_FORCE_STATUS (f : Nat) : Fld := ⟨0x14804 + 0x10 * f, 29, 28⟩
def SCN_FORCE_TYPE (f : Nat) : Fld := ⟨0x14804 + 0x10 * f, 23, 16⟩
def SCN_FORCE_LEN (f : Nat) : Fld := ⟨0x14804 + 0x10 * f, 15, 0⟩
def SCN_FORCE_VALUE (f : Nat) : Fld := ⟨0x14808 + 0x10 * f, 31, 0⟩
def LOOP_LAW (n : Nat) : Fld := ⟨0x4000000 + 128 * n, 31, 29⟩
def LOOP_REVERSE (n : Nat) : Fld := ⟨0x4000000 + 128 * n, 28, 28⟩
def LOOP_HIST_RAW (n : Nat) : Fld := ⟨0x4000000 + 128 * n, 27, 27⟩
def LOOP_SUP_EN (n : Nat) : Fld := ⟨0x4000000 + 128 * n, 26, 26⟩
def LOOP_INIT_MODE (n : Nat) : Fld := ⟨0x4000000 + 128 * n, 25, 24⟩
def LOOP_ORDER (n : Nat) : Fld := ⟨0x4000000 + 128 * n, 23, 21⟩
def LOOP_TAG (n : Nat) : Fld := ⟨0x4000000 + 128 * n, 19, 10⟩
def LOOP_PERIOD (n : Nat) : Fld := ⟨0x4000004 + 128 * n, 31, 12⟩
def LOOP_OFFSET (n : Nat) : Fld := ⟨0x4000004 + 128 * n, 11, 0⟩
def LOOP_IN_KIND (n : Nat) : Fld := ⟨0x4000008 + 128 * n, 31, 29⟩
def LOOP_IN_INDEX (n : Nat) : Fld := ⟨0x4000008 + 128 * n, 28, 16⟩
def LOOP_REF_KIND (n : Nat) : Fld := ⟨0x4000008 + 128 * n, 15, 13⟩
def LOOP_REF_INDEX (n : Nat) : Fld := ⟨0x4000008 + 128 * n, 12, 0⟩
def LOOP_OUT_KIND (n : Nat) : Fld := ⟨0x400000c + 128 * n, 31, 29⟩
def LOOP_OUT_INDEX (n : Nat) : Fld := ⟨0x400000c + 128 * n, 28, 16⟩
def LOOP_PRIO (n : Nat) : Fld := ⟨0x400000c + 128 * n, 15, 12⟩
def LOOP_R (n : Nat) : Fld := ⟨0x4000010 + 128 * n, 31, 0⟩
def LOOP_U_MAN (n : Nat) : Fld := ⟨0x4000014 + 128 * n, 31, 0⟩
def LOOP_U_MIN (n : Nat) : Fld := ⟨0x4000018 + 128 * n, 31, 0⟩
def LOOP_U_MAX (n : Nat) : Fld := ⟨0x400001c + 128 * n, 31, 0⟩
def LOOP_B0 (n : Nat) : Fld := ⟨0x4000020 + 128 * n, 31, 0⟩
def LOOP_B1 (n : Nat) : Fld := ⟨0x4000024 + 128 * n, 31, 0⟩
def LOOP_B2 (n : Nat) : Fld := ⟨0x4000028 + 128 * n, 31, 0⟩
def LOOP_B3 (n : Nat) : Fld := ⟨0x400002c + 128 * n, 31, 0⟩
def LOOP_A1 (n : Nat) : Fld := ⟨0x4000030 + 128 * n, 31, 0⟩
def LOOP_A2 (n : Nat) : Fld := ⟨0x4000034 + 128 * n, 31, 0⟩
def LOOP_A3 (n : Nat) : Fld := ⟨0x4000038 + 128 * n, 31, 0⟩
def LOOP_IN_SCALE (n : Nat) : Fld := ⟨0x400003c + 128 * n, 31, 0⟩
def LOOP_IN_OFS (n : Nat) : Fld := ⟨0x4000040 + 128 * n, 31, 0⟩
def LOOP_OUT_SCALE (n : Nat) : Fld := ⟨0x4000044 + 128 * n, 31, 0⟩
def LOOP_OUT_OFS (n : Nat) : Fld := ⟨0x4000048 + 128 * n, 31, 0⟩
def LOOP_MDL_K (n : Nat) : Fld := ⟨0x400004c + 128 * n, 31, 0⟩
def LOOP_MDL_ALPHA (n : Nat) : Fld := ⟨0x4000050 + 128 * n, 31, 0⟩
def LOOP_MU_KIND (n : Nat) : Fld := ⟨0x4000054 + 128 * n, 31, 29⟩
def LOOP_MU_INDEX (n : Nat) : Fld := ⟨0x4000054 + 128 * n, 28, 16⟩
def LOOP_DEAD (n : Nat) : Fld := ⟨0x4000054 + 128 * n, 15, 10⟩
def LOOP_N_TRIP (n : Nat) : Fld := ⟨0x4000054 + 128 * n, 9, 6⟩
def LOOP_TRIP_ACT (n : Nat) : Fld := ⟨0x4000054 + 128 * n, 1, 0⟩
def LOOP_MDL_BAND (n : Nat) : Fld := ⟨0x4000058 + 128 * n, 31, 0⟩
def LOOP_TRIP (n : Nat) : Fld := ⟨0x400005c + 128 * n, 31, 31⟩
def LOOP_SAT_IN (n : Nat) : Fld := ⟨0x400005c + 128 * n, 30, 30⟩
def LOOP_SAT_ERR (n : Nat) : Fld := ⟨0x400005c + 128 * n, 29, 29⟩
def LOOP_SAT_ACC (n : Nat) : Fld := ⟨0x400005c + 128 * n, 28, 28⟩
def LOOP_SAT_OUT (n : Nat) : Fld := ⟨0x400005c + 128 * n, 27, 27⟩
def LOOP_SAT_MDL (n : Nat) : Fld := ⟨0x400005c + 128 * n, 26, 26⟩
def LOOP_IN_BAD (n : Nat) : Fld := ⟨0x400005c + 128 * n, 25, 25⟩
def LOOP_LIM_HI (n : Nat) : Fld := ⟨0x400005c + 128 * n, 24, 24⟩
def LOOP_LIM_LO (n : Nat) : Fld := ⟨0x400005c + 128 * n, 23, 23⟩
def LOOP_EXC (n : Nat) : Fld := ⟨0x400005c + 128 * n, 22, 16⟩
def LOOP_MODE (n : Nat) : Fld := ⟨0x400005c + 128 * n, 15, 14⟩
def LOOP_LAT_LAST (n : Nat) : Fld := ⟨0x400005c + 128 * n, 13, 0⟩
def LOOP_Y (n : Nat) : Fld := ⟨0x4000060 + 128 * n, 31, 0⟩
def LOOP_U (n : Nat) : Fld := ⟨0x4000064 + 128 * n, 31, 0⟩
def LOOP_YM (n : Nat) : Fld := ⟨0x4000068 + 128 * n, 31, 0⟩
def LOOP_E1 (n : Nat) : Fld := ⟨0x400006c + 128 * n, 31, 0⟩
def LOOP_E2 (n : Nat) : Fld := ⟨0x4000070 + 128 * n, 31, 0⟩
def LOOP_E3 (n : Nat) : Fld := ⟨0x4000074 + 128 * n, 31, 0⟩
def LOOP_U2 (n : Nat) : Fld := ⟨0x4000078 + 128 * n, 31, 0⟩
def LOOP_U3 (n : Nat) : Fld := ⟨0x400007c + 128 * n, 31, 0⟩
def LPE_APPLY_GROUP : Fld := ⟨0x15040, 31, 31⟩
def LPE_APPLY_MARK : Fld := ⟨0x15040, 30, 30⟩
def LPE_APPLY_SLOT : Fld := ⟨0x15040, 7, 0⟩
def LPE_MODE_CMD : Fld := ⟨0x15044, 9, 8⟩
def LPE_MODE_SLOT : Fld := ⟨0x15044, 7, 0⟩
def LPE_CFG_ERR_CODE : Fld := ⟨0x15048, 15, 8⟩
def LPE_CFG_ERR_SLOT : Fld := ⟨0x15048, 7, 0⟩
def LPE_LOAD_PM : Fld := ⟨0x1504c, 15, 0⟩
def LPE_TICK_MAX : Fld := ⟨0x15050, 31, 0⟩
def LPE_TICK_CNT : Wide := ⟨0x15054, 2⟩
def LPE_N_ACTIVE : Fld := ⟨0x1505c, 8, 0⟩
def LPE_APPLY_MAP (w : Nat) : Fld := ⟨0x15060 + 4 * w, 31, 0⟩
def LPE_SAT_MAP (w : Nat) : Fld := ⟨0x15080 + 4 * w, 31, 0⟩
def LPE_TRIP_MAP (w : Nat) : Fld := ⟨0x150a0 + 4 * w, 31, 0⟩
def SEG_STATE (n : Nat) : Fld := ⟨0x5000000 + 32 * n, 31, 30⟩
def SEG_LAST (n : Nat) : Fld := ⟨0x5000000 + 32 * n, 29, 29⟩
def SEG_REL (n : Nat) : Fld := ⟨0x5000000 + 32 * n, 28, 28⟩
def SEG_EVT (n : Nat) : Fld := ⟨0x5000000 + 32 * n, 27, 27⟩
def SEG_AXIS (n : Nat) : Fld := ⟨0x5000000 + 32 * n, 16, 12⟩
def SEG_NEXT (n : Nat) : Fld := ⟨0x5000000 + 32 * n, 11, 0⟩
def SEG_DT (n : Nat) : Fld := ⟨0x5000004 + 32 * n, 31, 0⟩
def SEG_POS (n : Nat) : Wide := ⟨0x5000008 + 32 * n, 2⟩
def SEG_VEL (n : Nat) : Fld := ⟨0x5000010 + 32 * n, 31, 0⟩
def SEG_TAG (n : Nat) : Fld := ⟨0x5000014 + 32 * n, 31, 0⟩
def SEG_SEQ (n : Nat) : Wide := ⟨0x5000018 + 32 * n, 2⟩
def MOT_PLAN_BASE : Fld := ⟨0x16040, 12, 0⟩
def MOT_POOL_FREE : Fld := ⟨0x16044, 12, 0⟩
def MOT_RUN_MAP : Fld := ⟨0x16048, 23, 0⟩
def MOT_FAULT_MAP : Fld := ⟨0x1604c, 23, 0⟩
def MOT_TENT_MAP : Fld := ⟨0x16050, 23, 0⟩
def MOT_STOP_QUICK : Fld := ⟨0x16054, 31, 31⟩
def MOT_STOP_MASK : Fld := ⟨0x16054, 23, 0⟩
def MOT_TICK_MAX : Fld := ⟨0x16058, 31, 0⟩
def MOT_PLAN_FAIL : Fld := ⟨0x1605c, 31, 0⟩
def MOT_MEMBERS (g : Nat) : Fld := ⟨0x16060 + 4 * g, 23, 0⟩
def MOT_GRP_CMD : Fld := ⟨0x16080, 7, 4⟩
def MOT_GRP_SEL : Fld := ⟨0x16080, 2, 0⟩
def MOT_GRP_STATE : Fld := ⟨0x16084, 23, 0⟩
def AXIS_CLASS (p : Nat) : Fld := ⟨0x40040 + 0x1000 * p, 31, 30⟩
def AXIS_FE_EN (p : Nat) : Fld := ⟨0x40040 + 0x1000 * p, 29, 29⟩
def AXIS_IDLE_EN (p : Nat) : Fld := ⟨0x40040 + 0x1000 * p, 28, 28⟩
def AXIS_CUR_CH (p : Nat) : Fld := ⟨0x40040 + 0x1000 * p, 15, 8⟩
def AXIS_STEP_TILE (p : Nat) : Fld := ⟨0x40040 + 0x1000 * p, 7, 5⟩
def AXIS_STEP_TIMER (p : Nat) : Fld := ⟨0x40040 + 0x1000 * p, 4, 3⟩
def AXIS_CAN_CH (p : Nat) : Fld := ⟨0x40044 + 0x1000 * p, 9, 8⟩
def AXIS_NODE (p : Nat) : Fld := ⟨0x40044 + 0x1000 * p, 6, 0⟩
def AXIS_V_MAX (p : Nat) : Fld := ⟨0x40048 + 0x1000 * p, 31, 0⟩
def AXIS_A_MAX (p : Nat) : Fld := ⟨0x4004c + 0x1000 * p, 31, 0⟩
def AXIS_J_MAX (p : Nat) : Fld := ⟨0x40050 + 0x1000 * p, 31, 0⟩
def AXIS_STOP_A (p : Nat) : Fld := ⟨0x40054 + 0x1000 * p, 31, 0⟩
def AXIS_QS_A (p : Nat) : Fld := ⟨0x40058 + 0x1000 * p, 31, 0⟩
def AXIS_SP_LEAD_US (p : Nat) : Fld := ⟨0x4005c + 0x1000 * p, 31, 16⟩
def AXIS_STREAM_US (p : Nat) : Fld := ⟨0x4005c + 0x1000 * p, 15, 0⟩
def AXIS_IDLE_MS (p : Nat) : Fld := ⟨0x40060 + 0x1000 * p, 31, 16⟩
def AXIS_IDLE_PCT (p : Nat) : Fld := ⟨0x40060 + 0x1000 * p, 15, 8⟩
def AXIS_RESTORE_US (p : Nat) : Fld := ⟨0x40064 + 0x1000 * p, 31, 16⟩
def AXIS_FE_MS (p : Nat) : Fld := ⟨0x40064 + 0x1000 * p, 15, 0⟩
def AXIS_FE_MAX (p : Nat) : Fld := ⟨0x40068 + 0x1000 * p, 31, 0⟩
def AXIS_TARGET (p : Nat) : Wide := ⟨0x4006c + 0x1000 * p, 2⟩
def AXIS_CMD (p : Nat) : Fld := ⟨0x40074 + 0x1000 * p, 3, 0⟩
def AXIS_CHAIN_HEAD (p : Nat) : Fld := ⟨0x40078 + 0x1000 * p, 11, 0⟩
def AXIS_STATE (p : Nat) : Fld := ⟨0x4007c + 0x1000 * p, 31, 28⟩
def AXIS_FAULT (p : Nat) : Fld := ⟨0x4007c + 0x1000 * p, 27, 24⟩
def AXIS_IDLE_RED (p : Nat) : Fld := ⟨0x4007c + 0x1000 * p, 23, 23⟩
def AXIS_GEARED (p : Nat) : Fld := ⟨0x4007c + 0x1000 * p, 22, 22⟩
def AXIS_RESUME_OK (p : Nat) : Fld := ⟨0x4007c + 0x1000 * p, 21, 21⟩
def AXIS_GEAR_LIM (p : Nat) : Fld := ⟨0x4007c + 0x1000 * p, 20, 20⟩
def AXIS_TENT (p : Nat) : Fld := ⟨0x4007c + 0x1000 * p, 19, 19⟩
def AXIS_IN_CHAIN (p : Nat) : Fld := ⟨0x4007c + 0x1000 * p, 18, 18⟩
def AXIS_CUR_SEG (p : Nat) : Fld := ⟨0x4007c + 0x1000 * p, 11, 0⟩
def AXIS_SP_POS (p : Nat) : Wide := ⟨0x40080 + 0x1000 * p, 2⟩
def AXIS_SP_VEL (p : Nat) : Fld := ⟨0x40088 + 0x1000 * p, 31, 0⟩
def AXIS_SP_ACC (p : Nat) : Fld := ⟨0x4008c + 0x1000 * p, 31, 0⟩
def AXIS_ACT_POS (p : Nat) : Wide := ⟨0x40090 + 0x1000 * p, 2⟩
def AXIS_REM (p : Nat) : Wide := ⟨0x40098 + 0x1000 * p, 2⟩
def AXIS_CMT_END (p : Nat) : Wide := ⟨0x400a0 + 0x1000 * p, 2⟩
def AXIS_PLAN_END (p : Nat) : Wide := ⟨0x400a8 + 0x1000 * p, 2⟩
def AXIS_PLAN_SEQ (p : Nat) : Wide := ⟨0x400b0 + 0x1000 * p, 2⟩
def AXIS_CHAIN_ERR_CODE (p : Nat) : Fld := ⟨0x400b8 + 0x1000 * p, 31, 28⟩
def AXIS_CHAIN_ERR_ENTRY (p : Nat) : Fld := ⟨0x400b8 + 0x1000 * p, 11, 0⟩
def AXIS_START_LATE (p : Nat) : Fld := ⟨0x400bc + 0x1000 * p, 31, 0⟩
def AXIS_PLAN_CNT (p : Nat) : Fld := ⟨0x400c0 + 0x1000 * p, 31, 0⟩
def AXIS_GEAR_EN (p : Nat) : Fld := ⟨0x400d0 + 0x1000 * p, 31, 31⟩
def AXIS_GEAR_SRC (p : Nat) : Fld := ⟨0x400d0 + 0x1000 * p, 30, 28⟩
def AXIS_GEAR_IDX (p : Nat) : Fld := ⟨0x400d0 + 0x1000 * p, 7, 0⟩
def AXIS_RATIO_NUM (p : Nat) : Fld := ⟨0x400d4 + 0x1000 * p, 31, 0⟩
def AXIS_RATIO_DEN (p : Nat) : Fld := ⟨0x400d8 + 0x1000 * p, 15, 0⟩
def AXIS_NEXT_NUM (p : Nat) : Fld := ⟨0x400dc + 0x1000 * p, 31, 0⟩
def AXIS_NEXT_DEN (p : Nat) : Fld := ⟨0x400e0 + 0x1000 * p, 15, 0⟩
def AXIS_CHG_POS (p : Nat) : Wide := ⟨0x400e4 + 0x1000 * p, 2⟩
def AXIS_RAMP (p : Nat) : Fld := ⟨0x400ec + 0x1000 * p, 31, 0⟩
def AXIS_GEAR_CMD (p : Nat) : Fld := ⟨0x400f0 + 0x1000 * p, 1, 0⟩
def AXIS_MASTER (p : Nat) : Wide := ⟨0x400f4 + 0x1000 * p, 2⟩
def AXIS_RAMPING (p : Nat) : Fld := ⟨0x400fc + 0x1000 * p, 1, 1⟩
def AXIS_CHG_ARMED (p : Nat) : Fld := ⟨0x400fc + 0x1000 * p, 0, 0⟩
def AXIS_GEAR_LAG (p : Nat) : Wide := ⟨0x40100 + 0x1000 * p, 2⟩
def LFT_N_LAND : Fld := ⟨0x1b040, 23, 16⟩
def LFT_OPT_EN : Fld := ⟨0x1b040, 8, 8⟩
def LFT_CAR_MAP : Fld := ⟨0x1b040, 7, 0⟩
def LFT_GREEDY : Fld := ⟨0x1b044, 8, 8⟩
def LFT_AVAIL : Fld := ⟨0x1b044, 7, 0⟩
def LFT_HORIZON_S : Fld := ⟨0x1b048, 31, 0⟩
def LFT_ANN_DELAY_MS : Fld := ⟨0x1b04c, 31, 16⟩
def LFT_LANTERN_MS : Fld := ⟨0x1b04c, 15, 0⟩
def LFT_W_WAIT : Fld := ⟨0x1b050, 31, 16⟩
def LFT_W_RIDE : Fld := ⟨0x1b050, 15, 0⟩
def LFT_W_STOP : Fld := ⟨0x1b054, 31, 16⟩
def LFT_N_CALLS : Fld := ⟨0x1b058, 12, 0⟩
def LFT_OPT_MAX_US : Fld := ⟨0x1b05c, 31, 0⟩
def LFT_OPT_CUT : Fld := ⟨0x1b060, 31, 0⟩
def LFT_CALL_FULL : Fld := ⟨0x1b064, 31, 0⟩
def LFT_CALL_REFUSED : Fld := ⟨0x1b068, 31, 0⟩
def LFT_REASSIGN_CNT : Fld := ⟨0x1b06c, 31, 0⟩
def LFT_OPT_CNT : Wide := ⟨0x1b070, 2⟩
def LFT_CALL_IDX : Fld := ⟨0x1b080, 11, 0⟩
def LFT_CALL_STATE : Fld := ⟨0x1b084, 31, 29⟩
def LFT_CALL_KIND : Fld := ⟨0x1b084, 28, 27⟩
def LFT_CALL_DIR : Fld := ⟨0x1b084, 26, 26⟩
def LFT_CALL_REAR : Fld := ⟨0x1b084, 25, 25⟩
def LFT_CALL_REASSIGNED : Fld := ⟨0x1b084, 24, 24⟩
def LFT_CALL_ORIGIN : Fld := ⟨0x1b084, 23, 16⟩
def LFT_CALL_DEST : Fld := ⟨0x1b084, 15, 8⟩
def LFT_CALL_PAX : Fld := ⟨0x1b084, 7, 4⟩
def LFT_CALL_CAR : Fld := ⟨0x1b084, 3, 0⟩
def LFT_CALL_ID : Fld := ⟨0x1b088, 31, 16⟩
def LFT_CALL_ETA_DS : Fld := ⟨0x1b088, 15, 0⟩
def LFT_CALL_SEQ : Wide := ⟨0x1b08c, 2⟩
def CAR_ENC (p : Nat) : Fld := ⟨0x30040 + 0x1000 * p, 31, 30⟩
def CAR_GRAY (p : Nat) : Fld := ⟨0x30040 + 0x1000 * p, 29, 29⟩
def CAR_ERR_EN (p : Nat) : Fld := ⟨0x30040 + 0x1000 * p, 28, 28⟩
def CAR_DIR_INV (p : Nat) : Fld := ⟨0x30040 + 0x1000 * p, 27, 27⟩
def CAR_HOST_MOVE (p : Nat) : Fld := ⟨0x30040 + 0x1000 * p, 26, 26⟩
def CAR_SSI_BITS (p : Nat) : Fld := ⟨0x30040 + 0x1000 * p, 25, 21⟩
def CAR_SSI_CLK (p : Nat) : Fld := ⟨0x30040 + 0x1000 * p, 20, 16⟩
def CAR_DZ_CH (p : Nat) : Fld := ⟨0x30040 + 0x1000 * p, 15, 8⟩
def CAR_ENC_SCALE (p : Nat) : Fld := ⟨0x30044 + 0x1000 * p, 31, 0⟩
def CAR_ENC_OFS (p : Nat) : Fld := ⟨0x30048 + 0x1000 * p, 31, 0⟩
def CAR_MAX_STEP (p : Nat) : Fld := ⟨0x3004c + 0x1000 * p, 31, 16⟩
def CAR_DZ_UP (p : Nat) : Fld := ⟨0x30050 + 0x1000 * p, 31, 16⟩
def CAR_DZ_DOWN (p : Nat) : Fld := ⟨0x30050 + 0x1000 * p, 15, 0⟩
def CAR_LEARN_V (p : Nat) : Fld := ⟨0x30054 + 0x1000 * p, 31, 0⟩
def CAR_INSP_V (p : Nat) : Fld := ⟨0x30058 + 0x1000 * p, 31, 0⟩
def CAR_STOP_MARGIN (p : Nat) : Fld := ⟨0x3005c + 0x1000 * p, 31, 0⟩
def CAR_MODE (p : Nat) : Fld := ⟨0x30060 + 0x1000 * p, 31, 29⟩
def CAR_LEARN_ST (p : Nat) : Fld := ⟨0x30060 + 0x1000 * p, 28, 27⟩
def CAR_POS_VALID (p : Nat) : Fld := ⟨0x30060 + 0x1000 * p, 26, 26⟩
def CAR_REF_NEEDED (p : Nat) : Fld := ⟨0x30060 + 0x1000 * p, 25, 25⟩
def CAR_LEARNED (p : Nat) : Fld := ⟨0x30060 + 0x1000 * p, 24, 24⟩
def CAR_IN_DZ (p : Nat) : Fld := ⟨0x30060 + 0x1000 * p, 23, 23⟩
def CAR_DZ_IN (p : Nat) : Fld := ⟨0x30060 + 0x1000 * p, 22, 22⟩
def CAR_DIR (p : Nat) : Fld := ⟨0x30060 + 0x1000 * p, 21, 20⟩
def CAR_FAULT (p : Nat) : Fld := ⟨0x30060 + 0x1000 * p, 19, 16⟩
def CAR_LANDING (p : Nat) : Fld := ⟨0x30060 + 0x1000 * p, 15, 8⟩
def CAR_NEXT_STOP (p : Nat) : Fld := ⟨0x30060 + 0x1000 * p, 7, 0⟩
def CAR_POS (p : Nat) : Fld := ⟨0x30064 + 0x1000 * p, 31, 0⟩
def CAR_VEL (p : Nat) : Fld := ⟨0x30068 + 0x1000 * p, 31, 0⟩
def CAR_POS_TS (p : Nat) : Wide := ⟨0x3006c + 0x1000 * p, 2⟩
def CAR_D_COMMIT (p : Nat) : Fld := ⟨0x30074 + 0x1000 * p, 31, 0⟩
def CAR_ENC_ERR (p : Nat) : Fld := ⟨0x30078 + 0x1000 * p, 31, 0⟩
def CAR_CMD (p : Nat) : Fld := ⟨0x3007c + 0x1000 * p, 3, 0⟩
def CAR_SERVE (p w : Nat) : Fld := ⟨0x30080 + 0x1000 * p + 4 * w, 31, 0⟩
def CAR_LEVEL (p l : Nat) : Fld := ⟨0x30400 + 0x1000 * p + 8 * l, 31, 0⟩
def CAR_LEVEL_VALID (p l : Nat) : Fld := ⟨0x30404 + 0x1000 * p + 8 * l, 31, 31⟩
def CAR_LEVEL_STAGED (p l : Nat) : Fld := ⟨0x30404 + 0x1000 * p + 8 * l, 30, 30⟩
def CAR_LEVEL_FRONT (p l : Nat) : Fld := ⟨0x30404 + 0x1000 * p + 8 * l, 29, 29⟩
def CAR_LEVEL_REAR (p l : Nat) : Fld := ⟨0x30404 + 0x1000 * p + 8 * l, 28, 28⟩
def CAR_DZ_WIDTH (p l : Nat) : Fld := ⟨0x30404 + 0x1000 * p + 8 * l, 15, 0⟩
def CAR_STOP_STATE (p i : Nat) : Fld := ⟨0x30a00 + 0x1000 * p + 4 * i, 31, 30⟩
def CAR_STOP_DIR (p i : Nat) : Fld := ⟨0x30a00 + 0x1000 * p + 4 * i, 29, 29⟩
def CAR_STOP_REAR (p i : Nat) : Fld := ⟨0x30a00 + 0x1000 * p + 4 * i, 28, 28⟩
def CAR_STOP_LANDING (p i : Nat) : Fld := ⟨0x30a00 + 0x1000 * p + 4 * i, 23, 16⟩
def CAR_STOP_ETA_DS (p i : Nat) : Fld := ⟨0x30a00 + 0x1000 * p + 4 * i, 15, 0⟩
def CAR_REAR_FITTED (p : Nat) : Fld := ⟨0x30200 + 0x1000 * p, 31, 31⟩
def CAR_PRE_EN (p : Nat) : Fld := ⟨0x30200 + 0x1000 * p, 30, 30⟩
def CAR_NUDGE_EN (p : Nat) : Fld := ⟨0x30200 + 0x1000 * p, 29, 29⟩
def CAR_REOPEN_HALL (p : Nat) : Fld := ⟨0x30200 + 0x1000 * p, 28, 28⟩
def CAR_REV_EN (p : Nat) : Fld := ⟨0x30200 + 0x1000 * p, 27, 27⟩
def CAR_REV_CH (p : Nat) : Fld := ⟨0x30200 + 0x1000 * p, 23, 16⟩
def CAR_PRE_SLOT (p : Nat) : Fld := ⟨0x30200 + 0x1000 * p, 9, 0⟩
def CAR_NUDGE_OUT_EN (p : Nat) : Fld := ⟨0x30204 + 0x1000 * p, 31, 31⟩
def CAR_NUDGE_CH (p : Nat) : Fld := ⟨0x30204 + 0x1000 * p, 23, 16⟩
def CAR_PRE_SEG (p : Nat) : Fld := ⟨0x30204 + 0x1000 * p, 11, 0⟩
def CAR_SUP_SLOT (p : Nat) : Fld := ⟨0x30208 + 0x1000 * p, 15, 8⟩
def CAR_REAR_NODE (p : Nat) : Fld := ⟨0x30208 + 0x1000 * p, 6, 0⟩
def CAR_MASS (p : Nat) : Fld := ⟨0x3020c + 0x1000 * p, 31, 16⟩
def CAR_KE_MAX (p : Nat) : Fld := ⟨0x3020c + 0x1000 * p, 15, 0⟩
def CAR_NUDGE_KE (p : Nat) : Fld := ⟨0x30210 + 0x1000 * p, 31, 16⟩
def CAR_F_ACC (p : Nat) : Fld := ⟨0x30210 + 0x1000 * p, 15, 0⟩
def CAR_F_STALL (p : Nat) : Fld := ⟨0x30214 + 0x1000 * p, 31, 16⟩
def CAR_F_FRIC (p : Nat) : Fld := ⟨0x30214 + 0x1000 * p, 15, 0⟩
def CAR_K_F (p : Nat) : Fld := ⟨0x30218 + 0x1000 * p, 31, 16⟩
def CAR_REV_ILIM_PCT (p : Nat) : Fld := ⟨0x30218 + 0x1000 * p, 15, 8⟩
def CAR_OPEN_V (p : Nat) : Fld := ⟨0x3021c + 0x1000 * p, 31, 0⟩
def CAR_OPEN_A (p : Nat) : Fld := ⟨0x30220 + 0x1000 * p, 31, 0⟩
def CAR_DOOR_J (p : Nat) : Fld := ⟨0x30224 + 0x1000 * p, 31, 0⟩
def CAR_REV_A (p : Nat) : Fld := ⟨0x30228 + 0x1000 * p, 31, 0⟩
def CAR_OPEN_POS (p : Nat) : Fld := ⟨0x3022c + 0x1000 * p, 31, 0⟩
def CAR_COUPLE_POS (p : Nat) : Fld := ⟨0x30230 + 0x1000 * p, 31, 16⟩
def CAR_CLOSED_TOL (p : Nat) : Fld := ⟨0x30230 + 0x1000 * p, 15, 0⟩
def CAR_DWELL_HALL_MS (p : Nat) : Fld := ⟨0x30234 + 0x1000 * p, 31, 16⟩
def CAR_DWELL_CAR_MS (p : Nat) : Fld := ⟨0x30234 + 0x1000 * p, 15, 0⟩
def CAR_REOPEN_DWELL_MS (p : Nat) : Fld := ⟨0x30238 + 0x1000 * p, 31, 16⟩
def CAR_NUDGE_S (p : Nat) : Fld := ⟨0x30238 + 0x1000 * p, 15, 0⟩
def CAR_OPEN_TMO_MS (p : Nat) : Fld := ⟨0x3023c + 0x1000 * p, 31, 16⟩
def CAR_CLOSE_TMO_MS (p : Nat) : Fld := ⟨0x3023c + 0x1000 * p, 15, 0⟩
def CAR_LOCK_MS (p : Nat) : Fld := ⟨0x30240 + 0x1000 * p, 31, 16⟩
def CAR_CLOSE_RETRY (p : Nat) : Fld := ⟨0x30240 + 0x1000 * p, 15, 8⟩
def CAR_PRE_DIST (p : Nat) : Fld := ⟨0x30244 + 0x1000 * p, 31, 16⟩
def CAR_FE_DOOR (p : Nat) : Fld := ⟨0x30244 + 0x1000 * p, 15, 0⟩
def CAR_PRE_V (p : Nat) : Fld := ⟨0x30248 + 0x1000 * p, 31, 0⟩
def CAR_RELEVEL_V (p : Nat) : Fld := ⟨0x3024c + 0x1000 * p, 31, 0⟩
def CAR_DOOR_CMD_REAR (p : Nat) : Fld := ⟨0x30250 + 0x1000 * p, 4, 4⟩
def CAR_DOOR_CMD (p : Nat) : Fld := ⟨0x30250 + 0x1000 * p, 3, 0⟩
def CAR_DOOR_STATE (p : Nat) : Fld := ⟨0x30254 + 0x1000 * p, 31, 28⟩
def CAR_DOOR_FAULT (p : Nat) : Fld := ⟨0x30254 + 0x1000 * p, 27, 24⟩
def CAR_SIDE_REAR (p : Nat) : Fld := ⟨0x30254 + 0x1000 * p, 23, 23⟩
def CAR_CD_CLOSED (p : Nat) : Fld := ⟨0x30254 + 0x1000 * p, 22, 22⟩
def CAR_LD_LOCKED (p : Nat) : Fld := ⟨0x30254 + 0x1000 * p, 21, 21⟩
def CAR_PRE_ARMED (p : Nat) : Fld := ⟨0x30254 + 0x1000 * p, 20, 20⟩
def CAR_REV_IN (p : Nat) : Fld := ⟨0x30254 + 0x1000 * p, 19, 19⟩
def CAR_TRIP (p : Nat) : Fld := ⟨0x30254 + 0x1000 * p, 18, 18⟩
def CAR_NUDGE_OUT (p : Nat) : Fld := ⟨0x30254 + 0x1000 * p, 17, 17⟩
def CAR_REV_RUN (p : Nat) : Fld := ⟨0x30254 + 0x1000 * p, 15, 8⟩
def CAR_RETRY (p : Nat) : Fld := ⟨0x30254 + 0x1000 * p, 7, 0⟩
def CAR_V_CLOSE (p : Nat) : Fld := ⟨0x30258 + 0x1000 * p, 31, 0⟩
def CAR_A_CLOSE (p : Nat) : Fld := ⟨0x3025c + 0x1000 * p, 31, 0⟩
def CAR_V_NUDGE (p : Nat) : Fld := ⟨0x30260 + 0x1000 * p, 31, 0⟩
def CAR_ILIM_CLOSE (p : Nat) : Fld := ⟨0x30264 + 0x1000 * p, 31, 16⟩
def CAR_ILIM_OPEN (p : Nat) : Fld := ⟨0x30264 + 0x1000 * p, 15, 0⟩
def CAR_T_CLOSE_US (p : Nat) : Fld := ⟨0x30268 + 0x1000 * p, 31, 0⟩
def CAR_T_OPEN_US (p : Nat) : Fld := ⟨0x3026c + 0x1000 * p, 31, 0⟩
def CAR_CYCLE_MS (p : Nat) : Fld := ⟨0x30270 + 0x1000 * p, 31, 0⟩
def CAR_CURRENT (p : Nat) : Fld := ⟨0x30274 + 0x1000 * p, 31, 0⟩
def CAR_DEMAND (p : Nat) : Fld := ⟨0x30278 + 0x1000 * p, 31, 0⟩
def CAR_REV_CNT (p : Nat) : Fld := ⟨0x3027c + 0x1000 * p, 31, 0⟩
def CAR_NUDGE_CNT (p : Nat) : Fld := ⟨0x30280 + 0x1000 * p, 31, 0⟩
def CAR_PRE_FAIL (p : Nat) : Fld := ⟨0x30284 + 0x1000 * p, 31, 0⟩
def CAR_RELEVEL_CNT (p : Nat) : Fld := ⟨0x30288 + 0x1000 * p, 31, 0⟩
def CAR_CLOSE_MAX_US (p : Nat) : Fld := ⟨0x3028c + 0x1000 * p, 31, 0⟩
def SAF_STATE : Fld := ⟨0x1a040, 31, 29⟩
def SAF_PARAM_PEND : Fld := ⟨0x1a040, 28, 28⟩
def SAF_PARAM_BAD : Fld := ⟨0x1a040, 27, 27⟩
def SAF_RESET_STUCK : Fld := ⟨0x1a040, 26, 26⟩
def SAF_RESET_WIRING : Fld := ⟨0x1a040, 25, 25⟩
def SAF_RESET_IN : Fld := ⟨0x1a040, 24, 24⟩
def SAF_CORE_B_OK : Fld := ⟨0x1a040, 23, 23⟩
def SAF_CORE_A_OK : Fld := ⟨0x1a040, 22, 22⟩
def SAF_PARAM_ERR : Fld := ⟨0x1a040, 19, 16⟩
def SAF_SUT_PEND : Fld := ⟨0x1a040, 15, 8⟩
def SAF_LATCH : Fld := ⟨0x1a040, 7, 0⟩
def SAF_INSP_HELD : Fld := ⟨0x1a044, 31, 24⟩
def SAF_INSP_ON : Fld := ⟨0x1a044, 23, 16⟩
def SAF_BRIDGE : Fld := ⟨0x1a044, 15, 8⟩
def SAF_MOVE_PERM : Fld := ⟨0x1a044, 7, 0⟩
def SAF_DZ : Fld := ⟨0x1a048, 31, 24⟩
def SAF_LOCKED : Fld := ⟨0x1a048, 23, 16⟩
def SAF_LD_CLOSED : Fld := ⟨0x1a048, 15, 8⟩
def SAF_CD_CLOSED : Fld := ⟨0x1a048, 7, 0⟩
def SAF_IN_A : Wide := ⟨0x1a04c, 2⟩
def SAF_IN_B : Wide := ⟨0x1a054, 2⟩
def SAF_OUT : Wide := ⟨0x1a05c, 2⟩
def SAF_TRIP_CAR : Fld := ⟨0x1a064, 31, 28⟩
def SAF_TRIP_CODE : Fld := ⟨0x1a064, 27, 24⟩
def SAF_TRIP_SRC : Fld := ⟨0x1a064, 23, 16⟩
def SAF_TRIP_SEQ : Wide := ⟨0x1a068, 2⟩
def SAF_RESET_OK : Fld := ⟨0x1a070, 31, 0⟩
def SAF_RESET_BAD : Fld := ⟨0x1a074, 31, 0⟩
def SAF_CYCLE_MAX : Fld := ⟨0x1a078, 31, 0⟩
def SAF_PARAM_CRC : Fld := ⟨0x1a07c, 31, 0⟩
def SAF_TRIP_LATCHED (n : Nat) : Fld := ⟨0x1a080 + 4 * n, 31, 16⟩
def SAF_TRIP_ACTIVE (n : Nat) : Fld := ⟨0x1a080 + 4 * n, 15, 0⟩
def SAF_PARAM_GEN : Fld := ⟨0x1a0a0, 31, 0⟩
def SAF_CONN_STATE (c : Nat) : Fld := ⟨0x1a100 + 0x10 * c, 31, 30⟩
def SAF_B_DOWN (c : Nat) : Fld := ⟨0x1a100 + 0x10 * c, 29, 29⟩
def SAF_A_DOWN (c : Nat) : Fld := ⟨0x1a100 + 0x10 * c, 28, 28⟩
def SAF_CONN_RX (c : Nat) : Wide := ⟨0x1a104 + 0x10 * c, 2⟩
def SAF_LANE_MISS (c : Nat) : Fld := ⟨0x1a10c + 0x10 * c, 31, 0⟩
def SAF_SIN_FUNC (i : Nat) : Fld := ⟨0x1a400 + 4 * i, 31, 28⟩
def SAF_SIN_CAR (i : Nat) : Fld := ⟨0x1a400 + 4 * i, 27, 25⟩
def SAF_SIN_SUT (i : Nat) : Fld := ⟨0x1a400 + 4 * i, 24, 24⟩
def SAF_SIN_PAIR (i : Nat) : Fld := ⟨0x1a400 + 4 * i, 23, 23⟩
def SAF_SIN_FILT (i : Nat) : Fld := ⟨0x1a400 + 4 * i, 22, 20⟩
def SAF_SIN_DISC_MS (i : Nat) : Fld := ⟨0x1a400 + 4 * i, 15, 0⟩
def SAF_SOUT_FUNC (j : Nat) : Fld := ⟨0x1a500 + 4 * j, 31, 28⟩
def SAF_SOUT_CAR (j : Nat) : Fld := ⟨0x1a500 + 4 * j, 27, 25⟩
def SAF_SOUT_TEST (j : Nat) : Fld := ⟨0x1a500 + 4 * j, 24, 24⟩
def SAF_SOUT_SRC_CONN (j : Nat) : Fld := ⟨0x1a500 + 4 * j, 23, 20⟩
def SAF_SOUT_SRC_BIT (j : Nat) : Fld := ⟨0x1a500 + 4 * j, 19, 14⟩
def SAF_UCM_DIST (n : Nat) : Fld := ⟨0x1a600 + 0x10 * n, 31, 16⟩
def SAF_BRK_MS (n : Nat) : Fld := ⟨0x1a600 + 0x10 * n, 15, 0⟩
def SAF_PRE_V (n : Nat) : Fld := ⟨0x1a604 + 0x10 * n, 31, 0⟩
def SAF_RELEV_V (n : Nat) : Fld := ⟨0x1a608 + 0x10 * n, 31, 0⟩
def SAF_PRE_OK (n : Nat) : Fld := ⟨0x1a60c + 0x10 * n, 31, 31⟩
def SAF_RELEV_OK (n : Nat) : Fld := ⟨0x1a60c + 0x10 * n, 30, 30⟩
def SAF_BYP_POS (n : Nat) : Fld := ⟨0x1a60c + 0x10 * n, 15, 0⟩
def SAF_CONN_EN (c : Nat) : Fld := ⟨0x1a700 + 0x10 * c, 31, 31⟩
def SAF_WDG_MS (c : Nat) : Fld := ⟨0x1a700 + 0x10 * c, 15, 0⟩
def SAF_CONN_ID (c : Nat) : Fld := ⟨0x1a704 + 0x10 * c, 31, 0⟩
def SAF_PEER_A (c : Nat) : Fld := ⟨0x1a708 + 0x10 * c, 31, 0⟩
def SAF_PEER_B (c : Nat) : Fld := ⟨0x1a70c + 0x10 * c, 31, 0⟩
def MTR_DEM_MIN : Fld := ⟨0x18040, 23, 16⟩
def MTR_DEM_BASE : Fld := ⟨0x18040, 9, 8⟩
def MTR_ZONE_ALIGN : Fld := ⟨0x18040, 0, 0⟩
def MTR_DEM_CYCLES : Fld := ⟨0x18044, 31, 0⟩
def MTR_SLEW : Fld := ⟨0x18048, 15, 15⟩
def MTR_CKPT_LOST : Fld := ⟨0x18048, 14, 14⟩
def MTR_CAL_BAD : Fld := ⟨0x18048, 13, 13⟩
def MTR_RESTORE_DONE : Fld := ⟨0x18048, 12, 12⟩
def MTR_CKPT_KIND : Fld := ⟨0x18048, 11, 10⟩
def MTR_VPRES_B : Fld := ⟨0x18048, 9, 9⟩
def MTR_VPRES_A : Fld := ⟨0x18048, 8, 8⟩
def MTR_DEM_FLAGS : Fld := ⟨0x18048, 7, 4⟩
def MTR_ISL_TEMP : Fld := ⟨0x1804c, 31, 0⟩
def MTR_CKPT_TS : Wide := ⟨0x18050, 2⟩
def MTR_CKPT_GEN : Fld := ⟨0x18058, 31, 0⟩
def MTR_CKPT_MAX_US : Fld := ⟨0x1805c, 31, 0⟩
def MTR_DEM_END : Wide := ⟨0x18060, 2⟩
def MTR_DEM_CNT : Fld := ⟨0x18068, 31, 0⟩
def MTR_GRID_OFS : Fld := ⟨0x1806c, 31, 0⟩
def MTR_UNM_START : Wide := ⟨0x18070, 2⟩
def MTR_UNM_END : Wide := ⟨0x18078, 2⟩
def MTR_END_UNKNOWN : Fld := ⟨0x18080, 3, 3⟩
def MTR_END_RTC : Fld := ⟨0x18080, 2, 2⟩
def MTR_NOT_FINAL : Fld := ⟨0x18080, 1, 1⟩
def MTR_EST_MADE : Fld := ⟨0x18080, 0, 0⟩
def MTR_UNM_CNT : Fld := ⟨0x18084, 31, 0⟩
def MTR_UNM_TOTAL_S : Fld := ⟨0x18088, 31, 0⟩
def MTR_UNSAVED_CNT : Fld := ⟨0x1808c, 31, 0⟩
def MTR_VRMS (v : Nat) : Fld := ⟨0x18090 + 4 * v, 31, 0⟩
def MTR_SENSOR (k : Nat) : Fld := ⟨0x18100 + 8 * k, 31, 30⟩
def MTR_INV (k : Nat) : Fld := ⟨0x18100 + 8 * k, 29, 29⟩
def MTR_ROGO_SENS (k : Nat) : Fld := ⟨0x18100 + 8 * k, 26, 16⟩
def MTR_I_RATED (k : Nat) : Fld := ⟨0x18100 + 8 * k, 15, 0⟩
def MTR_GAIN_PPM (k : Nat) : Fld := ⟨0x18104 + 8 * k, 31, 16⟩
def MTR_PHASE_MDEG (k : Nat) : Fld := ⟨0x18104 + 8 * k, 15, 0⟩
def MTR_AGG_EN (g : Nat) : Fld := ⟨0x18280 + 0x10 * g, 31, 31⟩
def MTR_AGG_MODE (g : Nat) : Fld := ⟨0x18280 + 0x10 * g, 30, 30⟩
def MTR_AGG_MEM_LO (g : Nat) : Fld := ⟨0x18284 + 0x10 * g, 31, 0⟩
def MTR_AGG_SUB_HI (g : Nat) : Fld := ⟨0x18288 + 0x10 * g, 31, 16⟩
def MTR_AGG_MEM_HI (g : Nat) : Fld := ⟨0x18288 + 0x10 * g, 15, 0⟩
def MTR_AGG_SUB_LO (g : Nat) : Fld := ⟨0x1828c + 0x10 * g, 31, 0⟩
def MTR_AGG (g r : Nat) : Wide := ⟨0x18400 + 0x60 * g + 0xc * r, 3⟩
def CIRC_KIND (p : Nat) : Fld := ⟨0x60040 + 0x1000 * p, 31, 30⟩
def CIRC_BUS (p : Nat) : Fld := ⟨0x60040 + 0x1000 * p, 29, 29⟩
def CIRC_PHASE (p : Nat) : Fld := ⟨0x60040 + 0x1000 * p, 28, 27⟩
def CIRC_I_0 (p : Nat) : Fld := ⟨0x60040 + 0x1000 * p, 23, 18⟩
def CIRC_I_1 (p : Nat) : Fld := ⟨0x60040 + 0x1000 * p, 17, 12⟩
def CIRC_I_2 (p : Nat) : Fld := ⟨0x60040 + 0x1000 * p, 11, 6⟩
def CIRC_CFG_ERR (p : Nat) : Fld := ⟨0x60044 + 0x1000 * p, 31, 29⟩
def CIRC_OVR (p : Nat) : Fld := ⟨0x60044 + 0x1000 * p, 28, 28⟩
def CIRC_SAT (p : Nat) : Fld := ⟨0x60044 + 0x1000 * p, 27, 27⟩
def CIRC_NOLOAD (p : Nat) : Fld := ⟨0x60044 + 0x1000 * p, 26, 26⟩
def CIRC_VLOW (p : Nat) : Fld := ⟨0x60044 + 0x1000 * p, 25, 25⟩
def CIRC_EXPORTING (p : Nat) : Fld := ⟨0x60044 + 0x1000 * p, 24, 24⟩
def CIRC_QUAD (p : Nat) : Fld := ⟨0x60044 + 0x1000 * p, 23, 22⟩
def CIRC_P (p : Nat) : Fld := ⟨0x60048 + 0x1000 * p, 31, 0⟩
def CIRC_Q (p : Nat) : Fld := ⟨0x6004c + 0x1000 * p, 31, 0⟩
def CIRC_S (p : Nat) : Fld := ⟨0x60050 + 0x1000 * p, 31, 0⟩
def CIRC_PF (p : Nat) : Fld := ⟨0x60054 + 0x1000 * p, 31, 0⟩
def CIRC_IRMS (p w : Nat) : Fld := ⟨0x60058 + 0x1000 * p + 4 * w, 31, 0⟩
def CIRC_S_MAX (p : Nat) : Fld := ⟨0x60064 + 0x1000 * p, 31, 0⟩
def CIRC_IMP (p : Nat) : Wide := ⟨0x60080 + 0x1000 * p, 3⟩
def CIRC_EXP (p : Nat) : Wide := ⟨0x6008c + 0x1000 * p, 3⟩
def CIRC_RQ (p q : Nat) : Wide := ⟨0x60098 + 0x1000 * p + 0xc * q, 3⟩
def CIRC_AIMP (p : Nat) : Wide := ⟨0x600c8 + 0x1000 * p, 3⟩
def CIRC_AEXP (p : Nat) : Wide := ⟨0x600d4 + 0x1000 * p, 3⟩
def CIRC_EST_IMP (p : Nat) : Wide := ⟨0x600e0 + 0x1000 * p, 3⟩
def CIRC_EST_EXP (p : Nat) : Wide := ⟨0x600ec + 0x1000 * p, 3⟩
def CIRC_DEM_IMP (p : Nat) : Fld := ⟨0x60100 + 0x1000 * p, 31, 0⟩
def CIRC_DEM_EXP (p : Nat) : Fld := ⟨0x60104 + 0x1000 * p, 31, 0⟩
def CIRC_DEM_NET (p : Nat) : Fld := ⟨0x60108 + 0x1000 * p, 31, 0⟩
def CIRC_MAX_IMP (p : Nat) : Fld := ⟨0x6010c + 0x1000 * p, 31, 0⟩
def CIRC_MAX_IMP_TS (p : Nat) : Wide := ⟨0x60110 + 0x1000 * p, 2⟩
def CIRC_MAX_NET (p : Nat) : Fld := ⟨0x60118 + 0x1000 * p, 31, 0⟩
def CIRC_MAX_NET_TS (p : Nat) : Wide := ⟨0x6011c + 0x1000 * p, 2⟩
def CIRC_IV_IMP (p : Nat) : Wide := ⟨0x60128 + 0x1000 * p, 3⟩
def CIRC_IV_EXP (p : Nat) : Wide := ⟨0x60134 + 0x1000 * p, 3⟩
def PULSE_SRC (p : Nat) : Fld := ⟨0x90040 + 0x1000 * p, 30, 29⟩
def PULSE_IDX (p : Nat) : Fld := ⟨0x90040 + 0x1000 * p, 23, 18⟩
def PULSE_QTY (p : Nat) : Fld := ⟨0x90040 + 0x1000 * p, 17, 15⟩
def PULSE_CH (p : Nat) : Fld := ⟨0x90040 + 0x1000 * p, 7, 0⟩
def PULSE_WEIGHT (p : Nat) : Wide := ⟨0x90044 + 0x1000 * p, 2⟩
def PULSE_ACC (p : Nat) : Wide := ⟨0x9004c + 0x1000 * p, 3⟩
def PULSE_OWED (p : Nat) : Fld := ⟨0x90058 + 0x1000 * p, 31, 0⟩
def PULSE_SENT (p : Nat) : Wide := ⟨0x9005c + 0x1000 * p, 2⟩
def PULSE_RETURNED (p : Nat) : Fld := ⟨0x90064 + 0x1000 * p, 31, 0⟩
def PULSE_NO_CH (p : Nat) : Fld := ⟨0x90068 + 0x1000 * p, 31, 31⟩
def PULSE_OWED_SAT (p : Nat) : Fld := ⟨0x90068 + 0x1000 * p, 30, 30⟩
def PULSE_AT_TILE (p : Nat) : Fld := ⟨0x90068 + 0x1000 * p, 4, 0⟩
def PT_VALUE (n : Nat) : Fld := ⟨0x1000000 + 32 * n, 31, 0⟩
def PT_TAG (n : Nat) : Fld := ⟨0x1000004 + 32 * n, 31, 22⟩
def PT_TYPE (n : Nat) : Fld := ⟨0x1000004 + 32 * n, 21, 18⟩
def PT_PUBLIC (n : Nat) : Fld := ⟨0x1000004 + 32 * n, 13, 13⟩
def PT_CMD (n : Nat) : Fld := ⟨0x1000004 + 32 * n, 12, 12⟩
def PT_OUT (n : Nat) : Fld := ⟨0x1000004 + 32 * n, 11, 11⟩
def PT_SCHED_EN (n : Nat) : Fld := ⟨0x1000004 + 32 * n, 10, 10⟩
def PT_COV (n : Nat) : Fld := ⟨0x1000004 + 32 * n, 9, 9⟩
def PT_QUAL (n : Nat) : Fld := ⟨0x1000004 + 32 * n, 7, 0⟩
def PT_PA (n : Nat) : Fld := ⟨0x1000008 + 32 * n, 31, 21⟩
def PT_WIN_PRIO (n : Nat) : Fld := ⟨0x1000008 + 32 * n, 20, 16⟩
def PT_SCHED (n : Nat) : Fld := ⟨0x1000008 + 32 * n, 5, 0⟩
def PT_BIND (n : Nat) : Fld := ⟨0x100000c + 32 * n, 31, 28⟩
def PT_TARGET (n : Nat) : Fld := ⟨0x100000c + 32 * n, 27, 0⟩
def PT_RELINQ (n : Nat) : Fld := ⟨0x1000010 + 32 * n, 31, 0⟩
def PT_TS (n : Nat) : Wide := ⟨0x1000014 + 32 * n, 2⟩
def PT_OBJ_ID (n : Nat) : Fld := ⟨0x100001c + 32 * n, 31, 0⟩
def PGD_BIP_EN : Fld := ⟨0xa040, 31, 31⟩
def PGD_BIP_TAG : Fld := ⟨0xa040, 30, 21⟩
def PGD_BIP_RIGHTS : Fld := ⟨0xa040, 20, 14⟩
def PGD_BIP_PRIO : Fld := ⟨0xa040, 13, 10⟩
def PGD_REFUSE_CNT : Fld := ⟨0xa044, 31, 0⟩
def PGD_REF_ADDR : Fld := ⟨0xa048, 31, 0⟩
def PGD_REF_KIND : Fld := ⟨0xa04c, 31, 30⟩
def PGD_REF_TAG : Fld := ⟨0xa04c, 29, 20⟩
def PGD_REF_WHO : Fld := ⟨0xa04c, 9, 0⟩
def PGD_SESS_IDX : Fld := ⟨0xa060, 8, 0⟩
def PGD_SESS_ID : Fld := ⟨0xa064, 31, 0⟩
def PGD_SESS_STATE : Fld := ⟨0xa068, 31, 30⟩
def PGD_SESS_TAG : Fld := ⟨0xa068, 29, 20⟩
def PGD_SESS_RIGHTS : Fld := ⟨0xa068, 19, 13⟩
def PGD_SESS_PRIO : Fld := ⟨0xa068, 12, 9⟩
def PGD_OWNER_RES : Fld := ⟨0xa068, 8, 8⟩
def PGD_KEY_HANDLE : Fld := ⟨0xa06c, 10, 0⟩
def PGD_PA_IDX : Fld := ⟨0xa080, 10, 0⟩
def PGD_PA_ACTIVE : Fld := ⟨0xa084, 15, 0⟩
def PGD_PA_VAL (p : Nat) : Fld := ⟨0xa088 + 8 * p, 31, 0⟩
def PGD_PA_QUAL (p : Nat) : Fld := ⟨0xa08c + 8 * p, 7, 0⟩
def PGD_SCHED_EN (s : Nat) : Fld := ⟨0xa400 + 0x30 * s, 31, 31⟩
def PGD_SCHED_ACTION (s : Nat) : Fld := ⟨0xa400 + 0x30 * s, 30, 30⟩
def PGD_SCHED_GATE_PRIO (s : Nat) : Fld := ⟨0xa400 + 0x30 * s, 29, 25⟩
def PGD_SCHED_ACTIVE (s : Nat) : Fld := ⟨0xa400 + 0x30 * s, 8, 8⟩
def PGD_SCHED_WIN_EN (s : Nat) : Fld := ⟨0xa400 + 0x30 * s, 7, 0⟩
def PGD_SCHED_ON_VALUE (s : Nat) : Fld := ⟨0xa404 + 0x30 * s, 31, 0⟩
def PGD_SCHED_DAYS (s w : Nat) : Fld := ⟨0xa410 + 0x30 * s + 4 * w, 30, 24⟩
def PGD_SCHED_START (s w : Nat) : Fld := ⟨0xa410 + 0x30 * s + 4 * w, 21, 11⟩
def PGD_SCHED_END (s w : Nat) : Fld := ⟨0xa410 + 0x30 * s + 4 * w, 10, 0⟩
def MAC_PRP_EN (p : Nat) : Fld := ⟨0xb040 + 0x1000 * p, 31, 31⟩
def MAC_QBV_EN (p : Nat) : Fld := ⟨0xb040 + 0x1000 * p, 30, 30⟩
def MAC_ALL_MULTI (p : Nat) : Fld := ⟨0xb040 + 0x1000 * p, 29, 29⟩
def MAC_BCAST_EN (p : Nat) : Fld := ⟨0xb040 + 0x1000 * p, 28, 28⟩
def MAC_SPEED_CAP (p : Nat) : Fld := ⟨0xb040 + 0x1000 * p, 27, 26⟩
def MAC_LINK_UP (p : Nat) : Fld := ⟨0xb044 + 0x1000 * p, 31, 31⟩
def MAC_SPEED (p : Nat) : Fld := ⟨0xb044 + 0x1000 * p, 30, 29⟩
def MAC_GCL_PEND (p : Nat) : Fld := ⟨0xb044 + 0x1000 * p, 28, 28⟩
def MAC_GATES (p : Nat) : Fld := ⟨0xb044 + 0x1000 * p, 23, 16⟩
def MAC_MAC_ADDR (p : Nat) : Wide := ⟨0xb048 + 0x1000 * p, 2⟩
def MAC_RX_BUF_SIZE (p : Nat) : Fld := ⟨0xb050 + 0x1000 * p, 15, 0⟩
def MAC_TX_BASE (p q : Nat) : Fld := ⟨0xb100 + 0x1000 * p + 0x10 * q, 31, 0⟩
def MAC_TX_EN (p q : Nat) : Fld := ⟨0xb104 + 0x1000 * p + 0x10 * q, 31, 31⟩
def MAC_TX_LEN (p q : Nat) : Fld := ⟨0xb104 + 0x1000 * p + 0x10 * q, 12, 0⟩
def MAC_TX_TAIL (p q : Nat) : Fld := ⟨0xb108 + 0x1000 * p + 0x10 * q, 11, 0⟩
def MAC_TX_HEAD (p q : Nat) : Fld := ⟨0xb10c + 0x1000 * p + 0x10 * q, 11, 0⟩
def MAC_RX_BASE (p : Nat) : Fld := ⟨0xb180 + 0x1000 * p, 31, 0⟩
def MAC_RX_EN (p : Nat) : Fld := ⟨0xb184 + 0x1000 * p, 31, 31⟩
def MAC_RX_LEN (p : Nat) : Fld := ⟨0xb184 + 0x1000 * p, 12, 0⟩
def MAC_RX_TAIL (p : Nat) : Fld := ⟨0xb188 + 0x1000 * p, 11, 0⟩
def MAC_RX_HEAD (p : Nat) : Fld := ⟨0xb18c + 0x1000 * p, 11, 0⟩
def MAC_GCL_COMMIT (p : Nat) : Fld := ⟨0xb200 + 0x1000 * p, 0, 0⟩
def MAC_CYCLE_OFS_NS (p : Nat) : Fld := ⟨0xb204 + 0x1000 * p, 31, 0⟩
def MAC_GCL_GATES (p e : Nat) : Fld := ⟨0xb240 + 0x1000 * p + 4 * e, 31, 24⟩
def MAC_GCL_INTERVAL (p e : Nat) : Fld := ⟨0xb240 + 0x1000 * p + 4 * e, 19, 0⟩
def MAC_OPER (p e : Nat) : Fld := ⟨0xb280 + 0x1000 * p + 4 * e, 31, 0⟩
def MAC_HASH (p w : Nat) : Fld := ⟨0xb300 + 0x1000 * p + 4 * w, 31, 0⟩
def MAC_RX_FRAMES (p : Nat) : Fld := ⟨0xb400 + 0x1000 * p, 31, 0⟩
def MAC_RX_BYTES (p : Nat) : Wide := ⟨0xb404 + 0x1000 * p, 2⟩
def MAC_RX_CRC_ERR (p : Nat) : Fld := ⟨0xb40c + 0x1000 * p, 31, 0⟩
def MAC_RX_RUNT (p : Nat) : Fld := ⟨0xb410 + 0x1000 * p, 31, 0⟩
def MAC_RX_TRUNC (p : Nat) : Fld := ⟨0xb414 + 0x1000 * p, 31, 0⟩
def MAC_RX_NO_DESC (p : Nat) : Fld := ⟨0xb418 + 0x1000 * p, 31, 0⟩
def MAC_RX_FILTERED (p : Nat) : Fld := ⟨0xb41c + 0x1000 * p, 31, 0⟩
def MAC_RX_PAUSE (p : Nat) : Fld := ⟨0xb420 + 0x1000 * p, 31, 0⟩
def MAC_TX_FRAMES (p : Nat) : Fld := ⟨0xb424 + 0x1000 * p, 31, 0⟩
def MAC_TX_BYTES (p : Nat) : Wide := ⟨0xb428 + 0x1000 * p, 2⟩
def MAC_TX_NOFIT (p : Nat) : Fld := ⟨0xb430 + 0x1000 * p, 31, 0⟩
def MAC_TX_OVERSIZE (p : Nat) : Fld := ⟨0xb434 + 0x1000 * p, 31, 0⟩
def MAC_TX_LINK_DROP (p : Nat) : Fld := ⟨0xb438 + 0x1000 * p, 31, 0⟩
def MAC_NODE_FORGET_S (p : Nat) : Fld := ⟨0xb500 + 0x1000 * p, 31, 16⟩
def MAC_ENTRY_FORGET_MS (p : Nat) : Fld := ⟨0xb500 + 0x1000 * p, 15, 0⟩
def MAC_LIFE_CHECK_MS (p : Nat) : Fld := ⟨0xb504 + 0x1000 * p, 31, 0⟩
def MAC_PRP_ACTIVE (p : Nat) : Fld := ⟨0xb508 + 0x1000 * p, 31, 31⟩
def MAC_NT_COUNT (p : Nat) : Fld := ⟨0xb508 + 0x1000 * p, 9, 0⟩
def MAC_PRP_DUP (p : Nat) : Fld := ⟨0xb510 + 0x1000 * p, 31, 0⟩
def MAC_PRP_WRONG_LAN (p : Nat) : Fld := ⟨0xb514 + 0x1000 * p, 31, 0⟩
def MAC_PRP_NT_FULL (p : Nat) : Fld := ⟨0xb518 + 0x1000 * p, 31, 0⟩
def CAN_ENC_EN : Fld := ⟨0xf040, 11, 4⟩
def CAN_FIX_EN : Fld := ⟨0xf040, 3, 0⟩
def CAN_ENC_TRIP : Fld := ⟨0xf044, 11, 4⟩
def CAN_FIX_TRIP : Fld := ⟨0xf044, 3, 0⟩
def CAN_CLASH : Fld := ⟨0xf048, 11, 8⟩
def CAN_BUSOFF : Fld := ⟨0xf048, 7, 4⟩
def CAN_ASLEEP : Fld := ⟨0xf048, 3, 0⟩
def CANCH_RETRY_LIM (p : Nat) : Fld := ⟨0x10040 + 0x1000 * p, 11, 8⟩
def CANCH_WAKE_MODE (p : Nat) : Fld := ⟨0x10040 + 0x1000 * p, 3, 3⟩
def CANCH_AUTO_RECOVER (p : Nat) : Fld := ⟨0x10040 + 0x1000 * p, 2, 2⟩
def CANCH_TERM (p : Nat) : Fld := ⟨0x10040 + 0x1000 * p, 1, 1⟩
def CANCH_FD_EN (p : Nat) : Fld := ⟨0x10040 + 0x1000 * p, 0, 0⟩
def CANCH_NBRP (p : Nat) : Fld := ⟨0x10044 + 0x1000 * p, 31, 23⟩
def CANCH_NTSEG1 (p : Nat) : Fld := ⟨0x10044 + 0x1000 * p, 22, 15⟩
def CANCH_NTSEG2 (p : Nat) : Fld := ⟨0x10044 + 0x1000 * p, 14, 8⟩
def CANCH_NSJW (p : Nat) : Fld := ⟨0x10044 + 0x1000 * p, 6, 0⟩
def CANCH_DBRP (p : Nat) : Fld := ⟨0x10048 + 0x1000 * p, 31, 27⟩
def CANCH_DTSEG1 (p : Nat) : Fld := ⟨0x10048 + 0x1000 * p, 20, 16⟩
def CANCH_DTSEG2 (p : Nat) : Fld := ⟨0x10048 + 0x1000 * p, 11, 8⟩
def CANCH_DSJW (p : Nat) : Fld := ⟨0x10048 + 0x1000 * p, 3, 0⟩
def CANCH_TDC_EN (p : Nat) : Fld := ⟨0x1004c + 0x1000 * p, 31, 31⟩
def CANCH_TDCO (p : Nat) : Fld := ⟨0x1004c + 0x1000 * p, 14, 8⟩
def CANCH_TDCV (p : Nat) : Fld := ⟨0x1004c + 0x1000 * p, 6, 0⟩
def CANCH_CMD (p : Nat) : Fld := ⟨0x10050 + 0x1000 * p, 2, 0⟩
def CANCH_STATE (p : Nat) : Fld := ⟨0x10054 + 0x1000 * p, 31, 29⟩
def CANCH_TEC (p : Nat) : Fld := ⟨0x10054 + 0x1000 * p, 15, 8⟩
def CANCH_REC (p : Nat) : Fld := ⟨0x10054 + 0x1000 * p, 7, 0⟩
def CANCH_CLASH_ID (p : Nat) : Fld := ⟨0x10058 + 0x1000 * p, 31, 0⟩
def CANCH_RX_HEAD (p : Nat) : Fld := ⟨0x1005c + 0x1000 * p, 21, 16⟩
def CANCH_FILL (p : Nat) : Fld := ⟨0x1005c + 0x1000 * p, 6, 0⟩
def CANCH_RX_ACK (p : Nat) : Fld := ⟨0x10060 + 0x1000 * p, 6, 0⟩
def CANCH_RX_SEL (p : Nat) : Fld := ⟨0x10064 + 0x1000 * p, 5, 0⟩
def CANCH_TXQ_FILL (p : Nat) : Fld := ⟨0x10068 + 0x1000 * p, 5, 0⟩
def CANCH_HB_MS (p : Nat) : Fld := ⟨0x1006c + 0x1000 * p, 31, 0⟩
def CANCH_WUF_ID (p : Nat) : Fld := ⟨0x10070 + 0x1000 * p, 31, 0⟩
def CANCH_WUF_MASK (p : Nat) : Fld := ⟨0x10074 + 0x1000 * p, 31, 0⟩
def CANCH_BO_DELAY_MS (p : Nat) : Fld := ⟨0x10078 + 0x1000 * p, 31, 0⟩
def CANCH_WUF_DLC (p : Nat) : Fld := ⟨0x1007c + 0x1000 * p, 3, 0⟩
def CANCH_WUF_DATA (p : Nat) : Wide := ⟨0x10080 + 0x1000 * p, 2⟩
def CANCH_NODE_CFG (p w : Nat) : Fld := ⟨0x10088 + 0x1000 * p + 4 * w, 31, 0⟩
def CANCH_NODE_ALIVE (p w : Nat) : Fld := ⟨0x10098 + 0x1000 * p + 4 * w, 31, 0⟩
def CANCH_RX_FRAMES (p : Nat) : Fld := ⟨0x100a8 + 0x1000 * p, 31, 0⟩
def CANCH_TX_FRAMES (p : Nat) : Fld := ⟨0x100ac + 0x1000 * p, 31, 0⟩
def CANCH_RX_OVF (p : Nat) : Fld := ⟨0x100b0 + 0x1000 * p, 31, 0⟩
def CANCH_RX_FILTERED (p : Nat) : Fld := ⟨0x100b4 + 0x1000 * p, 31, 0⟩
def CANCH_TX_ABANDON (p : Nat) : Fld := ⟨0x100b8 + 0x1000 * p, 31, 0⟩
def CANCH_SP_LATE (p : Nat) : Fld := ⟨0x100bc + 0x1000 * p, 31, 0⟩
def CANCH_BUSOFF_CNT (p : Nat) : Fld := ⟨0x100c0 + 0x1000 * p, 31, 0⟩
def CANCH_WAKE_CNT (p : Nat) : Fld := ⟨0x100c4 + 0x1000 * p, 31, 0⟩
def CANCH_FLT_EN (p f : Nat) : Fld := ⟨0x10100 + 0x1000 * p + 8 * f, 31, 31⟩
def CANCH_FLT_IDE (p f : Nat) : Fld := ⟨0x10100 + 0x1000 * p + 8 * f, 30, 30⟩
def CANCH_FLT_ID (p f : Nat) : Fld := ⟨0x10100 + 0x1000 * p + 8 * f, 28, 0⟩
def CANCH_FLT_MASK (p f : Nat) : Fld := ⟨0x10104 + 0x1000 * p + 8 * f, 28, 0⟩
def CANCH_RX_IDE (p : Nat) : Fld := ⟨0x10200 + 0x1000 * p, 31, 31⟩
def CANCH_RX_FDF (p : Nat) : Fld := ⟨0x10200 + 0x1000 * p, 30, 30⟩
def CANCH_RX_BRS (p : Nat) : Fld := ⟨0x10200 + 0x1000 * p, 29, 29⟩
def CANCH_RX_ESI (p : Nat) : Fld := ⟨0x10200 + 0x1000 * p, 28, 28⟩
def CANCH_RX_RTR (p : Nat) : Fld := ⟨0x10200 + 0x1000 * p, 27, 27⟩
def CANCH_RX_FILTER (p : Nat) : Fld := ⟨0x10200 + 0x1000 * p, 26, 22⟩
def CANCH_RX_DLC (p : Nat) : Fld := ⟨0x10200 + 0x1000 * p, 3, 0⟩
def CANCH_RX_ID (p : Nat) : Fld := ⟨0x10204 + 0x1000 * p, 28, 0⟩
def CANCH_RX_TS (p : Nat) : Wide := ⟨0x10208 + 0x1000 * p, 2⟩
def CANCH_RX_SEQ (p : Nat) : Wide := ⟨0x10210 + 0x1000 * p, 2⟩
def CANCH_RX_DATA (p w : Nat) : Fld := ⟨0x10218 + 0x1000 * p + 4 * w, 31, 0⟩
def CANCH_TX_IDE (p : Nat) : Fld := ⟨0x10300 + 0x1000 * p, 31, 31⟩
def CANCH_TX_FDF (p : Nat) : Fld := ⟨0x10300 + 0x1000 * p, 30, 30⟩
def CANCH_TX_BRS (p : Nat) : Fld := ⟨0x10300 + 0x1000 * p, 29, 29⟩
def CANCH_TX_DLC (p : Nat) : Fld := ⟨0x10300 + 0x1000 * p, 3, 0⟩
def CANCH_TX_ID (p : Nat) : Fld := ⟨0x10304 + 0x1000 * p, 28, 0⟩
def CANCH_TX_DATA (p w : Nat) : Fld := ⟨0x10308 + 0x1000 * p + 4 * w, 31, 0⟩
def KEY_OWNER_LOCK : Fld := ⟨0x9040, 0, 0⟩
def KEY_OWNER_ST : Fld := ⟨0x9044, 31, 30⟩
def KEY_BURN_BUSY : Fld := ⟨0x9044, 29, 29⟩
def KEY_N_LIVE : Fld := ⟨0x9044, 11, 0⟩
def KEY_N_ORPHAN : Fld := ⟨0x9048, 11, 0⟩
def KEY_OWNER_GEN : Fld := ⟨0x904c, 31, 0⟩
def KEY_BURN_CNT : Fld := ⟨0x9050, 31, 0⟩
def KEY_BURN_MAX_NS : Fld := ⟨0x9054, 31, 0⟩
def KEY_HANDLE_SEL : Fld := ⟨0x9058, 10, 0⟩
def KEY_KIND : Fld := ⟨0x905c, 31, 28⟩
def KEY_STATE : Fld := ⟨0x905c, 27, 26⟩
def KEY_TAG : Fld := ⟨0x905c, 25, 16⟩
def KEY_RIGHTS : Fld := ⟨0x905c, 15, 9⟩
def KEY_PRIO : Fld := ⟨0x905c, 8, 5⟩
def KEY_PARENT : Fld := ⟨0x9060, 10, 0⟩
def KEY_GEN : Fld := ⟨0x9064, 31, 0⟩
def KEY_PGEN : Fld := ⟨0x9068, 31, 0⟩
def KEY_CRED_ID : Fld := ⟨0x906c, 31, 0⟩
def KEY_ATT_SIGN_CNT : Fld := ⟨0x9070, 31, 0⟩
def KEY_ATT_MAC_CNT : Fld := ⟨0x9074, 31, 0⟩
def KEY_ATT_RATE : Fld := ⟨0x9078, 31, 0⟩
def KEY_MEAS_DIGEST (w : Nat) : Fld := ⟨0x9080 + 4 * w, 31, 0⟩
def TWN_EN : Fld := ⟨0xe040, 31, 31⟩
def TWN_PREFER : Fld := ⟨0xe040, 30, 30⟩
def TWN_AUTO_RESYNC : Fld := ⟨0xe040, 29, 29⟩
def TWN_PAIR_CRED : Fld := ⟨0xe044, 31, 0⟩
def TWN_LINK_TMO_US : Fld := ⟨0xe048, 31, 16⟩
def TWN_JOIN_MS : Fld := ⟨0xe048, 15, 0⟩
def TWN_RESYNC_TMO_S : Fld := ⟨0xe04c, 31, 0⟩
def TWN_PAIR_MAC : Wide := ⟨0xe050, 2⟩
def TWN_CMD : Fld := ⟨0xe058, 1, 0⟩
def TWN_STATE : Fld := ⟨0xe05c, 31, 30⟩
def TWN_PARTNER : Fld := ⟨0xe05c, 29, 29⟩
def TWN_LANE1_UP : Fld := ⟨0xe05c, 28, 28⟩
def TWN_LANE0_UP : Fld := ⟨0xe05c, 27, 27⟩
def TWN_NET_PEER : Fld := ⟨0xe05c, 26, 26⟩
def TWN_TIME_TWIN : Fld := ⟨0xe05c, 25, 25⟩
def TWN_RESYNC_BUSY : Fld := ⟨0xe05c, 24, 24⟩
def TWN_GIVE_CAUSE : Fld := ⟨0xe05c, 23, 20⟩
def TWN_PAIR_ERR : Fld := ⟨0xe05c, 19, 16⟩
def TWN_PEER_SERIAL : Wide := ⟨0xe060, 2⟩
def TWN_DIVERGE_CNT : Fld := ⟨0xe068, 31, 0⟩
def TWN_DISAGREE_CNT : Fld := ⟨0xe06c, 31, 0⟩
def TWN_DIS_POINT : Fld := ⟨0xe070, 12, 0⟩
def TWN_ROUND_LATE : Fld := ⟨0xe074, 31, 0⟩
def TWN_LANE_ERR : Fld := ⟨0xe078, 31, 0⟩
def TWN_SWITCH_CNT : Fld := ⟨0xe07c, 31, 0⟩
def TWN_RESYNC_MS : Fld := ⟨0xe080, 31, 0⟩
def TWN_TIME_OFS : Fld := ⟨0xe084, 31, 0⟩
def TWN_RESYNC_ERR : Fld := ⟨0xe088, 3, 0⟩
def TWN_CFG_DIGEST (w : Nat) : Fld := ⟨0xe090 + 4 * w, 31, 0⟩
def EVR_MIN_SEV : Fld := ⟨0x7040, 1, 0⟩
def EVR_FRZ_MAX_S : Fld := ⟨0x7044, 31, 0⟩
def EVR_MERGING : Fld := ⟨0x7048, 23, 23⟩
def EVR_SIDE_FILL : Fld := ⟨0x7048, 22, 16⟩
def EVR_FILL : Fld := ⟨0x7048, 12, 0⟩
def EVR_NEWEST_IDX : Fld := ⟨0x704c, 11, 0⟩
def EVR_REC_TOTAL : Wide := ⟨0x7050, 2⟩
def EVR_DROP_SEV : Fld := ⟨0x7058, 31, 0⟩
def EVR_DROP_MIN : Fld := ⟨0x705c, 31, 0⟩
def EVR_OVERWRITE_CNT : Fld := ⟨0x7060, 31, 0⟩
def EVR_SIDE_OVF : Fld := ⟨0x7064, 31, 0⟩
def EVR_OP_S : Fld := ⟨0x7068, 31, 0⟩
def EVR_FRZ_KIND : Fld := ⟨0x706c, 11, 10⟩
def EVR_FRZ_WHO : Fld := ⟨0x706c, 9, 0⟩
def EVR_TRIG_EN (t : Nat) : Fld := ⟨0x7400 + 0x60 * t, 31, 31⟩
def EVR_TRIG_SEV (t : Nat) : Fld := ⟨0x7400 + 0x60 * t, 30, 29⟩
def EVR_TRIG_SRC (t : Nat) : Fld := ⟨0x7400 + 0x60 * t, 28, 28⟩
def EVR_TRIG_N_REG (t : Nat) : Fld := ⟨0x7400 + 0x60 * t, 12, 8⟩
def EVR_TRIG_PAGE (t : Nat) : Fld := ⟨0x7400 + 0x60 * t, 7, 0⟩
def EVR_TRIG_MASK (t : Nat) : Fld := ⟨0x7404 + 0x60 * t, 31, 0⟩
def EVR_TRIG_ADDR (t i : Nat) : Fld := ⟨0x7420 + 0x60 * t + 4 * i, 31, 0⟩
def UPD_STATE : Fld := ⟨0x8040, 31, 30⟩
def UPD_STAGE_BUSY : Fld := ⟨0x8040, 29, 29⟩
def UPD_TRIAL : Fld := ⟨0x8040, 28, 28⟩
def UPD_ROLLED_BACK : Fld := ⟨0x8040, 27, 27⟩
def UPD_PREV_VALID : Fld := ⟨0x8040, 26, 26⟩
def UPD_ACTIVE_BANK : Fld := ⟨0x8040, 25, 25⟩
def UPD_REACH_FULL : Fld := ⟨0x8040, 24, 24⟩
def UPD_REFUSE : Fld := ⟨0x8040, 23, 20⟩
def UPD_VERIFY_ERR : Fld := ⟨0x8040, 19, 16⟩
def UPD_TILE_DONE : Fld := ⟨0x8040, 15, 8⟩
def UPD_AUTO_PAIR : Fld := ⟨0x8044, 0, 0⟩
def UPD_STAGE_LEN : Fld := ⟨0x8048, 31, 0⟩
def UPD_RCVD : Fld := ⟨0x804c, 31, 0⟩
def UPD_RUN_VER : Fld := ⟨0x8050, 31, 0⟩
def UPD_STAGED_VER : Fld := ⟨0x8054, 31, 0⟩
def UPD_PREV_VER : Fld := ⟨0x8058, 31, 0⟩
def UPD_ROLL_FLOOR : Fld := ⟨0x805c, 31, 0⟩
def UPD_PAUSE_MS : Fld := ⟨0x8060, 31, 0⟩
def ATB_SUB_1 : Fld := ⟨0x1e040, 29, 24⟩
def ATB_NODE_1 : Fld := ⟨0x1e040, 21, 16⟩
def ATB_SUB_0 : Fld := ⟨0x1e040, 13, 8⟩
def ATB_NODE_0 : Fld := ⟨0x1e040, 5, 0⟩
def ATB_BIST_BUSY : Fld := ⟨0x1e044, 31, 31⟩
def ATB_BIST_FAIL : Fld := ⟨0x1e044, 7, 0⟩
def ATB_TEMP_WARN : Fld := ⟨0x1e048, 31, 0⟩
def ATB_EXPOSED : Fld := ⟨0x1e04c, 31, 31⟩
def ATB_EXP_S : Fld := ⟨0x1e04c, 30, 0⟩
def ATB_PEAK : Fld := ⟨0x1e050, 31, 0⟩
def ATB_TEMP (s : Nat) : Fld := ⟨0x1e080 + 4 * s, 31, 0⟩
def ECC_SCRUB_EN : Fld := ⟨0x1f040, 0, 0⟩
def ECC_PAUSED : Fld := ⟨0x1f044, 31, 31⟩
def ECC_PASS_PCT : Fld := ⟨0x1f044, 6, 0⟩
def ECC_PASS_CNT : Fld := ⟨0x1f048, 31, 0⟩
def ECC_LAST_PASS_S : Fld := ⟨0x1f04c, 31, 0⟩
def ECC_CE_THRESH : Fld := ⟨0x1f050, 31, 0⟩
def ECC_CE_CNT (m : Nat) : Fld := ⟨0x1f080 + 0x10 * m, 31, 0⟩
def ECC_UE_CNT (m : Nat) : Fld := ⟨0x1f084 + 0x10 * m, 31, 0⟩
def ECC_LAST_ADDR (m : Nat) : Fld := ⟨0x1f088 + 0x10 * m, 31, 0⟩
def ECC_LAST_UE (m : Nat) : Fld := ⟨0x1f08c + 0x10 * m, 31, 31⟩
def ECC_SYNDROME (m : Nat) : Fld := ⟨0x1f08c + 0x10 * m, 6, 0⟩
def CAL_PEND : Fld := ⟨0x1d040, 2, 2⟩
def CAL_FACTORY : Fld := ⟨0x1d040, 1, 1⟩
def CAL_VALID : Fld := ⟨0x1d040, 0, 0⟩
def CAL_CAL_GEN : Fld := ⟨0x1d044, 31, 0⟩
def CAL_CAL_CRC : Fld := ⟨0x1d048, 31, 0⟩
def FIR_FF_MAP : Fld := ⟨0x1c040, 31, 24⟩
def FIR_FF_LAND : Fld := ⟨0x1c040, 23, 16⟩
def FIR_ALT_LAND : Fld := ⟨0x1c040, 15, 8⟩
def FIR_ENDUR_TEMP : Fld := ⟨0x1c040, 7, 0⟩
def FIR_FF_TURN_MS : Fld := ⟨0x1c044, 31, 16⟩
def FIR_VA_WDG_S : Fld := ⟨0x1c044, 15, 0⟩
def FIR_VA_EN : Fld := ⟨0x1c048, 31, 31⟩
def FIR_VA_LIVE_PT : Fld := ⟨0x1c048, 28, 16⟩
def FIR_VA_EVAC_CH : Fld := ⟨0x1c048, 15, 8⟩
def FIR_VA_ALERT_CH : Fld := ⟨0x1c048, 7, 0⟩
def FIR_KEY : Fld := ⟨0x1c04c, 31, 16⟩
def FIR_CMD : Fld := ⟨0x1c04c, 2, 0⟩
def FIR_MODE : Fld := ⟨0x1c050, 31, 29⟩
def FIR_VA_FAULT : Fld := ⟨0x1c050, 28, 28⟩
def FIR_SHED : Fld := ⟨0x1c050, 27, 22⟩
def FIR_IN_ACTIVE : Fld := ⟨0x1c050, 15, 0⟩
def FIR_MODE_TS : Wide := ⟨0x1c054, 2⟩
def FIR_FF_PHASE : Fld := ⟨0x1c05c, 23, 0⟩
def FIR_ENDUR_S : Fld := ⟨0x1c060, 31, 0⟩
def FIR_FIRE_CNT : Fld := ⟨0x1c064, 31, 0⟩
def FIR_LOOP_KEEP (w : Nat) : Fld := ⟨0x1c080 + 4 * w, 31, 0⟩
def FIR_FIN_EN (i : Nat) : Fld := ⟨0x1c100 + 4 * i, 31, 31⟩
def FIR_FIN_FUNC (i : Nat) : Fld := ⟨0x1c100 + 4 * i, 30, 28⟩
def FIR_FIN_INV (i : Nat) : Fld := ⟨0x1c100 + 4 * i, 27, 27⟩
def FIR_FIN_FAILSAFE (i : Nat) : Fld := ⟨0x1c100 + 4 * i, 26, 26⟩
def FIR_FIN_CAR (i : Nat) : Fld := ⟨0x1c100 + 4 * i, 25, 23⟩
def FIR_FIN_POINT (i : Nat) : Fld := ⟨0x1c100 + 4 * i, 12, 0⟩
def FIR_FACT_EN (e : Nat) : Fld := ⟨0x1c200 + 8 * e, 31, 31⟩
def FIR_FACT_MODES (e : Nat) : Fld := ⟨0x1c200 + 8 * e, 30, 27⟩
def FIR_FACT_POINT (e : Nat) : Fld := ⟨0x1c200 + 8 * e, 12, 0⟩
def FIR_FACT_VALUE (e : Nat) : Fld := ⟨0x1c204 + 8 * e, 31, 0⟩
def TBS_TXTS_B_ID : Fld := ⟨0x60f0, 31, 16⟩
def TBS_TXTS_B_FRAC : Fld := ⟨0x60f0, 15, 0⟩
def TBS_TXTS_B_NS : Fld := ⟨0x60f4, 31, 0⟩
def TBS_TXTS_B_SEC_LO : Fld := ⟨0x60f8, 31, 0⟩
def TBS_TXTS_B_SEC_HI : Fld := ⟨0x60fc, 15, 0⟩
def TBS_TXTS_B_COUNT : Fld := ⟨0x6100, 4, 0⟩
def TBS_TXTS_B_DROP : Fld := ⟨0x6104, 31, 0⟩
end Reg

end Sys2Proof.Machine
end

