-- ==== Sys2Proof/Machine/KV.lean ====
section
/-! DEFINITION. Sparse tables: lists of key and value with keys strictly rising. -/

namespace Sys2Proof.Machine

/-- A sparse table. -/
abbrev KV (α : Type) := List (Nat × α)

/-- The value at a key. -/
def KV.get? {α : Type} : KV α → Nat → Option α
  | [], _ => none
  | (b, v) :: t, a => if a = b then some v else KV.get? t a

/-- The value at a key, or a default. -/
def KV.getD {α : Type} (m : KV α) (a : Nat) (d : α) : α := (KV.get? m a).getD d

/-- Insert or replace the value at a key. -/
def KV.put {α : Type} : KV α → Nat → α → KV α
  | [], a, w => [(a, w)]
  | (b, v) :: t, a, w =>
    if a < b then (a, w) :: (b, v) :: t else if a = b then (a, w) :: t else (b, v) :: KV.put t a w

/-- Remove a key. -/
def KV.del {α : Type} (m : KV α) (a : Nat) : KV α := m.filter (fun e => e.1 != a)

/-- Change every value, knowing its key. -/
def KV.mapV {α : Type} (m : KV α) (g : Nat → α → α) : KV α := m.map (fun e => (e.1, g e.1 e.2))

/-- Keep the entries that a test admits. -/
def KV.keep {α : Type} (m : KV α) (g : Nat → α → Bool) : KV α := m.filter (fun e => g e.1 e.2)

/-- The keys. -/
def KV.keys {α : Type} (m : KV α) : List Nat := m.map (fun e => e.1)

/-- Keys strictly rising. -/
def KV.sorted {α : Type} : KV α → Bool
  | [] => true
  | [_] => true
  | (a, _) :: (b, w) :: t => decide (a < b) && KV.sorted ((b, w) :: t)

/-- Change the value at a key, taking a default where none is held. -/
def KV.modD {α : Type} (m : KV α) (a : Nat) (d : α) (g : α → α) : KV α := KV.put m a (g (KV.getD m a d))

/-- The entries whose keys lie from `a` up to `b`, as a table. -/
def KV.between {α : Type} (m : KV α) (a b : Nat) : KV α :=
  (m.filter (fun e => decide (a ≤ e.1) && decide (e.1 < b))).foldl (fun (k : KV α) e => KV.put k e.1 e.2) []

/-- The lowest key from `a` on, `fuel` keys searched, at which the table holds nothing. -/
def KV.firstFree {α : Type} (m : KV α) (a : Nat) : Nat → Option Nat
  | 0 => none
  | n + 1 => if (KV.get? m a).isNone then some a else KV.firstFree m (a + 1) n

/-- A fold over the numbers below `n`, rising. -/
def foldN {σ : Type} (n : Nat) (f : Nat → σ → σ) (s : σ) : σ := (List.range n).foldl (fun t i => f i t) s

end Sys2Proof.Machine
end

