-- ==== Sys2Proof/Machine/RegTable.lean ====
section
/-! DEFINITION. The register tables of the spec: for every page kind and every window with a field layout, one row
per field with its offset, repetition, bits, access code (R10), reset reach (R11), reset value and, under R531,
its range. Transcribed from the chapters' register tables. -/

namespace Sys2Proof.Machine.RegTable

def pgSYS_0 : List FieldSpec := [
  ⟨0x40, [], 1, 31, 0, .ro, .sys, 0, none⟩,
  ⟨0x44, [], 1, 31, 0, .ro, .sys, 0, none⟩,
  ⟨0x48, [(4, 5)], 1, 31, 0, .ro, .sys, 0, none⟩,
  ⟨0x5c, [(4, 5)], 1, 31, 0, .ro, .sys, 0, none⟩,
  ⟨0x80, [], 1, 15, 0, .rwl, .sys, 20646, none⟩,
  ⟨0x84, [], 1, 31, 16, .rwl, .sys, 8960, (some (1024, 8960))⟩,
  ⟨0x84, [], 1, 2, 2, .rwl, .sys, 1, none⟩,
  ⟨0x84, [], 1, 1, 1, .rwl, .sys, 1, none⟩,
  ⟨0x84, [], 1, 0, 0, .rwl, .sys, 1, none⟩,
  ⟨0x88, [], 1, 15, 10, .ro, .app, 0, none⟩,
  ⟨0x88, [], 1, 9, 0, .ro, .app, 0, none⟩,
  ⟨0x8c, [], 1, 31, 0, .rc, .sys, 0, none⟩,
  ⟨0x90, [], 1, 31, 0, .rc, .sys, 0, none⟩,
  ⟨0x94, [], 1, 31, 0, .rwl, .sys, 60, (some (10, 3600))⟩,
  ⟨0x98, [], 1, 31, 0, .rwl, .sys, 50, (some (1, 200))⟩]
def pgSYS : List FieldSpec := pgSYS_0

def pgRST_0 : List FieldSpec := [
  ⟨0x40, [], 1, 11, 0, .w1c, .bkp, 0, none⟩,
  ⟨0x44, [], 1, 2, 0, .ro, .bkp, 0, none⟩,
  ⟨0x48, [], 1, 31, 16, .wo, .none, 0, none⟩,
  ⟨0x48, [], 1, 2, 0, .wo, .none, 0, none⟩,
  ⟨0x4c, [], 1, 7, 7, .ro, .full, 0, none⟩,
  ⟨0x4c, [], 1, 6, 6, .ro, .sys, 0, none⟩,
  ⟨0x4c, [], 1, 5, 4, .ro, .full, 0, none⟩,
  ⟨0x4c, [], 1, 3, 2, .ro, .sys, 0, none⟩,
  ⟨0x4c, [], 1, 1, 0, .ro, .sys, 0, none⟩,
  ⟨0x50, [], 1, 31, 0, .ro, .bkp, 0, none⟩,
  ⟨0x54, [], 1, 31, 0, .ro, .bkp, 0, none⟩,
  ⟨0x58, [], 1, 7, 0, .ro, .bkp, 0, none⟩,
  ⟨0x5c, [], 1, 2, 2, .wo, .none, 0, none⟩,
  ⟨0x5c, [], 1, 1, 1, .ro, .sys, 0, none⟩,
  ⟨0x5c, [], 1, 0, 0, .rw, .app, 0, none⟩,
  ⟨0x60, [], 1, 31, 0, .rwl, .bkp, 120, (some (10, 3600))⟩,
  ⟨0x64, [], 1, 0, 0, .w1c, .bkp, 0, none⟩]
def pgRST : List FieldSpec := pgRST_0

def pgPWR_0 : List FieldSpec := [
  ⟨0x40, [], 1, 11, 11, .ro, .full, 0, none⟩,
  ⟨0x40, [], 1, 10, 10, .ro, .full, 0, none⟩,
  ⟨0x40, [], 1, 9, 8, .ro, .full, 0, none⟩,
  ⟨0x40, [], 1, 7, 5, .ro, .full, 0, none⟩,
  ⟨0x40, [], 1, 4, 4, .ro, .full, 0, none⟩,
  ⟨0x40, [], 1, 3, 3, .ro, .full, 0, none⟩,
  ⟨0x40, [], 1, 2, 2, .ro, .full, 0, none⟩,
  ⟨0x40, [], 1, 1, 1, .ro, .full, 0, none⟩,
  ⟨0x40, [], 1, 0, 0, .ro, .full, 0, none⟩,
  ⟨0x44, [], 1, 31, 0, .ro, .full, 0, none⟩,
  ⟨0x48, [], 1, 31, 0, .ro, .full, 0, none⟩,
  ⟨0x4c, [], 1, 31, 0, .ro, .full, 0, none⟩,
  ⟨0x50, [], 1, 31, 0, .rwl, .full, 36000, (some (21000, 4294967295))⟩,
  ⟨0x54, [], 1, 1, 1, .rwl, .full, 1, none⟩,
  ⟨0x54, [], 1, 0, 0, .wo, .none, 0, none⟩,
  ⟨0x58, [], 1, 31, 16, .ro, .bkp, 0, none⟩,
  ⟨0x58, [], 1, 0, 0, .ro, .bkp, 0, none⟩]
def pgPWR : List FieldSpec := pgPWR_0

def pgCLK_0 : List FieldSpec := [
  ⟨0x40, [], 1, 11, 11, .ro, .full, 0, none⟩,
  ⟨0x40, [], 1, 10, 10, .ro, .full, 0, none⟩,
  ⟨0x40, [], 1, 9, 8, .ro, .full, 0, none⟩,
  ⟨0x40, [], 1, 7, 0, .ro, .full, 0, none⟩,
  ⟨0x44, [], 1, 31, 0, .rc, .full, 0, none⟩,
  ⟨0x80, [(4, 8)], 1, 31, 0, .ro, .full, 0, none⟩]
def pgCLK : List FieldSpec := pgCLK_0

def pgBKP_0 : List FieldSpec := [
  ⟨0x40, [], 1, 3, 3, .ro, .bkp, 0, none⟩,
  ⟨0x40, [], 1, 2, 2, .ro, .bkp, 0, none⟩,
  ⟨0x40, [], 1, 1, 0, .ro, .bkp, 0, none⟩,
  ⟨0x44, [], 1, 31, 0, .ro, .bkp, 0, none⟩,
  ⟨0x48, [], 1, 31, 0, .ro, .bkp, 0, none⟩,
  ⟨0x80, [(4, 32)], 1, 31, 0, .rw, .bkp, 0, none⟩]
def pgBKP : List FieldSpec := pgBKP_0

def pgRTC_0 : List FieldSpec := [
  ⟨0x40, [], 1, 31, 17, .ro, .bkp, 0, none⟩,
  ⟨0x40, [], 1, 16, 12, .ro, .bkp, 0, none⟩,
  ⟨0x40, [], 1, 11, 6, .ro, .bkp, 0, none⟩,
  ⟨0x40, [], 1, 5, 0, .ro, .bkp, 0, none⟩,
  ⟨0x44, [], 1, 21, 21, .ro, .bkp, 0, none⟩,
  ⟨0x44, [], 1, 20, 18, .ro, .bkp, 6, none⟩,
  ⟨0x44, [], 1, 17, 9, .ro, .bkp, 0, none⟩,
  ⟨0x44, [], 1, 8, 5, .ro, .bkp, 1, none⟩,
  ⟨0x44, [], 1, 4, 0, .ro, .bkp, 1, none⟩,
  ⟨0x48, [], 1, 16, 12, .rwl, .bkp, 0, none⟩,
  ⟨0x48, [], 1, 11, 6, .rwl, .bkp, 0, none⟩,
  ⟨0x48, [], 1, 5, 0, .rwl, .bkp, 0, none⟩,
  ⟨0x4c, [], 1, 21, 21, .rwl, .bkp, 0, none⟩,
  ⟨0x4c, [], 1, 17, 9, .rwl, .bkp, 0, none⟩,
  ⟨0x4c, [], 1, 8, 5, .rwl, .bkp, 1, none⟩,
  ⟨0x4c, [], 1, 4, 0, .rwl, .bkp, 1, none⟩,
  ⟨0x50, [], 1, 1, 0, .wo, .none, 0, none⟩,
  ⟨0x54, [], 1, 15, 0, .rwl, .bkp, 0, none⟩,
  ⟨0x58, [], 1, 15, 0, .rwl, .bkp, 37, none⟩,
  ⟨0x5c, [], 1, 7, 6, .ro, .bkp, 0, none⟩]
def pgRTC_1 : List FieldSpec := [
  ⟨0x5c, [], 1, 5, 5, .w1c, .bkp, 0, none⟩,
  ⟨0x5c, [], 1, 4, 4, .ro, .bkp, 0, none⟩,
  ⟨0x5c, [], 1, 3, 3, .ro, .bkp, 0, none⟩,
  ⟨0x5c, [], 1, 2, 2, .ro, .bkp, 0, none⟩,
  ⟨0x5c, [], 1, 0, 0, .w1c, .bkp, 1, none⟩,
  ⟨0x60, [], 1, 31, 0, .ro, .bkp, 0, none⟩,
  ⟨0x64, [], 1, 31, 0, .ro, .bkp, 0, none⟩,
  ⟨0x68, [], 1, 31, 0, .ro, .bkp, 0, none⟩,
  ⟨0x6c, [], 1, 0, 0, .rwl, .bkp, 1, none⟩,
  ⟨0x70, [], 1, 31, 0, .rc, .bkp, 0, none⟩]
def pgRTC : List FieldSpec := pgRTC_0 ++ pgRTC_1

def pgTBS_0 : List FieldSpec := [
  ⟨0x40, [], 1, 31, 16, .ro, .sys, 0, none⟩,
  ⟨0x40, [], 1, 2, 2, .ro, .sys, 0, none⟩,
  ⟨0x40, [], 1, 1, 0, .ro, .sys, 0, none⟩,
  ⟨0x44, [], 1, 31, 0, .ro, .sys, 0, none⟩,
  ⟨0x48, [], 1, 31, 0, .ro, .sys, 0, none⟩,
  ⟨0x4c, [], 1, 15, 0, .ro, .sys, 0, none⟩,
  ⟨0x50, [(4, 4)], 1, 31, 0, .rwl, .sys, 0, none⟩,
  ⟨0x60, [], 1, 31, 24, .rwl, .sys, 0, none⟩,
  ⟨0x60, [], 1, 8, 8, .rw, .sys, 1, none⟩,
  ⟨0x60, [], 1, 7, 7, .rwl, .sys, 1, none⟩,
  ⟨0x60, [], 1, 6, 6, .rwl, .sys, 1, none⟩,
  ⟨0x60, [], 1, 5, 4, .rwl, .sys, 0, none⟩,
  ⟨0x60, [], 1, 3, 3, .rwl, .sys, 1, none⟩,
  ⟨0x60, [], 1, 2, 2, .rwl, .sys, 0, none⟩,
  ⟨0x60, [], 1, 1, 1, .rwl, .sys, 0, none⟩,
  ⟨0x60, [], 1, 0, 0, .rwl, .sys, 1, none⟩,
  ⟨0x64, [], 1, 31, 24, .rwl, .sys, 253, none⟩,
  ⟨0x64, [], 1, 23, 16, .rwl, .sys, 253, none⟩,
  ⟨0x64, [], 1, 15, 8, .rwl, .sys, 0, none⟩,
  ⟨0x64, [], 1, 7, 0, .rwl, .sys, 3, (some (2, 10))⟩]
def pgTBS_1 : List FieldSpec := [
  ⟨0x68, [], 1, 31, 24, .rwl, .sys, 128, none⟩,
  ⟨0x68, [], 1, 23, 16, .rwl, .sys, 128, none⟩,
  ⟨0x68, [], 1, 15, 8, .rwl, .sys, 248, none⟩,
  ⟨0x6c, [], 1, 31, 16, .rwl, .sys, 45875, none⟩,
  ⟨0x6c, [], 1, 15, 0, .rwl, .sys, 19661, none⟩,
  ⟨0x70, [], 1, 31, 0, .rwl, .sys, 200000, (some (1000, 200000))⟩,
  ⟨0x74, [], 1, 31, 24, .rwl, .sys, 4, (some (1, 32))⟩,
  ⟨0x74, [], 1, 23, 0, .rwl, .sys, 10000, none⟩,
  ⟨0x78, [], 1, 31, 0, .rwl, .sys, 3600, none⟩,
  ⟨0x7c, [], 1, 31, 0, .ro, .sys, 0, none⟩,
  ⟨0x80, [], 2, 31, 0, .ro, .sys, 0, none⟩,
  ⟨0x88, [], 1, 31, 0, .ro, .sys, 0, none⟩,
  ⟨0x8c, [], 1, 13, 11, .ro, .sys, 7, none⟩,
  ⟨0x8c, [], 1, 10, 8, .ro, .sys, 7, none⟩,
  ⟨0x8c, [], 1, 7, 6, .ro, .sys, 0, none⟩,
  ⟨0x8c, [], 1, 5, 5, .ro, .sys, 0, none⟩,
  ⟨0x8c, [], 1, 4, 4, .ro, .sys, 0, none⟩,
  ⟨0x8c, [], 1, 3, 3, .ro, .sys, 0, none⟩,
  ⟨0x8c, [], 1, 2, 2, .ro, .sys, 0, none⟩,
  ⟨0x8c, [], 1, 1, 0, .ro, .sys, 0, none⟩]
def pgTBS_2 : List FieldSpec := [
  ⟨0x90, [], 1, 31, 0, .ro, .sys, 0, none⟩,
  ⟨0x94, [], 2, 31, 0, .ro, .sys, 0, none⟩,
  ⟨0x9c, [], 2, 31, 0, .ro, .sys, 0, none⟩,
  ⟨0xa4, [], 1, 31, 0, .rc, .sys, 0, none⟩,
  ⟨0xa8, [], 1, 17, 17, .ro, .sys, 0, none⟩,
  ⟨0xa8, [], 1, 16, 16, .ro, .sys, 0, none⟩,
  ⟨0xa8, [], 1, 15, 0, .ro, .sys, 32768, none⟩,
  ⟨0xb0, [], 1, 31, 0, .rwl, .sys, 20447232, none⟩,
  ⟨0xb4, [], 1, 31, 0, .rwl, .sys, 12058624, none⟩,
  ⟨0xb8, [], 1, 31, 0, .rwl, .sys, 20447232, none⟩,
  ⟨0xbc, [], 1, 31, 0, .rwl, .sys, 12058624, none⟩,
  ⟨0xc0, [], 1, 31, 0, .rwl, .sys, 0, none⟩,
  ⟨0xc4, [], 1, 31, 0, .rwl, .sys, 0, none⟩,
  ⟨0xd0, [], 1, 31, 16, .ro, .sys, 0, none⟩,
  ⟨0xd0, [], 1, 15, 0, .ro, .sys, 0, none⟩,
  ⟨0xd4, [], 1, 31, 0, .ro, .sys, 0, none⟩,
  ⟨0xd8, [], 1, 31, 0, .ro, .sys, 0, none⟩,
  ⟨0xdc, [], 1, 15, 0, .ro, .sys, 0, none⟩,
  ⟨0xe0, [], 1, 4, 0, .ro, .sys, 0, none⟩,
  ⟨0xe4, [], 1, 31, 0, .rc, .sys, 0, none⟩]
def pgTBS_3 : List FieldSpec := [
  ⟨0xf0, [], 1, 31, 16, .ro, .sys, 0, none⟩,
  ⟨0xf0, [], 1, 15, 0, .ro, .sys, 0, none⟩,
  ⟨0xf4, [], 1, 31, 0, .ro, .sys, 0, none⟩,
  ⟨0xf8, [], 1, 31, 0, .ro, .sys, 0, none⟩,
  ⟨0xfc, [], 1, 15, 0, .ro, .sys, 0, none⟩,
  ⟨0x100, [], 1, 4, 0, .ro, .sys, 0, none⟩,
  ⟨0x104, [], 1, 31, 0, .rc, .sys, 0, none⟩]
def pgTBS : List FieldSpec := pgTBS_0 ++ pgTBS_1 ++ pgTBS_2 ++ pgTBS_3

def pgEVR_0 : List FieldSpec := [
  ⟨0x40, [], 1, 1, 0, .rwl, .sys, 0, none⟩,
  ⟨0x44, [], 1, 31, 0, .rwl, .sys, 10, (some (1, 600))⟩,
  ⟨0x48, [], 1, 23, 23, .ro, .sys, 0, none⟩,
  ⟨0x48, [], 1, 22, 16, .ro, .sys, 0, none⟩,
  ⟨0x48, [], 1, 12, 0, .ro, .sys, 0, none⟩,
  ⟨0x4c, [], 1, 11, 0, .ro, .sys, 0, none⟩,
  ⟨0x50, [], 2, 31, 0, .ro, .full, 0, none⟩,
  ⟨0x58, [], 1, 31, 0, .rc, .sys, 0, none⟩,
  ⟨0x5c, [], 1, 31, 0, .rc, .sys, 0, none⟩,
  ⟨0x60, [], 1, 31, 0, .rc, .sys, 0, none⟩,
  ⟨0x64, [], 1, 31, 0, .rc, .sys, 0, none⟩,
  ⟨0x68, [], 1, 31, 0, .ro, .full, 0, none⟩,
  ⟨0x6c, [], 1, 11, 10, .ro, .sys, 3, none⟩,
  ⟨0x6c, [], 1, 9, 0, .ro, .sys, 0, none⟩,
  ⟨0x400, [(0x60, 16)], 1, 31, 31, .rwl, .sys, 0, none⟩,
  ⟨0x400, [(0x60, 16)], 1, 30, 29, .rwl, .sys, 0, none⟩,
  ⟨0x400, [(0x60, 16)], 1, 28, 28, .rwl, .sys, 0, none⟩,
  ⟨0x400, [(0x60, 16)], 1, 12, 8, .rwl, .sys, 0, none⟩,
  ⟨0x400, [(0x60, 16)], 1, 7, 0, .rwl, .sys, 0, none⟩,
  ⟨0x404, [(0x60, 16)], 1, 31, 0, .rwl, .sys, 0, none⟩]
def pgEVR_1 : List FieldSpec := [
  ⟨0x420, [(0x60, 16), (4, 16)], 1, 31, 0, .rwl, .sys, 0, none⟩]
def pgEVR : List FieldSpec := pgEVR_0 ++ pgEVR_1

def pgUPD_0 : List FieldSpec := [
  ⟨0x40, [], 1, 31, 30, .ro, .sys, 0, none⟩,
  ⟨0x40, [], 1, 29, 29, .ro, .sys, 0, none⟩,
  ⟨0x40, [], 1, 28, 28, .ro, .bkp, 0, none⟩,
  ⟨0x40, [], 1, 27, 27, .w1c, .bkp, 0, none⟩,
  ⟨0x40, [], 1, 26, 26, .ro, .bkp, 0, none⟩,
  ⟨0x40, [], 1, 25, 25, .ro, .bkp, 0, none⟩,
  ⟨0x40, [], 1, 24, 24, .ro, .sys, 0, none⟩,
  ⟨0x40, [], 1, 23, 20, .ro, .sys, 0, none⟩,
  ⟨0x40, [], 1, 19, 16, .ro, .sys, 0, none⟩,
  ⟨0x40, [], 1, 15, 8, .ro, .sys, 0, none⟩,
  ⟨0x44, [], 1, 0, 0, .rwl, .sys, 1, none⟩,
  ⟨0x48, [], 1, 31, 0, .ro, .sys, 0, none⟩,
  ⟨0x4c, [], 1, 31, 0, .ro, .sys, 0, none⟩,
  ⟨0x50, [], 1, 31, 0, .ro, .sys, 0, none⟩,
  ⟨0x54, [], 1, 31, 0, .ro, .sys, 0, none⟩,
  ⟨0x58, [], 1, 31, 0, .ro, .bkp, 0, none⟩,
  ⟨0x5c, [], 1, 31, 0, .ro, .bkp, 0, none⟩,
  ⟨0x60, [], 1, 31, 0, .ro, .bkp, 0, none⟩]
def pgUPD : List FieldSpec := pgUPD_0

def pgKEY_0 : List FieldSpec := [
  ⟨0x40, [], 1, 0, 0, .rw, .full, 0, none⟩,
  ⟨0x44, [], 1, 31, 30, .ro, .full, 0, none⟩,
  ⟨0x44, [], 1, 29, 29, .ro, .full, 0, none⟩,
  ⟨0x44, [], 1, 11, 0, .ro, .full, 0, none⟩,
  ⟨0x48, [], 1, 11, 0, .ro, .full, 0, none⟩,
  ⟨0x4c, [], 1, 31, 0, .ro, .full, 0, none⟩,
  ⟨0x50, [], 1, 31, 0, .ro, .full, 0, none⟩,
  ⟨0x54, [], 1, 31, 0, .rc, .full, 0, none⟩,
  ⟨0x58, [], 1, 10, 0, .rw, .full, 0, none⟩,
  ⟨0x5c, [], 1, 31, 28, .ro, .full, 0, none⟩,
  ⟨0x5c, [], 1, 27, 26, .ro, .full, 0, none⟩,
  ⟨0x5c, [], 1, 25, 16, .ro, .full, 0, none⟩,
  ⟨0x5c, [], 1, 15, 9, .ro, .full, 0, none⟩,
  ⟨0x5c, [], 1, 8, 5, .ro, .full, 0, none⟩,
  ⟨0x60, [], 1, 10, 0, .ro, .full, 0, none⟩,
  ⟨0x64, [], 1, 31, 0, .ro, .full, 0, none⟩,
  ⟨0x68, [], 1, 31, 0, .ro, .full, 0, none⟩,
  ⟨0x6c, [], 1, 31, 0, .ro, .full, 0, none⟩,
  ⟨0x70, [], 1, 31, 0, .rc, .full, 0, none⟩,
  ⟨0x74, [], 1, 31, 0, .rc, .full, 0, none⟩]
def pgKEY_1 : List FieldSpec := [
  ⟨0x78, [], 1, 31, 0, .rwl, .full, 1000, (some (10, 5000))⟩,
  ⟨0x80, [(4, 12)], 1, 31, 0, .ro, .full, 0, none⟩]
def pgKEY : List FieldSpec := pgKEY_0 ++ pgKEY_1

def pgPGD_0 : List FieldSpec := [
  ⟨0x40, [], 1, 31, 31, .rwl, .app, 0, none⟩,
  ⟨0x40, [], 1, 30, 21, .rwl, .app, 0, none⟩,
  ⟨0x40, [], 1, 20, 14, .rwl, .app, 1, none⟩,
  ⟨0x40, [], 1, 13, 10, .rwl, .app, 15, none⟩,
  ⟨0x44, [], 1, 31, 0, .rc, .app, 0, none⟩,
  ⟨0x48, [], 1, 31, 0, .ro, .app, 0, none⟩,
  ⟨0x4c, [], 1, 31, 30, .ro, .app, 0, none⟩,
  ⟨0x4c, [], 1, 29, 20, .ro, .app, 0, none⟩,
  ⟨0x4c, [], 1, 9, 0, .ro, .app, 0, none⟩,
  ⟨0x60, [], 1, 8, 0, .rw, .app, 0, none⟩,
  ⟨0x64, [], 1, 31, 0, .ro, .app, 0, none⟩,
  ⟨0x68, [], 1, 31, 30, .ro, .app, 0, none⟩,
  ⟨0x68, [], 1, 29, 20, .ro, .app, 0, none⟩,
  ⟨0x68, [], 1, 19, 13, .ro, .app, 0, none⟩,
  ⟨0x68, [], 1, 12, 9, .ro, .app, 0, none⟩,
  ⟨0x68, [], 1, 8, 8, .ro, .app, 0, none⟩,
  ⟨0x6c, [], 1, 10, 0, .ro, .app, 0, none⟩,
  ⟨0x80, [], 1, 10, 0, .rw, .app, 0, none⟩,
  ⟨0x84, [], 1, 15, 0, .ro, .app, 0, none⟩,
  ⟨0x88, [(8, 16)], 1, 31, 0, .ro, .app, 0, none⟩]
def pgPGD_1 : List FieldSpec := [
  ⟨0x8c, [(8, 16)], 1, 7, 0, .ro, .app, 0, none⟩,
  ⟨0x400, [(0x30, 64)], 1, 31, 31, .rwl, .app, 0, none⟩,
  ⟨0x400, [(0x30, 64)], 1, 30, 30, .rwl, .app, 0, none⟩,
  ⟨0x400, [(0x30, 64)], 1, 29, 25, .rwl, .app, 0, (some (1, 16))⟩,
  ⟨0x400, [(0x30, 64)], 1, 8, 8, .ro, .app, 0, none⟩,
  ⟨0x400, [(0x30, 64)], 1, 7, 0, .rwl, .app, 0, none⟩,
  ⟨0x404, [(0x30, 64)], 1, 31, 0, .rwl, .app, 0, none⟩,
  ⟨0x410, [(0x30, 64), (4, 8)], 1, 30, 24, .rwl, .app, 0, none⟩,
  ⟨0x410, [(0x30, 64), (4, 8)], 1, 21, 11, .rwl, .app, 0, none⟩,
  ⟨0x410, [(0x30, 64), (4, 8)], 1, 10, 0, .rwl, .app, 0, none⟩]
def pgPGD : List FieldSpec := pgPGD_0 ++ pgPGD_1

def pgMAC_0 : List FieldSpec := [
  ⟨0x40, [], 1, 31, 31, .rwl, .sys, 0, none⟩,
  ⟨0x40, [], 1, 30, 30, .rwl, .sys, 0, none⟩,
  ⟨0x40, [], 1, 29, 29, .rwl, .sys, 0, none⟩,
  ⟨0x40, [], 1, 28, 28, .rwl, .sys, 1, none⟩,
  ⟨0x40, [], 1, 27, 26, .rwl, .sys, 0, none⟩,
  ⟨0x44, [], 1, 31, 31, .ro, .sys, 0, none⟩,
  ⟨0x44, [], 1, 30, 29, .ro, .sys, 0, none⟩,
  ⟨0x44, [], 1, 28, 28, .ro, .sys, 0, none⟩,
  ⟨0x44, [], 1, 23, 16, .ro, .sys, 0, none⟩,
  ⟨0x48, [], 2, 31, 0, .rwl, .sys, 0, none⟩,
  ⟨0x50, [], 1, 15, 0, .rwl, .sys, 2048, (some (256, 16384))⟩,
  ⟨0x100, [(0x10, 7)], 1, 31, 0, .rw, .sys, 0, none⟩,
  ⟨0x104, [(0x10, 7)], 1, 31, 31, .rw, .sys, 0, none⟩,
  ⟨0x104, [(0x10, 7)], 1, 12, 0, .rw, .sys, 0, none⟩,
  ⟨0x108, [(0x10, 7)], 1, 11, 0, .rw, .sys, 0, none⟩,
  ⟨0x10c, [(0x10, 7)], 1, 11, 0, .ro, .sys, 0, none⟩,
  ⟨0x180, [], 1, 31, 0, .rw, .sys, 0, none⟩,
  ⟨0x184, [], 1, 31, 31, .rw, .sys, 0, none⟩,
  ⟨0x184, [], 1, 12, 0, .rw, .sys, 0, none⟩,
  ⟨0x188, [], 1, 11, 0, .rw, .sys, 0, none⟩]
def pgMAC_1 : List FieldSpec := [
  ⟨0x18c, [], 1, 11, 0, .ro, .sys, 0, none⟩,
  ⟨0x200, [], 1, 0, 0, .wo, .none, 0, none⟩,
  ⟨0x204, [], 1, 31, 0, .rwl, .sys, 0, (some (0, 999999))⟩,
  ⟨0x240, [(4, 16)], 1, 31, 24, .rwl, .sys, 0, none⟩,
  ⟨0x240, [(4, 16)], 1, 19, 0, .rwl, .sys, 0, none⟩,
  ⟨0x280, [(4, 16)], 1, 31, 0, .ro, .sys, 0, none⟩,
  ⟨0x300, [(4, 16)], 1, 31, 0, .rw, .sys, 0, none⟩,
  ⟨0x400, [], 1, 31, 0, .rc, .sys, 0, none⟩,
  ⟨0x404, [], 2, 31, 0, .rc, .sys, 0, none⟩,
  ⟨0x40c, [], 1, 31, 0, .rc, .sys, 0, none⟩,
  ⟨0x410, [], 1, 31, 0, .rc, .sys, 0, none⟩,
  ⟨0x414, [], 1, 31, 0, .rc, .sys, 0, none⟩,
  ⟨0x418, [], 1, 31, 0, .rc, .sys, 0, none⟩,
  ⟨0x41c, [], 1, 31, 0, .rc, .sys, 0, none⟩,
  ⟨0x420, [], 1, 31, 0, .rc, .sys, 0, none⟩,
  ⟨0x424, [], 1, 31, 0, .rc, .sys, 0, none⟩,
  ⟨0x428, [], 2, 31, 0, .rc, .sys, 0, none⟩,
  ⟨0x430, [], 1, 31, 0, .rc, .sys, 0, none⟩,
  ⟨0x434, [], 1, 31, 0, .rc, .sys, 0, none⟩,
  ⟨0x438, [], 1, 31, 0, .rc, .sys, 0, none⟩]
def pgMAC_2 : List FieldSpec := [
  ⟨0x500, [], 1, 31, 16, .rwl, .sys, 60, (some (1, 3600))⟩,
  ⟨0x500, [], 1, 15, 0, .rwl, .sys, 400, (some (10, 1000))⟩,
  ⟨0x504, [], 1, 31, 0, .rwl, .sys, 2000, (some (100, 10000))⟩,
  ⟨0x508, [], 1, 31, 31, .ro, .sys, 0, none⟩,
  ⟨0x508, [], 1, 9, 0, .ro, .sys, 0, none⟩,
  ⟨0x510, [], 1, 31, 0, .rc, .sys, 0, none⟩,
  ⟨0x514, [], 1, 31, 0, .rc, .sys, 0, none⟩,
  ⟨0x518, [], 1, 31, 0, .rc, .sys, 0, none⟩]
def pgMAC : List FieldSpec := pgMAC_0 ++ pgMAC_1 ++ pgMAC_2

def pgTWN_0 : List FieldSpec := [
  ⟨0x40, [], 1, 31, 31, .rwl, .sys, 0, none⟩,
  ⟨0x40, [], 1, 30, 30, .rwl, .sys, 0, none⟩,
  ⟨0x40, [], 1, 29, 29, .rwl, .sys, 1, none⟩,
  ⟨0x44, [], 1, 31, 0, .rwl, .sys, 0, none⟩,
  ⟨0x48, [], 1, 31, 16, .rwl, .sys, 500, (some (250, 5000))⟩,
  ⟨0x48, [], 1, 15, 0, .rwl, .sys, 2000, (some (500, 10000))⟩,
  ⟨0x4c, [], 1, 31, 0, .rwl, .sys, 30, (some (5, 600))⟩,
  ⟨0x50, [], 2, 31, 0, .rwl, .sys, 0, none⟩,
  ⟨0x58, [], 1, 1, 0, .wo, .none, 0, none⟩,
  ⟨0x5c, [], 1, 31, 30, .ro, .sys, 0, none⟩,
  ⟨0x5c, [], 1, 29, 29, .ro, .sys, 0, none⟩,
  ⟨0x5c, [], 1, 28, 28, .ro, .sys, 0, none⟩,
  ⟨0x5c, [], 1, 27, 27, .ro, .sys, 0, none⟩,
  ⟨0x5c, [], 1, 26, 26, .ro, .sys, 0, none⟩,
  ⟨0x5c, [], 1, 25, 25, .ro, .sys, 0, none⟩,
  ⟨0x5c, [], 1, 24, 24, .ro, .sys, 0, none⟩,
  ⟨0x5c, [], 1, 23, 20, .ro, .sys, 0, none⟩,
  ⟨0x5c, [], 1, 19, 16, .ro, .sys, 0, none⟩,
  ⟨0x60, [], 2, 31, 0, .ro, .sys, 0, none⟩,
  ⟨0x68, [], 1, 31, 0, .rc, .sys, 0, none⟩]
def pgTWN_1 : List FieldSpec := [
  ⟨0x6c, [], 1, 31, 0, .rc, .sys, 0, none⟩,
  ⟨0x70, [], 1, 12, 0, .ro, .sys, 0, none⟩,
  ⟨0x74, [], 1, 31, 0, .rc, .sys, 0, none⟩,
  ⟨0x78, [], 1, 31, 0, .rc, .sys, 0, none⟩,
  ⟨0x7c, [], 1, 31, 0, .rc, .sys, 0, none⟩,
  ⟨0x80, [], 1, 31, 0, .ro, .sys, 0, none⟩,
  ⟨0x84, [], 1, 31, 0, .ro, .sys, 0, none⟩,
  ⟨0x88, [], 1, 3, 0, .ro, .sys, 0, none⟩,
  ⟨0x90, [(4, 12)], 1, 31, 0, .ro, .sys, 0, none⟩]
def pgTWN : List FieldSpec := pgTWN_0 ++ pgTWN_1

def pgCAN_0 : List FieldSpec := [
  ⟨0x40, [], 1, 11, 4, .rwl, .sys, 255, none⟩,
  ⟨0x40, [], 1, 3, 0, .rwl, .sys, 15, none⟩,
  ⟨0x44, [], 1, 11, 4, .ro, .sys, 0, none⟩,
  ⟨0x44, [], 1, 3, 0, .ro, .sys, 0, none⟩,
  ⟨0x48, [], 1, 11, 8, .ro, .sys, 0, none⟩,
  ⟨0x48, [], 1, 7, 4, .ro, .sys, 0, none⟩,
  ⟨0x48, [], 1, 3, 0, .ro, .sys, 0, none⟩]
def pgCAN : List FieldSpec := pgCAN_0

def pgCANCH_0 : List FieldSpec := [
  ⟨0x40, [], 1, 11, 8, .rwl, .sys, 15, none⟩,
  ⟨0x40, [], 1, 3, 3, .rwl, .sys, 0, none⟩,
  ⟨0x40, [], 1, 2, 2, .rwl, .sys, 1, none⟩,
  ⟨0x40, [], 1, 1, 1, .rw, .sys, 1, none⟩,
  ⟨0x40, [], 1, 0, 0, .rwl, .sys, 1, none⟩,
  ⟨0x44, [], 1, 31, 23, .rwl, .sys, 1, none⟩,
  ⟨0x44, [], 1, 22, 15, .rwl, .sys, 62, (some (1, 255))⟩,
  ⟨0x44, [], 1, 14, 8, .rwl, .sys, 15, none⟩,
  ⟨0x44, [], 1, 6, 0, .rwl, .sys, 15, none⟩,
  ⟨0x48, [], 1, 31, 27, .rwl, .sys, 0, none⟩,
  ⟨0x48, [], 1, 20, 16, .rwl, .sys, 10, none⟩,
  ⟨0x48, [], 1, 11, 8, .rwl, .sys, 3, none⟩,
  ⟨0x48, [], 1, 3, 0, .rwl, .sys, 3, none⟩,
  ⟨0x4c, [], 1, 31, 31, .rwl, .sys, 1, none⟩,
  ⟨0x4c, [], 1, 14, 8, .rwl, .sys, 12, none⟩,
  ⟨0x4c, [], 1, 6, 0, .ro, .sys, 0, none⟩,
  ⟨0x50, [], 1, 2, 0, .wo, .none, 0, none⟩,
  ⟨0x54, [], 1, 31, 29, .ro, .sys, 0, none⟩,
  ⟨0x54, [], 1, 15, 8, .ro, .sys, 0, none⟩,
  ⟨0x54, [], 1, 7, 0, .ro, .sys, 0, none⟩]
def pgCANCH_1 : List FieldSpec := [
  ⟨0x58, [], 1, 31, 0, .ro, .sys, 0, none⟩,
  ⟨0x5c, [], 1, 21, 16, .ro, .sys, 0, none⟩,
  ⟨0x5c, [], 1, 6, 0, .ro, .sys, 0, none⟩,
  ⟨0x60, [], 1, 6, 0, .wo, .none, 0, none⟩,
  ⟨0x64, [], 1, 5, 0, .rw, .sys, 0, none⟩,
  ⟨0x68, [], 1, 5, 0, .ro, .sys, 0, none⟩,
  ⟨0x6c, [], 1, 31, 0, .rwl, .sys, 100, (some (10, 10000))⟩,
  ⟨0x70, [], 1, 31, 0, .rwl, .sys, 0, none⟩,
  ⟨0x74, [], 1, 31, 0, .rwl, .sys, 0, none⟩,
  ⟨0x78, [], 1, 31, 0, .rwl, .sys, 100, (some (0, 10000))⟩,
  ⟨0x7c, [], 1, 3, 0, .rwl, .sys, 0, none⟩,
  ⟨0x80, [], 2, 31, 0, .rwl, .sys, 0, none⟩,
  ⟨0x88, [(4, 4)], 1, 31, 0, .rwl, .sys, 0, none⟩,
  ⟨0x98, [(4, 4)], 1, 31, 0, .ro, .sys, 0, none⟩,
  ⟨0xa8, [], 1, 31, 0, .rc, .sys, 0, none⟩,
  ⟨0xac, [], 1, 31, 0, .rc, .sys, 0, none⟩,
  ⟨0xb0, [], 1, 31, 0, .rc, .sys, 0, none⟩,
  ⟨0xb4, [], 1, 31, 0, .rc, .sys, 0, none⟩,
  ⟨0xb8, [], 1, 31, 0, .rc, .sys, 0, none⟩,
  ⟨0xbc, [], 1, 31, 0, .rc, .sys, 0, none⟩]
def pgCANCH_2 : List FieldSpec := [
  ⟨0xc0, [], 1, 31, 0, .rc, .sys, 0, none⟩,
  ⟨0xc4, [], 1, 31, 0, .rc, .sys, 0, none⟩,
  ⟨0x100, [(8, 32)], 1, 31, 31, .rwl, .sys, 0, none⟩,
  ⟨0x100, [(8, 32)], 1, 30, 30, .rwl, .sys, 0, none⟩,
  ⟨0x100, [(8, 32)], 1, 28, 0, .rwl, .sys, 0, none⟩,
  ⟨0x104, [(8, 32)], 1, 28, 0, .rwl, .sys, 0, none⟩,
  ⟨0x200, [], 1, 31, 31, .ro, .sys, 0, none⟩,
  ⟨0x200, [], 1, 30, 30, .ro, .sys, 0, none⟩,
  ⟨0x200, [], 1, 29, 29, .ro, .sys, 0, none⟩,
  ⟨0x200, [], 1, 28, 28, .ro, .sys, 0, none⟩,
  ⟨0x200, [], 1, 27, 27, .ro, .sys, 0, none⟩,
  ⟨0x200, [], 1, 26, 22, .ro, .sys, 0, none⟩,
  ⟨0x200, [], 1, 3, 0, .ro, .sys, 0, none⟩,
  ⟨0x204, [], 1, 28, 0, .ro, .sys, 0, none⟩,
  ⟨0x208, [], 2, 31, 0, .ro, .sys, 0, none⟩,
  ⟨0x210, [], 2, 31, 0, .ro, .sys, 0, none⟩,
  ⟨0x218, [(4, 16)], 1, 31, 0, .ro, .sys, 0, none⟩,
  ⟨0x300, [], 1, 31, 31, .rw, .sys, 0, none⟩,
  ⟨0x300, [], 1, 30, 30, .rw, .sys, 0, none⟩,
  ⟨0x300, [], 1, 29, 29, .rw, .sys, 0, none⟩]
def pgCANCH_3 : List FieldSpec := [
  ⟨0x300, [], 1, 3, 0, .rw, .sys, 0, none⟩,
  ⟨0x304, [], 1, 28, 0, .rw, .sys, 0, none⟩,
  ⟨0x308, [(4, 16)], 1, 31, 0, .rw, .sys, 0, none⟩]
def pgCANCH : List FieldSpec := pgCANCH_0 ++ pgCANCH_1 ++ pgCANCH_2 ++ pgCANCH_3

def pgSCN_0 : List FieldSpec := [
  ⟨0x40, [], 1, 7, 7, .rwl, .app, 0, none⟩,
  ⟨0x40, [], 1, 6, 6, .rwl, .app, 1, none⟩,
  ⟨0x40, [], 1, 5, 5, .rwl, .app, 1, none⟩,
  ⟨0x44, [], 1, 3, 0, .wo, .none, 0, none⟩,
  ⟨0x48, [], 1, 31, 24, .ro, .app, 0, none⟩,
  ⟨0x48, [], 1, 23, 20, .ro, .app, 0, none⟩,
  ⟨0x48, [], 1, 15, 15, .ro, .app, 0, none⟩,
  ⟨0x48, [], 1, 14, 14, .ro, .app, 0, none⟩,
  ⟨0x48, [], 1, 13, 13, .ro, .app, 0, none⟩,
  ⟨0x48, [], 1, 12, 12, .ro, .app, 0, none⟩,
  ⟨0x48, [], 1, 11, 11, .ro, .app, 0, none⟩,
  ⟨0x48, [], 1, 10, 10, .ro, .app, 0, none⟩,
  ⟨0x48, [], 1, 9, 9, .ro, .app, 0, none⟩,
  ⟨0x48, [], 1, 3, 2, .ro, .app, 0, none⟩,
  ⟨0x48, [], 1, 1, 0, .ro, .app, 0, none⟩,
  ⟨0x4c, [], 1, 31, 0, .rwl, .app, 10000, (some (250, 1000000))⟩,
  ⟨0x50, [], 1, 31, 0, .rwl, .app, 0, none⟩,
  ⟨0x54, [], 1, 15, 8, .rwl, .app, 0, none⟩,
  ⟨0x54, [], 1, 7, 0, .rwl, .app, 80, (some (10, 100))⟩,
  ⟨0x58, [], 1, 31, 0, .rwl, .app, 500000, (some (1000, 2000000))⟩]
def pgSCN_1 : List FieldSpec := [
  ⟨0x5c, [], 1, 31, 0, .rwl, .app, 10, (some (1, 3600))⟩,
  ⟨0x60, [], 1, 31, 0, .rwl, .app, 100, (some (20, 10000))⟩,
  ⟨0x64, [], 1, 31, 31, .rw, .app, 0, none⟩,
  ⟨0x64, [], 1, 17, 0, .rw, .app, 0, none⟩,
  ⟨0x68, [], 1, 17, 0, .ro, .app, 0, none⟩,
  ⟨0x6c, [], 1, 31, 0, .ro, .app, 0, none⟩,
  ⟨0x70, [], 1, 31, 0, .rc, .app, 0, none⟩,
  ⟨0x74, [], 1, 31, 0, .ro, .app, 0, none⟩,
  ⟨0x78, [], 2, 31, 0, .ro, .app, 0, none⟩,
  ⟨0x80, [], 1, 31, 0, .rc, .app, 0, none⟩,
  ⟨0x84, [], 1, 31, 0, .rc, .app, 0, none⟩,
  ⟨0x88, [], 1, 31, 0, .rc, .app, 0, none⟩,
  ⟨0x8c, [], 1, 31, 0, .rc, .app, 0, none⟩,
  ⟨0x90, [], 1, 31, 0, .rc, .app, 0, none⟩,
  ⟨0x94, [], 1, 31, 0, .ro, .full, 0, none⟩,
  ⟨0x98, [], 1, 31, 0, .ro, .app, 0, none⟩,
  ⟨0x9c, [], 1, 29, 16, .ro, .app, 0, none⟩,
  ⟨0x9c, [], 1, 13, 0, .ro, .app, 0, none⟩,
  ⟨0xa0, [], 1, 31, 0, .ro, .app, 0, none⟩,
  ⟨0xa4, [], 1, 2, 0, .ro, .app, 0, none⟩]
def pgSCN_2 : List FieldSpec := [
  ⟨0x800, [(0x10, 128)], 1, 31, 0, .rwl, .app, 0, none⟩,
  ⟨0x804, [(0x10, 128)], 1, 31, 31, .rwl, .app, 0, none⟩,
  ⟨0x804, [(0x10, 128)], 1, 30, 30, .ro, .app, 0, none⟩,
  ⟨0x804, [(0x10, 128)], 1, 29, 28, .ro, .app, 0, none⟩,
  ⟨0x804, [(0x10, 128)], 1, 23, 16, .rwl, .app, 0, none⟩,
  ⟨0x804, [(0x10, 128)], 1, 15, 0, .rwl, .app, 0, none⟩,
  ⟨0x808, [(0x10, 128)], 1, 31, 0, .rwl, .app, 0, none⟩]
def pgSCN : List FieldSpec := pgSCN_0 ++ pgSCN_1 ++ pgSCN_2

def pgLPE_0 : List FieldSpec := [
  ⟨0x40, [], 1, 31, 31, .wo, .none, 0, none⟩,
  ⟨0x40, [], 1, 30, 30, .wo, .none, 0, none⟩,
  ⟨0x40, [], 1, 7, 0, .wo, .none, 0, none⟩,
  ⟨0x44, [], 1, 9, 8, .wo, .none, 0, none⟩,
  ⟨0x44, [], 1, 7, 0, .wo, .none, 0, none⟩,
  ⟨0x48, [], 1, 15, 8, .ro, .app, 0, none⟩,
  ⟨0x48, [], 1, 7, 0, .ro, .app, 0, none⟩,
  ⟨0x4c, [], 1, 15, 0, .ro, .app, 0, none⟩,
  ⟨0x50, [], 1, 31, 0, .rc, .app, 0, none⟩,
  ⟨0x54, [], 2, 31, 0, .ro, .app, 0, none⟩,
  ⟨0x5c, [], 1, 8, 0, .ro, .app, 0, none⟩,
  ⟨0x60, [(4, 8)], 1, 31, 0, .ro, .app, 0, none⟩,
  ⟨0x80, [(4, 8)], 1, 31, 0, .ro, .app, 0, none⟩,
  ⟨0xa0, [(4, 8)], 1, 31, 0, .ro, .app, 0, none⟩]
def pgLPE : List FieldSpec := pgLPE_0

def pgMOT_0 : List FieldSpec := [
  ⟨0x40, [], 1, 12, 0, .rwl, .app, 3072, (some (0, 4096))⟩,
  ⟨0x44, [], 1, 12, 0, .ro, .app, 0, none⟩,
  ⟨0x48, [], 1, 23, 0, .ro, .app, 0, none⟩,
  ⟨0x4c, [], 1, 23, 0, .ro, .app, 0, none⟩,
  ⟨0x50, [], 1, 23, 0, .ro, .app, 0, none⟩,
  ⟨0x54, [], 1, 31, 31, .wo, .none, 0, none⟩,
  ⟨0x54, [], 1, 23, 0, .wo, .none, 0, none⟩,
  ⟨0x58, [], 1, 31, 0, .rc, .app, 0, none⟩,
  ⟨0x5c, [], 1, 31, 0, .rc, .app, 0, none⟩,
  ⟨0x60, [(4, 8)], 1, 23, 0, .rwl, .app, 0, none⟩,
  ⟨0x80, [], 1, 7, 4, .wo, .none, 0, none⟩,
  ⟨0x80, [], 1, 2, 0, .wo, .none, 0, none⟩,
  ⟨0x84, [], 1, 23, 0, .ro, .app, 0, none⟩]
def pgMOT : List FieldSpec := pgMOT_0

def pgANG_0 : List FieldSpec := [
  ⟨0x40, [], 1, 31, 16, .rwl, .app, 2000, (some (250, 50000))⟩,
  ⟨0x40, [], 1, 0, 0, .rwl, .app, 1, none⟩,
  ⟨0x44, [], 2, 31, 0, .ro, .sys, 0, none⟩,
  ⟨0x4c, [], 1, 31, 16, .ro, .app, 0, none⟩,
  ⟨0x4c, [], 1, 1, 1, .ro, .app, 0, none⟩,
  ⟨0x4c, [], 1, 0, 0, .ro, .app, 0, none⟩,
  ⟨0x50, [], 2, 31, 0, .ro, .app, 0, none⟩,
  ⟨0x58, [], 1, 31, 16, .ro, .app, 0, none⟩,
  ⟨0x58, [], 1, 1, 1, .ro, .app, 0, none⟩,
  ⟨0x58, [], 1, 0, 0, .ro, .app, 0, none⟩,
  ⟨0x5c, [], 2, 31, 0, .ro, .app, 0, none⟩,
  ⟨0x64, [], 1, 7, 0, .ro, .app, 0, none⟩,
  ⟨0x68, [], 1, 26, 16, .ro, .app, 0, none⟩,
  ⟨0x68, [], 1, 10, 0, .ro, .app, 0, none⟩,
  ⟨0x6c, [], 1, 31, 0, .rc, .app, 0, none⟩,
  ⟨0x70, [], 1, 31, 0, .rc, .app, 0, none⟩,
  ⟨0x74, [], 1, 31, 0, .rc, .sys, 0, none⟩,
  ⟨0x78, [], 1, 31, 0, .rc, .app, 0, none⟩,
  ⟨0x80, [], 1, 15, 12, .ro, .app, 0, none⟩,
  ⟨0x80, [], 1, 9, 0, .ro, .app, 0, none⟩]
def pgANG_1 : List FieldSpec := [
  ⟨0x84, [], 2, 31, 0, .ro, .app, 0, none⟩,
  ⟨0x8c, [], 2, 31, 0, .ro, .app, 0, none⟩,
  ⟨0x94, [], 1, 6, 0, .ro, .app, 0, none⟩,
  ⟨0x98, [], 1, 31, 0, .rc, .app, 0, none⟩,
  ⟨0x100, [(0x80, 4), (4, 8)], 1, 31, 0, .rwl, .app, 0, none⟩,
  ⟨0x120, [(0x80, 4), (4, 8)], 1, 31, 0, .ro, .app, 0, none⟩,
  ⟨0x140, [(0x80, 4)], 2, 31, 0, .ro, .app, 0, none⟩,
  ⟨0x148, [(0x80, 4)], 2, 31, 0, .ro, .app, 0, none⟩,
  ⟨0x150, [(0x80, 4)], 1, 31, 16, .ro, .app, 0, none⟩,
  ⟨0x150, [(0x80, 4)], 1, 0, 0, .ro, .app, 0, none⟩,
  ⟨0x400, [(4, 256)], 1, 31, 31, .rwl, .app, 0, none⟩,
  ⟨0x400, [(4, 256)], 1, 30, 29, .rwl, .app, 0, none⟩,
  ⟨0x400, [(4, 256)], 1, 28, 28, .ro, .app, 0, none⟩,
  ⟨0x400, [(4, 256)], 1, 27, 27, .ro, .app, 0, none⟩,
  ⟨0x400, [(4, 256)], 1, 23, 16, .rwl, .app, 0, none⟩,
  ⟨0x400, [(4, 256)], 1, 15, 10, .rwl, .app, 0, none⟩,
  ⟨0x800, [(8, 256)], 1, 31, 16, .rwl, .app, 0, none⟩,
  ⟨0x800, [(8, 256)], 1, 15, 0, .rwl, .app, 0, none⟩,
  ⟨0x804, [(8, 256)], 1, 31, 16, .rwl, .app, 0, none⟩,
  ⟨0x804, [(8, 256)], 1, 15, 0, .rwl, .app, 0, none⟩]
def pgANG : List FieldSpec := pgANG_0 ++ pgANG_1

def pgMTR_0 : List FieldSpec := [
  ⟨0x40, [], 1, 23, 16, .rwl, .full, 15, none⟩,
  ⟨0x40, [], 1, 9, 8, .rwl, .full, 0, none⟩,
  ⟨0x40, [], 1, 0, 0, .rwl, .full, 1, none⟩,
  ⟨0x44, [], 1, 31, 0, .rwl, .full, 45000, (some (2700, 234000))⟩,
  ⟨0x48, [], 1, 15, 15, .ro, .full, 0, none⟩,
  ⟨0x48, [], 1, 14, 14, .ro, .full, 0, none⟩,
  ⟨0x48, [], 1, 13, 13, .ro, .full, 0, none⟩,
  ⟨0x48, [], 1, 12, 12, .ro, .full, 0, none⟩,
  ⟨0x48, [], 1, 11, 10, .ro, .full, 0, none⟩,
  ⟨0x48, [], 1, 9, 9, .ro, .full, 0, none⟩,
  ⟨0x48, [], 1, 8, 8, .ro, .full, 0, none⟩,
  ⟨0x48, [], 1, 7, 4, .ro, .full, 0, none⟩,
  ⟨0x4c, [], 1, 31, 0, .ro, .full, 0, none⟩,
  ⟨0x50, [], 2, 31, 0, .ro, .full, 0, none⟩,
  ⟨0x58, [], 1, 31, 0, .ro, .full, 0, none⟩,
  ⟨0x5c, [], 1, 31, 0, .rc, .full, 0, none⟩,
  ⟨0x60, [], 2, 31, 0, .ro, .full, 0, none⟩,
  ⟨0x68, [], 1, 31, 0, .ro, .full, 0, none⟩,
  ⟨0x6c, [], 1, 31, 0, .ro, .full, 0, none⟩,
  ⟨0x70, [], 2, 31, 0, .ro, .full, 0, none⟩]
def pgMTR_1 : List FieldSpec := [
  ⟨0x78, [], 2, 31, 0, .ro, .full, 0, none⟩,
  ⟨0x80, [], 1, 3, 3, .ro, .full, 0, none⟩,
  ⟨0x80, [], 1, 2, 2, .ro, .full, 0, none⟩,
  ⟨0x80, [], 1, 1, 1, .ro, .full, 0, none⟩,
  ⟨0x80, [], 1, 0, 0, .ro, .full, 0, none⟩,
  ⟨0x84, [], 1, 31, 0, .ro, .full, 0, none⟩,
  ⟨0x88, [], 1, 31, 0, .ro, .full, 0, none⟩,
  ⟨0x8c, [], 1, 31, 0, .rc, .full, 0, none⟩,
  ⟨0x90, [(4, 6)], 1, 31, 0, .ro, .full, 0, none⟩,
  ⟨0x100, [(8, 48)], 1, 31, 30, .rwl, .full, 0, none⟩,
  ⟨0x100, [(8, 48)], 1, 29, 29, .rwl, .full, 0, none⟩,
  ⟨0x100, [(8, 48)], 1, 26, 16, .rwl, .full, 0, (some (1, 2047))⟩,
  ⟨0x100, [(8, 48)], 1, 15, 0, .rwl, .full, 100, (some (1, 6000))⟩,
  ⟨0x104, [(8, 48)], 1, 31, 16, .rwl, .full, 0, none⟩,
  ⟨0x104, [(8, 48)], 1, 15, 0, .rwl, .full, 0, none⟩,
  ⟨0x280, [(0x10, 8)], 1, 31, 31, .rwl, .full, 0, none⟩,
  ⟨0x280, [(0x10, 8)], 1, 30, 30, .rwl, .full, 0, none⟩,
  ⟨0x284, [(0x10, 8)], 1, 31, 0, .rwl, .full, 0, none⟩,
  ⟨0x288, [(0x10, 8)], 1, 31, 16, .rwl, .full, 0, none⟩,
  ⟨0x288, [(0x10, 8)], 1, 15, 0, .rwl, .full, 0, none⟩]
def pgMTR_2 : List FieldSpec := [
  ⟨0x28c, [(0x10, 8)], 1, 31, 0, .rwl, .full, 0, none⟩,
  ⟨0x400, [(0x60, 8), (0xc, 8)], 3, 31, 0, .ro, .full, 0, none⟩]
def pgMTR : List FieldSpec := pgMTR_0 ++ pgMTR_1 ++ pgMTR_2

def pgFIO_0 : List FieldSpec := [
  ⟨0x40, [], 1, 31, 16, .rwl, .sys, 400, (some (100, 1000))⟩,
  ⟨0x40, [], 1, 1, 1, .wo, .none, 0, none⟩,
  ⟨0x40, [], 1, 0, 0, .ro, .sys, 0, none⟩,
  ⟨0x44, [], 1, 23, 16, .ro, .sys, 0, none⟩,
  ⟨0x44, [], 1, 15, 8, .ro, .sys, 0, none⟩,
  ⟨0x44, [], 1, 7, 0, .ro, .sys, 0, none⟩,
  ⟨0x48, [], 1, 31, 0, .ro, .sys, 0, none⟩,
  ⟨0x80, [(4, 8)], 1, 31, 0, .ro, .sys, 0, none⟩,
  ⟨0xa0, [(4, 8)], 1, 31, 0, .rw, .sys, 0, none⟩]
def pgFIO : List FieldSpec := pgFIO_0

def pgSAF_0 : List FieldSpec := [
  ⟨0x40, [], 1, 31, 29, .ro, .full, 0, none⟩,
  ⟨0x40, [], 1, 28, 28, .ro, .full, 0, none⟩,
  ⟨0x40, [], 1, 27, 27, .ro, .full, 0, none⟩,
  ⟨0x40, [], 1, 26, 26, .ro, .full, 0, none⟩,
  ⟨0x40, [], 1, 25, 25, .ro, .full, 0, none⟩,
  ⟨0x40, [], 1, 24, 24, .ro, .full, 0, none⟩,
  ⟨0x40, [], 1, 23, 23, .ro, .full, 0, none⟩,
  ⟨0x40, [], 1, 22, 22, .ro, .full, 0, none⟩,
  ⟨0x40, [], 1, 19, 16, .ro, .full, 0, none⟩,
  ⟨0x40, [], 1, 15, 8, .ro, .full, 0, none⟩,
  ⟨0x40, [], 1, 7, 0, .ro, .full, 0, none⟩,
  ⟨0x44, [], 1, 31, 24, .ro, .full, 0, none⟩,
  ⟨0x44, [], 1, 23, 16, .ro, .full, 0, none⟩,
  ⟨0x44, [], 1, 15, 8, .ro, .full, 0, none⟩,
  ⟨0x44, [], 1, 7, 0, .ro, .full, 0, none⟩,
  ⟨0x48, [], 1, 31, 24, .ro, .full, 0, none⟩,
  ⟨0x48, [], 1, 23, 16, .ro, .full, 0, none⟩,
  ⟨0x48, [], 1, 15, 8, .ro, .full, 0, none⟩,
  ⟨0x48, [], 1, 7, 0, .ro, .full, 0, none⟩,
  ⟨0x4c, [], 2, 31, 0, .ro, .full, 0, none⟩]
def pgSAF_1 : List FieldSpec := [
  ⟨0x54, [], 2, 31, 0, .ro, .full, 0, none⟩,
  ⟨0x5c, [], 2, 31, 0, .ro, .full, 0, none⟩,
  ⟨0x64, [], 1, 31, 28, .ro, .full, 0, none⟩,
  ⟨0x64, [], 1, 27, 24, .ro, .full, 0, none⟩,
  ⟨0x64, [], 1, 23, 16, .ro, .full, 0, none⟩,
  ⟨0x68, [], 2, 31, 0, .ro, .full, 0, none⟩,
  ⟨0x70, [], 1, 31, 0, .rc, .full, 0, none⟩,
  ⟨0x74, [], 1, 31, 0, .rc, .full, 0, none⟩,
  ⟨0x78, [], 1, 31, 0, .rc, .full, 0, none⟩,
  ⟨0x7c, [], 1, 31, 0, .ro, .full, 0, none⟩,
  ⟨0x80, [(4, 8)], 1, 31, 16, .ro, .full, 0, none⟩,
  ⟨0x80, [(4, 8)], 1, 15, 0, .ro, .full, 0, none⟩,
  ⟨0xa0, [], 1, 31, 0, .ro, .full, 0, none⟩,
  ⟨0x100, [(0x10, 16)], 1, 31, 30, .ro, .full, 0, none⟩,
  ⟨0x100, [(0x10, 16)], 1, 29, 29, .ro, .full, 0, none⟩,
  ⟨0x100, [(0x10, 16)], 1, 28, 28, .ro, .full, 0, none⟩,
  ⟨0x104, [(0x10, 16)], 2, 31, 0, .ro, .full, 0, none⟩,
  ⟨0x10c, [(0x10, 16)], 1, 31, 0, .rc, .full, 0, none⟩,
  ⟨0x400, [(4, 64)], 1, 31, 28, .rwl, .full, 0, none⟩,
  ⟨0x400, [(4, 64)], 1, 27, 25, .rwl, .full, 0, none⟩]
def pgSAF_2 : List FieldSpec := [
  ⟨0x400, [(4, 64)], 1, 24, 24, .rwl, .full, 0, none⟩,
  ⟨0x400, [(4, 64)], 1, 23, 23, .rwl, .full, 0, none⟩,
  ⟨0x400, [(4, 64)], 1, 22, 20, .rwl, .full, 0, none⟩,
  ⟨0x400, [(4, 64)], 1, 15, 0, .rwl, .full, 0, none⟩,
  ⟨0x500, [(4, 64)], 1, 31, 28, .rwl, .full, 0, none⟩,
  ⟨0x500, [(4, 64)], 1, 27, 25, .rwl, .full, 0, none⟩,
  ⟨0x500, [(4, 64)], 1, 24, 24, .rwl, .full, 0, none⟩,
  ⟨0x500, [(4, 64)], 1, 23, 20, .rwl, .full, 0, none⟩,
  ⟨0x500, [(4, 64)], 1, 19, 14, .rwl, .full, 0, none⟩,
  ⟨0x600, [(0x10, 8)], 1, 31, 16, .rwl, .full, 2000, (some (200, 4000))⟩,
  ⟨0x600, [(0x10, 8)], 1, 15, 0, .rwl, .full, 500, (some (50, 2000))⟩,
  ⟨0x604, [(0x10, 8)], 1, 31, 0, .rwl, .full, 0, (some (0, 4096000))⟩,
  ⟨0x608, [(0x10, 8)], 1, 31, 0, .rwl, .full, 0, (some (0, 1536000))⟩,
  ⟨0x60c, [(0x10, 8)], 1, 31, 31, .rwl, .full, 0, none⟩,
  ⟨0x60c, [(0x10, 8)], 1, 30, 30, .rwl, .full, 0, none⟩,
  ⟨0x60c, [(0x10, 8)], 1, 15, 0, .rwl, .full, 5000, none⟩,
  ⟨0x700, [(0x10, 16)], 1, 31, 31, .rwl, .full, 0, none⟩,
  ⟨0x700, [(0x10, 16)], 1, 15, 0, .rwl, .full, 20, (some (3, 1000))⟩,
  ⟨0x704, [(0x10, 16)], 1, 31, 0, .rwl, .full, 0, none⟩,
  ⟨0x708, [(0x10, 16)], 1, 31, 0, .rwl, .full, 0, none⟩]
def pgSAF_3 : List FieldSpec := [
  ⟨0x70c, [(0x10, 16)], 1, 31, 0, .rwl, .full, 0, none⟩]
def pgSAF : List FieldSpec := pgSAF_0 ++ pgSAF_1 ++ pgSAF_2 ++ pgSAF_3

def pgLFT_0 : List FieldSpec := [
  ⟨0x40, [], 1, 23, 16, .rwl, .app, 160, (some (1, 160))⟩,
  ⟨0x40, [], 1, 8, 8, .rwl, .app, 1, none⟩,
  ⟨0x40, [], 1, 7, 0, .rwl, .app, 0, none⟩,
  ⟨0x44, [], 1, 8, 8, .ro, .app, 0, none⟩,
  ⟨0x44, [], 1, 7, 0, .ro, .app, 0, none⟩,
  ⟨0x48, [], 1, 31, 0, .rwl, .app, 30, (some (5, 30))⟩,
  ⟨0x4c, [], 1, 31, 16, .rwl, .app, 300, (some (0, 2000))⟩,
  ⟨0x4c, [], 1, 15, 0, .rwl, .app, 4000, (some (1000, 10000))⟩,
  ⟨0x50, [], 1, 31, 16, .rwl, .app, 256, none⟩,
  ⟨0x50, [], 1, 15, 0, .rwl, .app, 128, none⟩,
  ⟨0x54, [], 1, 31, 16, .rwl, .app, 512, none⟩,
  ⟨0x58, [], 1, 12, 0, .ro, .app, 0, none⟩,
  ⟨0x5c, [], 1, 31, 0, .rc, .app, 0, none⟩,
  ⟨0x60, [], 1, 31, 0, .rc, .app, 0, none⟩,
  ⟨0x64, [], 1, 31, 0, .rc, .app, 0, none⟩,
  ⟨0x68, [], 1, 31, 0, .rc, .app, 0, none⟩,
  ⟨0x6c, [], 1, 31, 0, .rc, .app, 0, none⟩,
  ⟨0x70, [], 2, 31, 0, .ro, .app, 0, none⟩,
  ⟨0x80, [], 1, 11, 0, .rw, .app, 0, none⟩,
  ⟨0x84, [], 1, 31, 29, .ro, .app, 0, none⟩]
def pgLFT_1 : List FieldSpec := [
  ⟨0x84, [], 1, 28, 27, .ro, .app, 0, none⟩,
  ⟨0x84, [], 1, 26, 26, .ro, .app, 0, none⟩,
  ⟨0x84, [], 1, 25, 25, .ro, .app, 0, none⟩,
  ⟨0x84, [], 1, 24, 24, .ro, .app, 0, none⟩,
  ⟨0x84, [], 1, 23, 16, .ro, .app, 0, none⟩,
  ⟨0x84, [], 1, 15, 8, .ro, .app, 0, none⟩,
  ⟨0x84, [], 1, 7, 4, .ro, .app, 0, none⟩,
  ⟨0x84, [], 1, 3, 0, .ro, .app, 0, none⟩,
  ⟨0x88, [], 1, 31, 16, .ro, .app, 0, none⟩,
  ⟨0x88, [], 1, 15, 0, .ro, .app, 0, none⟩,
  ⟨0x8c, [], 2, 31, 0, .ro, .app, 0, none⟩]
def pgLFT : List FieldSpec := pgLFT_0 ++ pgLFT_1

def pgFIR_0 : List FieldSpec := [
  ⟨0x40, [], 1, 31, 24, .rwl, .app, 0, none⟩,
  ⟨0x40, [], 1, 23, 16, .rwl, .app, 0, none⟩,
  ⟨0x40, [], 1, 15, 8, .rwl, .app, 0, none⟩,
  ⟨0x40, [], 1, 7, 0, .rwl, .app, 70, (some (60, 85))⟩,
  ⟨0x44, [], 1, 31, 16, .rwl, .app, 500, none⟩,
  ⟨0x44, [], 1, 15, 0, .rwl, .app, 10, (some (1, 600))⟩,
  ⟨0x48, [], 1, 31, 31, .rwl, .app, 0, none⟩,
  ⟨0x48, [], 1, 28, 16, .rwl, .app, 0, none⟩,
  ⟨0x48, [], 1, 15, 8, .rwl, .app, 0, none⟩,
  ⟨0x48, [], 1, 7, 0, .rwl, .app, 0, none⟩,
  ⟨0x4c, [], 1, 31, 16, .wo, .none, 0, none⟩,
  ⟨0x4c, [], 1, 2, 0, .wo, .none, 0, none⟩,
  ⟨0x50, [], 1, 31, 29, .ro, .app, 0, none⟩,
  ⟨0x50, [], 1, 28, 28, .ro, .app, 0, none⟩,
  ⟨0x50, [], 1, 27, 22, .ro, .app, 0, none⟩,
  ⟨0x50, [], 1, 15, 0, .ro, .app, 0, none⟩,
  ⟨0x54, [], 2, 31, 0, .ro, .app, 0, none⟩,
  ⟨0x5c, [], 1, 23, 0, .ro, .app, 0, none⟩,
  ⟨0x60, [], 1, 31, 0, .ro, .app, 0, none⟩,
  ⟨0x64, [], 1, 31, 0, .rc, .app, 0, none⟩]
def pgFIR_1 : List FieldSpec := [
  ⟨0x80, [(4, 8)], 1, 31, 0, .rwl, .app, 0, none⟩,
  ⟨0x100, [(4, 16)], 1, 31, 31, .rwl, .app, 0, none⟩,
  ⟨0x100, [(4, 16)], 1, 30, 28, .rwl, .app, 0, none⟩,
  ⟨0x100, [(4, 16)], 1, 27, 27, .rwl, .app, 0, none⟩,
  ⟨0x100, [(4, 16)], 1, 26, 26, .rwl, .app, 1, none⟩,
  ⟨0x100, [(4, 16)], 1, 25, 23, .rwl, .app, 0, none⟩,
  ⟨0x100, [(4, 16)], 1, 12, 0, .rwl, .app, 0, none⟩,
  ⟨0x200, [(8, 64)], 1, 31, 31, .rwl, .app, 0, none⟩,
  ⟨0x200, [(8, 64)], 1, 30, 27, .rwl, .app, 0, none⟩,
  ⟨0x200, [(8, 64)], 1, 12, 0, .rwl, .app, 0, none⟩,
  ⟨0x204, [(8, 64)], 1, 31, 0, .rwl, .app, 0, none⟩]
def pgFIR : List FieldSpec := pgFIR_0 ++ pgFIR_1

def pgCAL_0 : List FieldSpec := [
  ⟨0x40, [], 1, 2, 2, .ro, .sys, 0, none⟩,
  ⟨0x40, [], 1, 1, 1, .ro, .sys, 0, none⟩,
  ⟨0x40, [], 1, 0, 0, .ro, .sys, 0, none⟩,
  ⟨0x44, [], 1, 31, 0, .ro, .sys, 0, none⟩,
  ⟨0x48, [], 1, 31, 0, .ro, .sys, 0, none⟩]
def pgCAL : List FieldSpec := pgCAL_0

def pgATB_0 : List FieldSpec := [
  ⟨0x40, [], 1, 29, 24, .rw, .sys, 0, none⟩,
  ⟨0x40, [], 1, 21, 16, .rw, .sys, 0, none⟩,
  ⟨0x40, [], 1, 13, 8, .rw, .sys, 0, none⟩,
  ⟨0x40, [], 1, 5, 0, .rw, .sys, 0, none⟩,
  ⟨0x44, [], 1, 31, 31, .ro, .sys, 0, none⟩,
  ⟨0x44, [], 1, 7, 0, .w1c, .bkp, 0, none⟩,
  ⟨0x48, [], 1, 31, 0, .rw, .sys, 1000, none⟩,
  ⟨0x4c, [], 1, 31, 31, .ro, .none, 0, none⟩,
  ⟨0x4c, [], 1, 30, 0, .ro, .none, 0, none⟩,
  ⟨0x50, [], 1, 31, 0, .ro, .none, 0, none⟩,
  ⟨0x80, [(4, 15)], 1, 31, 0, .ro, .sys, 0, none⟩]
def pgATB : List FieldSpec := pgATB_0

def pgECC_0 : List FieldSpec := [
  ⟨0x40, [], 1, 0, 0, .rwl, .sys, 1, none⟩,
  ⟨0x44, [], 1, 31, 31, .ro, .sys, 0, none⟩,
  ⟨0x44, [], 1, 6, 0, .ro, .sys, 0, none⟩,
  ⟨0x48, [], 1, 31, 0, .ro, .sys, 0, none⟩,
  ⟨0x4c, [], 1, 31, 0, .ro, .sys, 0, none⟩,
  ⟨0x50, [], 1, 31, 0, .rwl, .sys, 100, none⟩,
  ⟨0x80, [(0x10, 8)], 1, 31, 0, .rc, .sys, 0, none⟩,
  ⟨0x84, [(0x10, 8)], 1, 31, 0, .rc, .sys, 0, none⟩,
  ⟨0x88, [(0x10, 8)], 1, 31, 0, .ro, .sys, 0, none⟩,
  ⟨0x8c, [(0x10, 8)], 1, 31, 31, .ro, .sys, 0, none⟩,
  ⟨0x8c, [(0x10, 8)], 1, 6, 0, .ro, .sys, 0, none⟩]
def pgECC : List FieldSpec := pgECC_0

def pgTILE_0 : List FieldSpec := [
  ⟨0x40, [], 1, 2, 2, .wo, .none, 0, none⟩,
  ⟨0x40, [], 1, 1, 1, .rwl, .sys, 1, none⟩,
  ⟨0x44, [], 1, 31, 0, .rwl, .sys, 10000, (some (250, 100000))⟩,
  ⟨0x48, [], 1, 9, 9, .ro, .sys, 0, none⟩,
  ⟨0x48, [], 1, 8, 8, .ro, .sys, 0, none⟩,
  ⟨0x48, [], 1, 7, 6, .ro, .sys, 0, none⟩,
  ⟨0x48, [], 1, 5, 5, .ro, .sys, 0, none⟩,
  ⟨0x48, [], 1, 4, 4, .ro, .sys, 0, none⟩,
  ⟨0x48, [], 1, 3, 3, .ro, .sys, 0, none⟩,
  ⟨0x48, [], 1, 2, 2, .ro, .sys, 0, none⟩,
  ⟨0x48, [], 1, 1, 1, .ro, .sys, 0, none⟩,
  ⟨0x48, [], 1, 0, 0, .ro, .sys, 0, none⟩,
  ⟨0x4c, [], 1, 31, 0, .ro, .sys, 0, none⟩,
  ⟨0x50, [], 1, 31, 0, .ro, .sys, 0, none⟩,
  ⟨0x54, [], 1, 31, 0, .ro, .sys, 0, none⟩,
  ⟨0x58, [], 1, 31, 0, .ro, .sys, 0, none⟩,
  ⟨0x5c, [], 1, 31, 0, .rw, .sys, 0, none⟩,
  ⟨0x60, [], 1, 31, 0, .ro, .sys, 0, none⟩,
  ⟨0x64, [], 1, 31, 0, .ro, .sys, 0, none⟩,
  ⟨0x68, [], 1, 31, 0, .rc, .sys, 0, none⟩]
def pgTILE_1 : List FieldSpec := [
  ⟨0x6c, [], 1, 31, 0, .rc, .sys, 0, none⟩,
  ⟨0x70, [], 1, 31, 0, .rc, .sys, 0, none⟩,
  ⟨0x74, [], 1, 31, 0, .rc, .sys, 0, none⟩,
  ⟨0x78, [], 1, 31, 0, .rc, .sys, 0, none⟩,
  ⟨0x7c, [], 1, 31, 0, .ro, .sys, 0, none⟩,
  ⟨0x80, [], 1, 0, 0, .wo, .none, 0, none⟩,
  ⟨0x84, [], 1, 12, 8, .wo, .none, 0, none⟩,
  ⟨0x84, [], 1, 7, 0, .wo, .none, 0, none⟩,
  ⟨0x100, [(4, 32)], 1, 31, 28, .rwl, .sys, 0, none⟩,
  ⟨0x100, [(4, 32)], 1, 27, 27, .rwl, .sys, 0, none⟩,
  ⟨0x100, [(4, 32)], 1, 26, 26, .rwl, .sys, 0, none⟩,
  ⟨0x100, [(4, 32)], 1, 25, 25, .rwl, .sys, 0, none⟩,
  ⟨0x100, [(4, 32)], 1, 24, 24, .rwl, .sys, 0, none⟩,
  ⟨0x100, [(4, 32)], 1, 23, 16, .rwl, .sys, 4, none⟩,
  ⟨0x100, [(4, 32)], 1, 15, 14, .rwl, .sys, 0, none⟩,
  ⟨0x100, [(4, 32)], 1, 13, 12, .rwl, .sys, 0, none⟩,
  ⟨0x100, [(4, 32)], 1, 11, 11, .rwl, .sys, 1, none⟩,
  ⟨0x100, [(4, 32)], 1, 10, 10, .rwl, .sys, 0, none⟩,
  ⟨0x100, [(4, 32)], 1, 9, 9, .ro, .sys, 0, none⟩,
  ⟨0x100, [(4, 32)], 1, 7, 7, .rwl, .sys, 0, none⟩]
def pgTILE_2 : List FieldSpec := [
  ⟨0x100, [(4, 32)], 1, 4, 0, .rwl, .sys, 0, none⟩,
  ⟨0x180, [(4, 32)], 1, 15, 15, .w1c, .sys, 0, none⟩,
  ⟨0x180, [(4, 32)], 1, 14, 14, .w1c, .sys, 0, none⟩,
  ⟨0x180, [(4, 32)], 1, 13, 13, .w1c, .sys, 0, none⟩,
  ⟨0x180, [(4, 32)], 1, 12, 12, .w1c, .sys, 0, none⟩,
  ⟨0x180, [(4, 32)], 1, 11, 11, .w1c, .sys, 0, none⟩,
  ⟨0x180, [(4, 32)], 1, 10, 10, .w1c, .sys, 0, none⟩,
  ⟨0x180, [(4, 32)], 1, 9, 9, .w1c, .sys, 0, none⟩,
  ⟨0x180, [(4, 32)], 1, 8, 8, .w1c, .sys, 0, none⟩,
  ⟨0x180, [(4, 32)], 1, 7, 7, .w1c, .sys, 0, none⟩,
  ⟨0x180, [(4, 32)], 1, 1, 1, .ro, .sys, 0, none⟩,
  ⟨0x180, [(4, 32)], 1, 0, 0, .ro, .sys, 0, none⟩,
  ⟨0x200, [(4, 32)], 1, 31, 16, .rwl, .sys, 60, none⟩,
  ⟨0x200, [(4, 32)], 1, 15, 0, .rwl, .sys, 400, none⟩,
  ⟨0x280, [(4, 32)], 1, 1, 0, .rwl, .sys, 0, none⟩,
  ⟨0x300, [(8, 32)], 2, 31, 0, .ro, .sys, 0, none⟩,
  ⟨0x400, [(8, 32)], 2, 31, 0, .ro, .sys, 0, none⟩,
  ⟨0x600, [(0x10, 4)], 1, 31, 31, .rwl, .sys, 0, none⟩,
  ⟨0x600, [(0x10, 4)], 1, 23, 16, .rwl, .sys, 5, none⟩,
  ⟨0x600, [(0x10, 4)], 1, 12, 8, .rwl, .sys, 0, none⟩]
def pgTILE_3 : List FieldSpec := [
  ⟨0x600, [(0x10, 4)], 1, 4, 0, .rwl, .sys, 0, none⟩,
  ⟨0x604, [(0x10, 4)], 1, 15, 0, .rwl, .sys, 250, (some (25, 500))⟩,
  ⟨0x608, [(0x10, 4)], 1, 31, 31, .ro, .sys, 0, none⟩,
  ⟨0x608, [(0x10, 4)], 1, 30, 30, .w1c, .sys, 0, none⟩,
  ⟨0x608, [(0x10, 4)], 1, 8, 0, .ro, .sys, 0, none⟩,
  ⟨0x60c, [(0x10, 4)], 1, 31, 0, .ro, .sys, 0, none⟩]
def pgTILE : List FieldSpec := pgTILE_0 ++ pgTILE_1 ++ pgTILE_2 ++ pgTILE_3

def pgCAR_0 : List FieldSpec := [
  ⟨0x40, [], 1, 31, 30, .rwl, .app, 0, none⟩,
  ⟨0x40, [], 1, 29, 29, .rwl, .app, 0, none⟩,
  ⟨0x40, [], 1, 28, 28, .rwl, .app, 0, none⟩,
  ⟨0x40, [], 1, 27, 27, .rwl, .app, 0, none⟩,
  ⟨0x40, [], 1, 26, 26, .rwl, .app, 0, none⟩,
  ⟨0x40, [], 1, 25, 21, .rwl, .app, 0, (some (12, 31))⟩,
  ⟨0x40, [], 1, 20, 16, .rwl, .app, 10, (some (5, 20))⟩,
  ⟨0x40, [], 1, 15, 8, .rwl, .app, 0, none⟩,
  ⟨0x44, [], 1, 31, 0, .rwl, .app, 65536, none⟩,
  ⟨0x48, [], 1, 31, 0, .rwl, .app, 0, none⟩,
  ⟨0x4c, [], 1, 31, 16, .rwl, .app, 70, none⟩,
  ⟨0x50, [], 1, 31, 16, .rwl, .app, 3000, (some (200, 4000))⟩,
  ⟨0x50, [], 1, 15, 0, .rwl, .app, 3000, (some (200, 4000))⟩,
  ⟨0x54, [], 1, 31, 0, .rwl, .app, 1536000, (some (0, 3225600))⟩,
  ⟨0x58, [], 1, 31, 0, .rwl, .app, 1536000, (some (0, 3225600))⟩,
  ⟨0x5c, [], 1, 31, 0, .rwl, .app, 6000, none⟩,
  ⟨0x60, [], 1, 31, 29, .ro, .app, 0, none⟩,
  ⟨0x60, [], 1, 28, 27, .ro, .app, 0, none⟩,
  ⟨0x60, [], 1, 26, 26, .ro, .app, 0, none⟩,
  ⟨0x60, [], 1, 25, 25, .ro, .app, 0, none⟩]
def pgCAR_1 : List FieldSpec := [
  ⟨0x60, [], 1, 24, 24, .ro, .app, 0, none⟩,
  ⟨0x60, [], 1, 23, 23, .ro, .app, 0, none⟩,
  ⟨0x60, [], 1, 22, 22, .ro, .app, 0, none⟩,
  ⟨0x60, [], 1, 21, 20, .ro, .app, 0, none⟩,
  ⟨0x60, [], 1, 19, 16, .ro, .app, 0, none⟩,
  ⟨0x60, [], 1, 15, 8, .ro, .app, 0, none⟩,
  ⟨0x60, [], 1, 7, 0, .ro, .app, 0, none⟩,
  ⟨0x64, [], 1, 31, 0, .ro, .app, 0, none⟩,
  ⟨0x68, [], 1, 31, 0, .ro, .app, 0, none⟩,
  ⟨0x6c, [], 2, 31, 0, .ro, .app, 0, none⟩,
  ⟨0x74, [], 1, 31, 0, .ro, .app, 0, none⟩,
  ⟨0x78, [], 1, 31, 0, .rc, .app, 0, none⟩,
  ⟨0x7c, [], 1, 3, 0, .wo, .none, 0, none⟩,
  ⟨0x80, [(4, 5)], 1, 31, 0, .rwl, .app, 0, none⟩,
  ⟨0x400, [(8, 160)], 1, 31, 0, .rwl, .app, 0, none⟩,
  ⟨0x404, [(8, 160)], 1, 31, 31, .ro, .app, 0, none⟩,
  ⟨0x404, [(8, 160)], 1, 30, 30, .ro, .app, 0, none⟩,
  ⟨0x404, [(8, 160)], 1, 29, 29, .rwl, .app, 0, none⟩,
  ⟨0x404, [(8, 160)], 1, 28, 28, .rwl, .app, 0, none⟩,
  ⟨0x404, [(8, 160)], 1, 15, 0, .ro, .app, 0, none⟩]
def pgCAR_2 : List FieldSpec := [
  ⟨0xa00, [(4, 64)], 1, 31, 30, .ro, .app, 0, none⟩,
  ⟨0xa00, [(4, 64)], 1, 29, 29, .ro, .app, 0, none⟩,
  ⟨0xa00, [(4, 64)], 1, 28, 28, .ro, .app, 0, none⟩,
  ⟨0xa00, [(4, 64)], 1, 23, 16, .ro, .app, 0, none⟩,
  ⟨0xa00, [(4, 64)], 1, 15, 0, .ro, .app, 0, none⟩,
  ⟨0x200, [], 1, 31, 31, .rwl, .app, 0, none⟩,
  ⟨0x200, [], 1, 30, 30, .rwl, .app, 0, none⟩,
  ⟨0x200, [], 1, 29, 29, .rwl, .app, 1, none⟩,
  ⟨0x200, [], 1, 28, 28, .rwl, .app, 1, none⟩,
  ⟨0x200, [], 1, 27, 27, .rwl, .app, 0, none⟩,
  ⟨0x200, [], 1, 23, 16, .rwl, .app, 0, none⟩,
  ⟨0x200, [], 1, 9, 0, .rwl, .app, 0, none⟩,
  ⟨0x204, [], 1, 31, 31, .rwl, .app, 0, none⟩,
  ⟨0x204, [], 1, 23, 16, .rwl, .app, 0, none⟩,
  ⟨0x204, [], 1, 11, 0, .rwl, .app, 0, none⟩,
  ⟨0x208, [], 1, 15, 8, .rwl, .app, 0, none⟩,
  ⟨0x208, [], 1, 6, 0, .rwl, .app, 0, none⟩,
  ⟨0x20c, [], 1, 31, 16, .rwl, .app, 1500, (some (100, 10000))⟩,
  ⟨0x20c, [], 1, 15, 0, .rwl, .app, 10000, (some (1000, 10000))⟩,
  ⟨0x210, [], 1, 31, 16, .rwl, .app, 4000, (some (500, 4000))⟩]
def pgCAR_3 : List FieldSpec := [
  ⟨0x210, [], 1, 15, 0, .rwl, .app, 60, none⟩,
  ⟨0x214, [], 1, 31, 16, .rwl, .app, 150, (some (20, 150))⟩,
  ⟨0x214, [], 1, 15, 0, .rwl, .app, 40, none⟩,
  ⟨0x218, [], 1, 31, 16, .rwl, .app, 40, (some (1, 65535))⟩,
  ⟨0x218, [], 1, 15, 8, .rwl, .app, 50, (some (10, 100))⟩,
  ⟨0x21c, [], 1, 31, 0, .rwl, .app, 12800000, none⟩,
  ⟨0x220, [], 1, 31, 0, .rwl, .app, 80000, none⟩,
  ⟨0x224, [], 1, 31, 0, .rwl, .app, 400000, none⟩,
  ⟨0x228, [], 1, 31, 0, .rwl, .app, 300000, none⟩,
  ⟨0x22c, [], 1, 31, 0, .rwl, .app, 0, none⟩,
  ⟨0x230, [], 1, 31, 16, .rwl, .app, 3000, none⟩,
  ⟨0x230, [], 1, 15, 0, .rwl, .app, 100, none⟩,
  ⟨0x234, [], 1, 31, 16, .rwl, .app, 4000, none⟩,
  ⟨0x234, [], 1, 15, 0, .rwl, .app, 2500, none⟩,
  ⟨0x238, [], 1, 31, 16, .rwl, .app, 1000, none⟩,
  ⟨0x238, [], 1, 15, 0, .rwl, .app, 20, (some (5, 300))⟩,
  ⟨0x23c, [], 1, 31, 16, .rwl, .app, 8000, none⟩,
  ⟨0x23c, [], 1, 15, 0, .rwl, .app, 10000, none⟩,
  ⟨0x240, [], 1, 31, 16, .rwl, .app, 1500, none⟩,
  ⟨0x240, [], 1, 15, 8, .rwl, .app, 2, none⟩]
def pgCAR_4 : List FieldSpec := [
  ⟨0x244, [], 1, 31, 16, .rwl, .app, 3000, none⟩,
  ⟨0x244, [], 1, 15, 0, .rwl, .app, 5000, none⟩,
  ⟨0x248, [], 1, 31, 0, .rwl, .app, 4096000, (some (0, 4096000))⟩,
  ⟨0x24c, [], 1, 31, 0, .rwl, .app, 512000, (some (0, 1536000))⟩,
  ⟨0x250, [], 1, 4, 4, .wo, .none, 0, none⟩,
  ⟨0x250, [], 1, 3, 0, .wo, .none, 0, none⟩,
  ⟨0x254, [], 1, 31, 28, .ro, .app, 0, none⟩,
  ⟨0x254, [], 1, 27, 24, .ro, .app, 0, none⟩,
  ⟨0x254, [], 1, 23, 23, .ro, .app, 0, none⟩,
  ⟨0x254, [], 1, 22, 22, .ro, .app, 0, none⟩,
  ⟨0x254, [], 1, 21, 21, .ro, .app, 0, none⟩,
  ⟨0x254, [], 1, 20, 20, .ro, .app, 0, none⟩,
  ⟨0x254, [], 1, 19, 19, .ro, .app, 0, none⟩,
  ⟨0x254, [], 1, 18, 18, .ro, .app, 0, none⟩,
  ⟨0x254, [], 1, 17, 17, .ro, .app, 0, none⟩,
  ⟨0x254, [], 1, 15, 8, .ro, .app, 0, none⟩,
  ⟨0x254, [], 1, 7, 0, .ro, .app, 0, none⟩,
  ⟨0x258, [], 1, 31, 0, .ro, .app, 0, none⟩,
  ⟨0x25c, [], 1, 31, 0, .ro, .app, 0, none⟩,
  ⟨0x260, [], 1, 31, 0, .ro, .app, 0, none⟩]
def pgCAR_5 : List FieldSpec := [
  ⟨0x264, [], 1, 31, 16, .ro, .app, 0, none⟩,
  ⟨0x264, [], 1, 15, 0, .rwl, .app, 4000, (some (0, 65534))⟩,
  ⟨0x268, [], 1, 31, 0, .ro, .app, 0, none⟩,
  ⟨0x26c, [], 1, 31, 0, .ro, .app, 0, none⟩,
  ⟨0x270, [], 1, 31, 0, .ro, .app, 0, none⟩,
  ⟨0x274, [], 1, 31, 0, .ro, .app, 0, none⟩,
  ⟨0x278, [], 1, 31, 0, .ro, .app, 0, none⟩,
  ⟨0x27c, [], 1, 31, 0, .rc, .app, 0, none⟩,
  ⟨0x280, [], 1, 31, 0, .rc, .app, 0, none⟩,
  ⟨0x284, [], 1, 31, 0, .rc, .app, 0, none⟩,
  ⟨0x288, [], 1, 31, 0, .rc, .app, 0, none⟩,
  ⟨0x28c, [], 1, 31, 0, .rc, .app, 0, none⟩]
def pgCAR : List FieldSpec := pgCAR_0 ++ pgCAR_1 ++ pgCAR_2 ++ pgCAR_3 ++ pgCAR_4 ++ pgCAR_5

def pgAXIS_0 : List FieldSpec := [
  ⟨0x40, [], 1, 31, 30, .ro, .app, 0, none⟩,
  ⟨0x40, [], 1, 29, 29, .rwl, .app, 1, none⟩,
  ⟨0x40, [], 1, 28, 28, .rwl, .app, 0, none⟩,
  ⟨0x40, [], 1, 15, 8, .rwl, .app, 0, none⟩,
  ⟨0x40, [], 1, 7, 5, .rwl, .app, 0, none⟩,
  ⟨0x40, [], 1, 4, 3, .rwl, .app, 0, none⟩,
  ⟨0x44, [], 1, 9, 8, .rwl, .app, 0, none⟩,
  ⟨0x44, [], 1, 6, 0, .rwl, .app, 0, none⟩,
  ⟨0x48, [], 1, 31, 0, .rwl, .app, 0, none⟩,
  ⟨0x4c, [], 1, 31, 0, .rwl, .app, 0, (some (1, 4294967295))⟩,
  ⟨0x50, [], 1, 31, 0, .rwl, .app, 0, (some (1, 4294967295))⟩,
  ⟨0x54, [], 1, 31, 0, .rwl, .app, 0, none⟩,
  ⟨0x58, [], 1, 31, 0, .rwl, .app, 0, none⟩,
  ⟨0x5c, [], 1, 31, 16, .rwl, .app, 2000, (some (1000, 10000))⟩,
  ⟨0x5c, [], 1, 15, 0, .rwl, .app, 2000, (some (500, 20000))⟩,
  ⟨0x60, [], 1, 31, 16, .rwl, .app, 500, none⟩,
  ⟨0x60, [], 1, 15, 8, .rwl, .app, 50, (some (10, 100))⟩,
  ⟨0x64, [], 1, 31, 16, .rwl, .app, 200, none⟩,
  ⟨0x64, [], 1, 15, 0, .rwl, .app, 20, none⟩,
  ⟨0x68, [], 1, 31, 0, .rwl, .app, 100, none⟩]
def pgAXIS_1 : List FieldSpec := [
  ⟨0x6c, [], 2, 31, 0, .rw, .app, 0, none⟩,
  ⟨0x74, [], 1, 3, 0, .wo, .none, 0, none⟩,
  ⟨0x78, [], 1, 11, 0, .rw, .app, 0, none⟩,
  ⟨0x7c, [], 1, 31, 28, .ro, .app, 0, none⟩,
  ⟨0x7c, [], 1, 27, 24, .ro, .app, 0, none⟩,
  ⟨0x7c, [], 1, 23, 23, .ro, .app, 0, none⟩,
  ⟨0x7c, [], 1, 22, 22, .ro, .app, 0, none⟩,
  ⟨0x7c, [], 1, 21, 21, .ro, .app, 0, none⟩,
  ⟨0x7c, [], 1, 20, 20, .ro, .app, 0, none⟩,
  ⟨0x7c, [], 1, 19, 19, .ro, .app, 0, none⟩,
  ⟨0x7c, [], 1, 18, 18, .ro, .app, 0, none⟩,
  ⟨0x7c, [], 1, 11, 0, .ro, .app, 0, none⟩,
  ⟨0x80, [], 2, 31, 0, .ro, .app, 0, none⟩,
  ⟨0x88, [], 1, 31, 0, .ro, .app, 0, none⟩,
  ⟨0x8c, [], 1, 31, 0, .ro, .app, 0, none⟩,
  ⟨0x90, [], 2, 31, 0, .ro, .app, 0, none⟩,
  ⟨0x98, [], 2, 31, 0, .ro, .app, 0, none⟩,
  ⟨0xa0, [], 2, 31, 0, .ro, .app, 0, none⟩,
  ⟨0xa8, [], 2, 31, 0, .ro, .app, 0, none⟩,
  ⟨0xb0, [], 2, 31, 0, .ro, .app, 0, none⟩]
def pgAXIS_2 : List FieldSpec := [
  ⟨0xb8, [], 1, 31, 28, .ro, .app, 0, none⟩,
  ⟨0xb8, [], 1, 11, 0, .ro, .app, 0, none⟩,
  ⟨0xbc, [], 1, 31, 0, .rc, .app, 0, none⟩,
  ⟨0xc0, [], 1, 31, 0, .rc, .app, 0, none⟩,
  ⟨0xd0, [], 1, 31, 31, .rwl, .app, 0, none⟩,
  ⟨0xd0, [], 1, 30, 28, .rwl, .app, 0, none⟩,
  ⟨0xd0, [], 1, 7, 0, .rwl, .app, 0, none⟩,
  ⟨0xd4, [], 1, 31, 0, .rwl, .app, 0, none⟩,
  ⟨0xd8, [], 1, 15, 0, .rwl, .app, 0, none⟩,
  ⟨0xdc, [], 1, 31, 0, .rw, .app, 0, none⟩,
  ⟨0xe0, [], 1, 15, 0, .rw, .app, 0, none⟩,
  ⟨0xe4, [], 2, 31, 0, .rw, .app, 0, none⟩,
  ⟨0xec, [], 1, 31, 0, .rw, .app, 0, none⟩,
  ⟨0xf0, [], 1, 1, 0, .wo, .none, 0, none⟩,
  ⟨0xf4, [], 2, 31, 0, .ro, .app, 0, none⟩,
  ⟨0xfc, [], 1, 1, 1, .ro, .app, 0, none⟩,
  ⟨0xfc, [], 1, 0, 0, .ro, .app, 0, none⟩,
  ⟨0x100, [], 2, 31, 0, .ro, .app, 0, none⟩]
def pgAXIS : List FieldSpec := pgAXIS_0 ++ pgAXIS_1 ++ pgAXIS_2

def pgCIRC_0 : List FieldSpec := [
  ⟨0x40, [], 1, 31, 30, .rwl, .full, 0, none⟩,
  ⟨0x40, [], 1, 29, 29, .rwl, .full, 0, none⟩,
  ⟨0x40, [], 1, 28, 27, .rwl, .full, 0, none⟩,
  ⟨0x40, [], 1, 23, 18, .rwl, .full, 0, none⟩,
  ⟨0x40, [], 1, 17, 12, .rwl, .full, 0, none⟩,
  ⟨0x40, [], 1, 11, 6, .rwl, .full, 0, none⟩,
  ⟨0x44, [], 1, 31, 29, .ro, .full, 0, none⟩,
  ⟨0x44, [], 1, 28, 28, .w1c, .full, 0, none⟩,
  ⟨0x44, [], 1, 27, 27, .w1c, .full, 0, none⟩,
  ⟨0x44, [], 1, 26, 26, .ro, .full, 0, none⟩,
  ⟨0x44, [], 1, 25, 25, .ro, .full, 0, none⟩,
  ⟨0x44, [], 1, 24, 24, .ro, .full, 0, none⟩,
  ⟨0x44, [], 1, 23, 22, .ro, .full, 0, none⟩,
  ⟨0x48, [], 1, 31, 0, .ro, .full, 0, none⟩,
  ⟨0x4c, [], 1, 31, 0, .ro, .full, 0, none⟩,
  ⟨0x50, [], 1, 31, 0, .ro, .full, 0, none⟩,
  ⟨0x54, [], 1, 31, 0, .ro, .full, 0, none⟩,
  ⟨0x58, [(4, 3)], 1, 31, 0, .ro, .full, 0, none⟩,
  ⟨0x64, [], 1, 31, 0, .ro, .full, 0, none⟩,
  ⟨0x80, [], 3, 31, 0, .ro, .full, 0, none⟩]
def pgCIRC_1 : List FieldSpec := [
  ⟨0x8c, [], 3, 31, 0, .ro, .full, 0, none⟩,
  ⟨0x98, [(0xc, 4)], 3, 31, 0, .ro, .full, 0, none⟩,
  ⟨0xc8, [], 3, 31, 0, .ro, .full, 0, none⟩,
  ⟨0xd4, [], 3, 31, 0, .ro, .full, 0, none⟩,
  ⟨0xe0, [], 3, 31, 0, .ro, .full, 0, none⟩,
  ⟨0xec, [], 3, 31, 0, .ro, .full, 0, none⟩,
  ⟨0x100, [], 1, 31, 0, .ro, .full, 0, none⟩,
  ⟨0x104, [], 1, 31, 0, .ro, .full, 0, none⟩,
  ⟨0x108, [], 1, 31, 0, .ro, .full, 0, none⟩,
  ⟨0x10c, [], 1, 31, 0, .ro, .full, 0, none⟩,
  ⟨0x110, [], 2, 31, 0, .ro, .full, 0, none⟩,
  ⟨0x118, [], 1, 31, 0, .ro, .full, 0, none⟩,
  ⟨0x11c, [], 2, 31, 0, .ro, .full, 0, none⟩,
  ⟨0x128, [], 3, 31, 0, .ro, .full, 0, none⟩,
  ⟨0x134, [], 3, 31, 0, .ro, .full, 0, none⟩]
def pgCIRC : List FieldSpec := pgCIRC_0 ++ pgCIRC_1

def pgPULSE_0 : List FieldSpec := [
  ⟨0x40, [], 1, 30, 29, .rwl, .full, 0, none⟩,
  ⟨0x40, [], 1, 23, 18, .rwl, .full, 0, none⟩,
  ⟨0x40, [], 1, 17, 15, .rwl, .full, 0, none⟩,
  ⟨0x40, [], 1, 7, 0, .rwl, .full, 0, none⟩,
  ⟨0x44, [], 2, 31, 0, .rwl, .full, 0, none⟩,
  ⟨0x4c, [], 3, 31, 0, .ro, .full, 0, none⟩,
  ⟨0x58, [], 1, 31, 0, .ro, .full, 0, none⟩,
  ⟨0x5c, [], 2, 31, 0, .ro, .full, 0, none⟩,
  ⟨0x64, [], 1, 31, 0, .rc, .full, 0, none⟩,
  ⟨0x68, [], 1, 31, 31, .ro, .full, 0, none⟩,
  ⟨0x68, [], 1, 30, 30, .w1c, .full, 0, none⟩,
  ⟨0x68, [], 1, 4, 0, .ro, .full, 0, none⟩]
def pgPULSE : List FieldSpec := pgPULSE_0

def winPT_0 : List FieldSpec := [
  ⟨0, [], 1, 31, 0, .rw, .app, 0, none⟩,
  ⟨4, [], 1, 31, 22, .rwl, .app, 0, none⟩,
  ⟨4, [], 1, 21, 18, .rwl, .app, 0, none⟩,
  ⟨4, [], 1, 13, 13, .rwl, .app, 0, none⟩,
  ⟨4, [], 1, 12, 12, .rwl, .app, 0, none⟩,
  ⟨4, [], 1, 11, 11, .rwl, .app, 0, none⟩,
  ⟨4, [], 1, 10, 10, .rwl, .app, 0, none⟩,
  ⟨4, [], 1, 9, 9, .rwl, .app, 0, none⟩,
  ⟨4, [], 1, 7, 0, .ro, .app, 0, none⟩,
  ⟨8, [], 1, 31, 21, .rwl, .app, 0, none⟩,
  ⟨8, [], 1, 20, 16, .ro, .app, 0, none⟩,
  ⟨8, [], 1, 5, 0, .rwl, .app, 0, none⟩,
  ⟨0xc, [], 1, 31, 28, .rwl, .app, 0, none⟩,
  ⟨0xc, [], 1, 27, 0, .rwl, .app, 0, none⟩,
  ⟨0x10, [], 1, 31, 0, .rwl, .app, 0, none⟩,
  ⟨0x14, [], 2, 31, 0, .ro, .app, 0, none⟩,
  ⟨0x1c, [], 1, 31, 0, .rwl, .app, 0, none⟩]
def winPT : List FieldSpec := winPT_0

def winLOOP_0 : List FieldSpec := [
  ⟨0, [], 1, 31, 29, .rwl, .app, 0, none⟩,
  ⟨0, [], 1, 28, 28, .rwl, .app, 0, none⟩,
  ⟨0, [], 1, 27, 27, .rwl, .app, 0, none⟩,
  ⟨0, [], 1, 26, 26, .rwl, .app, 0, none⟩,
  ⟨0, [], 1, 25, 24, .rwl, .app, 0, none⟩,
  ⟨0, [], 1, 23, 21, .rwl, .app, 0, none⟩,
  ⟨0, [], 1, 19, 10, .ro, .app, 0, none⟩,
  ⟨4, [], 1, 31, 12, .rwl, .app, 0, none⟩,
  ⟨4, [], 1, 11, 0, .rwl, .app, 0, none⟩,
  ⟨8, [], 1, 31, 29, .rwl, .app, 0, none⟩,
  ⟨8, [], 1, 28, 16, .rwl, .app, 0, none⟩,
  ⟨8, [], 1, 15, 13, .rwl, .app, 0, none⟩,
  ⟨8, [], 1, 12, 0, .rwl, .app, 0, none⟩,
  ⟨0xc, [], 1, 31, 29, .rwl, .app, 0, none⟩,
  ⟨0xc, [], 1, 28, 16, .rwl, .app, 0, none⟩,
  ⟨0xc, [], 1, 15, 12, .rwl, .app, 0, none⟩,
  ⟨0x10, [], 1, 31, 0, .rw, .app, 0, none⟩,
  ⟨0x14, [], 1, 31, 0, .rw, .app, 0, none⟩,
  ⟨0x18, [], 1, 31, 0, .rwl, .app, 0, none⟩,
  ⟨0x1c, [], 1, 31, 0, .rwl, .app, 0, none⟩]
def winLOOP_1 : List FieldSpec := [
  ⟨0x20, [], 1, 31, 0, .rwl, .app, 0, none⟩,
  ⟨0x24, [], 1, 31, 0, .rwl, .app, 0, none⟩,
  ⟨0x28, [], 1, 31, 0, .rwl, .app, 0, none⟩,
  ⟨0x2c, [], 1, 31, 0, .rwl, .app, 0, none⟩,
  ⟨0x30, [], 1, 31, 0, .rwl, .app, 0, none⟩,
  ⟨0x34, [], 1, 31, 0, .rwl, .app, 0, none⟩,
  ⟨0x38, [], 1, 31, 0, .rwl, .app, 0, none⟩,
  ⟨0x3c, [], 1, 31, 0, .rwl, .app, 0, none⟩,
  ⟨0x40, [], 1, 31, 0, .rwl, .app, 0, none⟩,
  ⟨0x44, [], 1, 31, 0, .rwl, .app, 0, none⟩,
  ⟨0x48, [], 1, 31, 0, .rwl, .app, 0, none⟩,
  ⟨0x4c, [], 1, 31, 0, .rwl, .app, 0, none⟩,
  ⟨0x50, [], 1, 31, 0, .rwl, .app, 0, none⟩,
  ⟨0x54, [], 1, 31, 29, .rwl, .app, 0, none⟩,
  ⟨0x54, [], 1, 28, 16, .rwl, .app, 0, none⟩,
  ⟨0x54, [], 1, 15, 10, .rwl, .app, 0, none⟩,
  ⟨0x54, [], 1, 9, 6, .rwl, .app, 0, none⟩,
  ⟨0x54, [], 1, 1, 0, .rwl, .app, 0, none⟩,
  ⟨0x58, [], 1, 31, 0, .rwl, .app, 0, none⟩,
  ⟨0x5c, [], 1, 31, 31, .w1c, .app, 0, none⟩]
def winLOOP_2 : List FieldSpec := [
  ⟨0x5c, [], 1, 30, 30, .w1c, .app, 0, none⟩,
  ⟨0x5c, [], 1, 29, 29, .w1c, .app, 0, none⟩,
  ⟨0x5c, [], 1, 28, 28, .w1c, .app, 0, none⟩,
  ⟨0x5c, [], 1, 27, 27, .w1c, .app, 0, none⟩,
  ⟨0x5c, [], 1, 26, 26, .w1c, .app, 0, none⟩,
  ⟨0x5c, [], 1, 25, 25, .w1c, .app, 0, none⟩,
  ⟨0x5c, [], 1, 24, 24, .ro, .app, 0, none⟩,
  ⟨0x5c, [], 1, 23, 23, .ro, .app, 0, none⟩,
  ⟨0x5c, [], 1, 22, 16, .ro, .app, 0, none⟩,
  ⟨0x5c, [], 1, 15, 14, .ro, .app, 0, none⟩,
  ⟨0x5c, [], 1, 13, 0, .ro, .app, 0, none⟩,
  ⟨0x60, [], 1, 31, 0, .ro, .app, 0, none⟩,
  ⟨0x64, [], 1, 31, 0, .ro, .app, 0, none⟩,
  ⟨0x68, [], 1, 31, 0, .ro, .app, 0, none⟩,
  ⟨0x6c, [], 1, 31, 0, .ro, .app, 0, none⟩,
  ⟨0x70, [], 1, 31, 0, .ro, .app, 0, none⟩,
  ⟨0x74, [], 1, 31, 0, .ro, .app, 0, none⟩,
  ⟨0x78, [], 1, 31, 0, .ro, .app, 0, none⟩,
  ⟨0x7c, [], 1, 31, 0, .ro, .app, 0, none⟩]
def winLOOP : List FieldSpec := winLOOP_0 ++ winLOOP_1 ++ winLOOP_2

def winSEG_0 : List FieldSpec := [
  ⟨0, [], 1, 31, 30, .ro, .app, 0, none⟩,
  ⟨0, [], 1, 29, 29, .rwl, .app, 0, none⟩,
  ⟨0, [], 1, 28, 28, .rwl, .app, 0, none⟩,
  ⟨0, [], 1, 27, 27, .rwl, .app, 0, none⟩,
  ⟨0, [], 1, 16, 12, .ro, .app, 0, none⟩,
  ⟨0, [], 1, 11, 0, .rwl, .app, 0, none⟩,
  ⟨4, [], 1, 31, 0, .rwl, .app, 0, none⟩,
  ⟨8, [], 2, 31, 0, .rwl, .app, 0, none⟩,
  ⟨0x10, [], 1, 31, 0, .rwl, .app, 0, none⟩,
  ⟨0x14, [], 1, 31, 0, .rwl, .app, 0, none⟩,
  ⟨0x18, [], 2, 31, 0, .ro, .app, 0, none⟩]
def winSEG : List FieldSpec := winSEG_0

def winSLOT_0 : List FieldSpec := [
  ⟨0, [], 1, 31, 29, .ro, .app, 0, none⟩,
  ⟨0, [], 1, 28, 25, .rwl, .app, 0, none⟩,
  ⟨0, [], 1, 24, 21, .rwl, .app, 0, none⟩,
  ⟨0, [], 1, 20, 20, .rwl, .app, 0, none⟩,
  ⟨0, [], 1, 19, 18, .rwl, .app, 0, none⟩,
  ⟨0, [], 1, 17, 17, .rwl, .app, 0, none⟩,
  ⟨0, [], 1, 16, 16, .rwl, .app, 0, none⟩,
  ⟨0, [], 1, 13, 12, .wo, .none, 0, none⟩,
  ⟨4, [], 2, 31, 0, .rwl, .app, 0, none⟩,
  ⟨0xc, [], 1, 31, 0, .rwl, .app, 0, none⟩,
  ⟨0x10, [], 1, 31, 16, .rwl, .app, 0, none⟩,
  ⟨0x14, [], 2, 31, 0, .ro, .app, 4294967295, none⟩,
  ⟨0x1c, [], 1, 31, 28, .ro, .app, 0, none⟩,
  ⟨0x1c, [], 1, 27, 0, .ro, .app, 134217728, none⟩]
def winSLOT : List FieldSpec := winSLOT_0

end Sys2Proof.Machine.RegTable
end

