-- ==== Sys2Proof/Machine/Memory.lean ====
section
/-! DEFINITION. The address space (R71 to R75) as a sparse store of words in one canonical form: addresses strictly
rising, no entry equal to what an unlisted address reads as, which for pages and windows is the reset value that the
register tables state. The word is the smallest unit an access reaches (R84). -/

namespace Sys2Proof.Machine

/-- A store: (address, word) pairs. -/
abbrev Memory := KV Word

/-! ## The page map (R73) -/

/-- The kind of a page, where the page is present. -/
def pageKind (p : Nat) : Option PageKind :=
  if p = 0 then some .SYS else if p = 1 then some .RST else if p = 2 then some .PWR else if p = 3 then some .CLK
  else if p = 4 then some .BKP else if p = 5 then some .RTC else if p = 6 then some .TBS else if p = 7 then some .EVR
  else if p = 8 then some .UPD else if p = 9 then some .KEY else if p = 0xA then some .PGD
  else if p = 0xB ∨ p = 0xC then some .MAC else if p = 0xE then some .TWN else if p = 0xF then some .CAN
  else if 0x10 ≤ p ∧ p ≤ 0x13 then some .CANCH else if p = 0x14 then some .SCN else if p = 0x15 then some .LPE
  else if p = 0x16 then some .MOT else if p = 0x17 then some .ANG else if p = 0x18 then some .MTR
  else if p = 0x19 then some .FIO else if p = 0x1A then some .SAF else if p = 0x1B then some .LFT
  else if p = 0x1C then some .FIR else if p = 0x1D then some .CAL else if p = 0x1E then some .ATB
  else if p = 0x1F then some .ECC else if 0x20 ≤ p ∧ p ≤ 0x27 then some .TILE
  else if 0x30 ≤ p ∧ p ≤ 0x37 then some .CAR else if 0x40 ≤ p ∧ p ≤ 0x57 then some .AXIS
  else if 0x60 ≤ p ∧ p ≤ 0x8F then some .CIRC else if 0x90 ≤ p ∧ p ≤ 0x9F then some .PULSE else none

/-- The instance index of a page (R74). -/
def pageInstance (p : Nat) : Nat :=
  match pageKind p with
  | some .SYS => 0x7256
  | some .MAC => p - 0xB
  | some .CANCH => p - 0x10
  | some .TILE => p - 0x20
  | some .CAR => p - 0x30
  | some .AXIS => p - 0x40
  | some .CIRC => p - 0x60
  | some .PULSE => p - 0x90
  | _ => 0

/-- BLK_ID.TYPE (R73). -/
def pageType (p : Nat) : Nat :=
  match pageKind p with
  | some .SYS => 0x4D56
  | some _ => p - pageInstance p
  | none => 0

/-- The reach of a page's domain (R73). -/
def pageReach (k : PageKind) : ResetCol :=
  match k with
  | .RST | .BKP | .RTC => .bkp
  | .PWR | .CLK | .KEY | .MTR | .SAF | .CIRC | .PULSE => .full
  | .SYS | .TBS | .EVR | .UPD | .MAC | .TWN | .CAN | .CANCH | .FIO | .CAL | .ATB | .ECC | .TILE => .sys
  | .PGD | .SCN | .LPE | .MOT | .ANG | .LFT | .FIR | .CAR | .AXIS => .app

/-- The block-specific rows of a page kind. -/
def pageRows (k : PageKind) : List FieldSpec :=
  match k with
  | .SYS => RegTable.pgSYS | .RST => RegTable.pgRST | .PWR => RegTable.pgPWR | .CLK => RegTable.pgCLK
  | .BKP => RegTable.pgBKP | .RTC => RegTable.pgRTC | .TBS => RegTable.pgTBS | .EVR => RegTable.pgEVR
  | .UPD => RegTable.pgUPD | .KEY => RegTable.pgKEY | .PGD => RegTable.pgPGD | .MAC => RegTable.pgMAC
  | .TWN => RegTable.pgTWN | .CAN => RegTable.pgCAN | .CANCH => RegTable.pgCANCH | .SCN => RegTable.pgSCN
  | .LPE => RegTable.pgLPE | .MOT => RegTable.pgMOT | .ANG => RegTable.pgANG | .MTR => RegTable.pgMTR
  | .FIO => RegTable.pgFIO | .SAF => RegTable.pgSAF | .LFT => RegTable.pgLFT | .FIR => RegTable.pgFIR
  | .CAL => RegTable.pgCAL | .ATB => RegTable.pgATB | .ECC => RegTable.pgECC | .TILE => RegTable.pgTILE
  | .CAR => RegTable.pgCAR | .AXIS => RegTable.pgAXIS | .CIRC => RegTable.pgCIRC | .PULSE => RegTable.pgPULSE

/-- Whether a block is gated by the role set (R2, BLK_CAP.CAP_ROLE): those whose chapters say under which roles they
run (R196, R238, R258, R282); DEDUCED, log entry 4. -/
def roleGated (k : PageKind) : Bool :=
  match k with
  | .SCN | .LPE | .MOT | .AXIS | .LFT | .CAR => true
  | _ => false

/-- Pages whose ENABLE starts one instance by a command of its own (R359, R377, R418); log entry 4. -/
def startsOff (k : PageKind) : Bool := k == .CIRC || k == .PULSE || k == .CANCH

/-- BLK_CAP.CAP_BLK: R128 (TBS), R257 (LPE), R281 (AXIS class); 0 elsewhere. -/
def capBlk (p : Nat) : Nat :=
  match pageKind p with
  | some .TBS => 3
  | some .LPE => 3
  | some .AXIS => if p < 0x48 then 0 else if p < 0x50 then 1 else 2
  | _ => 0

/-- The header word of a page at reset (R74 to R76). ENABLE resets to 1 for blocks that no role gates and to 0 for
role-gated ones, which the empty role set of reset does not run; log entry 4. -/
def headerReset (p off : Nat) : Word :=
  match pageKind p with
  | none => 0
  | some k =>
    if off = 0x000 then BitVec.ofNat 32 (pageType p * 0x10000 + pageInstance p)
    else if off = 0x004 then 0x00010000
    else if off = 0x008 then
      BitVec.ofNat 32 (0x80000000 + b2n ((pageRows k).any (fun f => f.acc == .rwl)) * 0x40000000 + 0x20000000
        + b2n (roleGated k) * 0x10000000 + capBlk p)
    else if off = 0x00C then BitVec.ofNat 32 (b2n (! (roleGated k || startsOff k)))
    else if off = 0x010 then BitVec.ofNat 32 (b2n (! (roleGated k || startsOff k)))
    else 0

/-! ## Windows (R71, R72) -/

/-- The window an address lies in, with the offset inside the window. -/
def windowOf (a : Nat) : Option (WindowKind × Nat) :=
  if 0x01000000 ≤ a ∧ a ≤ 0x0103FFFF then some (.point, a - 0x01000000)
  else if 0x02000000 ≤ a ∧ a ≤ 0x020FFFFF then some (.program, a - 0x02000000)
  else if 0x03000000 ≤ a ∧ a ≤ 0x0307FFFF then some (.scanData, a - 0x03000000)
  else if 0x04000000 ≤ a ∧ a ≤ 0x04007FFF then some (.loop, a - 0x04000000)
  else if 0x05000000 ≤ a ∧ a ≤ 0x0501FFFF then some (.segment, a - 0x05000000)
  else if 0x06000000 ≤ a ∧ a ≤ 0x06007FFF then some (.slot, a - 0x06000000)
  else if 0x07000000 ≤ a ∧ a ≤ 0x0707FFFF then some (.record, a - 0x07000000)
  else none

/-- The page a window belongs to (R72). -/
def windowPage : WindowKind → Nat
  | .point => Page.PGD
  | .program => Page.SCN
  | .scanData => Page.SCN
  | .loop => Page.LPE
  | .segment => Page.MOT
  | .slot => Page.ANG
  | .record => Page.EVR

/-- The page whose register or window an address belongs to; none where R71 and R73 leave the address absent. -/
def ownerPage (a : Nat) : Option Nat :=
  if a < 0xA0000 then (if (pageKind (a / 4096)).isSome then some (a / 4096) else none)
  else (windowOf a).map (fun w => windowPage w.1)

/-! ## Table lookup -/

/-- Whether distance `d` from the first instance is an instance of a row with these repetitions. -/
def dimsCover (words : Nat) : List (Nat × Nat) → Nat → Bool
  | [], d => d % 4 == 0 && decide (d / 4 < words)
  | (s, c) :: r, d => decide (d / s < c) && dimsCover words r (d % s)

/-- Whether a row has a word at the offset. -/
def FieldSpec.covers (f : FieldSpec) (off : Nat) : Bool := decide (f.off ≤ off) && dimsCover f.words f.dims (off - f.off)

/-- The distance, in words, of an offset from the low word of the row's value that holds it. -/
def wordIndex : List (Nat × Nat) → Nat → Nat
  | [], d => d / 4
  | (s, _) :: r, d => wordIndex r (d % s)

/-- The header rows (R75). -/
def headerRows : List FieldSpec := [
  ⟨0x000, [], 1, 31, 0, .ro, .dom, 0, none⟩, ⟨0x004, [], 1, 31, 0, .ro, .dom, 0, none⟩,
  ⟨0x008, [], 1, 31, 0, .ro, .dom, 0, none⟩,
  ⟨0x00C, [], 1, 3, 3, .rw, .dom, 0, none⟩, ⟨0x00C, [], 1, 2, 2, .rw, .block, 0, none⟩,
  ⟨0x00C, [], 1, 1, 1, .wo, .none, 0, none⟩, ⟨0x00C, [], 1, 0, 0, .rw, .dom, 0, none⟩,
  ⟨0x010, [], 1, 31, 8, .ro, .block, 0, none⟩, ⟨0x010, [], 1, 3, 3, .ro, .dom, 0, none⟩,
  ⟨0x010, [], 1, 2, 0, .ro, .block, 0, none⟩,
  ⟨0x014, [], 1, 31, 0, .w1c, .block, 0, none⟩, ⟨0x018, [], 1, 31, 0, .rw, .dom, 0, none⟩,
  ⟨0x01C, [], 1, 31, 0, .wo, .none, 0, none⟩, ⟨0x020, [], 1, 31, 16, .w1c, .dom, 0, none⟩,
  ⟨0x020, [], 1, 10, 0, .w1c, .dom, 0, none⟩, ⟨0x024, [], 1, 31, 0, .rc, .dom, 0, none⟩]

/-- The rows of a window, its entry size in bytes. Program and data words are plain words of the scan engine
(R209, R215); records are read only and survive every reset (R472). -/
def windowRows : WindowKind → Nat × List FieldSpec
  | .point => (32, RegTable.winPT)
  | .program => (4, [⟨0, [], 1, 31, 0, .rwl, .none, 0, none⟩])
  | .scanData => (4, [⟨0, [], 1, 31, 0, .rwl, .none, 0, none⟩])
  | .loop => (128, RegTable.winLOOP)
  | .segment => (32, RegTable.winSEG)
  | .slot => (32, RegTable.winSLOT)
  | .record => (4, [⟨0, [], 1, 31, 0, .ro, .none, 0, none⟩])

/-- The field rows of the word at an address: empty for a reserved offset or an absent address. -/
def rowsAt (a : Nat) : List FieldSpec :=
  if a < 0xA0000 then
    let off := a % 4096
    match pageKind (a / 4096) with
    | none => []
    | some k => if off < 0x040 then headerRows.filter (fun f => f.covers off)
                else (pageRows k).filter (fun f => f.covers off)
  else match windowOf a with
    | none => []
    | some (w, off) => let (sz, rows) := windowRows w; rows.filter (fun f => f.covers (off % sz))

/-- The reset contents of the word at an address: the table's reset values, and 0 in reserved bits (R80). -/
def resetWord (a : Nat) : Word :=
  if a < 0xA0000 ∧ a % 4096 < 0x040 then headerReset (a / 4096) (a % 4096)
  else if 0x48 ≤ a ∧ a ≤ 0x58 then
    -- PAGE_PRESENT_0 to PAGE_PRESENT_4 (R83)
    (if a = 0x48 then 0xFFFFDFFF else if a = 0x4C then 0x00FF00FF else if a = 0x50 then 0x00FFFFFF else 0xFFFFFFFF)
  else (rowsAt a).foldl (fun w f => setBits w f.hi f.lo f.dflt) 0

/-! ## The store -/

/-- The word a store holds at an address, where unlisted addresses read as `d`. -/
def Memory.readD (d : Nat → Word) (m : Memory) (a : Nat) : Word := (KV.get? m a).getD (d a)

/-- Write a word, keeping the canonical form. -/
def Memory.writeD (d : Nat → Word) (m : Memory) (a : Nat) (w : Word) : Memory :=
  if w = d a then KV.del m a else KV.put m a w

/-- The word of a page or window. -/
def Memory.read (m : Memory) (a : Nat) : Word := m.readD resetWord a

/-- Write a word of a page or window. -/
def Memory.write (m : Memory) (a : Nat) (w : Word) : Memory := m.writeD resetWord a w

/-- The canonical form, for unlisted addresses reading as `d`. -/
def Memory.wfD (d : Nat → Word) (m : Memory) : Bool := KV.sorted m && m.all (fun e => e.2 != d e.1)

/-- The canonical form of the register store. -/
def Memory.wf (m : Memory) : Bool := m.wfD resetWord

/-- Change every listed word by a function of address and word, and restore the canonical form. -/
def Memory.mapD (d : Nat → Word) (g : Nat → Word → Word) (m : Memory) : Memory :=
  (m.map (fun e => (e.1, g e.1 e.2))).filter (fun e => e.2 != d e.1)

end Sys2Proof.Machine
end

