-- ==== Sys2Proof/Machine/MotionPlan.lean ====
section
/-! DEFINITION. Trajectories: Hermite segments, evaluated in binary64 and rounded once (R262), and minimum-time profiles
under velocity, acceleration and jerk limits (R266, R269, R274). Profiles are computed in fixed point with `fineBits`
fractional bits, in units, seconds and their quotients; rounding to the formats of R259 comes after. -/

namespace Sys2Proof.Machine

/-! ## Hermite segments (R262) -/

/-- A segment: start instant (TAI ns less steps), duration in ns, positions in Q48.16, velocities in Q24.8, the entry of
the segment table that holds its end knot, EVT, whether it is committed, and whether it belongs to a stop. -/
structure Seg where
  t0    : Int
  h     : Nat
  p0    : Int
  v0    : Int
  p1    : Int
  v1    : Int
  entry : Option Nat
  evt   : Bool
  done  : Bool
  com   : Bool
deriving DecidableEq, Repr

/-- A point of a trajectory: position Q48.16, velocity Q24.8, acceleration in units/s². -/
structure Point where
  p : Int
  v : Int
  a : Int
deriving DecidableEq, Repr

/-- Numerator of the position, over h³ · 10⁹. -/
def Seg.posNum (g : Seg) (x : Int) : Int :=
  let h : Int := g.h
  1000000000 * ((2 * x ^ 3 - 3 * x ^ 2 * h + h ^ 3) * g.p0 + (3 * x ^ 2 * h - 2 * x ^ 3) * g.p1)
    + 256 * h * ((x ^ 3 - 2 * x ^ 2 * h + x * h ^ 2) * g.v0 + (x ^ 3 - x ^ 2 * h) * g.v1)

/-- Numerator of the velocity, over 256 · h³. -/
def Seg.velNum (g : Seg) (x : Int) : Int :=
  let h : Int := g.h
  1000000000 * (6 * x ^ 2 - 6 * x * h) * (g.p0 - g.p1)
    + 256 * h * ((3 * x ^ 2 - 4 * x * h + h ^ 2) * g.v0 + (3 * x ^ 2 - 2 * x * h) * g.v1)

/-- Numerator of the acceleration, over 65 536 · h³. -/
def Seg.accNum (g : Seg) (x : Int) : Int :=
  let h : Int := g.h
  10 ^ 18 * (12 * x - 6 * h) * (g.p0 - g.p1) + 256 * 10 ^ 9 * h * ((6 * x - 4 * h) * g.v0 + (6 * x - 2 * h) * g.v1)

/-- Numerator of the jerk, over 65 536 · h³. -/
def Seg.jerkNum (g : Seg) : Int :=
  let h : Int := g.h
  12 * 10 ^ 27 * (g.p0 - g.p1) + 256 * 6 * 10 ^ 18 * h * (g.v0 + g.v1)

/-! ### binary64

R262 names the format and not the order of operations: times are taken in seconds, powers by repeated multiplication,
and the expressions from left to right as they are written (DESIGN CHOICE, log entry 97). -/

/-- A binary64 value m · 2^e with |m| at most 2^53; the engine's values stay far from the ends of the exponent range. -/
structure Dbl where
  m : Int
  e : Int
deriving DecidableEq, Repr

/-- Round m · 2^e to 53 significant bits, half to even. -/
def Dbl.round (m e : Int) : Dbl :=
  let k := Nat.log2 m.natAbs
  if k ≤ 52 then ⟨m, e⟩ else ⟨divRoundEven m (2 ^ (k - 52)), e + ((k - 52 : Nat) : Int)⟩

/-- The quotient of two integers; a sticky bit stands for what lies below the bits kept. -/
def Dbl.frac (n d : Int) : Dbl :=
  let k := 56 + Nat.log2 d.natAbs
  let a := n.natAbs * 2 ^ k
  let q := a / d.natAbs * 2 + b2n (a % d.natAbs != 0)
  Dbl.round (n.sign * d.sign * (q : Int)) (-(k : Int) - 1)

def Dbl.add (x y : Dbl) : Dbl :=
  let e := min x.e y.e
  Dbl.round (x.m * 2 ^ (x.e - e).toNat + y.m * 2 ^ (y.e - e).toNat) e

def Dbl.neg (x : Dbl) : Dbl := ⟨-x.m, x.e⟩
def Dbl.sub (x y : Dbl) : Dbl := x.add y.neg
def Dbl.mul (x y : Dbl) : Dbl := Dbl.round (x.m * y.m) (x.e + y.e)

def Dbl.div (x y : Dbl) : Dbl :=
  let q := Dbl.frac x.m y.m
  ⟨q.m, q.e + x.e - y.e⟩

/-- An integer as binary64. -/
def Dbl.int (n : Int) : Dbl := Dbl.round n 0

/-- A value with `k` fractional bits as binary64. -/
def Dbl.fix (n : Int) (k : Nat) : Dbl := Dbl.round n (-(k : Int))

/-- A binary64 value rounded to `k` fractional bits, half to even. -/
def Dbl.toFix (x : Dbl) (k : Nat) : Int :=
  let e := x.e + k
  if 0 ≤ e then x.m * 2 ^ e.toNat else divRoundEven x.m (2 ^ (-e).toNat)

/-- The segment at `x` ns from its start, in binary64, each value rounded once, half to even (R262). -/
def Seg.eval (g : Seg) (x : Int) : Point :=
  if g.h = 0 then ⟨g.p1, g.v1, 0⟩
  else
    let h := Dbl.frac g.h 1000000000
    let s := (Dbl.frac x 1000000000).div h
    let s2 := s.mul s
    let s3 := s2.mul s
    let n := Dbl.int
    let p0 := Dbl.fix g.p0 16
    let p1 := Dbl.fix g.p1 16
    let v0 := Dbl.fix g.v0 8
    let v1 := Dbl.fix g.v1 8
    let d := p0.sub p1
    let c0 := ((((n 2).mul s3).sub ((n 3).mul s2)).add (n 1)).mul p0
    let c1 := (((s3.sub ((n 2).mul s2)).add s).mul h).mul v0
    let c2 := (((n (-2)).mul s3).add ((n 3).mul s2)).mul p1
    let c3 := ((s3.sub s2).mul h).mul v1
    let p := ((c0.add c1).add c2).add c3
    let w0 := ((((n 6).mul s2).sub ((n 6).mul s)).mul d).div h
    let w1 := ((((n 3).mul s2).sub ((n 4).mul s)).add (n 1)).mul v0
    let w2 := (((n 3).mul s2).sub ((n 2).mul s)).mul v1
    let v := (w0.add w1).add w2
    let a0 := ((((n 12).mul s).sub (n 6)).mul d).div (h.mul h)
    let a1 := ((((((n 6).mul s).sub (n 4)).mul v0).add ((((n 6).mul s).sub (n 2)).mul v1))).div h
    ⟨p.toFix 16, v.toFix 8, (a0.add a1).toFix 0⟩

/-- The floor of the position in whole units at `x` ns, from the cubic itself: where steps are solved (R278). -/
def Seg.floorAt (g : Seg) (x : Int) : Int :=
  if g.h = 0 then g.p1 / 65536 else g.posNum x / ((g.h ^ 3 * 1000000000 * 65536 : Nat) : Int)

/-- The instants within a segment between which its velocity keeps its sign: the roots of the velocity, cut to it. -/
def Seg.turns (g : Seg) : List Int :=
  let h : Int := g.h
  let d := g.p0 - g.p1
  let a := 6000000000 * d + 768 * h * (g.v0 + g.v1)
  let b := -(6000000000 * h * d) - 256 * h ^ 2 * (4 * g.v0 + 2 * g.v1)
  let c := 256 * h ^ 3 * g.v0
  let cut := fun (x : Int) => clampI 0 h x
  if a = 0 then (if b = 0 then [0, h] else [0, cut (-c / b), h])
  else
    let q := b ^ 2 - 4 * a * c
    if q < 0 then [0, h]
    else
      let r : Int := isqrtAux q.toNat 256 0
      let x1 := cut ((-b - r) / (2 * a))
      let x2 := cut ((-b + r) / (2 * a))
      [0, min x1 x2, max x1 x2, h]

/-- The segment in force at an instant: the last that has started. -/
def segAt (l : List Seg) (t : Int) : Option Seg := (l.filter (fun g => decide (g.t0 ≤ t))).getLast?

/-- The trajectory at an instant; at rest at `base` where no segment has started, and at rest after the last. -/
def trajAt (l : List Seg) (base : Int) (t : Int) : Point :=
  match segAt l t with
  | none => ⟨(l.head?.elim base (·.p0)), 0, 0⟩
  | some g => if g.t0 + (g.h : Int) ≤ t then ⟨g.p1, g.v1, 0⟩ else g.eval (t - g.t0)

/-- The end of a plan. -/
def planEnd (l : List Seg) : Option Int := l.getLast?.map (fun g => g.t0 + (g.h : Int))

/-! ## Minimum-time profiles -/

/-- Fractional bits of a profile: what they cut off lies far below the formats of R259, so that the knots are the exact
profile's, rounded. -/
abbrev fineBits : Nat := 96

/-- One, in a profile's fixed point; a velocity Q24.8 and a position Q48.16 take `fineV` and `fineP`. -/
abbrev fine1 : Int := 2 ^ 96
abbrev fineV : Int := 2 ^ 88
abbrev fineP : Int := 2 ^ 80

def mulQ (x y : Int) : Int := x * y / fine1
def divQ (x y : Int) : Int := x * fine1 / y

/-- A phase of constant jerk: jerk and duration. -/
abbrev Phase := Int × Int

/-- From velocity `v` and acceleration `a` to velocity `vt` at zero acceleration, in minimum time: at most three
phases. -/
def toVel (v a vt am jm : Int) : List Phase :=
  let vs := v + divQ (mulQ a a.natAbs) (2 * jm)
  let sg : Int := if vs ≤ vt then 1 else -1
  let a' := sg * a
  let dv := sg * (vt - v)
  let ap : Int := isqrt ((mulQ jm dv + mulQ a' a' / 2) * fine1).toNat
  if ap ≤ am then [(sg * jm, max 0 (divQ (ap - a') jm)), (-sg * jm, divQ ap jm)]
  else
    let t1 := divQ (am - a').natAbs jm
    let j1 := if a' ≤ am then jm else -jm
    let dv1 := mulQ ((a' + am) / 2) t1
    let t3 := divQ am jm
    let t2 := max 0 (divQ (dv - dv1 - mulQ am t3 / 2) am)
    [(sg * j1, t1), (0, t2), (-sg * jm, t3)]

/-- Position, velocity and acceleration after a phase. -/
def runPhase (x : Int × Int × Int) (f : Phase) : Int × Int × Int :=
  let (p, v, a) := x
  let (j, t) := f
  (p + mulQ v t + mulQ a (mulQ t t) / 2 + mulQ j (mulQ t (mulQ t t)) / 6, v + mulQ a t + mulQ j (mulQ t t) / 2, a + mulQ j t)

/-- The distance covered by accelerating to `vp` and braking to rest. -/
def distVia (v a vp am jm : Int) : Int :=
  ((toVel v a vp am jm).foldl runPhase (0, v, a)).1 + ((toVel vp 0 0 am jm).foldl runPhase (0, vp, 0)).1

/-- Bisection for the peak velocity that covers a distance. -/
def findPeak (dist v a am jm : Int) : Nat → Int → Int → Int
  | 0, lo, _ => lo
  | k + 1, lo, hi =>
    let mid := (lo + hi) / 2
    if distVia v a mid am jm ≤ dist then findPeak dist v a am jm k mid hi else findPeak dist v a am jm k lo mid

/-- The minimum-time profile over a distance to rest, in at most seven phases. -/
def minTime (dist v a vm am jm : Int) : List Phase :=
  let (vp, cruise) :=
    if distVia v a vm am jm ≤ dist then (vm, divQ (dist - distVia v a vm am jm) vm)
    else if dist ≤ distVia v a (-vm) am jm then (-vm, divQ (distVia v a (-vm) am jm - dist) vm)
    else (findPeak dist v a am jm 128 (-vm) vm, 0)
  (toVel v a vp am jm ++ [(0, cruise)] ++ toVel vp 0 0 am jm).filter (fun f => decide (0 < f.2))

/-- Knots of a profile: time from its start, position and velocity at the end of each phase, with `fineBits` fractional bits. -/
def knotsOf (x : Int × Int × Int) (t : Int) : List Phase → List (Int × Int × Int)
  | [] => []
  | f :: fs => let y := runPhase x f; (t + f.2, y.1, y.2.1) :: knotsOf y (t + f.2) fs

end Sys2Proof.Machine
end

