-- ==== Sys2Proof/Operand.lean ====
section
/-! DEFINITION. The types of the operands that commands carry. -/

namespace Sys2Proof

/-- Who makes an access (R86, R386): a session-table entry (Billet or BACnet/SC), the BACnet/IP client, an application
core, an application core whose access is 8 or 16 bits wide (R84), the supervisory firmware, or an engine. -/
inductive Requester where
  | session (n : Fin 512)
  | bacnetIp
  | core (n : Fin 4)
  | coreNarrow (n : Fin 4)
  | firmware
  | scan
  | motion
  | lift
  | skiver
  | loopSlot (n : Fin 256)
deriving DecidableEq, Repr

/-- The network ports that carry Billet (R89). -/
inductive Port where
  | A | B | MNT
deriving DecidableEq, Repr

/-- The two frame ports (R395). -/
inductive Lan where
  | A | B
deriving DecidableEq, Repr

/-- The two metering buses (R143). -/
inductive Bus where
  | A | B
deriving DecidableEq, Repr

/-- How a Billet datagram arrives (R90 to R94): its port, whether it is a fragment, whether its tag verifies, and its
sequence number. -/
structure Arrival where
  port     : Port
  udp      : Nat
  fragment : Bool
  tagOk    : Bool
  seq      : Nat
deriving DecidableEq, Repr

/-- The body of a REQUEST (R98). -/
structure BilletReq where
  op      : Nat
  flags   : Nat
  len     : Nat
  reqId   : Nat
  addr    : Nat
  arg     : Word
  payload : List Byte
deriving DecidableEq, Repr

/-- A version pin offered in OPEN_INIT (R97). -/
structure PinOffer where
  type  : Nat
  major : Nat
  minor : Nat
deriving DecidableEq, Repr

/-- OPEN_INIT (R92 to R97); the key and the nonce are carried as numbers. -/
structure OpenInit where
  port    : Port
  udp     : Nat
  fragment : Bool
  keyQ    : Nat
  nonce   : Nat
  credId  : Nat
  majors  : Nat
  limit   : Nat
  strict  : Bool
  pins    : List PinOffer
deriving DecidableEq, Repr

/-- The sources that a captured report comes from, in the ranking of R158. -/
inductive ReportSource where
  | stirrup | tile (n : Fin 8) | metering | slot (n : Fin 1024) | mac (l : Lan) | can (n : Fin 4) | other (page : Nat)
deriving DecidableEq, Repr

/-- A captured event waiting for its sequence value (R158): its corrected timestamp in TAI ns and its source. -/
structure Report where
  ts  : Nat
  src : ReportSource
deriving DecidableEq, Repr

/-- The supply sources of the backup domain (R34). -/
inductive BkpSource where
  | logic | scap | coin
deriving DecidableEq, Repr

/-- The backup store (R34, R35): the voltages of the supercapacitor and of the coin cell, mV. -/
structure BkpStore where
  scap : Nat
  coin : Nat
deriving DecidableEq, Repr

/-- An Announce message (R116, R117): the sender's clock identity, the grandmaster's data set, steps removed, domain,
currentUtcOffset and its flags. -/
structure Announce where
  clockId      : Nat
  gmId         : Nat
  priority1    : Nat
  clockClass   : Nat
  accuracy     : Nat
  variance     : Nat
  priority2    : Nat
  stepsRemoved : Nat
  domain       : Nat
  utcOffset    : Nat
  utcValid     : Bool
  leap59       : Bool
  leap61       : Bool
  transport    : Fin 3
deriving DecidableEq, Repr

/-- A Sync with its Follow_Up, or a one-step Sync (R118): the parent's clock identity, the origin time, the captured
receive time and the sum of the correction fields, in 2^-16 ns. -/
structure SyncMsg where
  clockId : Nat
  origin  : Int
  receive : Int
  corr    : Int
  transport : Fin 3
deriving DecidableEq, Repr

/-- The four instants of a delay measurement (R116), in 2^-16 ns, as captured: for E2E the Sync origin and receive
times and the Delay_Req transmit and receive times; for P2P the same of the peer exchange. -/
structure DelayMsg where
  t1   : Int
  t2   : Int
  t3   : Int
  t4   : Int
  corr : Int
  transport : Fin 3
deriving DecidableEq, Repr

/-- What a port in MASTER sends (R116): at its intervals, or in answer to a Delay_Req. -/
inductive MasterMsg where
  | sync | announce | delayResp
deriving DecidableEq, Repr


/-- How a Welt frame ends (R181): it arrives good, arrives damaged, does not arrive, or arrives as a repeat. -/
inductive FrameRx where
  | good | damaged | lost | repeated
deriving DecidableEq, Repr

/-- A BACnet object of the module (R391): a point's, the Device object, or one of the Schedule, Calendar and Network Port objects that
the supervisory firmware serves. -/
inductive BacObj where
  | point (n : Fin 8192)
  | device
  | firmware (i : Nat)
deriving DecidableEq, Repr

/-- The properties of an object that are read (R391); another by its number. -/
inductive BacProp where
  | presentValue | statusFlags | priorityArray | relinquishDefault | objectIdentifier | objectType | covIncrement | objectList
  | other (number : Nat)
deriving DecidableEq, Repr

/-- What WriteProperty writes to a point's object (R391): Present_Value, or NULL, or COV_Increment. -/
inductive BacWrite where
  | value (w : Word)
  | null
  | covIncrement (w : Word)
deriving DecidableEq, Repr

/-- A BACnet/SC hub connection (R391, R392): its port, whether it is the one to the failover hub, and the certificate's handle. -/
structure ScConnect where
  port     : Lan
  failover : Bool
  handle   : Fin 2048
deriving DecidableEq, Repr

/-- The arguments of CRED_CREATE (R441); the 48-byte value is carried as a number. -/
structure CredArgs where
  parent : Nat
  kind   : Nat
  credId : Nat
  rights : Nat
  prio   : Nat
  value  : Option Nat
deriving DecidableEq, Repr

/-- What phase 1 of a bus carries when its PLL locks (R144): the frequency in mHz, the rms voltage in mV, and for how many
cycles on end. -/
structure MainsSeen where
  mHz    : Nat
  mV     : Nat
  cycles : Nat
deriving DecidableEq, Repr

/-- What phase 1 of a bus carries when its PLL loses lock (R144): also the rate of change of frequency in mHz/s. -/
structure MainsFault where
  bus    : Bus
  mHz    : Nat
  mV     : Nat
  cycles : Nat
  rocof  : Nat
deriving DecidableEq, Repr

/-- What a mains PLL measures over 125 µs (R144): how far its coordinate advanced, in 1/65 536 cycle, and the frequency
in mHz. -/
structure MainsRead where
  advance : Nat
  mHz     : Nat
deriving DecidableEq, Repr

/-- What a twin partner shows over the link in a pairing attempt (R444, R446): whether the handshake verifies, its
serial number, the hashes of the parts it runs and has staged, its CFG_DIGEST, PRP_ACTIVE, whether its paired channels
stand the check, its state, and whether it is starting with PREFER. -/
structure TwinPeer where
  handshake : Bool
  serial    : Nat
  parts     : List Nat
  staged    : List Nat
  digest    : Nat
  prp       : Bool
  channels  : Bool
  state     : Fin 4
  starting  : Bool
  prefer    : Bool
deriving DecidableEq, Repr

/-- A value from outside as a unit of the pair reads it (R448). -/
structure RoundVal where
  point : Fin 8192
  value : Word
  qual  : BitVec 8
deriving DecidableEq, Repr

/-- A stop of a car (R294): landing, door side, direction on leaving, committed, and its predicted arrival in 0.1 s. -/
structure Stop where
  landing : Nat
  rear    : Bool
  down    : Bool
  com     : Bool
  eta     : Nat
deriving DecidableEq, Repr

/-- A call entry in use (R298 to R303). States: 1 TENTATIVE, 2 COMMITTED, 3 BOARDED; kinds 0 DEST, 1 HALL, 2 CAR. -/
structure Call where
  id     : Nat
  state  : Nat
  kind   : Nat
  down   : Bool
  rear   : Bool
  reass  : Bool
  origin : Nat
  dest   : Nat
  pax    : Nat
  car    : Nat
  eta    : Nat
  /-- The predicted arrival at its origin, or at its destination where it is boarded or a CAR call, TAI less steps. -/
  etaAt  : Option Int
  seq    : Nat
  /-- The instant of entry, TAI less steps, and whether its lantern is lit (R302). -/
  entry  : Int
  lit    : Bool
deriving DecidableEq, Repr

/-- What reaches a unit from its partner in an agreement round (R447 to R451, R454, R456): the ACTIVE receives the
STANDBY's set, the STANDBY the agreed set. Car positions come with their validity; with them come the output levels
per tile, the sender's output digest of the round before, its sequence and pair counters, TIME_OFS, VALID, whether the
sender's scan engine runs, whether roles change, the shed stages the ACTIVE has applied (bit 0 S1, bit 1 S2; R512), the partner's sensor 0 in 0.1 °C (R497), and, where a pass of
the ACTIVE's dispatcher has ended, its call table and the cars' stops, and the words of its coil table that have changed (R450). -/
structure RoundIn where
  vals    : List RoundVal
  cars    : List (Fin 8 × Word × Bool)
  outs    : List Word
  digest  : Nat
  seq     : Nat
  pairSeq : Nat
  ofs     : Word
  valid   : Bool
  scanRun : Bool
  switch  : Bool
  stages  : BitVec 2
  temp    : Int
  calls   : Option (List (Fin 4096 × Call) × List (Fin 8 × List Stop))
  coils   : List (Nat × Word)
deriving DecidableEq, Repr

/-- An error a scrub finds (R491): the address, whether it is uncorrectable, and its syndrome. -/
structure EccFind where
  addr     : Nat
  ue       : Bool
  syndrome : BitVec 7
deriving DecidableEq, Repr

/-- A reading of a car's position input (R283, R284): the data word of an SSI frame, its error bit and whether the line
was high after the last clock bit; or a quadrature count, and whether a transition changed both tracks on one edge. -/
inductive PosRead where
  | ssi (word : Nat) (err lineHigh : Bool)
  | quad (count : BitVec 64) (jump : Bool)
deriving DecidableEq, Repr

/-- A call as it is entered (R298): kind, direction, door side, origin, destination, passengers, and the car whose panel
enters a CAR call. -/
structure CallReq where
  kind   : Fin 4
  down   : Bool
  rear   : Bool
  origin : Fin 256
  dest   : Fin 256
  pax    : Fin 16
  car    : Fin 8
deriving DecidableEq, Repr

/-- How an attempt to send a CAN frame ends (R418, R419). -/
inductive TxOutcome where
  | sent | lost | error | clash
deriving DecidableEq, Repr

/-- A CAN frame as received (R420); `ts` is the corrected timestamp of its SOF. -/
structure CanRx where
  ide  : Bool
  fdf  : Bool
  brs  : Bool
  esi  : Bool
  rtr  : Bool
  dlc  : Nat
  id   : Nat
  data : List Nat
  ts   : Nat
deriving DecidableEq, Repr

/-- A status report (R423). -/
structure DriveReport where
  act    : BitVec 64
  status : BitVec 16
  code   : BitVec 16
  cur    : BitVec 16
  echo   : BitVec 8
deriving DecidableEq, Repr

/-- What a fixture's frame says (R425): the spec names the CiA 417 virtual devices and not the encoding. -/
inductive FixMsg where
  | call (c : CallReq)
  | doorButton (car : Fin 8) (opens pressed : Bool)
  | lightBarrier (car : Fin 8) (on : Bool)
  | keySwitch (car : Fin 8) (on : Bool)
  | load (car : Fin 8) (kg : Nat)
deriving DecidableEq, Repr

/-- What a sleeping channel's transceiver sees (R426): a wake-up pattern, or a frame with whether it is CAN FD. -/
inductive WakeEvent where
  | pattern
  | frame (fd ide : Bool) (id dlc : Nat) (data : BitVec 64)
deriving DecidableEq, Repr

/-- What both cores of Stirrup find in a safety cycle beside the levels they read: whether the output vectors differed or a core missed
the end of the cycle (R328), and, where a pulse of SAFETY_RESET ended, whether core A and core B read it back in phase (R346). -/
structure CycleReads where
  differ : Bool
  pulse  : Option (Bool × Bool)
deriving DecidableEq, Repr

/-- How Stirrup's self-test ends (R330): whether it passed, and whether each copy of the parameter set in MRAM reads back whole (R352). -/
structure SelfTest where
  pass  : Bool
  copyA : Bool
  copyB : Bool
deriving DecidableEq, Repr

/-- A telegram copy as received (R342). -/
structure Telegram where
  magic : Nat
  lane  : Nat
  flags : Nat
  conn  : Word
  count : Nat
  data  : BitVec 64
  chkA  : Word
  chkB  : Word
deriving DecidableEq, Repr

/-- An Ethernet frame as received (R398): its bytes from the destination address to the last before the FCS, whether the
FCS holds, and its receive time in TAI ns as the PHY captures it (R124). -/
structure RxFrame where
  bytes : List Byte
  fcsOk : Bool
  ts    : Nat
deriving DecidableEq, Repr

end Sys2Proof
end

