-- ==== Sys2Proof/Machine/Parts.lean ====
section
/-! DEFINITION. The parts of the state beside its registers, as plain data: one structure for each unit of the block, with its
value at reset where one is named. -/

namespace Sys2Proof.Machine

/-- The answer to the last access or request: a Billet status code (R105), response data, FAIL_OFFSET (R530), and
whether a core received a bus error (R84, R85, R88). -/
structure Resp where
  status     : Nat
  data       : List Word
  failOffset : Nat
  busError   : Bool
deriving DecidableEq, Repr

/-- The kinds of message the block sends. -/
inductive SentKind where
  | openResp | billetResponse | billetNotify | billetClose
  | ptpDelayReq | ptpDelayResp | ptpPdelayResp | ptpPdelayRespFollowUp | ptpAnnounce | ptpSync | ptpFollowUp
  | weltFrame | weltUplink | weltTableFrame | timedCommand | recallFrame | goSafeFrame
  | safetyTelegram | ethFrame | prpSupervision | canFrame | sdoRequest
  | bacnetReply | bacnetError | covNotification | iAm
  | twinHeartbeat | twinGiveUp | twinRound | twinResync | annunciation
  | panelClear | callAck | callRefused | carAssigned | lanternOn | lanternOff | pulseOut | capture
deriving DecidableEq, Repr

/-- A message sent: its kind, the port or channel, its addressee and its contents. -/
structure Sent where
  kind : SentKind
  port : Nat
  dest : Nat
  body : List Nat
deriving DecidableEq, Repr

/-- Power, reset and bring-up beside their registers (R24 to R70). -/
structure Supply where
  /-- The logic side has power. -/
  powered  : Bool
  /-- The FULL domains are held in reset (R50, R55). -/
  fullHeld : Bool
  /-- A reset episode is open (R55): the sources asserted, by number (0 to 11 as R53; 12 a lost crystal, R62), the widest
  reach seen (1 APP to 4 BKP), and the last point of bring-up passed (R66). -/
  episode  : Bool
  sources  : List Nat
  reach    : Nat
  point    : Nat
  /-- RESET_N is masked (R57). -/
  nMask    : Bool
  /-- START_CTL.TACK_EXIT was written, or an update has been activated in Tack room (R65). -/
  tackExit : Bool
  /-- A run has begun (its APP release), and the last run failed and is to be counted at the next release (R64). -/
  running  : Bool
  failPend : Bool
  /-- The backup domain was reset while the logic side had no power (R53). -/
  bkpLoss  : Bool
  /-- HOLDUP was entered by WARN_TEST. -/
  warnTest : Bool
  /-- The final checkpoint of R48 (R50): 0 none to be made, 1 to be made at H3, 2 under way. -/
  final    : Nat
  /-- The next start enters RECOVERY (R45). -/
  recover  : Bool
  /-- Pass-through fuses that are closed (R32): 0 to 3 FIX_24V of CAN_0 to CAN_3, 4 to 11 ENC_24V of POS_0 to POS_7. -/
  fuses    : List Nat
  /-- The MRAM mirror of RST_TOTAL, POWER_CYCLES and FAIL_RUN (R63). -/
  mirror   : Nat × Nat × Nat
  /-- The counts shown when the backup domain lost them, so that the mirror is to be restored. -/
  restoreCnt : Bool
  /-- Pass-through fuses open by a trip, which the electronic fuse retries once a second whatever the logic side does
  (R32); FIX_TRIP and ENC_TRIP show them until a reset of reach SYS clears the registers. -/
  tripped  : List Nat
  /-- The module is in Tack room, or its next start is, until a reset that R65 lets end it. -/
  tack     : Bool
  /-- Per clock of R60, the windows in a row whose count lay outside 1 % of its nominal frequency (R61), by clock. -/
  clkOut   : KV Nat
  /-- TAI at the latest APP release (R383). -/
  appAt    : Nat
  /-- H5 of R48 has been reached, and HOLDUP still lasts. -/
  atH5     : Bool
deriving DecidableEq, Repr

/-- The supply before the first power-on. -/
def Supply.initial : Supply where
  powered := false
  fullHeld := true
  episode := false
  sources := []
  reach := 0
  point := 0
  nMask := false
  tackExit := false
  running := false
  failPend := false
  bkpLoss := false
  warnTest := false
  final := 0
  recover := false
  fuses := []
  mirror := (0, 0, 0)
  restoreCnt := false
  tripped := []
  tack := false
  clkOut := []
  appAt := 0
  atH5 := false

/-- A requester's latch of a wide value (R86): its low-word address and the latched words. -/
structure Latch where
  addr  : Nat
  words : List Word
deriving DecidableEq, Repr

/-- A served or refused pin of a session (R97). -/
structure Pin where
  type   : Nat
  minor  : Nat
  served : Bool
deriving DecidableEq, Repr

/-- An ORDERED request that is held (R108), and the port on which it arrived (R89). -/
structure HeldReq where
  port : Port
  req  : BilletReq
deriving DecidableEq, Repr

/-- A session-table entry in use (R93, R386). -/
structure Session where
  sc        : Bool
  /-- The UDP port of its opening: SYS.BLT_PORT as it then stood (R89). -/
  udp       : Nat
  sid       : Nat
  tag       : Nat
  rights    : Nat
  prio      : Nat
  keyHandle : Nat
  credHandle : Nat
  /-- The port of the latest datagram of the host, and that of its last REQUEST, or of OPEN_CONFIRM before the first (R111). -/
  port      : Port
  lastReq   : Port
  limit     : Nat
  pins      : List Pin
  /-- H of R107: the highest REQ_ID performed. -/
  highest   : Nat
  /-- The REQ_IDs from H − 63 to H that have been performed. -/
  performed : List Nat
  /-- The responses to the last 16 performed requests, newest first. -/
  held      : List (Nat × Resp)
  /-- The highest SEQ seen, and the SEQs seen among the last 1 024 (R94). -/
  seqMax    : Nat
  seqSeen   : List Nat
  /-- Datagrams received and sent (R95). -/
  rxCount   : Nat
  txCount   : Nat
  /-- ORDERED requests held (R108), oldest first. -/
  waiting   : List HeldReq
  /-- The hub of a BACnet/SC connection: 0 for a Billet session, 1 the primary, 2 the failover hub (R391). -/
  hub       : Nat
deriving DecidableEq, Repr

/-- A half-open session (R93). -/
structure HalfOpen where
  sid       : Nat
  udp       : Nat
  credId    : Nat
  keyHandle : Nat
  port      : Port
  limit     : Nat
  pins      : List Pin
  /-- The transcript that OPEN_CONFIRM authenticates. -/
  transcript : Nat
deriving DecidableEq, Repr

/-- A notification of a subscription (R109). -/
structure Note where
  seq       : Nat
  coalesced : Bool
  devSeq    : Nat
  payload   : List Word
deriving DecidableEq, Repr

/-- A subscription (R109): kind 1 IRQ, 2 POINT, 3 RECORD; the page or entry; the IRQ mask or the least severity; the
notes not yet sent, oldest first; the notes sent and not acknowledged. -/
structure Sub where
  id      : Nat
  sess    : Nat
  kind    : Nat
  target  : Nat
  mask    : Nat
  waiting : List Note
  unacked : List Note
  nextNote : Nat
deriving DecidableEq, Repr

/-- A queued transmit timestamp (R126). -/
structure TxTs where
  id   : Nat
  frac : Nat
  ns   : Nat
  sec  : Nat
deriving DecidableEq, Repr

/-- What a PTP port knows of its network (R116): the link state the PHY reported, the clocks heard, each with its last Announce and
how many have been received, and whether it has had a qualified master since its link came up. -/
structure PtpPort where
  link      : Option Bool
  masters   : List (Announce × Nat)
  hadMaster : Bool
deriving DecidableEq, Repr

/-- The time base beside its registers (R113 to R122). Rates are held exactly, in units of 2^-33 ppb; offsets in
2^-16 ns. -/
structure TimeBase where
  /-- INCR in 2^-32 ns (R113). -/
  incr      : Nat
  /-- The low 16 bits of the 32-bit fraction of a nanosecond, below FRAC (R113). -/
  fracLo    : Nat
  /-- The sum of all steps of the time value since the start, in ns: an instant that keeps its physical place through
  a step (R123) is held as TAI less this sum. -/
  stepSum   : Int
  /-- freq and adj of R120. -/
  freq      : Int
  adj       : Int
  /-- The last accepted offset, from which the next is predicted (R121). -/
  lastOfs   : Int
  /-- Accepted offsets counted towards LOCKED, with the least and the greatest of them (R118). -/
  lockCount : Nat
  lockMin   : Int
  lockMax   : Int
  /-- The clockIdentity of the parent, while PARENT_PORT names one. -/
  parentId  : Nat
  /-- The ports. -/
  portA     : PtpPort
  portB     : PtpPort
  /-- Whether the mean path delay of the parent port is known. -/
  mpdKnown  : Bool
  /-- Consecutive offsets rejected under R121. -/
  rejected  : Nat
  /-- UTC offset and leap flags (59, 61) of the parent's last valid Announce, taken at the next accepted one (R117). -/
  utcNext   : Option (Nat × Bool × Bool)
  /-- The transmit timestamp queues (R126, R127), oldest first. -/
  txtsA     : List TxTs
  txtsB     : List TxTs
deriving DecidableEq, Repr

/-- The time base at a release (R114). -/
def TimeBase.initial : TimeBase where
  incr := 8 * 2 ^ 32
  fracLo := 0
  stepSum := 0
  freq := 0
  adj := 0
  lastOfs := 0
  lockCount := 0
  lockMin := 0
  lockMax := 0
  parentId := 0
  portA := ⟨none, [], false⟩
  portB := ⟨none, [], false⟩
  mpdKnown := false
  rejected := 0
  utcNext := none
  txtsA := []
  txtsB := []



/-- A calendar value (R129). -/
structure Civil where
  year  : Nat
  month : Nat
  day   : Nat
  hour  : Nat
  min   : Nat
  sec   : Nat
deriving DecidableEq, Repr

/-- A summer-time command that waits for the next roll-over (R135). -/
inductive DstCmd where
  | add | sub
deriving DecidableEq, Repr

/-- The calendar beside its registers. -/
structure Calendar where
  pendDst  : Option DstCmd
  /-- After a leap, the value U + 1 or U − 1 that is used in place of U until UTC_OFS takes it (R137). -/
  leapU    : Option Int
  /-- An undisciplined calendar holds its value for the extra second: the next roll-over advances nothing (R137). -/
  leapHold : Bool
  /-- The calendar value held still at the end of the range (R131). -/
  rangeHeld : Bool
  /-- How much of the oscillator's running tick has passed: a cycle of the 125 MHz counter is 32 768 of it, and a tick
  125 000 000. -/
  frac     : Nat
deriving DecidableEq, Repr

def Calendar.initial : Calendar := ⟨none, none, false, false, 0⟩

/-- A committed slot's fixed data (R151): the command instant t_c and the target instant t_p, as TAI less steps (they
keep their physical place, R153), whether it fires late, and its sequence value. -/
structure SlotCommit where
  tc   : Int
  tp   : Int
  late : Bool
  seq  : Nat
  /-- The lead is a learned operate time (R155). -/
  comp : Bool
deriving DecidableEq, Repr

/-- A slot whose deviation is still to be measured (R154): its target instant, TAI less steps, and the base, coordinate and
direction with which it was committed. -/
structure DevWait where
  slot  : Nat
  tp    : Int
  base  : Nat
  coord : Nat
  dir   : Nat
deriving DecidableEq, Repr

/-- The firing of a slot (R152): its code, its timestamp, and the snapshot set that it filled. -/
structure Firing where
  slot : Nat
  code : Nat
  ts   : Nat
  snap : Option Nat
deriving DecidableEq, Repr

/-- An entry of the DONE queue (R152, R162). -/
structure DoneEntry where
  slot : Nat
  code : Nat
  seq  : Nat
  ts   : Nat
deriving DecidableEq, Repr

/-- Coil learning beside the COIL table (R156): counts of measurements, the means at the last save, the instants of the
last scheduler commands and of the first contact seen after each (TAI less steps), and the compensated slot that gave the
command with its target instant. -/
structure CoilLearn where
  onCount  : Nat
  offCount : Nat
  onSaved  : Nat
  offSaved : Nat
  onCmd    : Option Int
  offCmd   : Option Int
  onAt     : Option Int
  offAt    : Option Int
  slot     : Option (Nat × Int)
deriving DecidableEq, Repr

def CoilLearn.initial : CoilLearn := ⟨0, 0, 0, 0, none, none, none, none, none⟩

/-- The sequencer (R158, R159). -/
structure Sequencer where
  /-- Captured reports that wait for their value. -/
  waiting : List Report
  /-- The reports given a value by the last assignment, in order. -/
  given   : List (Report × Nat)
  /-- The value mirrored in MRAM. -/
  mirror  : Nat
deriving DecidableEq, Repr

/-- A mains PLL beside its registers (R144): a first lock has happened since the APP release; the last locked frequency in
mHz, of which FREQ shows 16 bits; and the part of a coordinate unit passed while HELD, in 1e-9 units. -/
structure Pll where
  ever : Bool
  freq : Nat
  rem_ : Nat
deriving DecidableEq, Repr

/-- A channel as the field side of its tile holds it (R164 to R193). -/
structure Chan where
  /-- CH_CFG and CH_PARAM as last taken up from the logic side. -/
  cfg     : Word
  param   : Word
  /-- The level the tile drives, and the same of the two series switches of a safety output (R190). -/
  out     : Bool
  swA     : Bool
  swB     : Bool
  /-- Input: the filtered level, the last sample, its run and the instant of the run's first sample (R167). -/
  inp     : Bool
  last    : Bool
  run     : Nat
  runTs   : Nat
  /-- Wire break (R168): consecutive samples below and at or above 0.3 mA, and the flag. -/
  brkLow  : Nat
  brkOk   : Nat
  brk     : Bool
  /-- Counted edges not yet sent, and the latest edge (R170). -/
  cntInc  : Nat
  edge    : Nat
  /-- Pulses waiting, and pulses put on the terminal (R173). -/
  pulses  : Nat
  emitted : Nat
  /-- Faults (R176, R178, R192). -/
  short   : Bool
  hot     : Bool
  openLd  : Bool
  extDrv  : Bool
  shed    : Bool
  tstFail : Bool
  tstDue  : Bool
  /-- The current it draws, mA. -/
  ma      : Nat
  /-- The next test opens switch B (R192); the next test waits for 1 s of energised time (R193). -/
  testB   : Bool
  resched : Bool
  /-- Pulses discarded and not yet reported (R378). -/
  back    : Nat
  /-- The level that the channel's own pulses, PWM or step timer give (R172 to R174), and the instant at which its pulse ends.
  Instants are those of the tile's timer. -/
  wave    : Bool
  waveEnd : Option Nat
  /-- The end of the pause after the last pulse (R173). -/
  busyTo  : Nat
  /-- PERIOD and DUTY of the running PWM period, and its start (R172). -/
  pwm     : Word
  pwmFrom : Nat
  /-- The level at which safe state keeps a stage that otherwise follows `wave` (R185). -/
  forced  : Option Bool
  /-- The end of the frame for which a change of MODE keeps the stage off (R164). -/
  gapEnd  : Option Nat
  /-- When the output was last commanded off (R176, R177). -/
  offAt   : Option Nat
  /-- The terminal was last found high while the channel's own stage did not drive it (R176). -/
  ext     : Bool
deriving DecidableEq, Repr

/-- A channel after power-up of the field side. -/
def Chan.initial : Chan := ⟨0, 0, false, false, false, false, false, 0, 0, 0, 0, false, 0, 0, 0, 0, false, false, false,
  false, false, false, false, 0, false, false, 0, false, none, 0, 0, 0, none, none, none, false⟩

/-- A step timer (R174, R175): its entries, whether it runs, UNDERRUN, the last entry taken, and the steps emitted,
signed, not yet sent. -/
structure StepTimer where
  fifo     : List Word
  run      : Bool
  underrun : Bool
  lastWord : Word
  posInc   : Int
  /-- STEP_CFG and STEP_W as the tile has them. -/
  cfg      : Word
  width    : Nat
  /-- The direction last set, when it was set, and the instant to which DIR_SETUP delays a step that has fallen due. -/
  dir      : Bool
  dirAt    : Option Nat
  due      : Option Nat
deriving DecidableEq, Repr

/-- A timer before its configuration reaches the tile: the reset values of STEP_CFG and STEP_W. -/
def StepTimer.initial : StepTimer := ⟨[], false, false, 0, 0, 0x00050000, 250, false, none, none⟩

/-- A copy of the safe-state table (R189): version, whether its CRC holds, and two bits of action per channel. -/
structure SafeCopy where
  ver     : Nat
  ok      : Bool
  actions : Nat
deriving DecidableEq, Repr

/-- A timed command held by a tile (R180): local channel, level, slot, and the instant (TAI less steps). -/
structure Timed where
  ch    : Nat
  level : Bool
  slot  : Nat
  tc    : Int
deriving DecidableEq, Repr

/-- The sequence counters of a Welt lane (R181), downlink and uplink: the next SEQ sent and the last accepted; and whether the
controller at its end has valid frames (R190); and the last downlink SEQ that the tile acknowledged (R180). -/
structure Lane where
  dnTx : Nat
  dnRx : Option Nat
  upTx : Nat
  upRx : Option Nat
  up   : Bool
  acked : Option Nat
deriving DecidableEq, Repr

/-- A tile. -/
structure Tile where
  -- the field side
  /-- Its local timer: nanoseconds since it started, its part below 1 ns in 2^-32 ns, and its last rate, 2^-32 ns in 8 ns of the
  logic side's oscillator, which a valid frame disciplines to TAI (R182). -/
  clk       : Nat
  clkFrac   : Nat
  rate      : Nat
  /-- BARRIER_US, HOLD_MS in µs and AUTO_RESTORE as last given to the tile, which no reset of the logic side changes (R52). -/
  barrier   : Nat
  holdUs    : Nat
  autoRestore : Bool
  /-- A valid frame has arrived since power-up (R38, R185). -/
  first     : Bool
  ch        : KV Chan
  /-- Safety inputs as the second controller of a safety tile samples them (R190). -/
  chB       : KV Chan
  timers    : KV StepTimer
  timed     : List Timed
  safe      : Bool
  cause     : Nat
  /-- Channels held at their safe action in ENDURANCE, and the levels of the latest frame (R534). -/
  fireHold  : Nat
  lastLevels : Nat
  /-- The last frame carried HOLD: the next silence is extended (R188). -/
  holdExt   : Bool
  copyA     : SafeCopy
  copyB     : SafeCopy
  /-- The table in force: its version and actions; none when neither copy holds. -/
  table     : Option (Nat × Nat)
  /-- A commit under way: whether it writes copy A. -/
  commit    : Option Bool
  fsFail    : Bool
  fsRev     : Bool
  fsMv      : Nat
  temp      : Int
  /-- The measured sum, consecutive measurements above 8 A, whether the last was above 10 A (R178). -/
  sum       : Nat
  over8     : Nat
  /-- Shed outputs with the current they drew, the last shed first, and measurements below the restore limit (R179). -/
  shedOrder : List (Nat × Nat)
  below     : Nat
  /-- The channel under test and whether switch B is open (R192). -/
  test      : Option (Nat × Bool)
  /-- Not yet reported: barrier expiries, outputs shed, tests abandoned, tests failed, edges. -/
  nBarrier  : Nat
  nShed     : Nat
  nAbort    : Nat
  nFailed   : Nat
  edges     : List (Nat × Bool × Nat)
  /-- Inputs have been sampled since the group last compared the door-zone inputs (R290), and the TAI of the last sample (R180). -/
  sampled   : Bool
  sampleTs  : Nat
  -- the lanes
  laneA     : Lane
  laneB     : Lane
  -- the logic side
  trainedA  : Bool
  trainedB  : Bool
  /-- The condition of R186 for LIVE. -/
  qual      : Bool
  /-- GO_SAFE is being sent, and its first frame has gone (R186). -/
  goSafe    : Bool
  goSent    : Bool
  /-- The tile entered safe state by itself and has not yet reported it (R186). -/
  unreported : Bool
  /-- Consecutive valid uplink frames, at most 16 (R183). -/
  upRun     : Nat
  /-- Timed commands and step entries (timer, word) waiting for a frame. -/
  timedOut  : List Timed
  stepOut   : List (Nat × Word × Int)
  /-- Messages waiting for a frame's message block (R180): pulse requests, channel and count, and the actions of a new table. -/
  pulseOut  : List (Nat × Nat)
  commitOut : Option Nat
  /-- Channels whose CH_CFG or CH_PARAM was written and not yet sent (R164), and whether a setting of the tile was. -/
  cfgSend   : List Nat
  ctlSend   : Bool
  /-- Levels of safety outputs commanded by Stirrup core A and core B. -/
  safA      : Nat
  safB      : Nat
  /-- Output levels of the twin, for paired channels, and when one was last commanded off (R177). -/
  peerOut   : Nat
  peerOff   : KV Nat
deriving DecidableEq, Repr

/-- A tile before its field side has power; its tables are empty (log entry 1). -/
def Tile.initial : Tile where
  clk := 0
  clkFrac := 0
  rate := 8 * 2 ^ 32
  barrier := 10000
  holdUs := 400000
  autoRestore := true
  first := false
  ch := []
  chB := []
  timers := []
  timed := []
  safe := false
  cause := 0
  fireHold := 0
  lastLevels := 0
  holdExt := false
  copyA := ⟨0, true, 0⟩
  copyB := ⟨0, false, 0⟩
  table := some (0, 0)
  commit := none
  fsFail := false
  fsRev := false
  fsMv := 0
  temp := 0
  sum := 0
  over8 := 0
  shedOrder := []
  below := 0
  test := none
  nBarrier := 0
  nShed := 0
  nAbort := 0
  nFailed := 0
  edges := []
  sampled := false
  sampleTs := 0
  laneA := ⟨1, none, 1, none, false, none⟩
  laneB := ⟨1, none, 1, none, false, none⟩
  trainedA := false
  trainedB := false
  qual := false
  goSafe := false
  goSent := false
  unreported := false
  upRun := 0
  timedOut := []
  stepOut := []
  pulseOut := []
  commitOut := none
  cfgSend := []
  ctlSend := false
  safA := 0
  safB := 0
  peerOut := 0
  peerOff := []

/-- An entry of the branch stack (R224, R230). -/
inductive StkEntry where
  | bit (b : Bool)
  | ret (pc : Nat)
deriving DecidableEq, Repr

/-- The working registers of the scan engine (R224); the stack's newest entry first, and the engine cycles spent in the
running execute phase (R228). -/
structure Cpu where
  pc    : Nat
  ba    : Bool
  wa    : Word
  wq    : Nat
  x     : BitVec 22
  z     : Bool
  n     : Bool
  v     : Bool
  stack : List StkEntry
  cyc   : Nat
deriving DecidableEq, Repr

/-- The working registers at the start of an execute phase (R224). -/
def Cpu.start (entry : Nat) : Cpu := ⟨entry, false, 0, 0, 0, false, false, false, [], 0⟩

/-- A symbol (R216): SYM_ID, TYPE, RET, LEN, ADDR. -/
structure Symbol where
  id   : Nat
  type : Nat
  ret  : Bool
  len  : Nat
  addr : Nat
deriving DecidableEq, Repr

/-- A copy of the retentive data (R212): its generation, kind (0 PERIODIC, 1 FINAL, 2 COMMANDED), PROG_ID, the map of
retentive symbols, the bytes retained with their words that are not 0, and its CRC-32C. -/
structure RetCopy where
  gen    : Nat
  kind   : Nat
  progId : Nat
  syms   : List Symbol
  len    : Nat
  data   : KV Word
  crc    : Word
deriving DecidableEq, Repr

/-- A copy that was never written: its CRC, 0, does not hold. -/
def RetCopy.initial : RetCopy := ⟨0, 0, 0, [], 0, [], 0⟩

/-- The scan engine beside its registers and its data window (R196 to R222). Times of a scan are in units of 0.5 ns. -/
structure ScanEngine where
  cpu      : Cpu
  /-- The active bank by byte offset, words that are not 0; the program window shows the other bank (R215). -/
  bank     : KV Word
  /-- The program saved in the configuration store. -/
  store    : KV Word
  /-- The bank as SAVE_PROG took it, while the save runs (R215). -/
  saving   : Option (KV Word)
  /-- The symbols of active forces, by entry (R219). -/
  forceSym : KV Symbol
  /-- Commands that wait: RUN for the next tick, STOP and HOLD for the end of the scan, STEP (R197). -/
  toRun    : Bool
  toStop   : Bool
  toHold   : Bool
  stepping : Bool
  /-- HOLD at a breakpoint: the scan is suspended, and the instruction at the breakpoint is to run first. -/
  skipBreak : Bool
  /-- The next scan is the first since the entry to RUN (R197). -/
  first    : Bool
  /-- Last values captured with quality GOOD or UNCERTAIN since the entry to RUN (R204). -/
  lastGood : KV Word
  /-- Points whose last write was undeliverable, and points whose write is handed over and not yet confirmed (R211). -/
  outFail  : List Nat
  handed   : List Nat
  undRaised : Bool
  /-- Remote devices marked unreachable (R211). -/
  bacDown  : List Nat
  /-- Time of the running scan's input phase, time it may take until the next tick, its whole time once its output phase has
  begun, all less the time it was suspended at a breakpoint; that time; time by which a swap outlasts its tick, and ticks skipped
  in a row (R203, R206, R218). -/
  spent    : Nat
  limit    : Nat
  total    : Nat
  susp     : Nat
  swapRest : Nat
  skipped  : Nat
  /-- The counter cycle of the last scan start, of the entry to HOLD, and the cycles spent in HOLD since the last scan
  start (R201, R202). -/
  started  : Option Nat
  heldAt   : Option Nat
  held     : Nat
  /-- Grid intervals since the last scan start, by which a twin's SCAN_DT counts (R450). -/
  grids    : Nat
  /-- The retentive shadow with its symbols, whether a scan has filled it since logic power came, and the two MRAM copies
(R212). -/
  shadow   : RetCopy
  shadowOk : Bool
  copyA    : RetCopy
  copyB    : RetCopy
  /-- A copy being written, and whether it is copy A; a COMMANDED copy waits for its end. -/
  writing  : Option (Bool × RetCopy)
  retWait  : Bool
  /-- The final checkpoint has started: the shadow is no longer updated (R213). -/
  frozen   : Bool
deriving DecidableEq, Repr

/-- The scan engine before its first bring-up. -/
def ScanEngine.initial : ScanEngine where
  cpu := Cpu.start 0
  bank := []
  store := []
  saving := none
  forceSym := []
  toRun := false
  toStop := false
  toHold := false
  stepping := false
  skipBreak := false
  first := false
  lastGood := []
  outFail := []
  handed := []
  undRaised := false
  bacDown := []
  spent := 0
  limit := 0
  total := 0
  susp := 0
  swapRest := 0
  skipped := 0
  started := none
  heldAt := none
  held := 0
  grids := 0
  shadow := RetCopy.initial
  shadowOk := false
  copyA := RetCopy.initial
  copyB := RetCopy.initial
  writing := none
  retWait := false
  frozen := false

/-- A loop slot beside its words (R240 to R256). -/
structure LoopSlot where
  /-- The active copy: the words of the slot in order, as the last APPLY took them. -/
  cfg     : List Word
  /-- An APPLY has taken effect since the reset. -/
  applied : Bool
  /-- Words and tag of an APPLY that the next tick takes (R241). -/
  take    : Option (Nat × List Word)
  /-- A MODE_CMD not yet taken (R251). -/
  req     : Option Nat
  /-- The next sample initialises the slot (R252), or its model (R254). -/
  init    : Bool
  minit   : Bool
  /-- The last sample had a measurement or reference of quality COMM_FAIL or BAD (R253), or TRIP set (R254). -/
  wasBad  : Bool
  wasTrip : Bool
  /-- The last 64 model inputs, the newest first (R254). -/
  delay   : List Int
  /-- The last u issued, which word U does not hold where HIST_RAW = 1 (R248, R251, R253). -/
  issued  : Int
deriving DecidableEq, Repr

/-- A slot after a reset: OFF with LAW NONE. -/
def LoopSlot.initial : LoopSlot := ⟨[], false, none, none, false, false, false, false, [], 0⟩

/-- What an axis runs (R266 to R269). -/
inductive RunKind where
  | none | target | chain | group (g : Nat)
deriving DecidableEq, Repr

/-- A chain start that waits for its splice (R268): the head entry, the committed scheduler slot it comes from (none for
CMD START), the instant before which a restored current bars motion (R277), and what checks 1 to 5 found at the commit
(R263): the failing entry and its code. -/
structure ChainStart where
  head     : Nat
  slot     : Option Nat
  noSooner : Int
  bad      : Option (Nat × Nat)
deriving DecidableEq, Repr

/-- A ratio change as ARM_CHG took it (R272): the new ratio, its position and ramp in 2^-16 master units, and, once its
position has been crossed, whether upward. -/
structure GearChange where
  num     : Int
  den     : Nat
  pos     : Int
  ramp    : Nat
  crossed : Option Bool
deriving DecidableEq, Repr

/-- An output value of a geared axis (R271): its instant, the set-point after the limiter, and what the limiter
withholds. -/
structure GearOut where
  at_ : Int
  out : Point
  lag : Int
deriving DecidableEq, Repr

/-- The gear term of an axis (R271, R272): `term` (2^-16 units) at the master value `ref` (2^-16 master units), from where
it grows with the ratio num / den. -/
structure Gear where
  on      : Bool
  /-- The instant from which the term acts, and, once frozen, from when on and by how much it stands in the position. -/
  from_   : Int
  until_  : Option (Int × Int)
  term    : Int
  ref     : Int
  num     : Int
  den     : Nat
  /-- The master at the last two ticks, and the instant of the last. -/
  prev    : Int
  now     : Int
  tick    : Int
  chg     : Option GearChange
  /-- Outputs computed and not yet past, the newest first, with the one before them. -/
  outs    : List GearOut
  /-- The instant before which a restored current bars motion (R277). -/
  hold    : Int
deriving DecidableEq, Repr

/-- A gear term that has never been engaged. -/
def Gear.initial : Gear := ⟨false, 0, none, 0, 0, 0, 1, 0, 0, 0, none, [], 0⟩

/-- An axis beside its registers (R258 to R280). -/
structure Axis where
  plan      : List Seg
  /-- The position at rest, Q48.16. -/
  base      : Int
  kind      : RunKind
  /-- The latest instant for which an output value has been computed (R265). -/
  cmt       : Int
  -- what has arrived since the last tick (R264)
  newTarget : Bool
  stop      : Option Bool
  resume    : Bool
  starts    : List ChainStart
  /-- A stop runs, and it ends in FAULT. -/
  stopping  : Bool
  toFault   : Bool
  /-- The rest of an interrupted chain, its interrupted end position with EVT, and the position its REL entries count
  from. -/
  chainRest : List Nat
  chainEnd  : Option (Int × Bool)
  relBase   : Int
  /-- The instant at which the present chain was spliced, and whether a slot gave it (R268). -/
  chainFrom : Int
  slotChain : Bool
  /-- The cause of the present fault still stands (R276), and it is a bus-off, which holds the set-point frames back (R427). -/
  causeLive : Bool
  offBus    : Bool
  gear      : Gear
  /-- Set-point frames sent (R279), and the current limit in force, percent (R277). -/
  frames    : Nat
  current   : Nat
  /-- STEP: the last step instant in 4 ns units, whether it carried LAST, the steps placed, entries held back with
  their due instants (INTERVAL 0 where it is timed from its arrival), and the instants placed and not yet due (R278). -/
  stepAt    : Int
  stepLast  : Bool
  stepPos   : Int
  stepHeld  : List (Int × Word)
  stepDue   : List (Int × Bool)
  /-- STEP: the timer that the engine counts on, STEP_TILE and STEP_TIMER (R278). -/
  stepBind  : Nat
  /-- STEP: STEP_POS where the engine's count is 0, the SEQ of the last frames judged, frames with a mismatch in a row, and
  LINK_UP at the last tick (R276). -/
  stepRef   : Int
  stepSeen  : Option Nat × Option Nat
  stepOff   : Nat
  linkWas   : Bool
deriving DecidableEq, Repr

/-- An axis at a release. -/
def Axis.initial : Axis where
  plan := []
  base := 0
  kind := .none
  cmt := 0
  newTarget := false
  stop := none
  resume := false
  starts := []
  stopping := false
  toFault := false
  chainRest := []
  chainEnd := none
  relBase := 0
  chainFrom := 0
  slotChain := false
  causeLive := false
  offBus := false
  gear := Gear.initial
  frames := 0
  current := 100
  stepAt := 0
  stepLast := true
  stepPos := 0
  stepHeld := []
  stepDue := []
  stepBind := 0
  stepRef := 0
  stepSeen := (none, none)
  stepOff := 0
  linkWas := false

/-- A group's line (R269): its members with start position and distance, the length of its path, Q48.16, and the path's
own plan from 0 to that length. -/
structure Line where
  members : List (Nat × Int × Int)
  len     : Int
  path    : List Seg
deriving DecidableEq, Repr

/-- What a door does when its axis next comes to rest (R318 to R320). -/
inductive DoorNext where
  | none | reopen | openHere | coupleClose | coupleFault | lockOpen
deriving DecidableEq, Repr

/-- A car door beside its registers (R307 to R326). -/
structure Door where
  next      : DoorNext
  /-- The dwell in force, ms, whether the reversal input holds it, and whether the stop serves the origin of a HALL or
  DEST call (R313). -/
  dwell     : Nat
  held      : Bool
  hall      : Bool
  /-- The end of the first dwell of this stop (R313). -/
  firstEnd  : Option Int
  /-- The limit of the last move (R310): 0 closing, 1 reversing at the reduced limit, 2 opening. -/
  lim       : Nat
  /-- The decision to close (CLOSE_MAX_US). -/
  closeFrom : Option Int
  /-- The closed position is reached and the locks are awaited (R319). -/
  waitLock  : Bool
  /-- Pre-opening: a stop whose slot is still to be armed, landing and whether the car travels up; and whether the slot
  has opened the door for this stop (R315). -/
  prePend   : Option (Nat × Bool)
  preFired  : Bool
  /-- Re-levelling: 0 none, 1 the door closes first, 2 running, 3 running after the door has closed for it (R317). -/
  relevel   : Nat
  /-- The instant of the operator's last report (R246). -/
  report    : Option Int
  /-- The car panel's door buttons held: open, close (R504). -/
  btnOpen   : Bool
  btnClose  : Bool
  /-- A car panel or light barrier reports an obstruction (R425). -/
  barrier   : Bool
deriving DecidableEq, Repr

def Door.initial : Door := ⟨.none, 0, false, false, none, 2, none, false, none, false, 0, none, false, false, false⟩

/-- A learn run (R286, R287): where it began, the zones found, lower and upper edge, and the lower edge of the zone the
car is in. -/
structure Learn where
  start : Int
  zones : List (Int × Int)
  lower : Option Int
deriving DecidableEq, Repr

/-- A car beside its registers (R282 to R306, R503, R504). -/
structure Car where
  /-- The last nine positions, the newest first (R284). -/
  hist   : List Int
  /-- Bad, and good, samples in a row. -/
  bad    : Nat
  good   : Nat
  /-- OOS_ON given; IND_ON given; the panel's key switch. -/
  oos    : Bool
  ind    : Bool
  key    : Bool
  /-- Faults pending, the latest first. -/
  faults : List Nat
  /-- Disagreeing door-zone samples in a row, and DZ_MISMATCH waiting for the next stop (R290). -/
  dzRun  : Nat
  dzNext : Bool
  /-- A learn run under way. -/
  learn  : Option Learn
  /-- The table before the staged one: the words of the landings (R287). -/
  before : List (Nat × Word)
  /-- A reference run: the landing whose zone is sought (R288). -/
  refer  : Option Nat
  /-- V_MAX of the axis before the group held it to a lower speed. -/
  vHeld  : Option Nat
  /-- Inspection motion under way: 0 none, 1 up, 2 down. -/
  insp   : Nat
  /-- Stopped by step H1 of R48 (1), and due to resume once permitted (2) (R297). -/
  h1     : Nat
  /-- The start-up test of Stirrup (R350): 0 none, 1 the group holds the car for it, 2 its door cycle has run. -/
  sut    : Nat
  /-- Recall (R504): 0 none, 1 stopping before the turn, 2 waiting FF_TURN_MS, 3 on the way, 4 waiting for the door
  to close. -/
  recallStep : Nat
  /-- The landing at which the door cycle of the present stop serves, where the car is at one. -/
  at_    : Option Nat
  /-- The stop that the car serves there, from its arrival to its departure (R299). -/
  atStop : Option Stop
  /-- The car load that its load measuring unit reports, kg (R425). -/
  load   : Nat
  /-- The car's stops in order of service (R294). -/
  stops  : List Stop
  /-- Edges of the door-zone input not yet used, the oldest first (R286): level and timestamp. -/
  dzEdge : List (Bool × Nat)
  door   : Door
deriving DecidableEq, Repr

def Car.initial : Car := ⟨[], 0, 0, false, false, false, [], 0, false, none, [], none, none, 0, 0, 0, 0, none, none, 0, [], [], Door.initial⟩

/-- A car as Stirrup judges it (R333 to R338, R350). -/
structure SafCar where
  /-- Stirrup's own positions, the newest first, at most nine, its velocity in units per second with 8 fraction bits,
  bad samples in a row, and samples in a row that differ from CAR.POS (R338). -/
  hist     : List Int
  bad      : Nat
  apart    : Nat
  /-- The bridge requested: 0 none, 1 PRE, 2 RELEV. -/
  request  : Nat
  closed   : Bool
  bridge   : Bool
  perm     : Bool
  /-- POS_OPEN while a capture stands, and the samples in a row beyond the limits (R336). -/
  posOpen  : Option Int
  beyond   : Nat
  /-- Whether BRAKE is energised; whether the car has moved since the bridge was requested; whether CHAIN stands. -/
  brake    : Bool
  moved    : Bool
  chain    : Bool
  /-- RUN_REQ as the lift group last set it (R332). -/
  runReq   : Bool
  /-- Whether DOOR_EN is energised (R332). -/
  doorEn   : Bool
deriving DecidableEq, Repr

def SafCar.initial : SafCar := ⟨[], 0, 0, 0, false, false, false, none, 0, false, false, false, false, false⟩

/-- How a position input is read: CAR_ENC.ENC, SSI_BITS, GRAY, ERR_EN and MAX_STEP of the car's page (R283, R284). -/
structure EncPath where
  kind : Nat
  bits : Nat
  gray : Bool
  err  : Bool
  step : Nat
deriving DecidableEq, Repr

def EncPath.initial : EncPath := ⟨0, 0, false, false, 0⟩

/-- The first copy of a telegram while the copy of the other lane is awaited (R344): its COUNT, lane, bytes 4 to 27, and the instant,
TAI less steps, at which it came. -/
structure LaneCopy where
  count : Nat
  lane  : Lan
  bytes : List Nat
  came  : Int
deriving DecidableEq, Repr

/-- A Saddle stitch connection (R342 to R344). -/
structure SafConn where
  /-- The next COUNT sent, the last accepted, and the first copies whose twins are awaited, the oldest first. -/
  txCount : Nat
  last    : Option Nat
  first   : List LaneCopy
  /-- Telegrams received in a row since SAFE, misses and copies in a row per lane. -/
  run     : Nat
  missA   : Nat
  missB   : Nat
  gotA    : Nat
  gotB    : Nat
deriving DecidableEq, Repr

def SafConn.initial : SafConn := ⟨1, none, [], 0, 0, 0, 0, 0⟩

/-- A latched trip (R339): its code, the car it names or none for global or connection scope, and its source. -/
structure Trip where
  code : Nat
  car  : Option Nat
  src  : Nat
deriving DecidableEq, Repr

/-- Stirrup beside its registers (R327 to R354). -/
structure Stirrup where
  /-- LFT.CAR_MAP as the lift group last showed it (R529). -/
  carMap  : Nat
  cars    : KV SafCar
  conns   : KV SafConn
  latched : List Trip
  /-- Latched trips kept in Stirrup's MRAM (R339). -/
  kept    : List Trip
  /-- Trip conditions present at the last cycle. -/
  present : List Trip
  /-- Output vectors that differ, in a row (R328). -/
  cross   : Nat
  /-- The instants of the last self-resets (R329). -/
  resets  : List Int
  /-- Discrepancies that stand, by input (R331); bypass cases (R335) and brakes that have not followed (R337), by car. -/
  disc    : List Nat
  bypass  : List Nat
  unbraked : List Nat
  /-- The parameter set in force: words 0x400 to 0x7FF of the page by offset, then the copies of R338 by car, and the
  set that waits (R352). -/
  force   : KV Word
  waiting : KV Word
  /-- The two copies in Stirrup's MRAM: none before a set was put in force. -/
  storedA : Option (KV Word)
  storedB : Option (KV Word)
  /-- Start-up inputs seen at 0, and seen at 1 again (R350). -/
  sutLow  : List Nat
  sutDone : List Nat
  /-- Outputs whose pre-energise test has passed while TEST_DUE stood, and outputs whose TEST_DUE has been recorded (R341). -/
  tested  : List Nat
  dueSaid : List Nat
  /-- The self-test under way follows a self-reset (R330). -/
  selfRst : Bool
  /-- The instant, TAI less steps, of the latest latched trip (R347). -/
  lastTrip : Option Int
  /-- Pulses of SAFETY_RESET that both cores have read back in phase, in a row, up to two; and whether the contact has counted as
  closed since a press last acted or stuck (R346, R347). -/
  rtn     : Nat
  pressed : Bool
  /-- How the position inputs of the cars are read while the car pages are reset: their settings when APP last ran (R327). -/
  path    : KV EncPath
deriving DecidableEq, Repr

/-- A sample of the 54 inputs (R355): V_A_1 to V_B_3 in µV, then the 48 current inputs, first as read with the
calibration gain applied (current inputs in nV), then as corrected (currents in nA). -/
structure MeterSample where
  base : List Int
  corr : List Int
deriving DecidableEq, Repr

/-- A metering checkpoint (R371): generation, kind, sample TAI, the words of the registers it keeps, the buses' presence, and
the running interval: start, modulator clocks, HELD, STEP, UNSYNC; and its CRC-32C. -/
structure MeterCopy where
  gen      : Nat
  kind     : Nat
  ts       : Nat
  regs     : KV Word
  presA    : Bool
  presB    : Bool
  ivStart  : Nat
  ivClk    : Nat
  ivHeld   : Bool
  ivStep   : Bool
  ivUnsync : Bool
  crc      : Word
deriving DecidableEq, Repr

/-- An interval restored from a copy and still to be closed (R373): T_S, its clocks and flags, and, by circuit, the
demand of the interval before it and its own energies. -/
structure OldInterval where
  ts       : Nat
  clk      : Nat
  held     : Bool
  step     : Bool
  unsync   : Bool
  presA    : Bool
  presB    : Bool
  rows     : List (Nat × Nat × Nat × Int × Int)
  closed   : Bool
deriving DecidableEq, Repr

/-- Skiver beside its registers (R355 to R378). -/
structure Meter where
  /-- Integrating (from B6). -/
  on       : Bool
  /-- The last samples, the newest first, at most 512, and the timestamp of the latest since B6. -/
  win      : List MeterSample
  last     : Option Nat
  /-- The offset of the next sample from its grid, in 2^-6 ns, and the sum of steps that it takes in (R356). -/
  ofs      : Int
  stepSum  : Int
  /-- The running demand interval (R365, R367): start, modulator clocks, the cycle of a mains base last seen, the cycles
  counted since its start, whether a newly selected mains base awaits its first crossing, the settings last seen, whether
  they have changed, and its flags. -/
  ivStart  : Nat
  ivClk    : Nat
  ivSeen   : Nat
  ivCyc    : Nat
  ivWait   : Bool
  ivSet    : List Int
  ivChg    : Bool
  ivHeld   : Bool
  ivStep   : Bool
  ivUnsync : Bool
  copyA    : MeterCopy
  copyB    : MeterCopy
  /-- A copy being written, and whether it is copy A; an EXEC CHECKPOINT that waits for it; a FINAL copy was taken. -/
  writing  : Option (Bool × MeterCopy)
  cmdWait  : Bool
  final    : Bool
  /-- A PERIODIC copy awaits its sample; the FINAL copy awaits its sample; and, taken, it waits for a COMMANDED write. -/
  perDue   : Bool
  finalDue : Bool
  queued   : Option MeterCopy
  /-- A restored interval, and whether the first sample after the restore is awaited (R373, R375). -/
  old      : Option OldInterval
  first    : Bool
  /-- Samples counted in the first 200 ms after B6, and the sums of their squares by voltage input (R375). -/
  seen     : Nat
  seenSq   : List Nat
  /-- Pulses waiting at the tiles, by generator × 256 + channel (R378). -/
  atTile   : KV Nat
deriving DecidableEq, Repr

/-- A copy that was never written: its CRC, 0, does not hold. -/
def MeterCopy.initial : MeterCopy := ⟨0, 0, 0, [], false, false, 0, 0, false, false, false, 0⟩

def Meter.initial : Meter where
  on := false
  win := []
  last := none
  ofs := 0
  stepSum := 0
  ivStart := 0
  ivClk := 0
  ivSeen := 0
  ivCyc := 0
  ivWait := false
  ivSet := []
  ivChg := false
  ivHeld := false
  ivStep := false
  ivUnsync := false
  copyA := MeterCopy.initial
  copyB := MeterCopy.initial
  writing := none
  cmdWait := false
  final := false
  perDue := false
  finalDue := false
  queued := none
  old := none
  first := false
  seen := 0
  seenSq := []
  atTile := []

/-- A slot of a priority array (R384). -/
structure PSlot where
  value  : Word
  qual   : Nat
  active : Bool
deriving DecidableEq, Repr

/-- A BACnet COV subscription (R391): the client, the point, whether confirmed, whether a change waits to be reported, and the value
and quality last reported. -/
structure CovSub where
  client    : Requester
  point     : Nat
  confirmed : Bool
  dirty     : Bool
  value     : Word
  qual      : Nat
deriving DecidableEq, Repr

/-- A frame, or a copy of one, that waits in a transmit queue (R404, R409): its bytes with padding and RCT, the ring it
comes from and its first descriptor, whether it is one of a pair of copies, and its timestamp identifier. -/
structure TxCopy where
  bytes : List Nat
  mac   : Nat
  q     : Nat
  first : Nat
  prp   : Bool
  tsId  : Option Nat
deriving DecidableEq, Repr

/-- A frame taken from a ring whose descriptors are not yet returned (R397, R399): ring, first descriptor, how many,
copies outstanding, and the bits of word 3 found so far. -/
structure TxJob where
  mac   : Nat
  q     : Nat
  first : Nat
  count : Nat
  left  : Nat
  bits  : Nat
deriving DecidableEq, Repr

/-- A MAC beside its registers: per queue the frames that wait and the ring's next descriptor to take; the frame in
transmission; the gate list's entry, the counter cycles at which it and its gate cycle began, whether a step holds the
gates (R407), and the list that a COMMIT has staged with its cycle. -/
structure MacPort where
  queues  : KV (List TxCopy)
  next    : KV Nat
  sending : Option TxCopy
  entry   : Nat
  entryAt : Nat
  cycleAt : Nat
  hold    : Bool
  staged  : Option (List Word × Nat)
deriving DecidableEq, Repr

def MacPort.initial : MacPort := ⟨[], [], none, 0, 0, 0, false, none⟩

/-- An entry of the PRP node table (R410): source, the sequence numbers seen with their instants, and the last one. -/
structure PrpNode where
  src  : Nat
  seen : List (Nat × Int)
  last : Int
deriving DecidableEq, Repr

/-- The network engine beside its registers (R395 to R412). -/
structure Mac where
  portA : MacPort
  portB : MacPort
  jobs  : List TxJob
  /-- The node's sequence counter (R409). -/
  seq   : Nat
  nodes : List PrpNode
  /-- DRAM of the network engine firmware: descriptors and buffers, words by byte address. -/
  dram  : KV Word
deriving DecidableEq, Repr

def Mac.initial : Mac := ⟨MacPort.initial, MacPort.initial, [], 0, [], []⟩

/-- A CAN frame (R417 to R422). `axis` names the axis of a set-point frame. -/
structure CanFrame where
  engine  : Bool
  ide     : Bool
  fdf     : Bool
  brs     : Bool
  dlc     : Nat
  id      : Nat
  data    : List Nat
  axis    : Option Nat
  /-- Attempts made, and clashes in a row. -/
  tries   : Nat
  clashes : Nat
deriving DecidableEq, Repr

/-- A received frame as an entry of the queue (R420, R421). -/
structure CanEntry where
  ide    : Bool
  fdf    : Bool
  brs    : Bool
  esi    : Bool
  rtr    : Bool
  filter : Nat
  dlc    : Nat
  id     : Nat
  ts     : Nat
  seq    : Nat
  data   : List Nat
deriving DecidableEq, Repr

/-- A CAN channel beside its registers: frames pending in order of entry, entries of the receive queue from RX_HEAD on,
and SDO downloads awaited, node and point. -/
structure CanChan where
  tx  : List CanFrame
  rx  : List CanEntry
  sdo : List (Nat × Nat × Word)
deriving DecidableEq, Repr

/-- The state of a Keeper handle (R429). -/
inductive HandleState where
  | live | orphan
deriving DecidableEq, Repr

/-- A Keeper handle (R429, R430). Kinds: 1 DEVICE_ROOT, 2 ATTEST_SIGN, 3 OWNER_ROOT, 4 FACTORY, 5 TENANT_ROOT,
6 CREDENTIAL, 7 SC_CERT, 8 ATTEST_MAC, 9 SESSION. -/
structure Handle where
  kind   : Nat
  state  : HandleState
  parent : Nat
  gen    : Nat
  pgen   : Nat
  tag    : Nat
  rights : Nat
  prio   : Nat
  credId : Nat
  /-- The SRAM pair (k xor m, m) of R436, as numbers. -/
  masked : Nat
  mask   : Nat
deriving DecidableEq, Repr

/-- A value from outside as one unit reads it (R448): point, value, quality. -/
structure InVal where
  point : Nat
  value : Word
  qual  : Nat
deriving DecidableEq, Repr

/-- The twin beside its registers (R443 to R459). -/
structure Twin where
  /-- EPOCH of the link (R445). -/
  epoch    : Nat
  /-- The last pairing attempt passed every check (R444). -/
  paired   : Bool
  /-- The unit holds its first output write and looks for a partner (R446). -/
  starting : Bool
  /-- The unit's own readings and its partner's, by point, and what has come in since the last round (R447, R448). -/
  own      : KV InVal
  peer     : KV InVal
  fresh    : List InVal
  /-- The unit's own readings of car positions, with their validity (R448). -/
  carOwn   : KV (Word × Bool)
  /-- GIVE_UP was received: ACTIVE at the next round (R456). -/
  gotGive  : Bool
  /-- Rounds left until roles change after SWITCH (R456). -/
  switchIn : Option Nat
  /-- The STATE the partner last showed, whether its scan engine runs, and its own manifest. -/
  peerState : Nat
  peerRuns  : Bool
  /-- The unit's own scan engine was in RUN at the last round (R455). -/
  ownRan    : Bool
  peerParts : List Nat
  peerStaged : List Nat
  /-- The instants, TAI less steps, of the last heartbeat, and of a link loss as STANDBY (R457). -/
  hbAt     : Option Int
  lostAt   : Option Int
  /-- The words that the frames queued in the running round add to its digest (R450). -/
  roundOut : List Word
  /-- The pair sequence counter (R452). -/
  pairSeq  : Nat
  /-- The unit was updated: it becomes ACTIVE when its resync completes (R483). -/
  updated  : Bool
  /-- The partner's sensor 0, in 0.1 °C (R497). -/
  peerTemp : Int
  /-- TWIN_PRES (R18). -/
  present  : Bool
deriving DecidableEq, Repr

/-- A record before it is written (R462): its 32 words. -/
abbrev RecordWords := List Word

/-- An event that waits for its sequence value (R158, R463): its report, and its record but for that value. -/
structure HeldEvent where
  report : Report
  words  : RecordWords
deriving DecidableEq, Repr

/-- A manifest (R473): version, floor, and the hash of each part with its type. -/
structure Manifest where
  version : Nat
  floor   : Nat
  parts   : List (Nat × Nat)
deriving DecidableEq, Repr

/-- Field update beside its registers (R473 to R483). -/
structure Update where
  /-- Bytes staged into the inactive bank, by offset. -/
  image   : KV Byte
  running : Manifest
  staged  : Option Manifest
  prev    : Option Manifest
  /-- The erase of STAGE_BEGIN, or the verification of STAGE_END, is under way. -/
  erasing : Bool
  verifying : Bool
  /-- An activation accepted and waiting for its tick: whether it is a rollback. -/
  waiting : Option Bool
  /-- An activation has asserted UPD_ACT: the tiles are held until B9. -/
  holding : Bool
  /-- The bank selector and ROLL_FLOOR as MRAM keeps them (R478, R482): whether bank B is active. -/
  bank    : Bool
  floor   : Nat
  /-- From t_a to B8 of an activation (PAUSE_MS). -/
  acting  : Bool
deriving DecidableEq, Repr

/-- Test and calibration beside their registers (R485 to R493). Words of the calibration image are held where they
differ from the factory copy. -/
structure Diag where
  /-- The DRAM scrubber's next word, and the DRAM words marked uncorrectable (R491). -/
  scrubPos   : Nat
  dramMarked : List Nat
  /-- Sensors in an excursion above TEMP_WARN (R488), a bit each. -/
  tempHigh   : Nat
  /-- The two copies of the calibration image, each with whether its CRC holds, the staging area, and the set in
  force. -/
  calA       : KV Word
  calB       : KV Word
  calAOk     : Bool
  calBOk     : Bool
  calStage   : KV Word
  calForce   : KV Word
  /-- Neither copy's CRC held when the set was last loaded: Skiver uses gain 1.0 and phase 0 (R368). -/
  calBad     : Bool
  /-- ATB_0 and ATB_1: the counter at their last change of selection, and the time until the new node is connected, ns
  (R485). -/
  atb0       : Nat × Nat
  atb1       : Nat × Nat
deriving DecidableEq, Repr

/-- A node of the test buses (R486). -/
inductive AtbNode where
  | bandgap | meterRef | clockRef
  | mains (input : Fin 6)
  | current (sub : Fin 48)
  | welt (lane : Fin 10)
  | bus48 | portA | portB | scap | coin
  | fieldSupply (tile : Fin 8)
  | logic33 | core09 | dram11
  | temp (sensor : Fin 15)
  | ground
deriving DecidableEq, Repr

/-- What a test bus shows at SERVICE: open; a node of known voltage, in µV; or a node that only the instrument sees, with the
voltage u (µV) that R486 gives for the quantity v at the node: offset + v · mul / div. -/
inductive AtbOut where
  | opened
  | volts (uV : Int)
  | follows (node : AtbNode) (offset mul div : Nat)
deriving DecidableEq, Repr

/-- What MRAM keeps of the fire modes (R499): the mode, MODE_TS, FF_PHASE and ENDUR_S. -/
structure FireKept where
  mode   : Nat
  ts     : Nat
  phases : Nat
  endurS : Nat
deriving DecidableEq, Repr

/-- The fire block beside its registers (R495 to R507). -/
structure Fire where
  kept     : FireKept
  /-- The highest mode asked for by FIRE_CMD, or by sensor 0, since the last judgement (R497). -/
  cmd      : Nat
  /-- The slots 1 that the fire block holds (R500): entry, point and value. -/
  holds    : List (Nat × Nat × Word)
  /-- The steps of R505 are being restored (R498). -/
  restore  : Bool
  /-- Steps of R505 that outlast a reset, a bit each: the island, the stages, the shed channels, the opened buses. -/
  left     : Nat
  /-- The instant, TAI less steps, from which ENDUR_S counts. -/
  entered  : Option Int
  /-- Loop slots that step N3 turned OFF, with the mode each had. -/
  loops    : List (Nat × Nat)
deriving DecidableEq, Repr

/-- What a resynchronisation copies of the ACTIVE's state beside its words (R459): priority arrays, the active program and its
forces, loop slots, axes with their groups' lines, event slots, coil learning, calls with cars and doors, fire state, and the
sessions with their subscriptions and keys. -/
structure UnitCopy where
  prio      : KV (KV PSlot)
  bank      : KV Word
  forces    : KV Symbol
  loops     : KV LoopSlot
  axes      : KV Axis
  lines     : KV Line
  commits   : KV SlotCommit
  unsolved  : List Nat
  devs      : List DevWait
  coils     : KV CoilLearn
  calls     : KV Call
  nextCall  : Nat
  cars      : KV Car
  fire      : Fire
  sessions  : KV Session
  keys      : KV Handle
  subs      : List Sub
  nextSid   : Nat
  nextSubId : Nat
deriving DecidableEq, Repr

/-- A copy of a unit that holds nothing. -/
def UnitCopy.initial : UnitCopy where
  prio := []
  bank := []
  forces := []
  loops := []
  axes := []
  lines := []
  commits := []
  unsolved := []
  devs := []
  coils := []
  calls := []
  nextCall := 1
  cars := []
  fire := ⟨⟨0, 0, 0, 0⟩, 0, [], false, 0, none, []⟩
  sessions := []
  keys := []
  subs := []
  nextSid := 0
  nextSubId := 0

end Sys2Proof.Machine
end

