-- ==== Sys2Proof/Syntax.lean ====
section
/-! DEFINITION. The commands the block takes from outside, one constructor per row of the command table. -/

namespace Sys2Proof

/-- What a resync has copied when its backlog empties (R459): words of the windows and pages it lists, the state beside them, the
pair and sequence counters, its length in ms, whether the pairing checks held during the copy, and whether the unit that
resyncs has just been updated (R483). -/
structure ResyncIn where
  words   : List (Nat × Word)
  parts   : Machine.UnitCopy
  seq     : Nat
  pairSeq : Nat
  ms      : Nat
  updated : Bool
  checks  : Bool
deriving DecidableEq, Repr

/-- A command of the block: one constructor per row of the command table, in the table's order; each docstring
names the rule the row cites. Operands that measure the field (levels, times, samples) are what the environment
presents with the command. -/
inductive Instr where
  /-- PORT_GRANT_CHANGE (R25) -/
  | portGrantChange (port : Lan) (detected : Bool) (mW : Nat)
  /-- TWIN_PRES_CHANGE (R18) -/
  | twinPresChange (low : Bool)
  /-- FS_FAIL_SET (R30) -/
  | fsFailSet (t : Fin 8)
  /-- FS_FAIL_CLEAR (R30) -/
  | fsFailClear (t : Fin 8)
  /-- FS_REVERSED (R31) -/
  | fsReversed (t : Fin 8) (rev : Bool)
  /-- FUSE_CLOSE (R32) -/
  | fuseClose (f : Fin 12)
  /-- FUSE_TRIP (R32) -/
  | fuseTrip (f : Fin 12)
  /-- FUSE_RETRY (R32) -/
  | fuseRetry (f : Fin 12) (holds : Bool)
  /-- BKP_SOURCE_CHANGE (R34) -/
  | bkpSourceChange (v : BkpStore)
  /-- BKP_POWER_ON (R139) -/
  | bkpPowerOn
  /-- BUS_OK_MET (R42) -/
  | busOkMet (ms : Nat)
  /-- PWR_WARN (R43) -/
  | pwrWarn
  /-- HOLDUP_STAGES_APPLY (R48) -/
  | holdupStagesApply
  /-- FINAL_CHECKPOINT_START (R48) -/
  | finalCheckpointStart
  /-- FINAL_CHECKPOINT_DONE (R48) -/
  | finalCheckpointDone (ok : Bool) (us : Nat)
  /-- GO_SAFE_THRESHOLD (R48) -/
  | goSafeThreshold
  /-- BROWNOUT (R53) -/
  | brownout (ms : Nat)
  /-- SHED_ENTRY (R45) -/
  | shedEntry
  /-- SHED_STAGE_APPLY (R47) -/
  | shedStageApply (mW : Nat)
  /-- SHED_RECOVERY_ENTRY (R45) -/
  | shedRecoveryEntry
  /-- SHED_STAGE_RESTORE (R47) -/
  | shedStageRestore
  /-- WARN_TEST (R42) -/
  | warnTest
  /-- BUS_MV_UPDATE (R42) -/
  | busMvUpdate (mv : Nat)
  /-- RST_CMD_APP (R53) -/
  | rstCmdApp (r : Requester) (key : BitVec 16)
  /-- RST_CMD_SYS (R53) -/
  | rstCmdSys (r : Requester) (key : BitVec 16)
  /-- RST_CMD_FULL (R53) -/
  | rstCmdFull (r : Requester) (key : BitVec 16)
  /-- RST_CMD_BKP (R70) -/
  | rstCmdBkp (r : Requester) (key : BitVec 16)
  /-- APPLICATION_WATCHDOG (R53) -/
  | applicationWatchdog
  /-- SYSTEM_WATCHDOG (R53) -/
  | systemWatchdog
  /-- ECC_FATAL (R88) -/
  | eccFatal
  /-- POWER_ON_RESET (R53) -/
  | powerOnReset
  /-- RESET_PULSE_END (R53) -/
  | resetPulseEnd (id : Fin 12)
  /-- RESET_N_ASSERT (R57) -/
  | resetNAssert
  /-- RESET_N_RELEASE (R57) -/
  | resetNRelease
  /-- RESET_N_STUCK (R57) -/
  | resetNStuck
  /-- RESET_N_UNMASK (R57) -/
  | resetNUnmask
  /-- SYS_DOMAIN_RELEASE (R66) -/
  | sysDomainRelease (straps : BitVec 4)
  /-- STIRRUP_RELEASE (R66) -/
  | stirrupRelease
  /-- WELT_LANES_TRAINED (R66) -/
  | weltLanesTrained (loopback : Bool)
  /-- FIRST_VALID_FRAME (R66) -/
  | firstValidFrame
  /-- MRAM_RESTORE (R373) -/
  | mramRestore
  /-- SKIVER_INTEGRATING (R375) -/
  | skiverIntegrating
  /-- STIRRUP_SELFTEST_COMPLETE (R330) -/
  | stirrupSelftestComplete (t : SelfTest)
  /-- MANIFEST_VERIFIED (R66) -/
  | manifestVerified (fails : BitVec 4) (pauseMs : Nat)
  /-- CONFIGURATION_APPLIED (R66) -/
  | configurationApplied (roles : BitVec 3)
  /-- START_OK (R64) -/
  | startOk (r : Requester)
  /-- START_TIMEOUT (R64) -/
  | startTimeout
  /-- TACK_EXIT (R65) -/
  | tackExit (r : Requester)
  /-- CLOCK_MONITOR_FAIL (R61) -/
  | clockMonitorFail (c : Fin 8) (lost : Bool)
  /-- FREQ_WINDOW (R61) -/
  | freqWindow (kHz : List Word) (lock : BitVec 8)
  /-- EXT_REF_FALLBACK (R59) -/
  | extRefFallback
  /-- REF_LOST (R62) -/
  | refLost
  /-- CRYSTAL_RESTORED (R62) -/
  | crystalRestored
  /-- EXT_PRES_CHANGE (R62) -/
  | extPresChange (present : Bool)
  /-- REGISTER_WRITE (R80) -/
  | registerWrite (r : Requester) (a w : Word)
  /-- READ_CLEAR (R10) -/
  | readClear (r : Requester) (a : Word)
  /-- WIDE_LOW_READ (R86) -/
  | wideLowRead (r : Requester) (a : Word)
  /-- WIDE_LOW_WRITE (R87) -/
  | wideLowWrite (r : Requester) (a w : Word)
  /-- ENABLE_WRITE (R2) -/
  | enableWrite (r : Requester) (p : Fin 160) (v : Bool)
  /-- LOCK_WRITE (R77) -/
  | lockWrite (r : Requester) (p : Fin 160) (v : Bool)
  /-- SOFT_RESET (R78) -/
  | softReset (r : Requester) (p : Fin 160)
  /-- FREEZE_WRITE (R79) -/
  | freezeWrite (r : Requester) (p : Fin 160) (v : Bool)
  /-- FREEZE_TIMEOUT (R79) -/
  | freezeTimeout (p : Fin 160)
  /-- IRQ_FORCE (R82) -/
  | irqForce (r : Requester) (p : Fin 160) (w : Word)
  /-- OPEN_INIT (R93) -/
  | openInit (o : OpenInit)
  /-- OPEN_CONFIRM (R92) -/
  | openConfirm (sid : Nat) (a : Arrival) (mac : Nat)
  /-- HALF_OPEN_TIMEOUT (R93) -/
  | halfOpenTimeout (sid : Nat)
  /-- REQUEST (R104) -/
  | request (sid : Nat) (a : Arrival) (q : BilletReq)
  /-- READ (R98) -/
  | read (r : Requester) (a : Word)
  /-- WRITE (R98) -/
  | write (r : Requester) (a w : Word)
  /-- MODIFY (R99) -/
  | modify (r : Requester) (a mask v : Word)
  /-- BULK_READ (R100) -/
  | bulkRead (r : Requester) (a : Word) (count : Nat)
  /-- BULK_WRITE (R100) -/
  | bulkWrite (r : Requester) (a : Word) (data : List Word)
  /-- EXEC (R103) -/
  | exec (r : Requester) (a code : Word) (args : List Byte)
  /-- SUBSCRIBE (R109) -/
  | subscribe (n : Fin 512) (a : Word) (kind : Nat) (mask : Word)
  /-- SUBSCRIBE_CANCEL (R109) -/
  | subscribeCancel (n : Fin 512) (id : Word)
  /-- ORDER_TIMEOUT (R108) -/
  | orderTimeout (n : Fin 512) (reqId : Nat)
  /-- NOTIFY (R110) -/
  | notify (id : Nat)
  /-- NOTIFY_RESEND (R110) -/
  | notifyResend (id seq : Nat)
  /-- ACK (R110) -/
  | ack (sid : Nat) (a : Arrival) (id : Word) (seq : Nat)
  /-- CLOSE (R95) -/
  | close (sid : Nat) (a : Arrival)
  /-- SESSION_IDLE_TIMEOUT (R95) -/
  | sessionIdleTimeout (n : Fin 512)
  /-- SESSION_REKEY (R95) -/
  | sessionRekey (n : Fin 512)
  /-- SET_TIME_COMMIT (R115) -/
  | setTimeCommit (r : Requester) (w0 : Word)
  /-- STEP_ARM_WRITE (R119) -/
  | stepArmWrite (r : Requester) (v : Bool)
  /-- ANNOUNCE_RECEIVE (R116) -/
  | announceReceive (l : Lan) (a : Announce)
  /-- SYNC_RECEIVE (R118) -/
  | syncReceive (l : Lan) (m : SyncMsg)
  /-- DELAY_REQ_SEND (R116) -/
  | delayReqSend (l : Lan)
  /-- DELAY_RESP_RECEIVE (R116) -/
  | delayRespReceive (l : Lan) (m : DelayMsg)
  /-- PDELAY_REQ_RECEIVE (R116) -/
  | pdelayReqReceive (l : Lan)
  /-- MASTER_MESSAGE_SEND (R116) -/
  | masterMessageSend (l : Lan) (k : MasterMsg)
  /-- ANNOUNCE_RECEIPT_TIMEOUT (R118) -/
  | announceReceiptTimeout (l : Lan)
  /-- SYNC_LOSS_TIMEOUT (R118) -/
  | syncLossTimeout
  /-- HOLDOVER_SECOND (R122) -/
  | holdoverSecond
  /-- SECOND_ROLLOVER (R131) -/
  | secondRollover
  /-- RTC_COMMIT (R133) -/
  | rtcCommit
  /-- DST_ADD (R135) -/
  | dstAdd
  /-- DST_SUB (R135) -/
  | dstSub
  /-- DISCIPLINE (R138) -/
  | discipline
  /-- OSC_STOPPED (R139) -/
  | oscStopped
  /-- OSF_CLEAR (R139) -/
  | osfClear
  /-- SWO_VALID_CLEAR (R140) -/
  | swoValidClear
  /-- SCAP_MV_UPDATE (R34) -/
  | scapMvUpdate (scap coin : Nat)
  /-- PREDICTION_TICK (R150) -/
  | predictionTick (a b : MainsRead) (ns : Nat)
  /-- SLOT_ARM (R148) -/
  | slotArm (n : Fin 1024)
  /-- SLOT_CANCEL (R151) -/
  | slotCancel (n : Fin 1024)
  /-- SLOT_RELEASE (R148) -/
  | slotRelease (n : Fin 1024)
  /-- SLOT_FIRE (R152) -/
  | slotFire (n : Fin 1024)
  /-- TIMED_COMMAND_EXECUTE (R152) -/
  | timedCommandExecute (t : Fin 8) (recent : Bool)
  /-- DONE_POP (R162) -/
  | donePop
  /-- SNAPSHOT_SEQ_READ (R161) -/
  | snapshotSeqRead (k : Fin 4)
  /-- MAINS_PLL_LOCK (R144) -/
  | mainsPllLock (b : Bus) (m : MainsSeen) (phase : Nat)
  /-- MAINS_PLL_LOSS (R144) -/
  | mainsPllLoss (m : MainsFault)
  /-- MAINS_PLL_RELOCK (R144) -/
  | mainsPllRelock (b : Bus) (m : MainsSeen) (phase : Nat)
  /-- COIL_MEASUREMENT (R156) -/
  | coilMeasurement (k : Fin 256) (on : Bool) (contact : Nat)
  /-- COIL_TABLE_SAVE (R156) -/
  | coilTableSave
  /-- SEQUENCE_ASSIGN (R158) -/
  | sequenceAssign
  /-- LATE_REPORT (R159) -/
  | lateReport (r : Report)
  /-- SEQ_MIRROR (R159) -/
  | seqMirror
  /-- CH_CFG_WRITE (R163) -/
  | chCfgWrite (t : Fin 8) (n : Fin 32) (w : Word)
  /-- MODE_CHANGE_APPLY (R164) -/
  | modeChangeApply (t : Fin 8)
  /-- DIN_SAMPLE (R166) -/
  | dinSample (t : Fin 8) (l : Lan) (ts : Nat) (samples : List (Int × Nat))
  /-- COUNT_EDGE (R170) -/
  | countEdge (t : Fin 8) (n : Fin 32) (rising : Bool) (ts : Nat)
  /-- TILE_OUT_WRITE (R171) -/
  | tileOutWrite (t : Fin 8) (w : Word)
  /-- PULSE_REQ (R173) -/
  | pulseReq (t : Fin 8) (w : Word)
  /-- PULSE_EMIT (R173) -/
  | pulseEmit (t : Fin 8) (n : Fin 32)
  /-- STEP_EDGE (R174) -/
  | stepEdge (t : Fin 8) (k : Fin 4)
  /-- SHORT_DETECT (R176) -/
  | shortDetect (t : Fin 8) (n : Fin 32)
  /-- SHORT_RETRY (R176) -/
  | shortRetry (t : Fin 8) (n : Fin 32) (holds : Bool)
  /-- OVERTEMP (R176) -/
  | overtemp (t : Fin 8) (n : Fin 32) (hot : Bool)
  /-- OPEN_LOAD (R176) -/
  | openLoad (t : Fin 8) (n : Fin 32) (below : Bool)
  /-- EXT_DRIVE (R176) -/
  | extDrive (t : Fin 8) (n : Fin 32) (high : Bool)
  /-- CURRENT_MEASURE (R178) -/
  | currentMeasure (t : Fin 8) (mas : List Nat) (fsMv : Nat) (temp : Int)
  /-- CUR_SHED (R178) -/
  | curShed (t : Fin 8)
  /-- CUR_RESTORE (R179) -/
  | curRestore (t : Fin 8)
  /-- DOWNLINK_FRAME (R181) -/
  | downlinkFrame (t : Fin 8) (l : Lan) (rx : FrameRx)
  /-- UPLINK_FRAME (R181) -/
  | uplinkFrame (t : Fin 8) (l : Lan) (rx : FrameRx)
  /-- WELT_LINK_LOST (R183) -/
  | weltLinkLost (t : Fin 8) (us : Nat)
  /-- BARRIER_EXPIRY (R184) -/
  | barrierExpiry (t : Fin 8) (us : Nat)
  /-- FIELD_SIDE_POWER_UP (R185) -/
  | fieldSidePowerUp (t : Fin 8) (crcA crcB : Bool)
  /-- GO_SAFE_ALL (R184) -/
  | goSafeAll
  /-- TILE_GO_SAFE (R184) -/
  | tileGoSafe (t : Fin 8)
  /-- APP_RESET_GO_SAFE (R187) -/
  | appResetGoSafe (t : Fin 8)
  /-- SAFE_TABLE_COMMIT (R189) -/
  | safeTableCommit (t : Fin 8)
  /-- TABLE_COMMIT_DONE (R189) -/
  | tableCommitDone (t : Fin 8) (ok : Bool)
  /-- LANE_SILENCE (R190) -/
  | laneSilence (t : Fin 8) (l : Lan)
  /-- TEST_PULSE_START (R192) -/
  | testPulseStart (t : Fin 8) (n : Fin 32)
  /-- TEST_PULSE_END (R192) -/
  | testPulseEnd (t : Fin 8) (below5V : Bool)
  /-- TEST_DUE (R192) -/
  | testDue (t : Fin 8) (n : Fin 32)
  /-- SCN_CMD_RUN (R197) -/
  | scnCmdRun
  /-- SCN_CMD_STOP (R197) -/
  | scnCmdStop
  /-- SCN_CMD_HOLD (R197) -/
  | scnCmdHold
  /-- SCN_CMD_STEP (R197) -/
  | scnCmdStep
  /-- SCN_CMD_SWAP (R218) -/
  | scnCmdSwap
  /-- SCAN_TICK (R202) -/
  | scanTick
  /-- SCAN_WATCHDOG (R207) -/
  | scanWatchdog
  /-- HOLD_MAX_TIMEOUT (R197) -/
  | holdMaxTimeout
  /-- RET_PERIODIC_SAVE (R212) -/
  | retPeriodicSave
  /-- WRITE_CONFIRM (R211) -/
  | writeConfirm (n : Fin 8192)
  /-- WRITE_UNDELIVERABLE (R211) -/
  | writeUndeliverable (n : Fin 8192)
  /-- DATA_WINDOW_WRITE (R209) -/
  | dataWindowWrite (k : Fin 131072) (w : Word)
  /-- FORCE_ENABLE (R219) -/
  | forceEnable (r : Requester) (f : Fin 128) (w : Word)
  /-- SAVE_PROG (R215) -/
  | saveProg (r : Requester)
  /-- SAVE_PROG_DONE (R222) -/
  | saveProgDone
  /-- CLEAR_FORCES (R221) -/
  | clearForces (r : Requester)
  /-- RET_SAVE (R212) -/
  | retSave (r : Requester)
  /-- NOP (R228) -/
  | scNop (op : BitVec 24)
  /-- END (R230) -/
  | scEnd (op : BitVec 24)
  /-- JMP (R228) -/
  | scJmp (op : BitVec 24)
  /-- JMPC (R228) -/
  | scJmpc (op : BitVec 24)
  /-- JMPCN (R228) -/
  | scJmpcn (op : BitVec 24)
  /-- CALL (R228) -/
  | scCall (op : BitVec 24)
  /-- RET (R228) -/
  | scRet (op : BitVec 24)
  /-- RETC (R228) -/
  | scRetc (op : BitVec 24)
  /-- LDX (R228) -/
  | scLdx (op : BitVec 24)
  /-- ADDX (R228) -/
  | scAddx (op : BitVec 24)
  /-- STX (R228) -/
  | scStx (op : BitVec 24)
  /-- LDV (R228) -/
  | scLdv (op : BitVec 24)
  /-- LDZ (R228) -/
  | scLdz (op : BitVec 24)
  /-- LDNF (R228) -/
  | scLdnf (op : BitVec 24)
  /-- LD (R228) -/
  | scLd (op : BitVec 24)
  /-- LDN (R228) -/
  | scLdn (op : BitVec 24)
  /-- AND (R228) -/
  | scAnd (op : BitVec 24)
  /-- ANDN (R228) -/
  | scAndn (op : BitVec 24)
  /-- OR (R228) -/
  | scOr (op : BitVec 24)
  /-- ORN (R228) -/
  | scOrn (op : BitVec 24)
  /-- XOR (R228) -/
  | scXor (op : BitVec 24)
  /-- XORN (R228) -/
  | scXorn (op : BitVec 24)
  /-- ST (R227) -/
  | scSt (op : BitVec 24)
  /-- STN (R228) -/
  | scStn (op : BitVec 24)
  /-- SET (R228) -/
  | scSet (op : BitVec 24)
  /-- RES (R228) -/
  | scRes (op : BitVec 24)
  /-- NOT (R228) -/
  | scNot (op : BitVec 24)
  /-- RE (R228) -/
  | scRe (op : BitVec 24)
  /-- FE (R228) -/
  | scFe (op : BitVec 24)
  /-- PUSH (R230) -/
  | scPush (op : BitVec 24)
  /-- ANDB (R228) -/
  | scAndb (op : BitVec 24)
  /-- ORB (R228) -/
  | scOrb (op : BitVec 24)
  /-- XORB (R228) -/
  | scXorb (op : BitVec 24)
  /-- POP (R228) -/
  | scPop (op : BitVec 24)
  /-- PEEK (R228) -/
  | scPeek (op : BitVec 24)
  /-- LDW (R228) -/
  | scLdw (op : BitVec 24)
  /-- STW (R226) -/
  | scStw (op : BitVec 24)
  /-- STWC (R228) -/
  | scStwc (op : BitVec 24)
  /-- LDQ (R228) -/
  | scLdq (op : BitVec 24)
  /-- QOK (R228) -/
  | scQok (op : BitVec 24)
  /-- SETQ (R228) -/
  | scSetq (op : BitVec 24)
  /-- TSTW (R228) -/
  | scTstw (op : BitVec 24)
  /-- LDBA (R228) -/
  | scLdba (op : BitVec 24)
  /-- ADD (R232) -/
  | scAdd (op : BitVec 24)
  /-- SUB (R232) -/
  | scSub (op : BitVec 24)
  /-- MUL (R232) -/
  | scMul (op : BitVec 24)
  /-- DIV (R232) -/
  | scDiv (op : BitVec 24)
  /-- MOD (R232) -/
  | scMod (op : BitVec 24)
  /-- NEG (R232) -/
  | scNeg (op : BitVec 24)
  /-- ABS (R232) -/
  | scAbs (op : BitVec 24)
  /-- MIN (R228) -/
  | scMin (op : BitVec 24)
  /-- MAX (R228) -/
  | scMax (op : BitVec 24)
  /-- ANDW (R228) -/
  | scAndw (op : BitVec 24)
  /-- ORW (R228) -/
  | scOrw (op : BitVec 24)
  /-- XORW (R228) -/
  | scXorw (op : BitVec 24)
  /-- SHL (R232) -/
  | scShl (op : BitVec 24)
  /-- SHR (R232) -/
  | scShr (op : BitVec 24)
  /-- ASR (R232) -/
  | scAsr (op : BitVec 24)
  /-- EQ (R228) -/
  | scEq (op : BitVec 24)
  /-- NE (R228) -/
  | scNe (op : BitVec 24)
  /-- LT (R228) -/
  | scLt (op : BitVec 24)
  /-- LE (R228) -/
  | scLe (op : BitVec 24)
  /-- GT (R228) -/
  | scGt (op : BitVec 24)
  /-- GE (R228) -/
  | scGe (op : BitVec 24)
  /-- LTU (R228) -/
  | scLtu (op : BitVec 24)
  /-- GEU (R228) -/
  | scGeu (op : BitVec 24)
  /-- ADDF (R234) -/
  | scAddf (op : BitVec 24)
  /-- SUBF (R234) -/
  | scSubf (op : BitVec 24)
  /-- MULF (R234) -/
  | scMulf (op : BitVec 24)
  /-- DIVF (R234) -/
  | scDivf (op : BitVec 24)
  /-- MINF (R234) -/
  | scMinf (op : BitVec 24)
  /-- MAXF (R234) -/
  | scMaxf (op : BitVec 24)
  /-- ABSF (R228) -/
  | scAbsf (op : BitVec 24)
  /-- NEGF (R228) -/
  | scNegf (op : BitVec 24)
  /-- EQF (R228) -/
  | scEqf (op : BitVec 24)
  /-- LTF (R228) -/
  | scLtf (op : BitVec 24)
  /-- GTF (R228) -/
  | scGtf (op : BitVec 24)
  /-- ITOF (R228) -/
  | scItof (op : BitVec 24)
  /-- FTOI (R228) -/
  | scFtoi (op : BitVec 24)
  /-- SCLF (R234) -/
  | scSclf (op : BitVec 24)
  /-- TON (R236) -/
  | scTon (op : BitVec 24)
  /-- TOF (R236) -/
  | scTof (op : BitVec 24)
  /-- TP (R236) -/
  | scTp (op : BitVec 24)
  /-- CTU (R237) -/
  | scCtu (op : BitVec 24)
  /-- CTD (R237) -/
  | scCtd (op : BitVec 24)
  /-- CRST (R237) -/
  | scCrst (op : BitVec 24)
  /-- CLD (R237) -/
  | scCld (op : BitVec 24)
  /-- APPLY (R241) -/
  | apply (r : Requester) (n : Fin 256)
  /-- APPLY_MARK (R241) -/
  | applyMark (r : Requester) (n : Fin 256)
  /-- APPLY_GROUP (R241) -/
  | applyGroup (r : Requester)
  /-- MODE_CMD_OFF (R251) -/
  | modeCmdOff (n : Fin 256)
  /-- MODE_CMD_MAN (R251) -/
  | modeCmdMan (n : Fin 256)
  /-- MODE_CMD_AUTO (R252) -/
  | modeCmdAuto (n : Fin 256)
  /-- LOOP_TICK (R243) -/
  | loopTick (extra : Nat)
  /-- MOTION_TICK (R264) -/
  | motionTick (ns : Nat)
  /-- TARGET_CHANGE (R266) -/
  | targetChange (n : Fin 24) (v : BitVec 64)
  /-- AXIS_CMD_START (R268) -/
  | axisCmdStart (n : Fin 24)
  /-- AXIS_CMD_STOP (R274) -/
  | axisCmdStop (n : Fin 24)
  /-- AXIS_CMD_QUICK_STOP (R274) -/
  | axisCmdQuickStop (n : Fin 24)
  /-- AXIS_CMD_RESUME (R275) -/
  | axisCmdResume (n : Fin 24)
  /-- AXIS_CMD_ABANDON (R275) -/
  | axisCmdAbandon (n : Fin 24)
  /-- AXIS_CMD_CLEAR_FAULT (R276) -/
  | axisCmdClearFault (n : Fin 24)
  /-- STOP_ALL (R274) -/
  | stopAll (w : Word)
  /-- GRP_CMD_MOVE (R269) -/
  | grpCmdMove (g : Fin 8)
  /-- GRP_CMD_STOP (R270) -/
  | grpCmdStop (g : Fin 8)
  /-- GRP_CMD_RESUME (R270) -/
  | grpCmdResume (g : Fin 8)
  /-- GRP_CMD_QUICK_STOP (R270) -/
  | grpCmdQuickStop (g : Fin 8)
  /-- GRP_CFG_WRITE (R269) -/
  | grpCfgWrite (g : Fin 8) (w : Word)
  /-- GEAR_ENGAGE (R271) -/
  | gearEngage (n : Fin 24)
  /-- GEAR_DISENGAGE (R273) -/
  | gearDisengage (n : Fin 24)
  /-- GEAR_ARM_CHG (R272) -/
  | gearArmChg (n : Fin 24)
  /-- FOLLOWING_ERROR (R276) -/
  | followingError (n : Fin 16)
  /-- DRIVE_LINK_FAULT (R276) -/
  | driveLinkFault (n : Fin 16)
  /-- IDLE_REDUCTION (R277) -/
  | idleReduction (n : Fin 24)
  /-- SETPOINT_FRAME (R279) -/
  | setpointFrame
  /-- DRIVE_STATUS_REPORT (R423) -/
  | driveStatusReport (c : Fin 4) (k : Fin 128) (r : DriveReport)
  /-- POSITION_SAMPLE (R283) -/
  | positionSample (reads : List (Fin 8 × PosRead))
  /-- CAR_CMD_LEARN (R286) -/
  | carCmdLearn (n : Fin 8)
  /-- CAR_CMD_LEARN_ACCEPT (R287) -/
  | carCmdLearnAccept (n : Fin 8)
  /-- CAR_CMD_LEARN_ABORT (R287) -/
  | carCmdLearnAbort (n : Fin 8)
  /-- CAR_CMD_REFERENCE (R288) -/
  | carCmdReference (n : Fin 8)
  /-- CAR_CMD_OOS_ON (R291) -/
  | carCmdOosOn (n : Fin 8)
  /-- CAR_CMD_RETURN (R291) -/
  | carCmdReturn (n : Fin 8)
  /-- CAR_CMD_IND_ON (R291) -/
  | carCmdIndOn (n : Fin 8)
  /-- CAR_CMD_IND_OFF (R291) -/
  | carCmdIndOff (n : Fin 8)
  /-- LEARN_RUN_END (R287) -/
  | learnRunEnd (n : Fin 8)
  /-- CAR_ARRIVAL (R294) -/
  | carArrival (n : Fin 8)
  /-- HOLDUP_RESUME (R297) -/
  | holdupResume
  /-- CALL_ENTRY (R298) -/
  | callEntry (c : CallReq)
  /-- ENTER_CALL (R305) -/
  | enterCall (r : Requester) (w : Word)
  /-- CANCEL_CALL (R299) -/
  | cancelCall (r : Requester) (id : Word)
  /-- CLEAR_CALLS (R305) -/
  | clearCalls (r : Requester)
  /-- CALL_IDX_WRITE (R305) -/
  | callIdxWrite (e : Fin 4096)
  /-- OPTIMISATION_PASS (R300) -/
  | optimisationPass (k us : Nat)
  /-- DOOR_CMD_OPEN (R323) -/
  | doorCmdOpen (n : Fin 8) (rear : Bool)
  /-- DOOR_CMD_CLOSE (R323) -/
  | doorCmdClose (n : Fin 8) (rear : Bool)
  /-- DOOR_CMD_HOLD (R323) -/
  | doorCmdHold (n : Fin 8) (rear : Bool)
  /-- DOOR_CMD_RELEASE (R312) -/
  | doorCmdRelease (n : Fin 8) (rear : Bool)
  /-- DOOR_CMD_NUDGE (R323) -/
  | doorCmdNudge (n : Fin 8) (rear : Bool)
  /-- DOOR_CMD_STOP (R323) -/
  | doorCmdStop (n : Fin 8) (rear : Bool)
  /-- DWELL_END (R313) -/
  | dwellEnd (n : Fin 8)
  /-- DOOR_OPENED (R312) -/
  | doorOpened (n : Fin 8)
  /-- DOOR_CLOSED (R312) -/
  | doorClosed (n : Fin 8)
  /-- LOCK_TIMEOUT (R319) -/
  | lockTimeout (n : Fin 8)
  /-- OPEN_TIMEOUT (R324) -/
  | openTimeout (n : Fin 8)
  /-- CLOSE_TIMEOUT (R324) -/
  | closeTimeout (n : Fin 8)
  /-- RELEVEL_START (R317) -/
  | relevelStart (n : Fin 8)
  /-- SAFETY_CYCLE (R328) -/
  | safetyCycle (ns : Nat) (c : CycleReads)
  /-- DISCREPANCY_TRIP (R331) -/
  | discrepancyTrip (i : Fin 64)
  /-- BYPASS_TRIP (R335) -/
  | bypassTrip (n : Fin 8)
  /-- BRAKE_TRIP (R337) -/
  | brakeTrip (n : Fin 8)
  /-- CORE_FAULT (R329) -/
  | coreFault
  /-- PRE_ENERGISE_TEST (R341) -/
  | preEnergiseTest (j : Fin 64) (pass : Bool)
  /-- SAFETY_RESET_PRESS (R348) -/
  | safetyResetPress (openMs heldMs : Nat)
  /-- RESET_STUCK (R347) -/
  | resetStuck
  /-- RESET_STUCK_CLEAR (R347) -/
  | resetStuckClear
  /-- RESET_WIRING (R346) -/
  | resetWiring
  /-- TELEGRAM_SEND (R343) -/
  | telegramSend
  /-- TELEGRAM_RECEIVE (R344) -/
  | telegramReceive (l : Lan) (m : Telegram)
  /-- LANE_COPY_MISSING (R344) -/
  | laneCopyMissing (c : Fin 16) (l : Lan)
  /-- CONN_WATCHDOG (R344) -/
  | connWatchdog (c : Fin 16)
  /-- PARAM_COMMIT (R352) -/
  | paramCommit (r : Requester) (crc : Word)
  /-- PARAM_DISCARD (R352) -/
  | paramDiscard (r : Requester)
  /-- METERING_SAMPLE (R362) -/
  | meteringSample (raw : List Int) (drift : Int)
  /-- CIRC_ENABLE (R359) -/
  | circEnable (n : Fin 48)
  /-- AGG_ENABLE (R364) -/
  | aggEnable (g : Fin 8)
  /-- PULSE_ENABLE (R377) -/
  | pulseEnable (n : Fin 16)
  /-- PULSE_HANDOVER (R378) -/
  | pulseHandover (n : Fin 16)
  /-- DEMAND_INTERVAL_END (R366) -/
  | demandIntervalEnd
  /-- PERIODIC_CHECKPOINT (R371) -/
  | periodicCheckpoint
  /-- CHECKPOINT_WRITE_DONE (R371) -/
  | checkpointWriteDone (ok : Bool) (us : Nat)
  /-- CHECKPOINT (R371) -/
  | checkpoint
  /-- MAX_RESET (R366) -/
  | maxReset (c : BitVec 8)
  /-- EST_CLEAR (R379) -/
  | estClear (r : Requester) (c : Fin 48)
  /-- REG_CLEAR (R379) -/
  | regClear (r : Requester) (c : Fin 48)
  /-- PRESENCE_JUDGED (R375) -/
  | presenceJudged
  /-- ISL_TEMP_READ (R368) -/
  | islTempRead (t : Int)
  /-- POINT_VALUE_WRITE (R384) -/
  | pointValueWrite (r : Requester) (n : Fin 8192) (v : Word) (q : BitVec 8)
  /-- POINT_CONFIG_WRITE (R383) -/
  | pointConfigWrite (r : Requester) (n : Fin 8192) (k : Fin 8) (w : Word)
  /-- WRITE_PRIO (R384) -/
  | writePrio (r : Requester) (n : Fin 8192) (p : Nat) (v : Word) (q : BitVec 8)
  /-- RELINQUISH (R384) -/
  | relinquish (r : Requester) (n : Fin 8192) (p : Nat)
  /-- END_SESSION (R394) -/
  | endSession (r : Requester) (n : Fin 512)
  /-- BINDING_DELIVERY (R385) -/
  | bindingDelivery (n : Fin 8192) (v : Word) (q : BitVec 8)
  /-- SESS_IDX_WRITE (R386) -/
  | sessIdxWrite (n : Fin 512)
  /-- LAST_REFUSE_READ (R389) -/
  | lastRefuseRead
  /-- READ_PROPERTY (R391) -/
  | readProperty (r : Requester) (reads : List (BacObj × BacProp))
  /-- WRITE_PROPERTY (R391) -/
  | writeProperty (r : Requester) (writes : List (Fin 8192 × BacWrite))
  /-- SUBSCRIBE_COV (R391) -/
  | subscribeCov (r : Requester) (n : Fin 8192) (confirmed : Bool)
  /-- COV_NOTIFICATION (R391) -/
  | covNotification (i : Nat)
  /-- WHO_IS (R391) -/
  | whoIs (r : Requester) (obj : Option (Fin 8192))
  /-- DEVICE_COMMUNICATION_CONTROL (R391) -/
  | deviceCommunicationControl (r : Requester) (on : Bool)
  /-- TIME_SYNCHRONIZATION (R391) -/
  | timeSynchronization (r : Requester)
  /-- BACNET_SC_CONNECT (R392) -/
  | bacnetScConnect (c : ScConnect)
  /-- FRAME_RECEIVE (R399) -/
  | frameReceive (l : Lan) (f : RxFrame)
  /-- TAIL_WRITE (R399) -/
  | tailWrite (l : Lan) (ring : Option (Fin 7)) (tail : BitVec 12) (writes : List (Nat × Word))
  /-- FRAME_TRANSMIT (R404) -/
  | frameTransmit (l : Lan)
  /-- TX_DONE (R409) -/
  | txDone (l : Lan)
  /-- TXTS_POP (R127) -/
  | txtsPop (l : Lan)
  /-- GCL_COMMIT (R405) -/
  | gclCommit (l : Lan)
  /-- GATE_CYCLE_START (R405) -/
  | gateCycleStart (l : Lan)
  /-- GATE_INTERVAL_END (R405) -/
  | gateIntervalEnd (l : Lan)
  /-- SUPERVISION_FRAME (R408) -/
  | supervisionFrame
  /-- NODE_FORGET (R410) -/
  | nodeForget (src : BitVec 48)
  /-- PHY_LINK_CHANGE (R395) -/
  | phyLinkChange (l : Lan) (up fast : Bool)
  /-- CAN_ENABLE (R415) -/
  | canEnable (c : Fin 4) (on : Bool)
  /-- TX_PUSH (R417) -/
  | txPush (c : Fin 4)
  /-- TX_ABORT_ALL (R418) -/
  | txAbortAll (c : Fin 4)
  /-- CAN_SLEEP (R426) -/
  | canSleep (c : Fin 4)
  /-- CAN_WAKE (R426) -/
  | canWake (c : Fin 4)
  /-- CAN_RECOVER (R427) -/
  | canRecover (c : Fin 4)
  /-- CAN_TX_ATTEMPT (R418) -/
  | canTxAttempt (c : Fin 4) (o : TxOutcome)
  /-- CAN_FRAME_RECEIVE (R420) -/
  | canFrameReceive (c : Fin 4) (f : CanRx) (m : Option FixMsg)
  /-- RX_ACK (R421) -/
  | rxAck (c : Fin 4) (n : Fin 128)
  /-- HEARTBEAT_RECEIVE (R424) -/
  | heartbeatReceive (c : Fin 4) (k : Fin 128)
  /-- NODE_ABSENT (R424) -/
  | nodeAbsent (c : Fin 4) (k : Fin 128)
  /-- SDO_DOWNLOAD (R424) -/
  | sdoDownload (n : Fin 8192)
  /-- SDO_RESPONSE (R424) -/
  | sdoResponse (c : Fin 4) (k : Fin 128) (ok : Bool)
  /-- SDO_TIMEOUT (R424) -/
  | sdoTimeout (c : Fin 4) (k : Fin 128)
  /-- CAN_WAKE_EVENT (R426) -/
  | canWakeEvent (c : Fin 4) (e : WakeEvent)
  /-- BUS_OFF (R427) -/
  | busOff (c : Fin 4)
  /-- BUS_OFF_RECOVERY_START (R427) -/
  | busOffRecoveryStart (c : Fin 4)
  /-- BUS_OFF_RECOVERED (R427) -/
  | busOffRecovered (c : Fin 4)
  /-- OWNER_TAKE (R437) -/
  | ownerTake (r : Requester) (mramOk : Bool)
  /-- OWNER_RELEASE (R437) -/
  | ownerRelease (r : Requester) (mramOk : Bool)
  /-- TENANT_ROOT (R430) -/
  | tenantRoot (r : Requester) (tag : Nat) (mramOk : Bool)
  /-- CRED_CREATE (R430) -/
  | credCreate (r : Requester) (a : CredArgs) (mramOk : Bool)
  /-- ROTATE (R433) -/
  | rotate (r : Requester) (h : Fin 2048) (mramOk : Bool)
  /-- DESTROY (R433) -/
  | destroy (r : Requester) (h : Fin 2048) (mramOk : Bool)
  /-- ATTEST_SIGN (R439) -/
  | attestSign (r : Requester) (nonce : List Word)
  /-- ATTEST_MAC (R440) -/
  | attestMac (r : Requester) (credId : Nat) (challenge : List Word)
  /-- ATTEST_PUB (R439) -/
  | attestPub (r : Requester)
  /-- OWNER_LOCK_WRITE (R438) -/
  | ownerLockWrite (r : Requester) (v : Bool)
  /-- HANDLE_SEL_WRITE (R429) -/
  | handleSelWrite (h : Fin 2048)
  /-- BURNISH_PASS (R436) -/
  | burnishPass (ns : Nat)
  /-- TWN_CMD_RESYNC (R446) -/
  | twnCmdResync
  /-- TWN_CMD_SWITCH (R456) -/
  | twnCmdSwitch
  /-- TWN_CMD_GIVE_UP (R455) -/
  | twnCmdGiveUp
  /-- PAIRING_ATTEMPT (R444) -/
  | pairingAttempt (p : TwinPeer)
  /-- JOIN_TIMEOUT (R446) -/
  | joinTimeout
  /-- PARTNER_FOUND (R446) -/
  | partnerFound (p : TwinPeer)
  /-- AGREEMENT_ROUND (R447) -/
  | agreementRound (m : RoundIn)
  /-- ROUND_LATE (R449) -/
  | roundLate
  /-- GIVE_UP_RECEIVE (R456) -/
  | giveUpReceive
  /-- TWIN_HEARTBEAT (R457) -/
  | twinHeartbeat
  /-- TWIN_HEARTBEAT_RECEIVE (R457) -/
  | twinHeartbeatReceive (st : Fin 4)
  /-- TWIN_LINK_LOST (R457) -/
  | twinLinkLost
  /-- RESYNC_COMPLETE (R459) -/
  | resyncComplete (m : ResyncIn)
  /-- RESYNC_TIMEOUT (R459) -/
  | resyncTimeout
  /-- RECORD_CAPTURE (R462) -/
  | recordCapture (sev : Fin 4) (page : BitVec 8) (code : BitVec 8) (arg : Word) (late : Bool) (data : List Word)
  /-- TRIGGER_IRQ (R466) -/
  | triggerIrq
  /-- TRIGGER (R466) -/
  | trigger (r : Requester) (t : Nat)
  /-- EVR_CLEAR (R468) -/
  | evrClear (r : Requester) (level : Nat)
  /-- EVR_FREEZE_WRITE (R469) -/
  | evrFreezeWrite (r : Requester) (v : Bool)
  /-- EVR_FREEZE_TIMEOUT (R469) -/
  | evrFreezeTimeout
  /-- SIDE_BUFFER_MERGE (R471) -/
  | sideBufferMerge
  /-- OP_S_TICK (R464) -/
  | opSTick
  /-- STAGE_BEGIN (R475) -/
  | stageBegin (r : Requester) (len : Nat)
  /-- STAGE_DATA (R475) -/
  | stageData (r : Requester) (ofs : Nat) (data : List Byte)
  /-- STAGE_END (R475) -/
  | stageEnd (r : Requester)
  /-- STAGE_END_DONE (R475) -/
  | stageEndDone (tiles : BitVec 8)
  /-- ACTIVATE (R478) -/
  | activate (r : Requester)
  /-- ACTIVATION_INSTANT (R478) -/
  | activationInstant
  /-- UPD_ABORT (R475) -/
  | updAbort (r : Requester)
  /-- ROLLBACK (R482) -/
  | rollback (r : Requester)
  /-- AUTO_PAIR_ACTIVATE (R483) -/
  | autoPairActivate
  /-- ATB_SELECT (R485) -/
  | atbSelect (w : Word)
  /-- BIST_RUN (R487) -/
  | bistRun (r : Requester)
  /-- BIST_DONE (R487) -/
  | bistDone (ok : Bool)
  /-- REFERENCE_CHECK (R487) -/
  | referenceCheck (ppm : Nat)
  /-- TEMP_READ (R488) -/
  | tempRead (ts : List Int)
  /-- EXPOSURE_REACHED (R489) -/
  | exposureReached
  /-- SCRUB_WORD (R491) -/
  | scrubWord (found : Option EccFind)
  /-- SRAM_SCRUB (R491) -/
  | sramScrub (found later : List EccFind)
  /-- SCRUB_PASS_END (R491) -/
  | scrubPassEnd (secs : Nat)
  /-- CE_THRESHOLD (R490) -/
  | ceThreshold (m : Fin 8) (grown : Nat)
  /-- CAL_READ (R494) -/
  | calRead (r : Requester) (ofs cnt : Nat)
  /-- CAL_STAGE (R493) -/
  | calStage (r : Requester) (ofs : Nat) (data : List Word)
  /-- CAL_COMMIT (R493) -/
  | calCommit (r : Requester) (crc : Word) (okA okB : Bool)
  /-- CAL_FACTORY (R493) -/
  | calFactory (r : Requester)
  /-- FIRE_JUDGEMENT (R497) -/
  | fireJudgement
  /-- FIRE_CMD_ALERT (R497) -/
  | fireCmdAlert (r : Requester) (key : BitVec 16)
  /-- FIRE_CMD_EVACUATE (R497) -/
  | fireCmdEvacuate (r : Requester) (key : BitVec 16)
  /-- FIRE_CMD_ENDURANCE (R497) -/
  | fireCmdEndurance (r : Requester) (key : BitVec 16)
  /-- FIRE_RESET (R498) -/
  | fireReset (r : Requester) (key : BitVec 16)
  /-- FIRE_RESET_RESTORE_STEP (R498) -/
  | fireResetRestoreStep
  /-- ENDURANCE_TEMP (R497) -/
  | enduranceTemp
  /-- ENDURANCE_STEP (R505) -/
  | enduranceStep (k : Fin 6)
  /-- ENDURANCE_LIMIT (R506) -/
  | enduranceLimit
  /-- VA_WATCHDOG (R502) -/
  | vaWatchdog
  /-- RECALL_PLAN_START (R504) -/
  | recallPlanStart (n : Fin 8)
  /-- BUS_OK_LOST (R42) -/
  | busOkLost
  /-- BACKUP_LOW_CHANGE (R36) -/
  | backupLowChange (scap coin : Nat)
  /-- STAGE_ERASE_DONE (R475) -/
  | stageEraseDone
  /-- RETENTIVE_COPY_WRITTEN (R212) -/
  | retentiveCopyWritten
  /-- TWIN_LINK_TRAINED (R445) -/
  | twinLinkTrained (lane1 : Bool)
deriving DecidableEq, Repr

end Sys2Proof
end

