-- ==== Sys2Proof/Decode.lean ====
section
/-! DEFINITION. The command a word spells. The command table gives no row any bits, so no word spells a command. -/

namespace Sys2Proof

/-- The command that the bits `w` spell: none, for no row of the table gives bits. -/
def decodeTableWord (_nbits _w : Nat) : Option Instr := none

end Sys2Proof
end

