-- ==== Sys2Proof/Machine/Float32.lean ====
section
/-! DEFINITION. binary32 arithmetic with rounding to nearest, ties to even, and the exceptions of R234: subnormal
operands and results are zeros, a result beyond the finite range is the greatest finite value with V, and a result that
would be NaN is 0 with V. Values are computed exactly as integers times powers of two and rounded once. -/

namespace Sys2Proof.Machine

/-- A binary32 value: sign, and for finite values mantissa and exponent of two. -/
inductive FVal where
  | nan
  | inf (neg : Bool)
  | fin (neg : Bool) (m : Nat) (e : Int)
deriving DecidableEq, Repr

/-- A result: the word, whether V is set, and whether it comes from a NaN. -/
structure FRes where
  w   : Word
  v   : Bool
  nan : Bool
deriving DecidableEq, Repr

/-- A word read as binary32; a subnormal is a zero of its sign. -/
def fval (w : Word) : FVal :=
  let neg := getBits w 31 31 == 1
  let ex := getBits w 30 23
  let m := getBits w 22 0
  if ex = 255 then (if m = 0 then .inf neg else .nan)
  else if ex = 0 then .fin neg 0 0
  else .fin neg (m + 2 ^ 23) ((ex : Int) - 150)

/-- A zero of a sign. -/
def fzero (neg : Bool) : Word := if neg then 0x80000000 else 0

/-- The greatest finite value of a sign. -/
def fmax (neg : Bool) : Word := if neg then 0xFF7FFFFF else 0x7F7FFFFF

/-- The result of a value beyond the finite range. -/
def fover (neg : Bool) : FRes := ⟨fmax neg, true, false⟩

/-- The result of an invalid operation. -/
def fnan : FRes := ⟨0, true, true⟩

/-- `m` times two to the power `e`, rounded to a multiple of two to the power `q`, in units of that. -/
def fscale (m : Nat) (e q : Int) : Nat :=
  if q ≤ e then m * 2 ^ (e - q).toNat else (divRoundEven (m : Int) (2 ^ (q - e).toNat)).toNat

/-- Round `± m · 2^e` to binary32. -/
def fround (neg : Bool) (m : Nat) (e : Int) : FRes :=
  if m = 0 then ⟨fzero neg, false, false⟩
  else
    let top : Int := e + (Nat.log2 m : Int)
    let q : Int := max (top - 23) (-149)
    let r := fscale m e q
    let r' := if r = 2 ^ 24 then 2 ^ 23 else r
    let q' : Int := if r = 2 ^ 24 then q + 1 else q
    if r' < 2 ^ 23 then ⟨fzero neg, false, false⟩
    else
      let ex := q' + 150
      if 255 ≤ ex then fover neg
      else ⟨BitVec.ofNat 32 (b2n neg * 2 ^ 31 + ex.toNat * 2 ^ 23 + (r' - 2 ^ 23)), false, false⟩

/-- A signed mantissa. -/
def fsigned (neg : Bool) (m : Nat) : Int := if neg then - (m : Int) else m

/-- The exact sum of two finite values, as a signed mantissa and its exponent. -/
def fsum (n1 : Bool) (m1 : Nat) (e1 : Int) (n2 : Bool) (m2 : Nat) (e2 : Int) : Int × Int :=
  let e := min e1 e2
  (fsigned n1 m1 * 2 ^ (e1 - e).toNat + fsigned n2 m2 * 2 ^ (e2 - e).toNat, e)

/-- Round a sum; an exact zero takes the common sign of its terms, else plus. -/
def froundSum (n1 n2 : Bool) (z : Int × Int) : FRes :=
  if z.1 = 0 then ⟨fzero (n1 && n2), false, false⟩ else fround (decide (z.1 < 0)) z.1.natAbs z.2

/-- Addition of values. -/
def faddV (a b : FVal) : FRes :=
  match a, b with
  | .nan, _ | _, .nan => fnan
  | .inf n1, .inf n2 => if n1 = n2 then fover n1 else fnan
  | .inf n, .fin .. => fover n
  | .fin .., .inf n => fover n
  | .fin n1 m1 e1, .fin n2 m2 e2 => froundSum n1 n2 (fsum n1 m1 e1 n2 m2 e2)

/-- A value with its sign inverted. -/
def FVal.flip : FVal → FVal
  | .nan => .nan
  | .inf n => .inf (!n)
  | .fin n m e => .fin (!n) m e

/-- A value with its sign cleared. -/
def FVal.abs : FVal → FVal
  | .nan => .nan
  | .inf _ => .inf false
  | .fin _ m e => .fin false m e

/-- The exact product of two values. -/
def fprod (a b : FVal) : FVal :=
  match a, b with
  | .nan, _ | _, .nan => .nan
  | .inf n1, .inf n2 => .inf (n1 != n2)
  | .inf n1, .fin n2 m _ => if m = 0 then .nan else .inf (n1 != n2)
  | .fin n1 m _, .inf n2 => if m = 0 then .nan else .inf (n1 != n2)
  | .fin n1 m1 e1, .fin n2 m2 e2 => .fin (n1 != n2) (m1 * m2) (e1 + e2)

/-- Round a value. -/
def FVal.round : FVal → FRes
  | .nan => fnan
  | .inf n => fover n
  | .fin n m e => fround n m e

def fadd (a b : Word) : FRes := faddV (fval a) (fval b)
def fsub (a b : Word) : FRes := faddV (fval a) (fval b).flip
def fmul (a b : Word) : FRes := (fprod (fval a) (fval b)).round

/-- Product and sum, rounded once. -/
def ffma (a b c : Word) : FRes := faddV (fprod (fval a) (fval b)) (fval c)

/-- Division. A quotient of 64 bits and more, with a last bit that tells whether a remainder is left, rounds as the exact
one does. By zero: beyond the finite range, or invalid for 0 / 0. -/
def fdiv (a b : Word) : FRes :=
  match fval a, fval b with
  | .nan, _ | _, .nan => fnan
  | .inf _, .inf _ => fnan
  | .inf n1, .fin n2 _ _ => fover (n1 != n2)
  | .fin n1 _ _, .inf n2 => ⟨fzero (n1 != n2), false, false⟩
  | .fin n1 m1 e1, .fin n2 m2 e2 =>
    if m2 = 0 then (if m1 = 0 then fnan else fover (n1 != n2))
    else
      let q := m1 * 2 ^ 64 / m2
      let rest := b2n (m1 * 2 ^ 64 % m2 != 0)
      fround (n1 != n2) (2 * q + rest) (e1 - e2 - 65)

/-- Comparison: less. None where either is NaN. -/
def fless (a b : Word) : Option Bool :=
  match fval a, fval b with
  | .nan, _ | _, .nan => none
  | .inf n1, .inf n2 => some (n1 && !n2)
  | .inf n, .fin .. => some n
  | .fin .., .inf n => some (!n)
  | .fin n1 m1 e1, .fin n2 m2 e2 =>
    let d := fsum n1 m1 e1 (!n2) m2 e2
    some (decide (d.1 < 0))

/-- The value rounded to an integer, half to even, and saturated to 32 bits: the word, whether it saturated or was NaN,
and whether it was NaN. -/
def ftoi (a : Word) : FRes :=
  match fval a with
  | .nan => fnan
  | .inf n => ⟨if n then 0x80000000 else 0x7FFFFFFF, true, false⟩
  | .fin n m e =>
    let i : Int := fsigned n (fscale m e 0)
    let c := clampI (-2147483648) 2147483647 i
    ⟨BitVec.ofInt 32 c, c != i, false⟩

/-- An integer as binary32. -/
def itof (i : Int) : Word := (fround (decide (i < 0)) i.natAbs 0).w

end Sys2Proof.Machine
end

