-- ==== Sys2Proof/Config.lean ====
section
/-! DEFINITION. What the spec leaves open, as constants without a body: nothing can be proved of their values. -/

namespace Sys2Proof

/-- The free values, in the order in which the machine draws them (log entry 2). -/
opaque Config.freeValue : Nat → Nat

/-- The event code a block reports for an event of its chapter (R462 names the field; no chapter lists the codes).
Arguments: the page and the model's own number of the event (log entry 5). -/
opaque Config.eventCode : Nat → Nat → Nat

/-- Key derivation (R432): label number and fields to a key value. Uninterpreted, log entry 6. -/
opaque Config.derive : Nat → List Nat → Nat

/-- A keyed digest, HMAC-SHA-384 (R92, R440): key and message. Uninterpreted, log entry 6. -/
opaque Config.hmac : Nat → List Nat → Nat

/-- A digest, SHA-384 (R439, R444, R475). Uninterpreted, log entry 6. -/
opaque Config.sha384 : List Nat → Nat

/-- A signature, ECDSA P-384 (R92, R439): key and message. Uninterpreted, log entry 6. -/
opaque Config.sign : Nat → List Nat → Nat

/-- The public key and the shared secret of P-384 (R92, R439). Uninterpreted, log entry 6. -/
opaque Config.publicKey : Nat → Nat
opaque Config.ecdh : Nat → Nat → Nat

/-- Whether a signature over a manifest verifies under Mernavik's key (R475). Uninterpreted, log entry 6. -/
opaque Config.manifestSigned : List Nat → Nat → Bool

/-- The module's own latency values for 100BASE-TX (R124 names them and gives no number), in 2^-16 ns: ingress and
egress (log entry 9). -/
opaque Config.ingress100 : Int
opaque Config.egress100 : Int

/-- The factory copy of the calibration image, written at manufacture (R492), by word. -/
opaque Config.calFactory : Nat → Word

/-- What is left of a door cycle under way, as the dispatcher's prediction takes it: the car and the time (R300 does not
state it; log entry 27). -/
opaque Config.doorRest : Nat → Nat → Nat

/-! Skiver's signal path, where R357 and R368 state the quantities and no arithmetic (log entry 29): the fractional delay of a
series (newest first) by so many ps; the integral of a Rogowski coil's output, delayed likewise, in nV, with gain 1 at 50 Hz before
the scale of R357; and the samples before integration began (the input, and how many samples before). -/
opaque Config.delayed : Int → List Int → Int
opaque Config.integral : Int → List Int → Int
opaque Config.meterBefore : Nat → Nat → Int

/-- The instance of the module's Device object, the identifiers of the Schedule, Calendar and Network Port objects that the firmware
serves, and what a property has by object and property number, where R391 names these and says no more (log entry 12). -/
opaque Config.deviceInstance : Nat
opaque Config.firmwareObjects : List Nat
opaque Config.firmwareProperty : Nat → Nat → List Nat

/-- The session identifier of the k-th session and the SUB_ID of the k-th subscription (R92, R109 name them and give no
values; log entry 2). -/
opaque Config.sessionId : Nat → Nat
opaque Config.subId : Nat → Word

end Sys2Proof
end

