-- ==== Sys2Proof/Machine/State.lean ====
section
/-! DEFINITION. The state of the block: the word store of every register page and window, the state that the spec
gives the block beside its registers (its parts in Machine/Parts), and the queue of waiting commands. Plain data throughout. -/

namespace Sys2Proof.Machine

/-- Why a step stops. No command of the spec lacks an effect altogether, so no meaning raises a fault; the type has the
one constructor a stop of the environment would take. -/
inductive Fault where
  /-- Raised by nothing: reserved for a stop outside every rule. Safe. -/
  | outsideSpec
deriving DecidableEq, Repr

/-- Why a command is refused. -/
inductive Refusal where
  /-- Raised by the dispatcher for a command that has no meaning yet. Safe. -/
  | notModelled (mnemonic : String)
deriving DecidableEq, Repr

/-- The outcome of a step. -/
abbrev Out (σ : Type) := Host.Outcome σ Fault Refusal

/-- The state of the block. -/
structure State where
  /-- The commands waiting, first in, first out. -/
  pending : List Instr
  /-- Register pages and windows (R71 to R75). -/
  mem : Memory
  /-- The model's own counter of free values drawn (log entry 2). -/
  freeCtr : Nat
  /-- The answer to the last access. -/
  resp : Resp
  /-- An ERR_STAT bit has been set since the write at hand began (W_IGNORED, R105). -/
  errSet : Bool
  /-- Every message sent, the newest first (the model's own record of the wires, log entry 3). -/
  wire : List Sent
  /-- Domains of reach SYS and narrower held in reset (R55). -/
  sysHeld : Bool
  /-- The APP domain has been released and its configuration applied (B9 of R66). -/
  appUp : Bool
  /-- The role set that runs (R1, R6): bit 0 FLOOR, bit 1 CAR_HOST, bit 2 PLANT. -/
  roles : Nat
  /-- Power, reset and bring-up. -/
  pwr : Supply
  /-- Per requester, the latch of the wide value whose low word it read last (R86). -/
  latches : List (Requester × Latch)
  /-- Per requester, the higher words staged for a wide write (R87). -/
  staged : List (Requester × Nat × Word)
  /-- Pages with FREEZE set: the words their registers and window read as (R79). -/
  frozen : KV Memory
  /-- Words marked uncorrectable (R88). -/
  eccMarked : List Nat
  /-- Words that hold a single-bit error not yet found (R88). -/
  eccSingle : List Nat
  /-- Words that hold an uncorrectable error not yet found (R88, R102). -/
  eccNew : List Nat
  /-- The session table, entries 0 to 511 (R93). -/
  sessions : KV Session
  /-- Half-open sessions, at most 32 (R93). -/
  halfOpen : List HalfOpen
  /-- The instants at which OPEN_INITs of the last 1 s were answered, newest first (R93). -/
  openTimes : List Nat
  /-- The next session identifier and subscription identifier to give out. -/
  nextSid : Nat
  nextSubId : Nat
  /-- Subscriptions, at most 4 096 (R109). -/
  subs : List Sub
  /-- The time base beside its registers. -/
  tb : TimeBase
  /-- The time base has been stepped since the metering sample grid last judged it (R123, R356). -/
  timeStepped : Bool
  /-- The calendar clock beside its registers. -/
  cal : Calendar
  /-- The device-wide sequencer. -/
  seqr : Sequencer
  /-- Committed slots. -/
  slotCommit : KV SlotCommit
  /-- The DONE queue, oldest first. -/
  doneQ : List DoneEntry
  /-- Snapshot sets whose contents have not been read (R161). -/
  snapUnread : List Nat
  /-- ARMED slots whose next prediction resolves a phase where NEXT is set (R149): those not yet predicted, and those whose
  NEXT or phase has been written since. -/
  slotUnresolved : List Nat
  /-- Firings whose sequence value is still to come (R152). -/
  slotFired : List Firing
  /-- Slots committed or fired whose deviation is still to be measured (R154). -/
  slotDev : List DevWait
  /-- Coil learning, per channel. -/
  coilLearn : KV CoilLearn
  /-- The coil table's MRAM copy, and the minute of the last save (R156). -/
  coilMram : Memory
  coilSaveMin : Option Nat
  /-- The mains PLLs. -/
  pllA : Pll
  pllB : Pll
  /-- The eight tiles. -/
  tiles : KV Tile
  /-- Tiles still to be sent GO_SAFE after the assertion of an APP reset (R187). -/
  appGoSafe : List Nat
  /-- The scan engine beside its registers. -/
  scan : ScanEngine
  /-- Cycles of the time-base counter since the start (R113, R202). -/
  cycles : Nat
  /-- Channels taken to their safe action by step N5 of ENDURANCE, by channel number (R505). -/
  fireShed : List Nat
  /-- Loop slots that differ from one never applied, 0 to 255. -/
  loops : KV LoopSlot
  /-- Ticks of the running second, and the sum over them of the load, a fraction (LPE.LOAD). -/
  loopTicks : Nat
  loopLoad : Nat × Nat
  /-- The 24 axes. -/
  axes : KV Axis
  /-- The eight groups' lines. -/
  lines : KV Line
  /-- Group commands since the last tick: group and command code. -/
  grpPend : List (Nat × Nat)
  /-- The eight cars. -/
  cars : KV Car
  /-- Calls, by entry 0 to 4 095. -/
  calls : KV Call
  /-- The next CALL_ID. -/
  nextCall : Nat
  /-- Stirrup. -/
  saf : Stirrup
  /-- Skiver beside its registers. -/
  meter : Meter
  /-- The priority arrays, array 1 to 2 047, slot 1 to 16. -/
  prioArrays : KV (KV PSlot)
  /-- LAST_REFUSE holds an unread capture (R389). -/
  refUnread : Bool
  /-- The configuration store: configuration words of the point table and of the pages (R66 B9, R383). -/
  cfgStore : Memory
  /-- The configuration store's copy of the priority arrays (R383). -/
  cfgPrio : KV (KV PSlot)
  /-- BACnet COV subscriptions. -/
  covSubs : List CovSub
  /-- COV_Increment of points' objects, a REAL32, as the firmware holds it; 0 where none is listed (R391). -/
  covInc : KV Word
  /-- DeviceCommunicationControl: communication enabled. -/
  bacnetOn : Bool
  /-- Points with a binding that has not yet delivered since the release or the binding, each with whether its tile
  channel has been sampled since (R385). -/
  pointWaiting : List (Nat × Bool)
  /-- Values of OUT points bound to a CAN object or a remote BACnet object that wait to be delivered: point, value. -/
  deliveries : List (Nat × Word)
  /-- The MACs beside their registers. -/
  mac : Mac
  /-- The four CAN channels. -/
  cans : KV CanChan
  /-- Keeper's handles in SRAM (R429). -/
  handles : KV Handle
  /-- GEN of every handle number that has been rotated or destroyed (R433), kept in MRAM. -/
  handleGens : KV Nat
  /-- Keeper's MRAM: the stored handles, OWNER_LOCK and whether OWNED (R435, R437, R438). -/
  handlesMram : KV Handle
  ownerLockMram : Bool
  ownedMram : Bool
  /-- Statements signed and challenges answered in the running second (R439, R440). -/
  attSignSec : Nat × Nat
  attMacSec : Nat × Nat
  /-- The twin beside its registers. -/
  twin : Twin
  /-- As one of a pair: shed stages S1 and S2 applied on the ACTIVE (R512). -/
  twinActiveS1 : Bool
  twinActiveS2 : Bool
  /-- The side buffer, oldest first, at most 64 records (R469, R470), kept in MRAM. -/
  sideBuf : List RecordWords
  /-- Records made while the side buffer is being merged: they are written after it (R471). -/
  mergeWait : List RecordWords
  /-- Who set FREEZE on EVR (R469). -/
  frzSetter : Option Requester
  /-- Trigger firings not yet served, oldest first (R466). -/
  trigPend : List Nat
  /-- The store's slots in the order in which they were written, oldest first (R467). -/
  recOrder : List Nat
  /-- REC_TOTAL and OP_S as MRAM keeps them (R464). -/
  recTotalMram : Nat
  opSMram : Nat
  /-- Events that wait for their sequence value, in the sequencer or, before B1, in their blocks (R158, R463). -/
  heldEvents : List HeldEvent
  /-- Field update beside its registers. -/
  upd : Update
  /-- Test and calibration beside their registers. -/
  diag : Diag
  /-- The fire block. -/
  fire : Fire
deriving DecidableEq, Repr

/-- The block before logic power comes (R53, R66): every register at its reset value and every domain held. POWER_ON_RESET
and bring-up bring it to run (log entry 31); values the spec does not state are named in log entry 1. -/
def State.reset : State where
  pending := []
  mem := []
  freeCtr := 0
  resp := ⟨0, [], 0xFFFFFFFF, false⟩
  errSet := false
  wire := []
  sysHeld := true
  appUp := false
  roles := 0
  pwr := Supply.initial
  latches := []
  staged := []
  frozen := []
  eccMarked := []
  eccSingle := []
  eccNew := []
  sessions := []
  halfOpen := []
  openTimes := []
  nextSid := 1
  nextSubId := 1
  subs := []
  tb := TimeBase.initial
  timeStepped := false
  cal := Calendar.initial
  seqr := ⟨[], [], 0⟩
  slotCommit := []
  doneQ := []
  snapUnread := []
  slotUnresolved := []
  slotFired := []
  slotDev := []
  coilLearn := []
  coilMram := []
  coilSaveMin := none
  pllA := ⟨false, 0, 0⟩
  pllB := ⟨false, 0, 0⟩
  tiles := []
  appGoSafe := []
  scan := ScanEngine.initial
  cycles := 0
  fireShed := []
  loops := []
  loopTicks := 0
  loopLoad := (0, 1)
  axes := []
  lines := []
  grpPend := []
  cars := []
  calls := []
  nextCall := 1
  saf := ⟨0, [], [], [], [], [], 0, [], [], [], [], [], [], none, none, [], [], [], [], false, none, 0, false, []⟩
  meter := Meter.initial
  prioArrays := []
  refUnread := false
  cfgStore := []
  cfgPrio := []
  covSubs := []
  covInc := []
  bacnetOn := true
  pointWaiting := []
  deliveries := []
  mac := Mac.initial
  cans := []
  handleGens := []
  handles := [(0, ⟨1, .live, 0, 0, 0, 0, 0, 0, 0, 0, 0⟩)]
  handlesMram := [(0, ⟨1, .live, 0, 0, 0, 0, 0, 0, 0, 0, 0⟩), (1, ⟨2, .live, 0, 0, 0, 0, 0, 0, 0, 0, 0⟩), (3, ⟨4, .live, 0, 0, 0, 0, 127, 0, 0xFFFFFFFF, 0, 0⟩)]
  ownerLockMram := false
  ownedMram := false
  attSignSec := (0, 0)
  attMacSec := (0, 0)
  twin := ⟨0, false, false, [], [], [], [], false, none, 0, false, false, [], [], none, none, [], 0, false, 0, false⟩
  twinActiveS1 := false
  twinActiveS2 := false
  sideBuf := []
  mergeWait := []
  frzSetter := none
  trigPend := []
  recOrder := []
  recTotalMram := 0
  opSMram := 0
  heldEvents := []
  upd := ⟨[], ⟨0, 0, []⟩, none, none, false, false, none, false, false, 0, false⟩
  diag := ⟨0, [], 0, [], [], true, true, [], [], false, (0, 0), (0, 0)⟩
  fire := ⟨⟨0, 0, 0, 0⟩, 0, [], false, 0, none, []⟩

end Sys2Proof.Machine
end

