-- ==== Sys2Proof/Machine/Ops.lean ====
section
/-! DEFINITION. The named operations every meaning is built from: reading and writing fields, counters, interrupt and
error bits (R10, R75, R81), free values, the present time (R112), the sequence counter (R158), subscriptions (R109,
R110) and event records (R462 to R471). -/

namespace Sys2Proof.Machine

/-! ## Fields -/

/-- The value of a field. -/
def State.get (s : State) (f : Fld) : Nat := getBits (s.mem.read f.addr) f.hi f.lo

/-- Give a field a value (its low bits). -/
def State.set (s : State) (f : Fld) (v : Nat) : State :=
  { s with mem := s.mem.write f.addr (setBits (s.mem.read f.addr) f.hi f.lo v) }

/-- A one-bit field as a Boolean. -/
def State.flag (s : State) (f : Fld) : Bool := s.get f == 1

/-- Set a one-bit field from a Boolean. -/
def State.setFlag (s : State) (f : Fld) (b : Bool) : State := s.set f (b2n b)

/-- A field read as a signed number. -/
def State.getS (s : State) (f : Fld) : Int := toSigned (f.hi + 1 - f.lo) (s.get f)

/-- Give a field a signed value, in two's complement. -/
def State.setS (s : State) (f : Fld) (v : Int) : State := s.set f (ofSigned (f.hi + 1 - f.lo) v)

/-- One bit of a field. -/
def State.getBit (s : State) (f : Fld) (b : Nat) : Bool := bitOf (s.get f) b

/-- Set or clear one bit of a field. -/
def State.setBit (s : State) (f : Fld) (b : Nat) (v : Bool) : State := s.set ⟨f.addr, f.lo + b, f.lo + b⟩ (b2n v)

/-- A whole word. -/
def State.word (s : State) (a : Nat) : Word := s.mem.read a

/-- Write a whole word. -/
def State.setWord (s : State) (a : Nat) (w : Word) : State := { s with mem := s.mem.write a w }

/-- The words of a wide value from `a`, the lowest the least significant (R86). -/
def State.wideFrom (s : State) (a : Nat) : Nat → Nat
  | 0 => 0
  | n + 1 => (s.word a).toNat + 2 ^ 32 * State.wideFrom s (a + 4) n

/-- The value of a wide register. -/
def State.getW (s : State) (w : Wide) : Nat := s.wideFrom w.addr w.words

/-- Write words of a wide value from `a`. -/
def State.setWideFrom (s : State) (a v : Nat) : Nat → State
  | 0 => s
  | n + 1 => State.setWideFrom (s.setWord a (BitVec.ofNat 32 v)) (a + 4) (v / 2 ^ 32) n

/-- Give a wide register a value. -/
def State.setW (s : State) (w : Wide) (v : Nat) : State := s.setWideFrom w.addr v w.words

/-- A wide register read as a signed number. -/
def State.getWS (s : State) (w : Wide) : Int := toSigned (32 * w.words) (s.getW w)

/-- Give a wide register a signed value. -/
def State.setWS (s : State) (w : Wide) (v : Int) : State := s.setW w (ofSigned (32 * w.words) v)

/-- Count up by one, saturating at the field's greatest value. -/
def State.bump (s : State) (f : Fld) : State := s.set f (satTo (2 ^ (f.hi + 1 - f.lo) - 1) (s.get f + 1))

/-- Count up by `n`, saturating at the field's greatest value. -/
def State.bumpBy (s : State) (f : Fld) (n : Nat) : State := s.set f (satTo (2 ^ (f.hi + 1 - f.lo) - 1) (s.get f + n))

/-- Keep the greatest value seen. -/
def State.raiseTo (s : State) (f : Fld) (v : Nat) : State :=
  let v' := satTo (2 ^ (f.hi + 1 - f.lo) - 1) v
  if s.get f < v' then s.set f v' else s

/-- Count down by one, not below 0. -/
def State.drop1 (s : State) (f : Fld) : State := s.set f (s.get f - 1)

/-- Whether a read of a word finds an uncorrectable error (R88). -/
def State.badWord (s : State) (a : Nat) : Bool := s.eccMarked.contains a || s.eccNew.contains a

/-- A 32-bit write ends what errors a word held (R88). -/
def State.eccClean (s : State) (a : Nat) : State :=
  { s with eccMarked := s.eccMarked.filter (· != a), eccSingle := s.eccSingle.filter (· != a), eccNew := s.eccNew.filter (· != a) }

/-- Change the supply's hidden state. -/
def State.modPwr (s : State) (g : Supply → Supply) : State := { s with pwr := g s.pwr }

/-! ## Free values and messages -/

/-- Draw a free value (log entry 2). -/
def State.fresh (s : State) : Nat × State := (Config.freeValue s.freeCtr, { s with freeCtr := s.freeCtr + 1 })

/-- A quotient as an integer: exact where it divides; otherwise rounded down or up by a free value, where the spec
states no rounding (log entry 7). -/
def State.quot (s : State) (n : Int) (d : Nat) : Int × State :=
  if n % (d : Int) = 0 then (n / (d : Int), s)
  else let (v, s) := s.fresh; (n / (d : Int) + ((v % 2 : Nat) : Int), s)

/-- Record a message sent. -/
def State.send (s : State) (k : SentKind) (port dest : Nat) (body : List Nat) : State :=
  { s with wire := ⟨k, port, dest, body⟩ :: s.wire }

/-- Answer an access: status, data, no failing offset. -/
def State.answer (s : State) (status : Nat) (data : List Word) : State :=
  { s with resp := ⟨status, data, 0xFFFFFFFF, false⟩ }

/-! ## Status codes of R105 -/

namespace Status
abbrev OK : Nat := 0x00
abbrev E_SIZE : Nat := 0x01
abbrev E_ADDR : Nat := 0x02
abbrev E_ALIGN : Nat := 0x03
abbrev E_ECC : Nat := 0x04
abbrev E_RIGHT : Nat := 0x05
abbrev E_OP : Nat := 0x06
abbrev E_VERSION : Nat := 0x07
abbrev E_BUSY : Nat := 0x08
abbrev E_STALE : Nat := 0x09
abbrev E_DUP : Nat := 0x0A
abbrev E_SEQ : Nat := 0x0B
abbrev E_ORDER : Nat := 0x0C
abbrev E_STATE : Nat := 0x0D
abbrev E_SUB : Nat := 0x0E
abbrev W_IGNORED : Nat := 0x80
end Status

/-! ## Time (R112) -/

/-- The seconds of the time value. -/
def State.taiSec (s : State) : Nat := s.get Reg.TBS_TIME_SEC_HI * 2 ^ 32 + s.get Reg.TBS_TIME_SEC_LO

/-- The time value in whole TAI nanoseconds. -/
def State.tai (s : State) : Nat := s.taiSec * 1000000000 + s.get Reg.TBS_TIME_NS

/-- Give the time base a time in whole nanoseconds, keeping its sub-nanoseconds. -/
def State.setTai (s : State) (ns : Nat) : State :=
  let sec := ns / 1000000000
  ((s.set Reg.TBS_TIME_NS (ns % 1000000000)).set Reg.TBS_TIME_SEC_LO (sec % 2 ^ 32)).set Reg.TBS_TIME_SEC_HI (sec / 2 ^ 32)

/-! ## The sequence counter (R158) -/

/-- The next sequence value, and the state in which it is used. -/
def State.takeSeq (s : State) : Nat × State :=
  let n := s.getW Reg.ANG_SEQ
  (n, s.setW Reg.ANG_SEQ (n + 1))

/-! ## Subscriptions (R109, R110) -/

/-- Whether notifications are paused: shed stage S2 applied (R47, R110), or, as one of a twin pair, S2 applied on the
ACTIVE (R512). -/
def State.notesPaused (s : State) : Bool :=
  if s.get Reg.TWN_STATE = 1 ∨ s.get Reg.TWN_STATE = 2 then s.twinActiveS2 else s.getBit Reg.PWR_SHED 1

/-- Add a note to a subscription: beyond 8 unacknowledged notes, those about to be sent among them, and while paused, an IRQ
or POINT subscription folds further changes into one note; a RECORD subscription queues it (R110). The note that folds carries the
state as the last change left it (DESIGN CHOICE, log entry 92). -/
def Sub.add (paused : Bool) (n : Note) (u : Sub) : Sub :=
  if u.kind = 3 then { u with waiting := u.waiting ++ [n] }
  else if paused ∨ 8 ≤ u.unacked.length + u.waiting.length then
    let folded := u.waiting.getLast?.elim false (fun (x : Note) => x.coalesced)
    { u with waiting := (if folded then u.waiting.dropLast else u.waiting) ++ [{ n with coalesced := true }] }
  else { u with waiting := u.waiting ++ [n] }

/-- Add a change, by its sequence value and what each subscription carries of it, to the subscriptions that match. -/
def State.noteSubs (s : State) (sel : Sub → Bool) (q : Nat) (payload : Sub → List Word) : State :=
  { s with subs := s.subs.map (fun u => if sel u then u.add s.notesPaused ⟨0, false, q, payload u⟩ else u) }

/-- Add a change with a sequence value of its own to the subscriptions that match. -/
def State.notifySubs (s : State) (sel : Sub → Bool) (payload : Sub → List Word) : State :=
  if s.subs.any sel then
    let (q, s) := s.takeSeq
    s.noteSubs sel q payload
  else s

/-! ## Interrupt and error bits (R75, R81, R82) -/

/-- Set a bit of IRQ_STAT. A bit that goes from 0 to 1 is reported to IRQ subscriptions (R109) and to the triggers
that watch it (R466): a subscription carries the bits within its mask. -/
def State.irq (s : State) (p b : Nat) : State :=
  if s.getBit (Reg.HDR_IRQ_STAT p) b then s
  else
    let s := s.setBit (Reg.HDR_IRQ_STAT p) b true
    let st := s.get (Reg.HDR_IRQ_STAT p)
    let s := s.notifySubs (fun u => u.kind == 1 && u.target == p && bitOf u.mask b) (fun u => [BitVec.ofNat 32 (st &&& u.mask)])
    let fired := (List.range 16).filter (fun t => s.flag (Reg.EVR_TRIG_EN t) && s.flag (Reg.EVR_TRIG_SRC t)
      && s.get (Reg.EVR_TRIG_PAGE t) == p && s.getBit (Reg.EVR_TRIG_MASK t) b)
    { s with trigPend := s.trigPend ++ fired }

/-- Set a bit of ERR_STAT: ERR_CNT counts it, and IRQ_STAT.ERR is set where the bit goes from 0 to 1 (R75). -/
def State.err (s : State) (p b : Nat) : State :=
  let was := s.getBit (Reg.HDR_ERR_STAT p) b
  let s := (s.setBit (Reg.HDR_ERR_STAT p) b true).bump (Reg.HDR_ERR_CNT p)
  let s := { s with errSet := true }
  if was then s else s.irq p 31

/-- The bit of a common-header error on the page that owns an address. -/
def State.ownerErr (s : State) (a b : Nat) : State := match ownerPage a with | some p => s.err p b | none => s

/-- Set an error bit where a condition holds. -/
def State.errIf (s : State) (c : Bool) (p b : Nat) : State := if c then s.err p b else s

/-- A command that a lock of its page bars from RWL fields (R77). -/
def State.unlocked (s : State) (p : Nat) (g : State → State) : State :=
  if s.flag (Reg.HDR_LOCK p) then s.err p Err.LOCKED_WR else g s

/-- A word of a copy of the calibration image, held as differences from the factory copy (R492). -/
def calWord (m : KV Word) (i : Nat) : Word := KV.getD m i (Config.calFactory i)

/-! ## Application cores (R47, R505) -/

/-- The clock of application core `c` in MHz, 0 for a halted one: S1 halts cores 2 and 3, S2 slows cores 0 and 1, and step N4
of ENDURANCE leaves core 0 alone, slowed. -/
def State.coreMhz (s : State) (c : Nat) : Nat :=
  if s.getBit Reg.FIR_SHED 3 then (if c = 0 then 600 else 0)
  else if s.getBit Reg.PWR_SHED 0 && decide (2 ≤ c) then 0
  else if s.getBit Reg.PWR_SHED 1 then 600 else 1200

/-! ## CRC-32C (R532) -/

/-- One bit step of the reflected CRC with the Castagnoli polynomial. -/
def crcBit (c : Nat) : Nat := if c % 2 = 1 then (c / 2) ^^^ 0x82F63B78 else c / 2

/-- One byte. -/
def crcByte (c b : Nat) : Nat := Nat.repeat crcBit 8 (c ^^^ (b % 256))

/-- One word, most significant byte first. -/
def crcWord (c : Nat) (w : Word) : Nat :=
  let n := w.toNat
  crcByte (crcByte (crcByte (crcByte c (n / 2 ^ 24)) (n / 2 ^ 16)) (n / 2 ^ 8)) n

/-- CRC-32C over words in ascending order, from an initial value, with final complement. -/
def crc32cFrom (init : Nat) (ws : List Word) : Nat := ws.foldl crcWord init ^^^ 0xFFFFFFFF

/-- CRC-32C over words (R532). -/
def crc32c (ws : List Word) : Nat := crc32cFrom 0xFFFFFFFF ws

/-! ## Event records (R462 to R471) -/

/-- The first free slot of the store from slot `i` on, in ring order. -/
def State.freeRecordSlot (s : State) (i : Nat) : Nat → Option Nat
  | 0 => none
  | n + 1 => if bitOf (s.word (0x07000000 + 128 * (i % 4096))).toNat 24 then State.freeRecordSlot s (i + 1) n else some (i % 4096)

/-- Write the words of a list from an address. -/
def State.setWords (s : State) (a : Nat) : List Word → State
  | [] => s
  | w :: t => State.setWords (s.setWord a w) (a + 4) t

/-- The severity of a record. -/
def recordSev (r : RecordWords) : Nat := getBits (r.headD 0) 31 30

/-- Put a record into a slot of the store, and make it the newest. -/
def State.putRecord (s : State) (slot : Nat) (r : RecordWords) : State :=
  let s := s.setWords (0x07000000 + 128 * slot) r
  let s := { s with recOrder := s.recOrder.filter (fun x => x != slot) ++ [slot] }
  let s := (s.set Reg.EVR_NEWEST_IDX slot).irq Page.EVR Irq.EVR_RECORD
  if 2 ≤ recordSev r then s.irq Page.EVR Irq.EVR_SEVERE else s

/-- Store a record under R467: the first free slot after the newest, else the slot of the oldest stored record of its
severity or lower, else drop it. An empty store begins at slot 0 (log entry 8). -/
def State.storeRecord (s : State) (r : RecordWords) : State :=
  if recordSev r < s.get Reg.EVR_MIN_SEV then s.bump Reg.EVR_DROP_MIN
  else
    let start := match s.recOrder.getLast? with | none => 0 | some n => n + 1
    match s.freeRecordSlot start 4096 with
    | some i => s.putRecord i r
    | none =>
      match s.recOrder.find? (fun i => getBits (s.word (0x07000000 + 128 * i)) 31 30 ≤ recordSev r) with
      | some i => (s.bump Reg.EVR_OVERWRITE_CNT).putRecord i r
      | none => { ((s.bump Reg.EVR_DROP_SEV).err Page.EVR Err.EVR_DROP_SEV) with errSet := s.errSet }

/-- The sequence value of a record: its words 2 and 3 (R462). -/
def recordSeq (r : RecordWords) : Nat := (r.getD 2 0).toNat + 2 ^ 32 * (r.getD 3 0).toNat

/-- Notify a record, with its own sequence value, to the RECORD subscriptions (R109, R465). -/
def State.notifyRecord (s : State) (r : RecordWords) : State :=
  s.noteSubs (fun u => u.kind == 3 && decide (u.mask ≤ recordSev r)) (recordSeq r) (fun _ => r)

/-- The last index at which a list of records holds one of lower severity. -/
def lastBelow (sev : Nat) (l : List RecordWords) : Option Nat :=
  ((List.range l.length).filter (fun i => decide (recordSev (l.getD i []) < sev))).getLast?

/-- Put a record into the side buffer (R469, R470). -/
def State.sideRecord (s : State) (r : RecordWords) : State :=
  if s.sideBuf.length < 64 then ({ s with sideBuf := s.sideBuf ++ [r] }).notifyRecord r
  else
    let s' := { ((s.bump Reg.EVR_SIDE_OVF).err Page.EVR Err.EVR_SIDE_OVF) with errSet := s.errSet }
    match lastBelow (recordSev r) s.sideBuf with
    | some i => ({ s' with sideBuf := s'.sideBuf.eraseIdx i ++ [r] }).notifyRecord r
    | none => s'

/-- The words of a record (R462). `late`, `side` and `trig` are its marks, `n` its count of snapshot words. -/
def State.recordWords (s : State) (sev page code arg seq n : Nat) (late trig : Bool) (data : List Word) : RecordWords :=
  let valid := s.flag Reg.TBS_VALID
  let w0 := sev * 2 ^ 30 + b2n valid * 2 ^ 29 + b2n late * 2 ^ 28 + b2n trig * 2 ^ 26 + 2 ^ 24 + n * 2 ^ 19 + page * 2 ^ 8 + code
  let tai := if valid then s.tai else 0
  let head : List Word := [w0, arg, seq, seq / 2 ^ 32, tai, tai / 2 ^ 32, s.get Reg.EVR_OP_S,
    s.get Reg.RST_POWER_CYCLES, s.get Reg.RST_RST_TOTAL, 0, 0, 0, 0, 0, 0].map (BitVec.ofNat 32)
  let body := (data ++ List.replicate 16 0).take 16
  head ++ [BitVec.ofNat 32 (crc32c (head ++ body))] ++ body

/-- Write a made record: to the side buffer while FREEZE is set, otherwise to the store, after a merge that runs; it is
notified as it is written (R465 to R471). REC_TOTAL counts it. -/
def State.writeRecord (s : State) (r : RecordWords) : State :=
  let s := s.setW Reg.EVR_REC_TOTAL (s.getW Reg.EVR_REC_TOTAL + 1)
  let s := { s with recTotalMram := s.recTotalMram + 1 }
  if s.flag (Reg.HDR_FREEZE Page.EVR) then s.sideRecord r
  else if s.flag Reg.EVR_MERGING then { s with mergeWait := s.mergeWait ++ [r] }
  else (s.storeRecord r).notifyRecord r

/-- A record with its sequence value. -/
def numbered (q : Nat) (r : RecordWords) : RecordWords :=
  let head := r.take 2 ++ [BitVec.ofNat 32 q, BitVec.ofNat 32 (q / 2 ^ 32)] ++ (r.drop 4).take 11
  let body := r.drop 16
  head ++ [BitVec.ofNat 32 (crc32c (head ++ body))] ++ body

/-- The source, in the ranking of R158, of a block's records. -/
def pageSource (p : Nat) : ReportSource :=
  if p = Page.SAF then .stirrup
  else match (List.finRange 8).find? (fun t => Page.TILE t.val == p), (List.finRange 4).find? (fun c => Page.CANCH c.val == p) with
    | some t, _ => .tile t
    | none, some c => .can c
    | none, none =>
      if p = Page.MTR ∨ (0x60 ≤ p ∧ p < 0xA0) then .metering
      else if p = Page.MAC 0 then .mac .A else if p = Page.MAC 1 then .mac .B else .other p

/-- A block reports an event with its code. It waits in the sequencer for its value, with which it is written (R158, R465), or, while
the SYS domain is held, in its block until B1 (R463). One that reached the sequencer late takes the next value and is written at
once (R159). -/
def State.captureEvent (s : State) (sev page code arg : Nat) (late : Bool) (data : List Word) : State :=
  if late && !s.sysHeld then
    let (q, s) := s.takeSeq
    s.writeRecord (s.recordWords sev page code arg q 0 true false data)
  else { s with heldEvents := s.heldEvents ++ [⟨⟨s.tai, pageSource page⟩, s.recordWords sev page code arg 0 0 false false data⟩] }

/-- Make a block's event record (R462): severity, page, the model's number of the event, its argument and details. -/
def State.record (s : State) (sev page event arg : Nat) (data : List Word) : State :=
  s.captureEvent sev page (Config.eventCode page event % 256) arg false data

/-! ## Captured reports (R158, R159) -/

/-- Number the first entry of a timestamp that has no sequence value. -/
def numberEntry (ts q : Nat) : List CanEntry → List CanEntry
  | [] => []
  | e :: l => if e.ts = ts ∧ e.seq = 0 then { e with seq := q } :: l else e :: numberEntry ts q l

/-- A report takes the next value, which an entry of a CAN channel's receive queue shows from then on. -/
def State.number (s : State) (r : Report) : Nat × State :=
  let (q, s) := s.takeSeq
  let s := { s with seqr := { s.seqr with given := s.seqr.given ++ [(r, q)] } }
  (q, match r.src with
    | .can c => { s with cans := s.cans.mapV (fun k (x : CanChan) => if k = c.val then { x with rx := numberEntry r.ts q x.rx } else x) }
    | _ => s)

/-- A report that no block's chapter does more with reaches the sequencer: in time, or while the sequencer is held, it waits;
late, it takes the next value at once and is counted (R159). -/
def State.report (s : State) (r : Report) : State :=
  if s.sysHeld || decide (s.tai ≤ r.ts + 250000) then { s with seqr := { s.seqr with waiting := s.seqr.waiting ++ [r] } }
  else (((State.number s r).2).bump Reg.ANG_SEQ_LATE).err Page.ANG Err.ANG_SEQ_LATE

/-! ## Contacts of coils (R156) -/

/-- A contact seen at an instant (TAI less steps): it counts for a direction that was commanded before it, and is the first. -/
def CoilLearn.contact (at' : Int) (on off : Bool) (x : CoilLearn) : CoilLearn :=
  let hit := fun (cmd seen : Option Int) => seen.isNone && cmd.elim false (fun (t : Int) => decide (t ≤ at'))
  { x with onAt := if on && hit x.onCmd x.onAt then some at' else x.onAt, offAt := if off && hit x.offCmd x.offAt then some at' else x.offAt }

/-! ## Severities (R462) -/

abbrev sevInfo : Nat := 0
abbrev sevWarning : Nat := 1
abbrev sevFault : Nat := 2
abbrev sevSafety : Nat := 3

/-! ## Bindings of step timers (R278) -/

/-- The timer that a step axis's AX_CFG names: STEP_TILE and STEP_TIMER. -/
def State.stepTimer (s : State) (n : Nat) : Nat := getBits (s.word (Reg.AXIS_STEP_TILE n).addr) 7 3

/-- Whether a step axis is bound to the timer that its AX_CFG names. A write of a second binding is ignored; of the axes that
hold the reset value the lowest is bound (DESIGN CHOICE, log entry 97). -/
def State.stepBound (s : State) (n : Nat) : Bool :=
  !(List.range (n - 16)).any (fun j => s.stepTimer (16 + j) == s.stepTimer n)

/-- How a car's page has its position input read. -/
def State.encPath (s : State) (n : Nat) : EncPath :=
  ⟨s.get (Reg.CAR_ENC n), s.get (Reg.CAR_SSI_BITS n), s.flag (Reg.CAR_GRAY n), s.flag (Reg.CAR_ERR_EN n), s.get (Reg.CAR_MAX_STEP n)⟩

/-! ## What a reach restores (R11, R52) -/

/-- The number of a reach: 0 BLOCK, 1 APP, 2 SYS, 3 FULL, 4 BKP; a page's own domain where the column says so. -/
def reachNum (k : Option PageKind) (c : ResetCol) : Option Nat :=
  let base := fun (c : ResetCol) => match c with
    | .block => some 0 | .app => some 1 | .sys => some 2 | .full => some 3 | .bkp => some 4 | _ => none
  if c = .dom then k.bind (fun k => base (pageReach k)) else base c

/-- The bits of a word that a reset of a reach restores. -/
def resetMask (reach a : Nat) : Word :=
  let k := (ownerPage a).bind pageKind
  (rowsAt a).foldl (fun m f => match reachNum k f.reach with
    | some n => if n ≤ reach then setBits m f.hi f.lo (2 ^ (f.hi + 1 - f.lo) - 1) else m
    | none => m) 0

/-- A reset of a reach over the register store; words that `keep` names stay. -/
def Memory.reset (reach : Nat) (keep : Nat → Bool) (m : Memory) : Memory :=
  m.mapD resetWord (fun a w => if keep a then w else
    let k := resetMask reach a
    (w &&& ~~~ k) ||| (resetWord a &&& k))

/-- A reset of reach BLOCK over the registers of a page: its fields whose Reset column reads BLOCK. -/
def State.resetBlock (s : State) (p : Nat) : State :=
  { s with mem := s.mem.reset 0 (fun a => ownerPage a != some p), frozen := KV.del s.frozen p }

end Sys2Proof.Machine
end

