-- ==== Sys2Proof/Machine/TimeBase.lean ====
section
/-! DEFINITION. Time base and network time (R112 to R128): the counter, steps, the port states and the best master
clock algorithm, the servo, and the transmit timestamp queues. -/

namespace Sys2Proof.Machine

/-! ## Counting (R113) -/

/-- The time value in 2^-32 ns. -/
def State.time32 (s : State) : Nat := s.tai * 2 ^ 32 + s.get Reg.TBS_TIME_FRAC * 2 ^ 16 + s.tb.fracLo

/-- Give the time base a time value in 2^-32 ns. -/
def State.setTime32 (s : State) (t : Nat) : State :=
  let s := (s.setTai (t / 2 ^ 32)).set Reg.TBS_TIME_FRAC (t / 2 ^ 16 % 2 ^ 16)
  { s with tb := { s.tb with fracLo := t % 2 ^ 16 } }

/-- One cycle of the 125 MHz counter: the time value advances by INCR (R113), and the cycle is counted. -/
def State.timeTick (s : State) : State := { (s.setTime32 (s.time32 + s.tb.incr)) with cycles := s.cycles + 1 }

/-- The calendar's oscillator over one cycle of the counter: SUBSEC counts its ticks (R129), and its wrap is SECOND_ROLLOVER,
for which it waits at its greatest value (log entry 10). -/
def State.oscillate (s : State) : State :=
  let f := s.cal.frac + 32768
  if f < 125000000 then { s with cal := { s.cal with frac := f } }
  else { (s.set Reg.RTC_SUBSEC (min 32767 (s.get Reg.RTC_SUBSEC + 1))) with cal := { s.cal with frac := f - 125000000 } }

/-- SUBSEC starts again at 0 (R131, R133, R138). -/
def State.zeroSubsec (s : State) : State := { (s.set Reg.RTC_SUBSEC 0) with cal := { s.cal with frac := 0 } }

/-- The present instant less the sum of all steps: the time by which committed instants keep their place (R123). -/
def State.unow (s : State) : Int := (s.tai : Int) - s.tb.stepSum

/-- The TAI nanosecond of such an instant. -/
def State.taiOf (s : State) (u : Int) : Nat := (u + s.tb.stepSum).toNat

/-- Step the time value by `d`, in 2^-16 ns, on one tick (R113, R119, R123). The other blocks' parts of R123 follow
from the time value: their realignment is judged at their next sample. -/
def State.moveTime (s : State) (d : Int) : State :=
  let t' := (s.time32 : Int) + d * 2 ^ 16
  let old := s.tai
  let s := s.setTime32 t'.toNat
  { s with tb := { s.tb with stepSum := s.tb.stepSum + ((s.tai : Int) - (old : Int)) } }

/-- Segments moved by a time. -/
def shiftSegs (d : Int) (l : List Seg) : List Seg := l.map (fun (g : Seg) => { g with t0 := g.t0 + d })

/-- A plan that is tentative as a whole, and starts at no slot's firing. -/
def Axis.allTentative (x : Axis) : Bool := x.plan.all (fun g => !g.com) && !(x.kind == RunKind.chain && x.slotChain)

/-- Tentative plans after a step (R264): those that have committed nothing keep their place in the grid of ticks, on the
stepped time. The tail of a plan already begun starts at the end knot of a committed segment (R260), whose physical instant is
kept, so its TAI instants move with the step; a slot's t_c is physical (R123) (DEDUCED, log entry 97). -/
def State.retime (s : State) (step : Int) : State :=
  let d := (-step) % 125000
  let whole := fun (n : Nat) => (KV.getD s.axes n Axis.initial).allTentative
  { s with
    axes := s.axes.mapV (fun _ (x : Axis) => if x.allTentative then { x with plan := shiftSegs d x.plan, chainFrom := x.chainFrom + d } else x)
    lines := s.lines.mapV (fun _ (l : Line) => if l.members.all (fun m => whole m.1) then { l with path := shiftSegs d l.path } else l) }

/-- A step (R115, R119): the value moves, STEP_LO and STEP_HI take it, STEPPED and IRQ STEP are set and a record at
severity warning is written. -/
def State.stepTime (s : State) (d : Int) : State :=
  let old := s.tai
  let s := s.moveTime d
  let s := s.retime ((s.tai : Int) - (old : Int))
  let (ns, s) := s.quot d (2 ^ 16)
  let s := (s.setWS Reg.TBS_STEP ns).setFlag Reg.TBS_STEPPED true
  -- the metering grid (R356) and the gate lists (R407) meet the step
  let s := { s with timeStepped := true, mac := { s.mac with portA := { s.mac.portA with hold := true }, portB := { s.mac.portB with hold := true } } }
  (s.irq Page.TBS Irq.TBS_STEP).record sevWarning Page.TBS 1 0 []

/-- TAI of a calendar value and sub-second part under R136, in 2^-16 ns, and the load of R114 at a release of reach SYS
or wider. -/
def State.loadTime (s : State) (t : Nat) : State :=
  let s := { s with tb := TimeBase.initial }
  s.setTime32 (t * 2 ^ 16)

/-! ## Servo states (R118) -/

namespace Servo
abbrev FREE : Nat := 0
abbrev ACQUIRE : Nat := 1
abbrev LOCKED : Nat := 2
abbrev HOLDOVER : Nat := 3
end Servo

namespace PtpState
abbrev DISABLED : Nat := 0
abbrev LISTENING : Nat := 1
abbrev MASTER : Nat := 2
abbrev PASSIVE : Nat := 3
abbrev UNCALIBRATED : Nat := 4
abbrev SLAVE : Nat := 5
abbrev FAULTY : Nat := 6
abbrev INITIALIZING : Nat := 7
end PtpState

/-- The servo limit in 2^-33 ppb. -/
def State.slewLimit (s : State) : Int := (s.get Reg.TBS_SLEW_PPB : Int) * 2 ^ 33

/-- Put adj in force: INCR (R113), FREQ, and SLEW_LIMIT. -/
def State.setAdj (s : State) (adj : Int) : State :=
  let (i, s) := s.quot (adj * 4) 1000000000
  let (f, s) := s.quot (adj * 1000) (2 ^ 33)
  let s := { s with tb := { s.tb with adj := adj, incr := (8 * 2 ^ 32 + i).toNat } }
  let s := s.setS Reg.TBS_FREQ f
  s.setFlag Reg.TBS_SLEW_LIMIT (adj == s.slewLimit || adj == - s.slewLimit)

/-- Restart the count of offsets towards LOCKED. -/
def State.restartLock (s : State) : State :=
  { s with tb := { s.tb with lockCount := 0, lockMin := 0, lockMax := 0 } }

/-- Enter HOLDOVER (R118, R122): adj takes the integral term. -/
def State.enterHoldover (s : State) : State :=
  let s := s.setAdj s.tb.freq
  let s := (s.set Reg.TBS_SERVO Servo.HOLDOVER).set Reg.TBS_HOLD_S 0
  let s := { s with tb := { s.tb with rejected := 0 } }
  s.irq Page.TBS Irq.TBS_HOLDOVER

/-- Enter ACQUIRE under a newly qualified master (R118). Out of LOCKED the servo passes HOLDOVER first. -/
def State.enterAcquire (s : State) : State :=
  let s := if s.get Reg.TBS_SERVO = Servo.LOCKED then s.enterHoldover else s
  ((s.set Reg.TBS_SERVO Servo.ACQUIRE).set Reg.TBS_HOLD_S 0).restartLock

/-! ## Ports and the best master (R116) -/

def State.ptpPort (s : State) (l : Lan) : PtpPort := match l with | .A => s.tb.portA | .B => s.tb.portB

def State.setPtpPort (s : State) (l : Lan) (p : PtpPort) : State :=
  match l with
  | .A => { s with tb := { s.tb with portA := p } }
  | .B => { s with tb := { s.tb with portB := p } }

/-- The PTP_STAT field of a port. -/
def portStateFld (l : Lan) : Fld := match l with | .A => Reg.TBS_PORT_A_STATE | .B => Reg.TBS_PORT_B_STATE

/-- PARENT_PORT's code of a port. -/
def portCode (l : Lan) : Nat := match l with | .A => 1 | .B => 2

def otherLan (l : Lan) : Lan := match l with | .A => .B | .B => .A

/-- PTP enabled on a port. -/
def State.ptpEnabled (s : State) (l : Lan) : Bool :=
  s.flag Reg.TBS_PTP_EN && (match l with | .A => s.flag Reg.TBS_PORT_A_EN | .B => s.flag Reg.TBS_PORT_B_EN)

/-- The order of the default BMCA: priority1, clockClass, accuracy, variance, priority2, identity, steps removed,
sender; less is better. -/
def announceKey (a : Announce) : List Nat :=
  [a.priority1, a.clockClass, a.accuracy, a.variance, a.priority2, a.gmId, a.stepsRemoved, a.clockId]

/-- Lexicographic order of keys. -/
def keyLess : List Nat → List Nat → Bool
  | [], _ => false
  | _ :: _, [] => false
  | a :: as, b :: bs => if a < b then true else if b < a then false else keyLess as bs

/-- The better of two masters that a port has heard. -/
def betterOf (x : Option Announce) (a : Announce) : Option Announce :=
  match x with
  | some b => if keyLess (announceKey a) (announceKey b) then some a else some b
  | none => some a

/-- The best master that a port has qualified: two Announces of one sender have been received. -/
def PtpPort.best (p : PtpPort) : Option Announce := (p.masters.filter (fun (m : Announce × Nat) => decide (2 ≤ m.2))).foldl (fun x m => betterOf x m.1) none

/-- The clock's own data set, for a boundary clock that may be master. The identity is the serial number's. -/
def State.ownKey (s : State) : List Nat :=
  [s.get Reg.TBS_PRIORITY1, s.get Reg.TBS_CLOCK_CLASS, 0xFE, 0xFFFF, s.get Reg.TBS_PRIORITY2,
   s.get Reg.SYS_SERIAL_HI * 2 ^ 32 + s.get Reg.SYS_SERIAL_LO, 0, 0]

/-- Whether a clock may put a port in MASTER (R116). -/
def State.mayBeMaster (s : State) : Bool := s.flag Reg.TBS_MODE_BC && !s.flag Reg.TBS_SLAVE_ONLY

/-- The qualified master of a port that is enabled and has link. -/
def State.qualified (s : State) (l : Lan) : Option Announce :=
  let p := s.ptpPort l
  if s.ptpEnabled l && p.link == some true then p.best else none

/-- The transport of PTP messages, one for both ports; the reserved code is taken as 0 (R116). -/
def State.ptpTransport (s : State) : Nat := s.get Reg.TBS_TRANSPORT % 3

/-- Send a PTP message over the transport in use. -/
def State.sendPtp (s : State) (k : SentKind) (l : Lan) (dst : Nat) (b : List Nat) : State := s.send k (portCode l) dst (s.ptpTransport :: b)

/-- The best of the qualified masters, with its port. -/
def State.bestMaster (s : State) : Option (Lan × Announce) :=
  match s.qualified .A, s.qualified .B with
  | some a, some b => if keyLess (announceKey b) (announceKey a) then some (.B, b) else some (.A, a)
  | some a, none => some (.A, a)
  | none, some b => some (.B, b)
  | none, none => none

/-- The default BMCA ranks the clock itself before a master: by its data set. -/
def State.outranks (s : State) (a : Announce) : Bool := s.mayBeMaster && keyLess s.ownKey (announceKey a)

/-- The port that the BMCA makes the slave side, with its master. A clock that may be master has none where its own data set is
the better one, and none at all with a clockClass of at most 127. -/
def State.bestPort (s : State) : Option (Lan × Announce) :=
  match s.bestMaster with
  | some (l, a) => if s.outranks a || s.mayBeMaster && decide (s.get Reg.TBS_CLOCK_CLASS ≤ 127) then none else some (l, a)
  | none => none

/-- The state of a port with a qualified master `a` that is not the slave side. An ordinary clock's is PASSIVE. A boundary
clock's is MASTER where the clock itself or its parent is the better master; it is PASSIVE where it reaches the parent's own
grandmaster, or where a clock of class at most 127 is itself outranked. -/
def State.rivalState (s : State) (a : Announce) : Nat :=
  if !s.mayBeMaster then PtpState.PASSIVE
  else if s.outranks a then PtpState.MASTER
  else match s.bestPort with
    | some (_, b) => if b.gmId = a.gmId then PtpState.PASSIVE else PtpState.MASTER
    | none => PtpState.PASSIVE

/-- The state of a port that is not the slave side. One without a qualified master is LISTENING, or keeps the MASTER that the
announceReceiptTimeout of its last master gave it. -/
def State.idlePortState (s : State) (l : Lan) : Nat :=
  let p := s.ptpPort l
  if !s.ptpEnabled l then PtpState.DISABLED
  else match p.link with
    | none => PtpState.INITIALIZING
    | some false => PtpState.FAULTY
    | some true =>
      match s.qualified l with
      | some a => s.rivalState a
      | none => if s.mayBeMaster && s.get (portStateFld l) == PtpState.MASTER then PtpState.MASTER else PtpState.LISTENING

/-- Judge the ports afresh (R116): the best master's port is the slave side, UNCALIBRATED until LOCKED; a change of
parent or parent port moves the servo (R118). Without a parent GM_ID keeps the last grandmaster (DESIGN CHOICE, log entry 89). -/
def State.bmca (s : State) : State :=
  if s.flag Reg.TWN_TIME_TWIN then
    -- a STANDBY takes its time from the twin link; both ports are held in PASSIVE (R451)
    ((s.set (portStateFld .A) PtpState.PASSIVE).set (portStateFld .B) PtpState.PASSIVE).set Reg.TBS_PARENT_PORT 0
  else match s.bestPort with
  | none =>
    let s := (s.set (portStateFld .A) (s.idlePortState .A)).set (portStateFld .B) (s.idlePortState .B)
    let s := if s.get Reg.TBS_PARENT_PORT ≠ 0 ∧ s.get Reg.TBS_SERVO = Servo.LOCKED then s.enterHoldover else s
    let s := if s.get Reg.TBS_PARENT_PORT ≠ 0 then s.restartLock else s
    s.set Reg.TBS_PARENT_PORT 0
  | some (l, a) =>
    let s := s.set (portStateFld (otherLan l)) (s.idlePortState (otherLan l))
    let same := s.get Reg.TBS_PARENT_PORT == portCode l && s.tb.parentId == a.clockId
    let s := if same then s else
      let s := s.enterAcquire
      let s := { s with tb := { s.tb with parentId := a.clockId, mpdKnown := false, utcNext := none } }
      (s.set Reg.TBS_PARENT_PORT (portCode l)).set (portStateFld l) PtpState.UNCALIBRATED
    if s.getW Reg.TBS_GM_ID = a.gmId then s else (s.setW Reg.TBS_GM_ID a.gmId).irq Page.TBS Irq.TBS_GM_CHANGE

/-- The offset used after a leap is given up where UTC_OFS has taken it (R137). -/
def State.leapTaken (s : State) : State :=
  if s.cal.leapU = some (s.getS Reg.TBS_UTC_OFS) then { s with cal := { s.cal with leapU := none } } else s

/-- Take the UTC offset and leap flags of the parent's Announce before this one, and keep this one's (R117, R136). -/
def State.takeUtc (s : State) (a : Announce) : State :=
  let s := match s.tb.utcNext with
    | none => s
    | some (u, l59, l61) =>
      ((((s.set Reg.TBS_UTC_OFS u).setFlag Reg.TBS_LEAP59 l59).setFlag Reg.TBS_LEAP61 l61).set Reg.RTC_UTC_OFS_BKP u).leapTaken
  { s with tb := { s.tb with utcNext := if a.utcValid then some (a.utcOffset, a.leap59, a.leap61) else none } }

/-- Count an Announce of its sender on a port. -/
def PtpPort.hear (p : PtpPort) (a : Announce) : PtpPort :=
  let ms := if p.masters.any (fun m => m.1.clockId == a.clockId)
    then p.masters.map (fun m => if m.1.clockId = a.clockId then (a, m.2 + 1) else m) else p.masters ++ [(a, 1)]
  { p with masters := ms, hadMaster := p.hadMaster || ms.any (fun m => decide (2 ≤ m.2)) }

/-- The port forgets the master whose Announces have ceased; one that has qualified none forgets all it has heard. -/
def PtpPort.expire (p : PtpPort) : PtpPort :=
  { p with masters := match p.best with | some b => p.masters.filter (fun m => m.1.clockId != b.clockId) | none => [] }

/-- ANNOUNCE_RECEIVE (R116, R117). -/
def announceReceive (l : Lan) (a : Announce) (s : State) : State :=
  if s.ptpEnabled l && a.domain == s.get Reg.TBS_DOMAIN && a.transport.val == s.ptpTransport && (s.ptpPort l).link == some true then
    let s := (s.setPtpPort l ((s.ptpPort l).hear a)).bmca
    if s.get Reg.TBS_PARENT_PORT = portCode l ∧ s.tb.parentId = a.clockId then s.takeUtc a else s
  else s

def execAnnounceReceive (l : Lan) (a : Announce) (s : State) : Out State := .next (announceReceive l a s)

/-- ANNOUNCE_RECEIPT_TIMEOUT (R116, R118): the port forgets its master; a LOCKED servo whose parent it was enters
HOLDOVER, and the standby port takes over where it has a qualified master. A port of a boundary clock that has had a qualified
master, and has none now, is MASTER; one that never had stays LISTENING. -/
def announceTimeout (l : Lan) (s : State) : State :=
  let wasParent := s.get Reg.TBS_PARENT_PORT == portCode l
  let s := s.setPtpPort l (s.ptpPort l).expire
  let s := if wasParent && s.get Reg.TBS_SERVO == Servo.LOCKED then s.enterHoldover else s
  let s := s.bmca
  let free := (s.ptpPort l).hadMaster && (s.qualified l).isNone && !s.flag Reg.TWN_TIME_TWIN
  if s.mayBeMaster && s.ptpEnabled l && (s.ptpPort l).link == some true && free then s.set (portStateFld l) PtpState.MASTER else s

def execAnnounceReceiptTimeout (l : Lan) (s : State) : Out State := .next (announceTimeout l s)

/-! ## The servo (R119 to R121) -/

/-- Latencies of R124 for a port, ingress and egress, in 2^-16 ns; at 100 Mb/s the module's own values. -/
def State.latency (s : State) (l : Lan) : Int × Int :=
  let i := match l with | .A => 0 | .B => 1
  if s.get (Reg.MAC_SPEED i) = 1 then (Config.ingress100, Config.egress100)
  else match l with
    | .A => (s.get Reg.TBS_ING_LAT_A, s.get Reg.TBS_EGR_LAT_A)
    | .B => (s.get Reg.TBS_ING_LAT_B, s.get Reg.TBS_EGR_LAT_B)

/-- offsetFromMaster (R119), in 2^-16 ns: corrected receive time less origin, corrections, mean path delay and
delayAsymmetry. -/
def State.offset (s : State) (l : Lan) (m : SyncMsg) : Int :=
  let asym := match l with | .A => s.getS Reg.TBS_ASYM_A | .B => s.getS Reg.TBS_ASYM_B
  m.receive + (s.latency l).1 - m.origin - m.corr - s.getS Reg.TBS_MPD - asym

/-- The sync interval as a numerator and denominator of seconds, 2^LOG_SYNC. -/
def State.syncInterval (s : State) : Nat × Nat :=
  let k := s.getS Reg.TBS_LOG_SYNC
  if 0 ≤ k then (2 ^ k.toNat, 1) else (1, 2 ^ (-k).toNat)

/-- The servo update of R120. -/
def State.servoUpdate (s : State) (o : Int) : State :=
  let (tn, td) := s.syncInterval
  let slew := s.slewLimit
  -- o is in 2^-16 ns and KP, KI in 2^-16: o * K / t_s is in 2^-32 ppb, taken to 2^-33 ppb
  let term := fun (k : Nat) => o * (k : Int) * 2 * (td : Int) / (tn : Int)
  let freq := clampI (-slew) slew (s.tb.freq - term (s.get Reg.TBS_KI))
  let adj := clampI (-slew) slew (freq - term (s.get Reg.TBS_KP))
  let s := { s with tb := { s.tb with freq := freq } }
  s.setAdj adj

/-- 1 ms and 10 µs in 2^-16 ns. -/
def ms1 : Int := 1000000 * 2 ^ 16
def us10 : Int := 10000 * 2 ^ 16

/-- Consumption of STEP_ARM at an offset (R119): the state after it and whether a step removed the offset. -/
def State.consumeStep (s : State) (o : Int) : State × Bool :=
  if s.flag Reg.TBS_STEP_ARM then
    let s := s.setFlag Reg.TBS_STEP_ARM false
    if ms1 ≤ o.natAbs then (s.stepTime (-o), true) else (s, false)
  else (s, false)

/-- BIG_OFFSET after an accepted offset (R120). -/
def State.judgeBig (s : State) (o : Int) : State :=
  if ms1 ≤ o.natAbs then
    if s.flag Reg.TBS_STEP_ARM then s
    else
      let was := s.flag Reg.TBS_BIG_OFFSET
      let s := s.setFlag Reg.TBS_BIG_OFFSET true
      if was then s else s.irq Page.TBS Irq.TBS_BIG_OFS
  else s.setFlag Reg.TBS_BIG_OFFSET false

/-- Enter LOCKED at an offset (R118, R119): VALID, the port SLAVE, and STEP_ARM consumed. That offset updates no rate, as the servo does
not run in ACQUIRE, and BIG_OFFSET is judged by it (DESIGN CHOICE, log entry 89). -/
def State.enterLocked (s : State) (l : Lan) (o : Int) : State :=
  let s := (s.set Reg.TBS_SERVO Servo.LOCKED).setFlag Reg.TBS_VALID true
  let s := (s.set (portStateFld l) PtpState.SLAVE).irq Page.TBS Irq.TBS_LOCKED
  let (s, stepped) := s.consumeStep o
  let o' := if stepped then 0 else o
  let s := { s with tb := { s.tb with lastOfs := o', rejected := 0 } }
  s.judgeBig o'

/-- An offset in ACQUIRE: counted towards LOCKED, or the count restarted with it where the spread exceeds 10 µs. -/
def State.acquireOffset (s : State) (l : Lan) (o : Int) : State :=
  let t := s.tb
  let lo := if t.lockCount = 0 then o else min t.lockMin o
  let hi := if t.lockCount = 0 then o else max t.lockMax o
  let t' := if hi - lo ≤ us10 then { t with lockCount := t.lockCount + 1, lockMin := lo, lockMax := hi }
            else { t with lockCount := 1, lockMin := o, lockMax := o }
  let s := { s with tb := t' }
  if s.get Reg.TBS_LOCK_N ≤ t'.lockCount then s.enterLocked l o else s

/-- The offset that the current rate predicts (R121): the last accepted one, moved by adj over the sync intervals since. -/
def State.predictedOffset (s : State) : Int :=
  let (tn, td) := s.syncInterval
  s.tb.lastOfs + s.tb.adj * ((s.tb.rejected + 1) * tn : Nat) / ((td : Int) * 2 ^ 17)

/-- A LOCKED servo loses its master's offsets (R118): it enters HOLDOVER, and its port has to qualify a master again, which may
be the former one (log entry 89). -/
def State.loseOffsets (s : State) : State :=
  let s := s.enterHoldover
  let l : Lan := if s.get Reg.TBS_PARENT_PORT = portCode .B then .B else .A
  (s.setPtpPort l { s.ptpPort l with masters := (s.ptpPort l).masters.map (fun m => (m.1, 0)) }).bmca

/-- An offset in LOCKED: rejected under R121, or accepted under R119 and R120. -/
def State.lockedOffset (s : State) (o : Int) : State :=
  if (s.get Reg.TBS_OUTLIER : Int) * 2 ^ 16 < (o - s.predictedOffset).natAbs then
    let s := s.bump Reg.TBS_REJ_CNT
    let s := { s with tb := { s.tb with rejected := s.tb.rejected + 1 } }
    if s.tb.rejected = 8 then s.loseOffsets else s
  else
    let (s, stepped) := s.consumeStep o
    let o' := if stepped then 0 else o
    let s := { s with tb := { s.tb with lastOfs := o', rejected := 0 } }
    let s := if stepped then s else s.servoUpdate o
    s.judgeBig o'

/-- SYNC_RECEIVE (R118 to R121): a completed offset of the parent on the parent port. -/
def syncReceive (l : Lan) (m : SyncMsg) (s : State) : State :=
  if s.get Reg.TBS_PARENT_PORT = portCode l ∧ s.tb.parentId = m.clockId ∧ s.tb.mpdKnown = true ∧ m.transport.val = s.ptpTransport then
    let o := s.offset l m
    let s := s.setWS Reg.TBS_OFS o
    if s.get Reg.TBS_SERVO = Servo.ACQUIRE then s.acquireOffset l o
    else if s.get Reg.TBS_SERVO = Servo.LOCKED then s.lockedOffset o
    else s
  else s

def execSyncReceive (l : Lan) (m : SyncMsg) (s : State) : Out State := .next (syncReceive l m s)

/-- SYNC_LOSS_TIMEOUT (R118). -/
def execSyncLossTimeout (s : State) : Out State :=
  .next (if s.get Reg.TBS_SERVO = Servo.LOCKED then s.loseOffsets else s)

/-- HOLDOVER_SECOND (R122). A HOLD_WARN of 0 is never reached, as HOLD_S has counted one second when it is judged (DESIGN CHOICE, log
entry 89). -/
def execHoldoverSecond (s : State) : Out State :=
  .next (if s.get Reg.TBS_SERVO = Servo.HOLDOVER then
    let s := s.bump Reg.TBS_HOLD_S
    if s.get Reg.TBS_HOLD_S = s.get Reg.TBS_HOLD_WARN then
      (s.irq Page.TBS Irq.TBS_HOLD_LONG).record sevWarning Page.TBS 2 0 []
    else s
  else s)

/-! ## Delay mechanism and master messages (R116) -/

/-- DELAY_REQ_SEND: E2E sends a Delay_Req to the parent; P2P sends a Pdelay_Req on any enabled port with link. -/
def execDelayReqSend (l : Lan) (s : State) : Out State :=
  .next (if s.flag Reg.TBS_DELAY_MECH then
      (if s.ptpEnabled l && (s.ptpPort l).link == some true then s.sendPtp .ptpDelayReq l 1 [] else s)
    else if s.get Reg.TBS_PARENT_PORT = portCode l then s.sendPtp .ptpDelayReq l 0 [s.tb.parentId] else s)

/-- The mean path delay of a measurement, twice over, in 2^-16 ns, with the corrected instants of R124. -/
def State.delayTwice (s : State) (l : Lan) (m : DelayMsg) : Int :=
  let (ing, egr) := s.latency l
  (m.t2 + ing - m.t1) + (m.t4 - (m.t3 - egr)) - m.corr

/-- DELAY_RESP_RECEIVE: the mean path delay of the parent port is computed. -/
def execDelayRespReceive (l : Lan) (m : DelayMsg) (s : State) : Out State :=
  .next (if s.get Reg.TBS_PARENT_PORT = portCode l ∧ m.transport.val = s.ptpTransport then
    let (d, s) := s.quot (s.delayTwice l m) 2
    let s := s.setS Reg.TBS_MPD d
    { s with tb := { s.tb with mpdKnown := true } }
  else s)

/-- The time value in 2^-16 ns. -/
def State.time16 (s : State) : Nat := s.tai * 2 ^ 16 + s.get Reg.TBS_TIME_FRAC

/-- The present instant as a receive timestamp of a port, and as a transmit timestamp (R124), in 2^-16 ns. -/
def State.rxTime (s : State) (l : Lan) : Nat := s.time16 + (s.latency l).1.toNat
def State.txTime (s : State) (l : Lan) : Nat := s.time16 - (s.latency l).2.toNat

/-- PDELAY_REQ_RECEIVE: answered with a two-step Pdelay_Resp, which carries the request's receive time, and its Follow_Up, which
carries the response's transmit time. -/
def execPdelayReqReceive (l : Lan) (s : State) : Out State :=
  .next (if s.ptpEnabled l && s.flag Reg.TBS_DELAY_MECH && (s.ptpPort l).link == some true then
    (s.sendPtp .ptpPdelayResp l 0 [s.rxTime l]).sendPtp .ptpPdelayRespFollowUp l 0 [s.txTime l]
  else s)

/-- What an Announce of this clock carries of the default data set: the parent's grandmaster one step further, or its own. -/
def State.announced (s : State) : List Nat :=
  match s.bestPort with
  | some (_, a) => [a.gmId, a.priority1, a.clockClass, a.accuracy, a.variance, a.priority2, a.stepsRemoved + 1, s.get Reg.TBS_UTC_OFS]
  | none => [s.get Reg.SYS_SERIAL_HI * 2 ^ 32 + s.get Reg.SYS_SERIAL_LO, s.get Reg.TBS_PRIORITY1, s.get Reg.TBS_CLOCK_CLASS, 0xFE, 0xFFFF,
      s.get Reg.TBS_PRIORITY2, 0, s.get Reg.TBS_UTC_OFS]

/-- MASTER_MESSAGE_SEND: a port in MASTER sends an Announce, a Sync with the Follow_Up that carries its transmit time (two-step
only), or, under the request-response mechanism, the Delay_Resp to a Delay_Req just received, with that one's receive time. -/
def execMasterMessageSend (l : Lan) (k : MasterMsg) (s : State) : Out State :=
  .next (if s.get (portStateFld l) = PtpState.MASTER then
    match k with
    | .sync => (s.sendPtp .ptpSync l 0 []).sendPtp .ptpFollowUp l 0 [s.txTime l]
    | .announce => s.sendPtp .ptpAnnounce l 0 s.announced
    | .delayResp => if s.flag Reg.TBS_DELAY_MECH then s else s.sendPtp .ptpDelayResp l 0 [s.rxTime l]
  else s)

/-! ## Host-set time (R115) and STEP_ARM (R119) -/

/-- The time value that four words laid out as TIME_0 to TIME_3 name, in 2^-16 ns. -/
def timeOfWords (w0 w1 w2 w3 : Word) : Nat :=
  ((getBits w3 15 0 * 2 ^ 32 + w2.toNat) * 1000000000 + w1.toNat) * 2 ^ 16 + getBits w0 31 16

/-- Commit of a host-set time (R115): the status code and the state. -/
def commitTime (w0 w1 w2 w3 : Word) (s : State) : Nat × State :=
  if s.get Reg.TBS_SERVO ≠ Servo.FREE then (Status.E_STATE, s.err Page.TBS Err.TBS_SET_REFUSED)
  else if 999999999 < w1.toNat then (Status.E_STATE, s.err Page.TBS Err.TBS_CFG_RANGE)
  else
    let s := { s with tb := { s.tb with fracLo := 0 } }
    let cur : Nat := s.tai * 2 ^ 16 + s.get Reg.TBS_TIME_FRAC
    let new : Nat := timeOfWords w0 w1 w2 w3
    let s := s.stepTime ((new : Int) - (cur : Int))
    (Status.OK, (((s.setWord 0x6050 w0).setWord 0x6054 w1).setWord 0x6058 w2).setWord 0x605C (w3 &&& 0xFFFF))

/-! ## Transmit timestamp queues (R126, R127) -/

/-- Enter a transmit timestamp, corrected under R124; the newest is dropped where 16 are held. It is reported to the sequencer
(R158). -/
def State.pushTxTs (s : State) (l : Lan) (id : Nat) : State :=
  let t := s.txTime l
  let s := s.report ⟨t / 2 ^ 16, .mac l⟩
  let e : TxTs := ⟨id, t % 2 ^ 16, t / 2 ^ 16 % 1000000000, t / 2 ^ 16 / 1000000000⟩
  match l with
  | .A =>
    if 16 ≤ s.tb.txtsA.length then (s.bump Reg.TBS_TXTS_A_DROP).err Page.TBS Err.TBS_TXTS_A_OVF
    else
      let first := s.tb.txtsA.isEmpty
      let s := { s with tb := { s.tb with txtsA := s.tb.txtsA ++ [e] } }
      if first then s.irq Page.TBS Irq.TBS_TXTS_A else s
  | .B =>
    if 16 ≤ s.tb.txtsB.length then (s.bump Reg.TBS_TXTS_B_DROP).err Page.TBS Err.TBS_TXTS_B_OVF
    else
      let first := s.tb.txtsB.isEmpty
      let s := { s with tb := { s.tb with txtsB := s.tb.txtsB ++ [e] } }
      if first then s.irq Page.TBS Irq.TBS_TXTS_B else s

/-- TXTS_POP: a read of TXTS_p_3 removes the head entry (R127). -/
def popTxTs (l : Lan) (s : State) : State :=
  match l with
  | .A => { s with tb := { s.tb with txtsA := s.tb.txtsA.tail } }
  | .B => { s with tb := { s.tb with txtsB := s.tb.txtsB.tail } }

def execTxtsPop (l : Lan) (s : State) : Out State := .next (popTxTs l s)

/-- What the PHY of a port reports of its link, and what PTP makes of it (R116). -/
def State.ptpLink (s : State) (l : Lan) (up : Bool) : State :=
  (s.setPtpPort l (if up then { s.ptpPort l with link := some true } else ⟨some false, [], false⟩)).bmca

/-- A change of PTP_EN or of a port's enable: the port starts afresh (R116). -/
def State.ptpReinit (s : State) (l : Lan) : State :=
  (s.setPtpPort l ⟨none, [], false⟩).bmca

/-- Another domain: the port listens again, with its link as it is. -/
def State.ptpRelisten (s : State) (l : Lan) : State :=
  (s.setPtpPort l ⟨(s.ptpPort l).link, [], false⟩).bmca

end Sys2Proof.Machine
end

