-- ==== Sys2Proof/Machine/TileOps.lean ====
section
/-! DEFINITION. Operations of the field tiles (R163 to R195): channel modes, faults, safe state, tests, the logic
side's output writes. -/

namespace Sys2Proof.Machine

/-! ## Access -/

def State.tile (s : State) (t : Nat) : Tile := KV.getD s.tiles t Tile.initial

def State.setTile (s : State) (t : Nat) (x : Tile) : State := { s with tiles := KV.put s.tiles t x }

def State.modTile (s : State) (t : Nat) (g : Tile → Tile) : State := s.setTile t (g (s.tile t))

def Tile.chan (x : Tile) (n : Nat) : Chan := KV.getD x.ch n Chan.initial

def Tile.modChan (x : Tile) (n : Nat) (g : Chan → Chan) : Tile := { x with ch := KV.put x.ch n (g (x.chan n)) }

def Tile.timer (x : Tile) (k : Nat) : StepTimer := KV.getD x.timers k StepTimer.initial

def Tile.modTimer (x : Tile) (k : Nat) (g : StepTimer → StepTimer) : Tile :=
  { x with timers := KV.put x.timers k (g (x.timer k)) }

/-- The 64-bit COUNT and LAST_EDGE of a channel (R170). -/
def tileCount (t n : Nat) : Wide := ⟨0x20300 + 0x1000 * t + 8 * n, 2⟩
def tileEdge (t n : Nat) : Wide := ⟨0x20400 + 0x1000 * t + 8 * n, 2⟩

/-! ## Channel configuration words (R163) -/

namespace ChMode
abbrev OFF : Nat := 0
abbrev DIN : Nat := 1
abbrev COUNT : Nat := 2
abbrev DOUT : Nat := 3
abbrev FAST : Nat := 4
abbrev PULSE : Nat := 5
end ChMode

def Chan.mode (c : Chan) : Nat := getBits c.cfg 31 28
def Chan.sub (c : Chan) : Nat := getBits c.cfg 13 12
def Chan.type3 (c : Chan) : Bool := getBits c.cfg 27 27 == 1
def Chan.wb (c : Chan) : Bool := getBits c.cfg 26 26 == 1
def Chan.paired (c : Chan) : Bool := getBits c.cfg 24 24 == 1
def Chan.filter (c : Chan) : Nat := max 1 (getBits c.cfg 23 16)
def Chan.prio (c : Chan) : Nat := getBits c.cfg 15 14
def Chan.retry (c : Chan) : Bool := getBits c.cfg 11 11 == 1
def Chan.tested (c : Chan) : Bool := getBits c.cfg 10 10 == 1
def Chan.safety (c : Chan) : Bool := getBits c.cfg 9 9 == 1
def Chan.isOut (c : Chan) : Bool := c.mode == 3 || c.mode == 4 || c.mode == 5
def Chan.isIn (c : Chan) : Bool := c.mode == 1 || c.mode == 2

/-- MODE and SUB values that R163 admits. -/
def modeValid (w : Word) : Bool :=
  let m := getBits w 31 28
  let sub := getBits w 13 12
  if m = 2 then sub != 0 else if m = 4 then true else if m = 5 then decide (sub ≤ 1) else decide (m ≤ 3)

/-- A configuration that draws its sink current without pause (R165). -/
def sinksOn (w : Word) : Bool := getBits w 31 28 == 2 || (getBits w 31 28 == 1 && getBits w 25 25 == 1)

/-- The address of CH_CFG[n] and of CH_PARAM[n] of a tile. -/
def chCfgAddr (t n : Nat) : Nat := 0x20100 + 0x1000 * t + 4 * n
def chParamAddr (t n : Nat) : Nat := 0x20200 + 0x1000 * t + 4 * n

/-- How many channels of a tile other than `n` draw their sink current without pause. -/
def State.sinkCount (s : State) (t n : Nat) : Nat :=
  ((List.range 32).filter (fun m => m != n && sinksOn (s.word (chCfgAddr t m)))).length

/-- The bits of CH_CFG that a write reaches; TEST exists on TILE_6 and TILE_7 only (R192). -/
def chCfgMask (t : Nat) : Word := if 6 ≤ t then 0xFFFFFC9F else 0xFFFFF89F

/-- A write of CH_CFG[n] (R163, R165). A safety channel belongs to Stirrup (R190). -/
def writeChCfg (t n : Nat) (w : Word) (s : State) : State :=
  let old := s.word (chCfgAddr t n)
  let new := (old &&& ~~~ chCfgMask t) ||| (w &&& chCfgMask t)
  if s.flag (Reg.TILE_SAFETY t n) then s
  else if !modeValid new then s.err (Page.TILE t) Err.TILE_MODE_INVALID
  else if sinksOn new && decide (16 ≤ s.sinkCount t n) then s.err (Page.TILE t) Err.TILE_SINK_BUDGET
  else (s.setWord (chCfgAddr t n) new).modTile t (fun x => { x with cfgSend := x.cfgSend.filter (· != n) ++ [n] })

/-! ## Stages that follow their own generator (R172 to R174) -/

def StepTimer.enabled (m : StepTimer) : Bool := getBits m.cfg 31 31 == 1
def StepTimer.dirSetup (m : StepTimer) : Nat := getBits m.cfg 23 16
def StepTimer.dirCh (m : StepTimer) : Nat := getBits m.cfg 12 8
def StepTimer.stepCh (m : StepTimer) : Nat := getBits m.cfg 4 0

/-- A channel that gives its own level: PULSE, and FAST in PWM, STEP or DIR. -/
def Chan.generated (c : Chan) : Bool := c.mode == ChMode.PULSE || (c.mode == ChMode.FAST && c.sub != 0)

def Chan.isPwm (c : Chan) : Bool := c.mode == ChMode.FAST && c.sub == 1

/-- A channel whose stage TILE_t.OUT does not command: one that gives its own level, and a DOUT that is the DIR_CH of a timer
with EN set (log entry 95). -/
def Tile.driven (x : Tile) (n : Nat) : Bool :=
  (x.chan n).generated || ((x.chan n).mode == ChMode.DOUT && x.timers.any (fun e => e.2.enabled && e.2.dirCh == n))

/-! ## Step timers -/

/-- DIR_CH takes the direction of the entry at the head, where it differs from the last (R174). -/
def Tile.turnDir (k : Nat) (x : Tile) : Tile :=
  let m := x.timer k
  match m.fifo with
  | [] => x
  | w :: _ =>
    let up := getBits w 31 31 == 1
    if up = m.dir then x
    else (x.modTimer k (fun m => { m with dir := up, dirAt := some x.clk })).modChan m.dirCh (fun c =>
      if (c.mode = ChMode.FAST ∧ c.sub = 3) ∨ c.mode = ChMode.DOUT then
        { c with wave := up, offAt := if c.wave && !up && c.forced.isNone then some x.clk else c.offAt } else c)

/-- A step edge: the timer takes its head entry, raises STEP_CH for STEP_W and counts (R174). -/
def Tile.emitStep (k : Nat) (x : Tile) : Tile :=
  let m := x.timer k
  match m.fifo with
  | [] => x
  | w :: rest =>
    let up := getBits w 31 31 == 1
    let x := x.modTimer k (fun m => { m with
      fifo := rest, lastWord := w, posInc := if up then m.posInc + 1 else m.posInc - 1, due := none
      run := !(rest.isEmpty && getBits w 30 30 == 1) })
    let x := x.modChan m.stepCh (fun c =>
      if c.mode = ChMode.FAST ∧ c.sub = 2 then { c with wave := true, waveEnd := some (x.clk + 4 * m.width) } else c)
    x.turnDir k

/-- The instant before which DIR_CH has not led the step by DIR_SETUP. -/
def StepTimer.ready (m : StepTimer) : Nat := m.dirAt.elim 0 (· + 1000 * m.dirSetup)

/-- A step that falls due: its edge, or its delay until DIR_CH has led by DIR_SETUP (R174). -/
def Tile.stepDue (k : Nat) (x : Tile) : Tile :=
  let m := x.timer k
  if x.clk < m.ready then x.modTimer k (fun m => { m with due := some m.ready }) else x.emitStep k

/-- An entry reaches a timer: discarded while UNDERRUN is set or where 256 are held (R174, R175). -/
def StepTimer.push (m : StepTimer) (w : Word) : StepTimer :=
  if m.underrun || decide (256 ≤ m.fifo.length) then m else { m with fifo := m.fifo ++ [w], run := true }

/-- An entry reaches a timer of a tile; at an empty one it sets the direction. -/
def Tile.pushStep (k : Nat) (w : Word) (x : Tile) : Tile :=
  let y := x.modTimer k (fun m => m.push w)
  if (x.timer k).fifo.isEmpty then y.turnDir k else y

/-- Empty every timer of a tile (R175, R184). -/
def Tile.emptyTimers (x : Tile) : Tile :=
  { x with timers := x.timers.map (fun e => (e.1, { e.2 with fifo := [], run := false, due := none })) }

/-! ## Time on the field side (R182) -/

/-- A running PWM period at an instant: a new one takes PERIOD and DUTY as last given (R172). -/
def Chan.pwmAt (c : Chan) (clk : Nat) : Chan :=
  let per := 100 * max 40 (getBits c.pwm 31 16)
  let c := if c.pwmFrom + per ≤ clk then { c with pwmFrom := c.pwmFrom + (clk - c.pwmFrom) / per * per, pwm := c.param } else c
  let duty := getBits c.pwm 15 0
  let d := if duty = 65535 then 65536 else duty
  let v := decide ((clk - c.pwmFrom) * 65536 < d * (100 * max 40 (getBits c.pwm 31 16)))
  { c with wave := v, offAt := if c.wave && !v then some clk else c.offAt }

/-- The pause after a pulse in ns (R173). -/
def Chan.pause (c : Chan) : Nat := 1000000 * getBits c.param 31 16

/-- A channel at an instant of the tile's timer: the frame of a change of MODE and a pulse end, and PWM runs. -/
def Chan.at_ (clk : Nat) (c : Chan) : Chan :=
  let c := { c with gapEnd := c.gapEnd.filter (fun e => decide (clk < e)) }
  let c := match c.waveEnd with
    | some e =>
      if clk < e then c
      else { c with wave := false, waveEnd := none, busyTo := e + c.pause, offAt := some clk }
    | none => c
  if c.isPwm then c.pwmAt clk else c

/-- 8 ns of the oscillator pass on the field side: its timer runs on at its rate (R182), and what it brings about, steps that
DIR_SETUP has delayed among it. -/
def Tile.pass (x : Tile) : Tile :=
  let f := x.clkFrac + x.rate
  let x := { x with clk := x.clk + f / 2 ^ 32, clkFrac := f % 2 ^ 32 }
  let x := { x with ch := x.ch.mapV (fun _ c => c.at_ x.clk) }
  foldN 4 (fun k x => if (x.timer k).due.elim false (fun e => decide (e ≤ x.clk)) then x.emitStep k else x) x

/-! ## Output stages -/

/-- What the output is commanded to, whatever a fault keeps off: by TILE_t.OUT, by its own generator, or by safe state. -/
def Tile.commanded (x : Tile) (n : Nat) : Bool :=
  let c := x.chan n
  if c.safety then c.swA && c.swB
  else match c.forced with
    | some v => v
    | none => if x.driven n then c.wave else c.out

/-- The level that the stage of a channel puts on its terminal (R164, R176, R190, R192). A FAST channel in overcurrent only
limits. -/
def Tile.drives (x : Tile) (n : Nat) : Bool :=
  let c := x.chan n
  let open' := x.test.elim false (fun e => e.1 == n)
  x.first && c.isOut && x.commanded n && !open' && c.gapEnd.isNone && !(c.short && c.mode != ChMode.FAST) && !c.hot && !c.shed && !c.tstFail
    && !x.fsRev

/-- The partner on the same tile that a paired DOUT shares its load with (R171, R177). -/
def Tile.partner (x : Tile) (n : Nat) : Option Nat :=
  let c := x.chan n
  if c.mode == ChMode.DOUT && c.paired && getBits c.cfg 7 7 == 0 then some (getBits c.cfg 4 0) else none

/-- The terminal of a channel at or above 10 V: driven by its own stage or its partner's, or found high otherwise (R176). -/
def Tile.terminal (x : Tile) (n : Nat) : Bool :=
  ((x.drives n || (x.partner n).elim false x.drives) && decide (10000 ≤ x.fsMv)) || (!x.drives n && (x.chan n).ext)

/-- Note an output that `old` still commanded on. -/
def Tile.noteOff (x old : Tile) (n : Nat) : Tile :=
  if old.commanded n && !x.commanded n then x.modChan n (fun c => { c with offAt := some x.clk }) else x

/-- Within 5 ms of an off command (R176, R177). -/
def Tile.fresh (x : Tile) (off : Option Nat) : Bool := off.elim false (fun e => decide (x.clk < e + 5000000))

/-- The twin's levels of paired channels (R177). -/
def Tile.setPeer (x : Tile) (w : Nat) : Tile :=
  { x with peerOut := w, peerOff := foldN 32 (fun n m => if bitOf x.peerOut n && !bitOf w n then KV.put m n x.clk else m) x.peerOff }

/-- The partner's levels are unknown (R454). -/
def Tile.dropPeer (x : Tile) : Tile := { x with peerOut := 0, peerOff := [] }

/-- An output is shed no longer. The second of R179 counts with the current of the output shed last. -/
def Tile.unshed (x : Tile) (n : Nat) : Tile :=
  { x with
    shedOrder := x.shedOrder.filter (fun e => e.1 != n)
    below := if x.shedOrder.head?.elim false (fun e => e.1 == n) then 0 else x.below }

/-- A demand on a channel meets its test: the test is abandoned unjudged (R193). -/
def Tile.demand (x : Tile) (n : Nat) : Tile :=
  match x.test with
  | some (m, _) => if m = n then { (x.modChan n (fun c => { c with resched := true })) with test := none, nAbort := x.nAbort + 1 } else x
  | none => x

/-- Command a standard output (R171); a shed output commanded off is shed no longer (R179). A stage that follows its own
generator does so again, whatever its level of TILE_t.OUT. -/
def Tile.command (x : Tile) (n : Nat) (v : Bool) : Tile :=
  let c := x.chan n
  if c.safety || !c.isOut then x
  else
    let own := !x.driven n
    let off := c.shed && !v && own
    let y := if c.out != v && own then x.demand n else x
    let y := if off then y.unshed n else y
    -- a PULSE stage held high by safe state gets its pause once it is let go (R173)
    let busy := if c.mode = ChMode.PULSE ∧ c.forced = some true then x.clk + c.pause else c.busyTo
    (y.modChan n (fun c => { c with out := v, shed := c.shed && !off, forced := none, busyTo := busy })).noteOff x n

/-- Command a safety output's switch on a lane (R190). -/
def Tile.commandSafety (x : Tile) (l : Lan) (n : Nat) (v : Bool) : Tile :=
  let c := x.chan n
  if !c.safety then x
  else match l with
    | .A => ((if c.swA = v then x else x.demand n).modChan n (fun c => { c with swA := v })).noteOff x n
    | .B => ((if c.swB = v then x else x.demand n).modChan n (fun c => { c with swB := v })).noteOff x n

/-! ## Safe state (R184 to R186) -/

/-- The safe action of a channel under the table in force (R185, R189, R190). -/
def Tile.action (x : Tile) (n : Nat) : Nat :=
  let c := x.chan n
  if c.safety || !c.isOut then 0
  else match x.table with
    | none => 0
    | some (_, acts) => acts / 4 ^ n % 4

/-- Where safe state puts a stage that follows its own generator (R185): driven high, low, or at its last level; a running PWM on
HOLD continues. A pulse cut so gets its pause (R173). -/
def Chan.force (c : Chan) (clk : Nat) (on keep level : Bool) : Chan :=
  { c with
    forced := if on then some true else if !keep then some false else if c.isPwm && c.forced.isNone then none else some level
    wave := c.wave && (c.isPwm || c.waveEnd.isNone)
    waveEnd := none
    busyTo := if c.mode = ChMode.PULSE ∧ c.waveEnd.isSome = true then clk + c.pause else c.busyTo }

/-- Put a channel to its safe action. `hold` says whether HOLD keeps a level. -/
def Tile.applySafe (hold : Bool) (n : Nat) (x : Tile) : Tile :=
  let a := x.action n
  let c := x.chan n
  if c.safety then x.demand n
  else
    let keep := a = 2 && hold
    let on := a = 1 && c.isOut
    let y := (x.demand n).modChan n (fun c => { c with
      out := on || (keep && c.out && c.isOut)
      pulses := if keep then c.pulses else 0
      back := if keep then c.back else c.back + c.pulses })
    let y := y.modChan n (fun c => if x.driven n then c.force x.clk on keep (x.commanded n) else { c with forced := none })
    let y := if c.shed && !on && !keep then (y.unshed n).modChan n (fun c => { c with shed := false }) else y
    y.noteOff x n

/-- A channel held at its safe action whose stage has taken another generator, or none, since `old` goes to the action again, with
the level it had as its last (R185). -/
def Tile.reforce (x old : Tile) (n : Nat) : Tile :=
  let v := old.commanded n
  if (x.safe || bitOf x.fireHold n) && !(x.chan n).safety then
    (x.modChan n (fun c => { c with out := v, forced := some v })).applySafe true n
  else x

/-- Enter safe state with a cause (R184): timed commands are discarded and the step timers emptied. -/
def Tile.enterSafe (x : Tile) (cause : Nat) (hold : Bool) : Tile :=
  if x.safe then x
  else
    let x := { x with safe := true, cause := cause, timed := [] }.emptyTimers
    let x := foldN 32 (Tile.applySafe hold) x
    if cause = 2 then x else { x with unreported := true, qual := false }

/-- GO_SAFE ordered for a tile: the condition of R186 is cleared and its frames carry GO_SAFE. A test on any output
meets a demand (R193). -/
def State.orderGoSafe (t : Nat) (s : State) : State :=
  let s := s.modTile t (fun x =>
    let x := match x.test with | some (n, _) => x.demand n | none => x
    { x with qual := false, goSafe := true, goSent := false })
  (s.setFlag (Reg.TILE_LIVE t) false).setBit Reg.FIO_LIVE t false

/-- GO_SAFE to every tile. -/
def State.orderGoSafeAll (s : State) : State := foldN 8 State.orderGoSafe s

/-! ## Output writes (R171, R186) -/

/-- A write by the owner of a tile's outputs, the scan engine or the host, counts towards LIVE (R186). -/
def State.qualify (s : State) (t : Nat) : State :=
  s.modTile t (fun x => if (x.goSafe && !x.goSent) || x.unreported then x else { x with qual := true })

/-- A write of TILE_t.OUT: the commanded levels change. -/
def writeOut (t : Nat) (w : Word) (s : State) : State := s.set (Reg.TILE_OUT t) w.toNat

/-- A write of TILE_t.OUT, or of its image, by the host. -/
def hostOut (t : Nat) (w : Word) (s : State) : State := (writeOut t w s).qualify t

/-- Set one level of TILE_t.OUT, by channel number (R163). -/
def writeOutBit (k : Nat) (v : Bool) (s : State) : State :=
  let t := k / 32
  let w := s.word (Reg.TILE_OUT t).addr
  writeOut t (setBits w (k % 32) (k % 32) (b2n v)) s

/-! ## Pulses (R173) -/

/-- The pulses that wait for a channel, at the tile or for a frame to it. -/
def Tile.waiting (x : Tile) (n : Nat) : Nat :=
  x.pulseOut.foldl (fun a e => if e.1 = n then a + e.2 else a) (x.chan n).pulses

/-- Pulses requested of a channel, which go to it with the next frame (R180): those beyond 255 are dropped. -/
def addPulses (t n k : Nat) (s : State) : State :=
  let room := 255 - (s.tile t).waiting n
  let s := s.modTile t (fun x => { x with pulseOut := x.pulseOut ++ [(n, min k room)] })
  if room < k then s.err (Page.TILE t) Err.TILE_PULSE_OVF else s

/-- The pulse requests of a frame reach their channels. -/
def Tile.takePulses (x : Tile) : Tile :=
  { (x.pulseOut.foldl (fun (x : Tile) e => x.modChan e.1 (fun c => { c with pulses := min 255 (c.pulses + e.2) })) x) with pulseOut := [] }

/-- Pulse requests that no frame will carry count as discarded (R378). -/
def Tile.dropPulses (x : Tile) : Tile :=
  { (x.pulseOut.foldl (fun (x : Tile) e => x.modChan e.1 (fun c => { c with back := c.back + e.2 })) x) with pulseOut := [] }

/-- A write of PULSE_REQ: it asks a PULSE channel with SUB 0 for pulses. -/
def writePulseReq (t : Nat) (w : Word) (s : State) : State :=
  let n := getBits w 12 8
  let cfg := s.word (chCfgAddr t n)
  if getBits cfg 31 28 = 5 ∧ getBits cfg 13 12 = 0 then addPulses t n (getBits w 7 0) s else s

/-- Pulses that a tile discarded return to the generator that handed them over, whatever it has been given since (R378); it
learns how many of its pulses still wait. -/
def State.pulseBack (t : Nat) (s : State) (e : Nat × Nat) : State :=
  let p := e.1 / 256
  let ch := e.1 % 256
  if ch / 32 ≠ t then s
  else
    let c := (s.tile t).chan (ch % 32)
    let k := min c.back e.2
    let left := min (e.2 - k) ((s.tile t).waiting (ch % 32))
    let s := s.modTile t (fun x => x.modChan (ch % 32) (fun c => { c with back := c.back - k }))
    let s := { s with meter := { s.meter with atTile := if left = 0 then KV.del s.meter.atTile e.1 else KV.put s.meter.atTile e.1 left } }
    let s := if 2 ^ 32 ≤ s.get (Reg.PULSE_OWED p) + k then s.setFlag (Reg.PULSE_OWED_SAT p) true else s
    let s := (s.bumpBy (Reg.PULSE_OWED p) k).bumpBy (Reg.PULSE_RETURNED p) k
    let wait := (s.meter.atTile.filter (fun x => x.1 / 256 == p)).foldl (fun n x => n + x.2) 0
    (s.setW (Reg.PULSE_SENT p) (s.getW (Reg.PULSE_SENT p) - k)).set (Reg.PULSE_AT_TILE p) (min 16 wait)

/-- A tile reports discarded and waiting pulses. -/
def State.pulsesBack (s : State) (t : Nat) : State :=
  let s := s.meter.atTile.foldl (State.pulseBack t) s
  s.modTile t (fun x => { x with ch := KV.mapV x.ch (fun _ c => { c with back := 0 }) })

/-! ## The table (R189) -/

/-- The staged actions SAFE[n] of a tile, two bits each. -/
def State.stagedActions (s : State) (t : Nat) : Nat :=
  (List.range 32).foldl (fun a n => a + s.get (Reg.TILE_CH_ACTION t n) * 4 ^ n) 0

/-- The newest copy whose CRC holds. -/
def Tile.newest (x : Tile) : Option SafeCopy :=
  if x.copyA.ok && x.copyB.ok then some (if x.copyB.ver < x.copyA.ver then x.copyA else x.copyB)
  else if x.copyA.ok then some x.copyA else if x.copyB.ok then some x.copyB else none

/-- A write of SAFE_CMD.COMMIT: the staged table goes to the tile over the message block. None starts while one is under way. -/
def safeTableCommit (t : Nat) (s : State) : State :=
  let acts := s.stagedActions t
  s.modTile t (fun x => if x.commit.isSome || x.commitOut.isSome then x else { x with commitOut := some acts })

/-- A table reaches the tile, which writes it to its older copy, under the version that follows the newest. -/
def Tile.takeTable (x : Tile) : Tile :=
  match x.commitOut with
  | none => x
  | some acts =>
    let ver := (x.newest.elim 0 (·.ver) + 1) % 2 ^ 32
    let useA := !x.copyA.ok || (x.copyB.ok && decide (x.copyA.ver < x.copyB.ver))
    let x := { x with commitOut := none }
    if useA then { x with copyA := ⟨ver, false, acts⟩, commit := some true }
    else { x with copyB := ⟨ver, false, acts⟩, commit := some false }

/-- Take a table into force; in safe state each channel goes to its new action at once (R189). -/
def Tile.force (x : Tile) (c : SafeCopy) : Tile :=
  let x := { x with table := some (c.ver, c.actions) }
  if x.safe then foldN 32 (Tile.applySafe true) x else x

/-- Read the table into SAFE[n] (R189, at B4 of every bring-up); that of a safety channel reads 0 (R190). -/
def State.readSafeTable (t : Nat) (s : State) : State :=
  let acts := match (s.tile t).table with | some (_, a) => a | none => 0
  foldN 32 (fun n s => s.set (Reg.TILE_CH_ACTION t n) (if s.flag (Reg.TILE_SAFETY t n) then 0 else acts / 4 ^ n % 4)) s

/-! ## LIVE, HOLD and lanes -/

/-- Whether the logic side sends LIVE to a tile (R186): never in RESYNC (R443), with the empty role set (R1), in Tack room
(R65), or from a reset of reach SYS or wider to its B9 (R67). -/
def State.sendsLive (s : State) (t : Nat) : Bool :=
  let x := s.tile t
  x.qual && !x.goSafe && !s.flag Reg.FIO_HOLD && s.get Reg.TWN_STATE != 3
    && s.roles != 0 && !s.pwr.tack && !(s.pwr.episode && decide (2 ≤ s.pwr.reach))

def Tile.lane (x : Tile) (l : Lan) : Lane := match l with | .A => x.laneA | .B => x.laneB

def Tile.setLane (x : Tile) (l : Lan) (y : Lane) : Tile :=
  match l with | .A => { x with laneA := y } | .B => { x with laneB := y }

/-- The judgement of a received SEQ (R181): none to discard it, else how many frames are missing. -/
def seqGap (last : Option Nat) (seq : Nat) : Option Nat :=
  match last with
  | none => some 0
  | some l => let k := (seq + 65536 - l) % 65536; if k = 0 ∨ 32767 < k then none else some (k - 1)

/-- Safe state of a tile taken up by its registers (R184, R195). -/
def State.showSafe (s : State) (t : Nat) : State :=
  let x := s.tile t
  let was := s.flag (Reg.TILE_SAFE t)
  let s := ((s.setFlag (Reg.TILE_SAFE t) x.safe).set (Reg.TILE_SAFE_CAUSE t) x.cause).setBit Reg.FIO_SAFE t x.safe
  if x.safe && !was then (s.irq (Page.TILE t) Irq.TILE_SAFE).irq Page.FIO (Irq.FIO_SAFE + t) else s

/-- LINK_UP of a tile changes (R183, R195). -/
def State.setLinkUp (s : State) (t : Nat) (v : Bool) : State :=
  if s.flag (Reg.TILE_LINK_UP t) = v then s
  else
    let s := (s.setFlag (Reg.TILE_LINK_UP t) v).setBit Reg.FIO_LINK_UP t v
    (s.irq (Page.TILE t) Irq.TILE_LINK).irq Page.FIO (Irq.FIO_LINK + t)

end Sys2Proof.Machine
end

