-- ==== Sys2Proof/Machine/Points.lean ====
section
/-! DEFINITION. Points, priority arrays, the point guard's capture and the access schedules (R382 to R393). -/

namespace Sys2Proof.Machine

/-! ## Requesters (R386) -/

/-- The credentials that the guard stamps on an access. -/
structure Creds where
  tag    : Nat
  rights : Nat
  prio   : Nat
deriving DecidableEq, Repr

/-- Tag, rights and priority of a requester. An absent session has no rights. -/
def State.creds (s : State) (r : Requester) : Creds :=
  match r with
  | .session n => match KV.get? s.sessions n.val with
    | some e => ⟨e.tag, e.rights, e.prio + 1⟩
    | none => ⟨1023, 0, 16⟩
  | .bacnetIp => ⟨s.get Reg.PGD_BIP_TAG, s.get Reg.PGD_BIP_RIGHTS, s.get Reg.PGD_BIP_PRIO + 1⟩
  | .loopSlot n => ⟨s.get (Reg.LOOP_TAG n.val), 5, s.get (Reg.LOOP_PRIO n.val) + 1⟩
  | .core _ | .coreNarrow _ | .firmware | .scan | .motion | .lift | .skiver => ⟨0, 127, 16⟩

/-- Whether a requester is a session. -/
def isSession : Requester → Bool
  | .session _ => true
  | _ => false

/-- An access of another width than 32 bits (R84): only a core can make one. -/
def isNarrow : Requester → Bool
  | .coreNarrow _ => true
  | _ => false

/-- An answer that carries FAIL_OFFSET; a requester that is no session receives a bus error. -/
def State.failAt (s : State) (r : Requester) (status ofs : Nat) : State :=
  { s with resp := ⟨status, [], ofs, !isSession r⟩ }

/-- An access refused for its width or its alignment (R84). -/
def State.refuseSize (s : State) (r : Requester) (a : Nat) : State := (s.ownerErr a Err.SIZE).failAt r Status.E_ALIGN 0

/-! The RIGHTS bits (R386). -/
namespace Right
abbrev READ : Nat := 0
abbrev WRITE : Nat := 1
abbrev COMMAND : Nat := 2
abbrev SUBSCRIBE : Nat := 3
abbrev EXEC : Nat := 4
abbrev CONFIG : Nat := 5
abbrev RESET : Nat := 6
end Right

def Creds.may (c : Creds) (r : Nat) : Bool := bitOf c.rights r

/-- KIND and WHO of REF_WHO for a requester (R389). -/
def refWho (s : State) (r : Requester) : Nat × Nat :=
  match r with
  | .session n => (if (KV.get? s.sessions n.val).elim false (·.sc) then 1 else 0, n.val)
  | .bacnetIp => (1, 0)
  | .loopSlot n => (2, n.val)
  | _ => (3, 0)

/-- A refusal by the guard (R389): counted, captured where no unread capture stands, and REFUSED raised. -/
def State.refuse (s : State) (r : Requester) (addr : Nat) : State :=
  let s := s.bump Reg.PGD_REFUSE_CNT
  let s := if s.refUnread then s else
    let (k, w) := refWho s r
    let s := (((s.set Reg.PGD_REF_ADDR addr).set Reg.PGD_REF_KIND k).set Reg.PGD_REF_TAG (s.creds r).tag).set Reg.PGD_REF_WHO w
    { s with refUnread := true }
  s.irq Page.PGD Irq.PGD_REFUSED

/-- The status a refused requester receives (R389). -/
def Creds.refusal (c : Creds) : Nat := if c.tag = 0 then Status.E_RIGHT else Status.E_ADDR

/-- The guard refuses an access at an address: counted, and answered as the requester's tag says, with FAIL_OFFSET 0 (R389, R530). -/
def State.guardRefuse (s : State) (r : Requester) (a : Nat) : State := (s.refuse r a).failAt r (s.creds r).refusal 0

/-! ## Point entries (R382) -/

/-! Quality codes (R210). -/
namespace Qual
abbrev GOOD : Nat := 0
abbrev UNCERTAIN : Nat := 1
abbrev COMM_FAIL : Nat := 2
abbrev BAD : Nat := 3
end Qual

/-- The code of a quality byte; 4 to 15 read as BAD (R210). -/
def qualCode (b : Nat) : Nat := min 3 (b % 16)

/-- The address of word `k` of entry `n`. -/
def ptAddr (n k : Nat) : Nat := 0x01000000 + 32 * n + 4 * k

/-- The entries whose word `k` is listed, that is, differs from its reset value. -/
def State.pointsWith (s : State) (k : Nat) (sel : Nat → Bool) : List Nat :=
  (s.mem.filterMap (fun e => if 0x01000000 ≤ e.1 ∧ e.1 < 0x01040000 ∧ e.1 % 32 = 4 * k then some ((e.1 - 0x01000000) / 32) else none)).filter sel

/-- A point whose value its binding delivers. -/
def State.ptIn (s : State) (n : Nat) : Bool := !s.flag (Reg.PT_OUT n) && s.get (Reg.PT_BIND n) != 0

/-- Points bound to channels of a tile that the tile delivers, or, with `out`, delivers to. -/
def State.tilePoints (s : State) (t : Nat) (out : Bool) : List Nat :=
  s.pointsWith 3 (fun n => s.get (Reg.PT_BIND n) == 1 && s.get (Reg.PT_TARGET n) % 256 / 32 == t && s.flag (Reg.PT_OUT n) == out)

/-- The eight words of an entry. -/
def State.ptWords (s : State) (n : Nat) : List Word := (List.range 8).map (fun k => s.word (ptAddr n k))

/-- Whether a point's object is an analog one (R391). -/
def State.ptAnalog (s : State) (n : Nat) : Bool := (s.get (Reg.PT_TYPE n) == 2 || s.get (Reg.PT_TYPE n) == 4) && s.get (Reg.PT_BIND n) != 4

/-- Whether two words of a TYPE lie apart by an increment, a REAL32; an increment of 0, or a value that is no number, asks only that
they differ. -/
def apartBy (type : Nat) (a b inc : Word) : Bool :=
  let val := fun (w : Word) => if type = 2 then FVal.fin (decide (toSigned 32 w.toNat < 0)) (toSigned 32 w.toNat).natAbs 0 else fval w
  match val a, (val b).flip, fval inc with
  | .fin n1 m1 e1, .fin n2 m2 e2, .fin _ m e =>
    let z := fsum n1 m1 e1 n2 m2 e2
    let d := min z.2 e
    if m = 0 then a != b else decide (m * 2 ^ (e - d).toNat ≤ z.1.natAbs * 2 ^ (z.2 - d).toNat)
  | _, _, _ => a != b

/-- Whether what a COV subscriber was last told no longer holds: a change of QUAL, or of VALUE, of an analog object by COV_Increment
(R391). -/
def State.covDue (s : State) (c : CovSub) : Bool :=
  let v := s.word (ptAddr c.point 0)
  s.get (Reg.PT_QUAL c.point) != c.qual
    || (if s.ptAnalog c.point then apartBy (s.get (Reg.PT_TYPE c.point)) v c.value (KV.getD s.covInc c.point 0) else v != c.value)

/-- A change of VALUE or QUAL: TS, the POINT subscriptions and the COV subscriptions see it (R385, R109, R391). -/
def State.ptChanged (s : State) (n : Nat) : State :=
  let s := s.setW (Reg.PT_TS n) s.tai
  let s := s.notifySubs (fun u => u.kind == 2 && u.target == n) (fun _ => s.ptWords n)
  if s.flag (Reg.PT_COV n) then
    { s with covSubs := s.covSubs.map (fun c => if c.point = n then { c with dirty := c.dirty || s.covDue c } else c) }
  else s

/-- Deliver the value of an OUT point to its binding (R382). -/
def State.ptDeliver (s : State) (n : Nat) : State :=
  if !s.flag (Reg.PT_OUT n) then s
  else
    let b := s.get (Reg.PT_BIND n)
    let v := s.get (Reg.PT_VALUE n)
    if b = 1 then
      let k := s.get (Reg.PT_TARGET n) % 256
      if s.flag (Reg.TILE_SAFETY (k / 32) (k % 32)) then s else writeOutBit k (v != 0) s
    else if b = 2 ∨ b = 3 then
      { s with deliveries := s.deliveries.filter (fun d => d.1 != n) ++ [(n, BitVec.ofNat 32 v)] }
    else s

/-- Set VALUE and QUAL; a write that leaves both unchanged updates nothing (R385), but is still delivered. It replaces VALUE's word
(R88). -/
def State.setPoint (s : State) (n : Nat) (v : Word) (q : Nat) : State :=
  let s := s.eccClean (ptAddr n 0)
  if s.word (ptAddr n 0) = v ∧ s.get (Reg.PT_QUAL n) = q then s.ptDeliver n
  else
    -- the voice-alarm system's live point changes (R502)
    let live := s.flag Reg.FIR_VA_EN && s.get Reg.FIR_VA_LIVE_PT == n && s.word (ptAddr n 0) != v
    let s := if live then s.setFlag Reg.FIR_VA_FAULT false else s
    (((s.setWord (ptAddr n 0) v).set (Reg.PT_QUAL n) q).ptChanged n).ptDeliver n

/-! ## Priority arrays (R384) -/

def State.paSlots (s : State) (pa : Nat) : KV PSlot := KV.getD s.prioArrays pa []

/-- The highest active slot of an array. -/
def paWinner : KV PSlot → Option (Nat × PSlot)
  | [] => none
  | (p, x) :: t => if x.active then some (p, x) else paWinner t

/-- A commandable point takes its value from its array, or RELINQ (R384). -/
def State.resolvePoint (s : State) (n : Nat) : State :=
  if !s.flag (Reg.PT_CMD n) || s.ptIn n then s
  else match paWinner (s.paSlots (s.get (Reg.PT_PA n))) with
    | some (p, x) => (s.set (Reg.PT_WIN_PRIO n) p).setPoint n x.value x.qual
    | none => (s.set (Reg.PT_WIN_PRIO n) 0).setPoint n (s.word (ptAddr n 4)) Qual.GOOD

/-- Every point that takes its value from an array. -/
def State.resolveArray (s : State) (pa : Nat) : State :=
  (s.pointsWith 2 (fun n => s.get (Reg.PT_PA n) == pa && s.flag (Reg.PT_CMD n))).foldl State.resolvePoint s

/-- Put a slot of an array, priority 1 to 16. The configuration store keeps a copy of every array (R383). -/
def State.putSlot (s : State) (pa p : Nat) (x : PSlot) : State :=
  let a := KV.put s.prioArrays pa (KV.put (s.paSlots pa) p x)
  ({ s with prioArrays := a, cfgPrio := a }).resolveArray pa

/-- A write to a slot makes it active. -/
def State.writeSlot (s : State) (pa p : Nat) (v : Word) (q : Nat) : State := s.putSlot pa p ⟨v, q, true⟩

/-- A relinquish makes it inactive. -/
def State.relinquishSlot (s : State) (pa p : Nat) : State :=
  match KV.get? (s.paSlots pa) p with
  | some x => s.putSlot pa p { x with active := false }
  | none => s

/-! ## Writes of values (R384, R389, R393) -/

/-- Whether an access schedule of action GATE rules a requester's writes of a point (R393). -/
def State.underGate (s : State) (c : Creds) (n : Nat) : Bool :=
  c.tag != 0 && s.flag (Reg.PT_SCHED_EN n) && s.get (Reg.PGD_SCHED_ACTION (s.get (Reg.PT_SCHED n))) == 0

/-- Whether a schedule bars a requester's write (R393, GATE). -/
def State.gated (s : State) (c : Creds) (n : Nat) : Bool := s.underGate c n && !s.flag (Reg.PGD_SCHED_ACTIVE (s.get (Reg.PT_SCHED n)))

/-- The priority a write asked for at priority `p` goes to: GATE_PRIO of the schedule for a tenant under a gate. -/
def State.writePrioOf (s : State) (c : Creds) (n p : Nat) : Nat :=
  if s.underGate c n then s.get (Reg.PGD_SCHED_GATE_PRIO (s.get (Reg.PT_SCHED n))) else p

/-- A write of VALUE (R384): the status and the state. -/
def writeValue (c : Creds) (n : Nat) (v : Word) (q : Nat) (s : State) : Nat × State :=
  if s.ptIn n then (Status.E_STATE, s)
  else if s.gated c n then (Status.E_STATE, s)
  else if s.flag (Reg.PT_CMD n) then (Status.OK, s.writeSlot (s.get (Reg.PT_PA n)) (s.writePrioOf c n c.prio) v q)
  else (Status.OK, s.setPoint n v q)

/-- WRITE_PRIO (R394). A priority outside 1 to 16, or a point that has no array, is E_STATE. -/
def writePrio (c : Creds) (n p : Nat) (v : Word) (q : Nat) (s : State) : Nat × State :=
  if s.ptIn n || !s.flag (Reg.PT_CMD n) || p == 0 || decide (16 < p) || s.gated c n then (Status.E_STATE, s)
  else (Status.OK, s.writeSlot (s.get (Reg.PT_PA n)) (s.writePrioOf c n p) v q)

/-- RELINQUISH (R394), and a write of NULL (R391): under a gate it is a write like another (R393). -/
def relinquish (c : Creds) (n p : Nat) (s : State) : Nat × State :=
  if !s.flag (Reg.PT_CMD n) || p == 0 || decide (16 < p) || s.gated c n then (Status.E_STATE, s)
  else (Status.OK, s.relinquishSlot (s.get (Reg.PT_PA n)) (s.writePrioOf c n p))

/-- The owner of the outputs has written a point: what it drives on a tile counts towards LIVE (R186). A point with an array
brings every point of it along. -/
def State.ownerWrote (s : State) (n : Nat) : State :=
  let l := if s.flag (Reg.PT_CMD n) then s.pointsWith 2 (fun m => s.get (Reg.PT_PA m) == s.get (Reg.PT_PA n) && s.flag (Reg.PT_CMD m)) else [n]
  l.foldl (fun (s : State) m =>
    let k := s.get (Reg.PT_TARGET m) % 256
    if s.flag (Reg.PT_OUT m) && s.get (Reg.PT_BIND m) == 1 && !s.flag (Reg.TILE_SAFETY (k / 32) (k % 32)) then s.qualify (k / 32) else s) s

/-- The requesters through which the host, or the scan engine, writes. -/
def ownsOutputs : Requester → Bool
  | .session _ | .core _ | .coreNarrow _ | .firmware | .scan => true
  | .bacnetIp | .motion | .lift | .skiver | .loopSlot _ => false

/-- A write that was made counts as its requester's. -/
def ownedBy (r : Requester) (n : Nat) (x : Nat × State) : Nat × State :=
  if x.1 = Status.OK ∧ ownsOutputs r = true then (x.1, x.2.ownerWrote n) else x

/-! ## Bindings (R385) -/

/-- The binding of a point delivers a value. In a pair the value joins the unit's own set, and the agreed value enters
the point table at the round (R447). -/
def State.deliverIn (s : State) (n : Nat) (v : Word) (q : Nat) : State :=
  if s.get Reg.TWN_STATE = 1 ∨ s.get Reg.TWN_STATE = 2 then
    { s with twin := { s.twin with own := KV.put s.twin.own n ⟨n, v, q⟩, fresh := s.twin.fresh.filter (fun e => e.point != n) ++ [⟨n, v, q⟩] } }
  else if s.ptIn n then
    ({ s with pointWaiting := s.pointWaiting.filter (fun e => e.1 != n) }).setPoint n v q
  else s

/-- The quality of points turns COMM_FAIL (R183, R385); in a pair, that of the unit's own readings (R447). -/
def State.commFail (s : State) (ns : List Nat) : State :=
  ns.foldl (fun (s : State) n =>
    if !s.ptIn n then s
    else if s.get Reg.TWN_STATE = 1 ∨ s.get Reg.TWN_STATE = 2 then
      s.deliverIn n ((KV.get? s.twin.own n).elim (s.word (ptAddr n 0)) (fun v => v.value)) Qual.COMM_FAIL
    else s.setPoint n (s.word (ptAddr n 0)) Qual.COMM_FAIL) s

/-- The inputs bound to a node of a CAN channel, and those of a remote device (R211). -/
def State.nodeInputs (s : State) (c k : Nat) : List Nat :=
  s.pointsWith 3 (fun n => s.ptIn n && s.get (Reg.PT_BIND n) == 2 && s.get (Reg.PT_TARGET n) / 2 ^ 19 == 128 * c + k)
def State.deviceInputs (s : State) (dev : Nat) : List Nat :=
  s.pointsWith 3 (fun n => s.ptIn n && s.get (Reg.PT_BIND n) == 3 && s.get (Reg.PT_TARGET n) % 2 ^ 22 == dev)

/-! ## Configuration (R383, R390) -/

/-- The object type that TYPE, OUT and BIND map to (R391), by ASHRAE 135 number (log entry 12): Binary, Analog or Multi-state, each
as Input, Output or Value; or Accumulator. -/
def objType (type : Nat) (out : Bool) (bind : Nat) : Option Nat :=
  let pick := fun (i o v : Nat) => if bind = 0 then v else if out then o else i
  if bind = 4 then some 23
  else match type with
    | 1 => some (pick 3 4 5)
    | 2 | 4 => some (pick 0 1 2)
    | 3 => some (pick 13 14 19)
    | _ => none

/-- Object types of the mapping of R391. -/
def objTypeOk (t : Nat) : Bool :=
  [1, 2, 3, 4].any (fun ty => [false, true].any (fun out => [0, 1, 4].any (fun b => objType ty out b == some t)))

/-- Whether the object type that OBJ_ID names is the one that the entry maps to. An entry without a TYPE maps to none yet, and a remote
object brings its own (R382; DEDUCED, log entry 12). -/
def State.objFits (s : State) (n : Nat) : Bool :=
  let id := s.get (Reg.PT_OBJ_ID n)
  id == 0xFFFFFFFF || s.get (Reg.PT_TYPE n) == 0 || s.get (Reg.PT_BIND n) == 3
    || objType (s.get (Reg.PT_TYPE n)) (s.flag (Reg.PT_OUT n)) (s.get (Reg.PT_BIND n)) == some (id / 2 ^ 22)

/-- Whether another entry uses an entry's OBJ_ID. That of an unused entry as a reset leaves it, 0, is no use of it (DEDUCED, log entry
12). -/
def State.objTaken (s : State) (n : Nat) : Bool :=
  let id := s.get (Reg.PT_OBJ_ID n)
  let same := fun (m : Nat) => m != n && s.get (Reg.PT_OBJ_ID m) == id
  if id = 0 then s.get (Reg.PT_TYPE n) != 0 && !(s.pointsWith 1 (fun m => same m && s.get (Reg.PT_TYPE m) != 0)).isEmpty
  else !(s.pointsWith 7 same).isEmpty

/-- Whether an entry may stand, judged on the state that holds it (R383). -/
def State.ptValid (s : State) (n : Nat) : Bool :=
  let ty := s.get (Reg.PT_TYPE n)
  let id := s.get (Reg.PT_OBJ_ID n)
  let b := s.get (Reg.PT_BIND n)
  let k := s.get (Reg.PT_TARGET n) % 256
  decide (ty ≤ 4)
    && (id == 0xFFFFFFFF || (objTypeOk (id / 2 ^ 22) && !s.objTaken n))
    && !(s.flag (Reg.PT_PUBLIC n) && s.get (Reg.PT_TAG n) != 0)
    && !(b == 1 && (s.flag (Reg.TILE_SAFETY (k / 32) (k % 32)) || ty != 1))
    && !(s.flag (Reg.PT_CMD n) && s.get (Reg.PT_PA n) == 0)
    && decide (b ≤ 4)
    && !(b == 4 && s.flag (Reg.PT_OUT n))

/-- The RWL bits of the words of an entry (R382). -/
def ptRwl (k : Nat) : Word :=
  if k = 1 then 0xFFFC3E00 else if k = 2 then 0xFFE0003F else if k = 3 ∨ k = 4 ∨ k = 7 then 0xFFFFFFFF else 0

/-- A change of TAG (R390): the array's slots are relinquished, POINT subscriptions of sessions of another tag end, and
a record is written. -/
def State.retag (s : State) (n tag : Nat) : State :=
  let pa := s.get (Reg.PT_PA n)
  let s := if pa = 0 then s else
    let a := KV.put s.prioArrays pa ((s.paSlots pa).map (fun e => (e.1, { e.2 with active := false })))
    ({ s with prioArrays := a, cfgPrio := a }).resolveArray pa
  let s := { s with subs := s.subs.filter (fun u => !(u.kind == 2 && u.target == n && (KV.get? s.sessions u.sess).elim true (fun e => e.tag != tag))) }
  (s.irq Page.PGD Irq.PGD_RETAG).record sevWarning Page.PGD 1 n []

/-- A binding made or changed: COMM_FAIL until its first delivery (R385). -/
def State.rebind (s : State) (n : Nat) : State :=
  if s.ptIn n then
    let s := { s with pointWaiting := s.pointWaiting.filter (fun (e : Nat × Bool) => e.1 != n) ++ [(n, false)] }
    s.setPoint n (s.word (ptAddr n 0)) Qual.COMM_FAIL
  else { s with pointWaiting := s.pointWaiting.filter (fun (e : Nat × Bool) => e.1 != n) }

/-- A write of configuration word `k` of entry `n` (R383): the status and the state. The configuration store keeps the
word. -/
def writePtConfig (n k : Nat) (w : Word) (s : State) : Nat × State :=
  let old := s.word (ptAddr n k)
  let new := (old &&& ~~~ ptRwl k) ||| (w &&& ptRwl k)
  if new = old then (Status.OK, s.eccClean (ptAddr n k))
  else
    let s' := (s.setWord (ptAddr n k) new).eccClean (ptAddr n k)
    if !s'.ptValid n || (k == 7 && !s'.objFits n) then (Status.E_STATE, s.err Page.PGD Err.PGD_CFG_INVALID)
    else
      let s' := { s' with cfgStore := KV.put s'.cfgStore (ptAddr n k) (new &&& ptRwl k) }
      let tag := s'.get (Reg.PT_TAG n)
      let s' := if tag ≠ s.get (Reg.PT_TAG n) then s'.retag n tag else s'
      let s' := if s.get (Reg.PT_BIND n) ≠ s'.get (Reg.PT_BIND n) ∨ s.get (Reg.PT_TARGET n) ≠ s'.get (Reg.PT_TARGET n)
                    ∨ s.flag (Reg.PT_OUT n) ≠ s'.flag (Reg.PT_OUT n) then s'.rebind n else s'
      (Status.OK, s'.resolvePoint n)

/-! ## Schedules (R393) -/

/-- Whether window `w` of a schedule holds minute `m` of weekday `d` (1 to 7). -/
def State.windowHolds (s : State) (k w m d : Nat) : Bool :=
  let days := s.get (Reg.PGD_SCHED_DAYS k w)
  let st := s.get (Reg.PGD_SCHED_START k w)
  let en := s.get (Reg.PGD_SCHED_END k w)
  let prev := if d = 1 then 7 else d - 1
  s.getBit (Reg.PGD_SCHED_WIN_EN k) w &&
    (if st ≤ en then decide (st ≤ m) && decide (m < en) && bitOf days (d - 1)
     else (decide (st ≤ m) && bitOf days (d - 1)) || (decide (m < en) && bitOf days (prev - 1)))

/-- Whether a schedule is active at minute `m` of weekday `d`. -/
def State.schedActive (s : State) (k m d : Nat) (osf : Bool) : Bool :=
  s.flag (Reg.PGD_SCHED_EN k) && !osf && (List.range 8).any (fun w => s.windowHolds k w m d)

/-- The points that name a schedule. -/
def State.schedPoints (s : State) (k : Nat) : List Nat :=
  s.pointsWith 1 (fun n => s.flag (Reg.PT_SCHED_EN n) && s.get (Reg.PT_SCHED n) == k && s.flag (Reg.PT_CMD n))

/-- Judge one schedule and carry out its transition. -/
def State.judgeSchedule (m d : Nat) (osf : Bool) (k : Nat) (s : State) : State :=
  let now := s.schedActive k m d osf
  if s.flag (Reg.PGD_SCHED_ACTIVE k) = now then s
  else
    let s := (s.setFlag (Reg.PGD_SCHED_ACTIVE k) now).irq Page.PGD Irq.PGD_SCHED
    let p := s.get (Reg.PGD_SCHED_GATE_PRIO k)
    let drive := s.get (Reg.PGD_SCHED_ACTION k) == 1
    if now then
      (if drive then (s.schedPoints k).foldl (fun s n => s.writeSlot (s.get (Reg.PT_PA n)) p (s.word (Reg.PGD_SCHED_ON_VALUE k).addr) Qual.GOOD) s else s)
    else (s.schedPoints k).foldl (fun s n => s.relinquishSlot (s.get (Reg.PT_PA n)) p) s

/-- The guard judges every schedule at a second roll-over. -/
def State.judgeSchedules (m d : Nat) (osf : Bool) (s : State) : State := foldN 64 (State.judgeSchedule m d osf) s

/-! ## Release (R383, R385) -/

/-- Restoration of the point table from the configuration store at a release of reach APP or wider. -/
def State.restorePoints (s : State) : State :=
  let s := s.cfgStore.foldl (fun (s : State) (e : Nat × Word) => if 0x01000000 ≤ e.1 ∧ e.1 < 0x01040000 then s.setWord e.1 ((s.word e.1 &&& ~~~ ptRwl (e.1 % 32 / 4)) ||| e.2) else s) s
  let s := { s with prioArrays := s.cfgPrio, pointWaiting := [] }
  let used := s.pointsWith 1 (fun n => s.get (Reg.PT_TYPE n) != 0)
  used.foldl (fun s n =>
    let s := s.setW (Reg.PT_TS n) s.pwr.appAt
    if s.ptIn n then
      { (s.set (Reg.PT_QUAL n) Qual.COMM_FAIL) with pointWaiting := s.pointWaiting ++ [(n, false)] }
    else s.resolvePoint n) s

end Sys2Proof.Machine
end

