-- ==== Sys2Proof/Machine/CalendarClock.lean ====
section
/-! DEFINITION. The calendar clock and the backup domain (R129 to R142). -/

namespace Sys2Proof.Machine

/-! ## Civil time (R129, R130) -/

/-- Days from 2000-01-01 to the first day of year 2000 + `y`, for `y` up to 400 (R130). -/
def daysBeforeYear (y : Nat) : Nat := 365 * y + (y + 3) / 4 - (y + 99) / 100 + (y + 399) / 400

/-- Whether 2000 + `y` is a leap year. -/
def isLeap (y : Nat) : Bool := y % 4 == 0 && (y % 100 != 0 || y % 400 == 0)

/-- The length of a month of a year. -/
def monthLength (y m : Nat) : Nat :=
  if m = 2 then (if isLeap y then 29 else 28) else if m = 4 ∨ m = 6 ∨ m = 9 ∨ m = 11 then 30 else 31

/-- Days of a year before a month. -/
def daysBeforeMonth (y m : Nat) : Nat := (List.range (m - 1)).foldl (fun a k => a + monthLength y (k + 1)) 0

/-- Seconds from 2000-01-01 00:00:00. -/
def Civil.secs (c : Civil) : Nat :=
  (daysBeforeYear c.year + daysBeforeMonth c.year c.month + c.day - 1) * 86400 + c.hour * 3600 + c.min * 60 + c.sec

/-- Seconds of the 400 years of the calendar's range. -/
def calRange : Nat := 146097 * 86400

/-- The year that holds a day. -/
def yearOfDay (d : Nat) : Nat :=
  let e := 4 * d / 1461
  if d < daysBeforeYear e then e - 1 else if daysBeforeYear (e + 1) ≤ d then e + 1 else e

/-- The month and day of a day of a year, searching from month `m`. -/
def monthOfDay (y : Nat) : Nat → Nat → Nat → Nat × Nat
  | 0, m, d => (m, d + 1)
  | k + 1, m, d => if d < monthLength y m then (m, d + 1) else monthOfDay y k (m + 1) (d - monthLength y m)

/-- The civil time of a count of seconds from 2000-01-01. -/
def civilOf (t : Nat) : Civil :=
  let d := t / 86400
  let r := t % 86400
  let y := yearOfDay d
  let (m, dd) := monthOfDay y 11 1 (d - daysBeforeYear y)
  ⟨y, m, dd, r / 3600, r / 60 % 60, r % 60⟩

/-- WDAY of a count of seconds: 2000-01-01 is a Saturday, 6 (R129). -/
def wdayOf (t : Nat) : Nat := (t / 86400 + 5) % 7 + 1

/-- Whether every field is in range (R129, R130). -/
def Civil.valid (c : Civil) : Bool :=
  decide (c.year ≤ 399) && decide (1 ≤ c.month) && decide (c.month ≤ 12) && decide (1 ≤ c.day)
    && decide (c.day ≤ monthLength c.year c.month) && decide (c.hour ≤ 23) && decide (c.min ≤ 59) && decide (c.sec ≤ 59)

/-- The calendar value of the registers. -/
def State.civil (s : State) : Civil :=
  ⟨s.get Reg.RTC_YEAR_OFS, s.get Reg.RTC_MONTH, s.get Reg.RTC_DAY, s.get Reg.RTC_HOUR, s.get Reg.RTC_MIN, s.get Reg.RTC_SEC⟩

/-- Load the calendar with a count of seconds below its range. -/
def State.setCal (s : State) (t : Nat) : State :=
  let c := civilOf t
  let s := ((s.set Reg.RTC_SEC c.sec).set Reg.RTC_MIN c.min).set Reg.RTC_HOUR c.hour
  (((s.set Reg.RTC_DAY c.day).set Reg.RTC_MONTH c.month).set Reg.RTC_YEAR_OFS c.year).set Reg.RTC_WDAY (wdayOf t)

/-! ## Offset to TAI (R136, R137) -/

/-- Whether TBS.UTC_OFS holds a valid value. -/
def State.utcValid (s : State) : Bool := s.get Reg.TBS_UTC_OFS != 0x8000

/-- U (R136), or what is used in place of it after a leap (R137). -/
def State.utcOffset (s : State) : Int :=
  s.cal.leapU.getD (if s.utcValid then s.getS Reg.TBS_UTC_OFS else s.getS Reg.RTC_UTC_OFS_BKP)

/-- Local civil time of a TAI second, in seconds from 2000-01-01; TAI counts from 1970-01-01, 10 957 days earlier. -/
def State.localOf (s : State) (tai : Nat) : Int :=
  (tai : Int) - 10957 * 86400 - s.utcOffset + 60 * s.getS Reg.RTC_ZONE + 3600 * (s.get Reg.RTC_DST : Int)

/-- Whether the calendar is disciplined (R138). -/
def State.disciplined (s : State) : Bool := s.flag Reg.RTC_DISC_EN && s.flag Reg.TBS_VALID

/-- The leap due at a TAI second at which UTC is `u` seconds from 2000-01-01 (R137): 1 a second is held, −1 one is skipped.
While U ± 1 stands in for U no further leap is due. -/
def State.leapDue (s : State) (u : Int) : Int :=
  if s.cal.leapU.isSome then 0
  else if s.flag Reg.TBS_LEAP61 && u % 86400 == 0 then 1
  else if s.flag Reg.TBS_LEAP59 && u % 86400 == 86399 then -1 else 0

/-- UTC at a TAI second, in seconds from 2000-01-01. -/
def State.utcOf (s : State) (tai : Nat) : Int := (tai : Int) - 10957 * 86400 - s.utcOffset

/-- The TAI second whose boundary lies nearest: a disciplined calendar rolls over within one tick of it (R138). -/
def State.nearSec (s : State) : Nat := (s.tai + 500000000) / 1000000000

/-- Take a leap: U and the leap's second stand in for U. -/
def State.takeLeap (s : State) (d : Int) : State :=
  if d = 0 then s else { s with cal := { s.cal with leapU := some (s.utcOffset + d) } }

/-- The TAI that the calendar gives at a release of reach SYS or wider, in 2^-16 ns (R136, R114). -/
def State.calTai (s : State) : Nat :=
  let sec : Int := (s.civil.secs : Int) + 10957 * 86400 - 60 * s.getS Reg.RTC_ZONE - 3600 * (s.get Reg.RTC_DST : Int) + s.getS Reg.RTC_UTC_OFS_BKP
  sec.toNat * 1000000000 * 2 ^ 16 + s.get Reg.RTC_SUBSEC * 2000000000

/-! ## Roll-over (R131, R135) -/

/-- The guard judges the schedules by the calendar's minute and weekday (R393). -/
def State.judgeByCal (s : State) : State :=
  s.judgeSchedules (s.get Reg.RTC_HOUR * 60 + s.get Reg.RTC_MIN) (s.get Reg.RTC_WDAY) (s.flag Reg.RTC_OSF)

/-- A pending summer-time command is done. -/
def State.dstDone (s : State) (on : Bool) : State :=
  let s := { s with cal := { s.cal with pendDst := none } }
  ((s.setFlag Reg.RTC_DST on).setFlag Reg.RTC_PEND_DST false).irq Page.RTC Irq.RTC_DST_DONE

/-- The calendar advances to a count of seconds. One beyond the range leaves it at the range's last value, where it holds:
RANGE_END is set where it begins to hold, at the wrap that would pass that value (DESIGN CHOICE, log entry 90). -/
def State.calTo (s : State) (t : Nat) : State :=
  if t < calRange then { (s.setCal t) with cal := { s.cal with rangeHeld := false } }
  else
    let s := if s.cal.rangeHeld then s else s.err Page.RTC Err.RTC_RANGE_END
    { (s.setCal (calRange - 1)) with cal := { s.cal with rangeHeld := true } }

/-- The extra second that a roll-over holds, or the dropped one that it skips (R137): a disciplined calendar's by the TAI second at
which it rolls over, an undisciplined one's as its TAI second left it. -/
def State.rollLeap (s : State) : Int :=
  if s.disciplined then s.leapDue (s.utcOf s.nearSec) else if s.cal.leapHold then 1 else 0

/-- SECOND_ROLLOVER: SUBSEC wraps. A wrap while the calendar holds at the end of its range raises no IRQ SECOND, that at which a
DST_SUB acts included (DESIGN CHOICE, log entry 90). -/
def execSecondRollover (s : State) : Out State :=
  let s := s.zeroSubsec
  let t := s.civil.secs
  let d := s.rollLeap
  let s := if s.disciplined then s.takeLeap d else { s with cal := { s.cal with leapHold := false } }
  let raw := ((t : Int) + 1 - d).toNat
  let s := match s.cal.pendDst with
    | none => s.calTo raw
    | some .add => (s.dstDone true).calTo (raw + 3600)
    | some .sub => (s.dstDone false).calTo (min raw (calRange - 1) - 3600)
  .next (if t + 1 = calRange then s else s.irq Page.RTC Irq.RTC_SECOND).judgeByCal

/-! ## Commands of CMD (R133 to R135) -/

/-- The staged value. -/
def State.stagedCivil (s : State) : Civil :=
  ⟨s.get Reg.RTC_STG_YEAR_OFS, s.get Reg.RTC_STG_MONTH, s.get Reg.RTC_STG_DAY, s.get Reg.RTC_STG_HOUR, s.get Reg.RTC_STG_MIN,
   s.get Reg.RTC_STG_SEC⟩

/-- COMMIT (R133, R134): the status and the state. The value is taken with the command; its oscillator tick is at most
30.5 µs later (log entry 13). -/
def rtcCommit (s : State) : Nat × State :=
  if s.disciplined then (Status.E_STATE, s.err Page.RTC Err.RTC_DISC_ACTIVE)
  else
    let c := s.stagedCivil
    if c.valid then
      let s := (s.setCal c.secs).zeroSubsec.setFlag Reg.RTC_DST (s.flag Reg.RTC_STG_DST)
      (Status.OK, { (s.setFlag Reg.RTC_PEND_DST false) with cal := { s.cal with pendDst := none, leapHold := false, rangeHeld := false } })
    else (Status.E_STATE, s.err Page.RTC Err.RTC_DATE_INVALID)

/-- The value that a summer-time command would give at the next roll-over. -/
def State.dstResult (s : State) (c : DstCmd) : Int :=
  let t := s.civil.secs
  let next : Int := if t + 1 = calRange then t else t + 1
  match c with
  | .add => next + 3600
  | .sub => next - 3600

/-- DST_ADD and DST_SUB (R135): the status and the state. -/
def dstCommand (c : DstCmd) (s : State) : Nat × State :=
  let need := match c with | .add => false | .sub => true
  let r := s.dstResult c
  if s.flag Reg.RTC_DST = need ∧ s.cal.pendDst = none ∧ 0 ≤ r ∧ r < (calRange : Int) then
    (Status.OK, { (s.setFlag Reg.RTC_PEND_DST true) with cal := { s.cal with pendDst := some c } })
  else (Status.E_STATE, s.err Page.RTC Err.RTC_DST_REFUSED)

/-- The state after a command, with its status as the answer. -/
def State.answered (r : Nat × State) : State := r.2.answer r.1 []

def execRtcCommit (s : State) : Out State := .next (State.answered (rtcCommit s))
def execDstAdd (s : State) : Out State := .next (State.answered (dstCommand .add s))
def execDstSub (s : State) : Out State := .next (State.answered (dstCommand .sub s))

/-! ## Discipline (R138) -/

/-- A clearing of OSF arms the switch-over capture (R140). -/
def State.clearOsf (s : State) : State :=
  if s.flag Reg.RTC_OSF then (s.setFlag Reg.RTC_OSF false).setFlag Reg.RTC_SWO_ARMED true else s

/-- Load local time. A local time outside the calendar's range has no calendar value and is not loaded (log entry 14). -/
def State.disciplineTo (s : State) (l : Int) : State :=
  let s := { s.zeroSubsec with cal := { s.cal with leapHold := false, frac := 0 } }
  if l < 0 ∨ (calRange : Int) ≤ l then s
  else if (s.civil.secs : Int) = l then s
  else
    let s := { (s.setCal l.toNat) with cal := { s.cal with rangeHeld := false } }
    ((s.bump Reg.RTC_DISC_STEP_CNT).irq Page.RTC Irq.RTC_DISC_STEP).record sevInfo Page.RTC 1 0 []

/-- A leap of an undisciplined calendar at its TAI second (R137): the value shown is held for one more second, or a second is
skipped at once. -/
def State.freeLeap (s : State) (d : Int) : State :=
  if d = 1 then { s with cal := { s.cal with leapHold := true } }
  else if d = -1 then s.calTo (s.civil.secs + 1) else s

/-- DISCIPLINE: a TAI second boundary. The calendar also copies each valid UTC_OFS (R136). -/
def execDiscipline (s : State) : Out State :=
  let s := if s.utcValid then s.set Reg.RTC_UTC_OFS_BKP (s.get Reg.TBS_UTC_OFS) else s
  let s := s.leapTaken
  let d := s.leapDue (s.utcOf s.taiSec)
  let s := s.takeLeap d
  .next (if s.disciplined then (s.disciplineTo (s.localOf s.taiSec)).clearOsf else s.freeLeap d)

/-! ## Oscillator and switch-over (R139, R140) -/

/-- OSF is set. -/
def State.setOsf (s : State) : State :=
  if s.flag Reg.RTC_OSF then s else
    let s := (s.setFlag Reg.RTC_OSF true).irq Page.RTC Irq.RTC_OSF
    if s.appUp then s.judgeByCal else s

def execOscStopped (s : State) : Out State := .next s.setOsf

/-- OSF_CLEAR: a W1C from an owner session or the supervisory firmware; the requester is judged at the access. -/
def execOsfClear (s : State) : Out State := .next s.clearOsf

/-- A W1C of SWO_VALID clears it and arms the capture. -/
def State.clearSwo (s : State) : State := (s.setFlag Reg.RTC_SWO_VALID false).setFlag Reg.RTC_SWO_ARMED true

def execSwoValidClear (s : State) : Out State := .next s.clearSwo

/-- The code of a source (R34, BKP.SOURCE). -/
def bkpCode : BkpSource → Nat
  | .logic => 0
  | .scap => 1
  | .coin => 2

/-- The module is powered from the logic supply: power has come and no BROWNOUT holds it (R34, R53). -/
def State.logicSupply (s : State) : Bool := s.pwr.powered && !s.pwr.sources.contains 8

/-- The source that the backup domain runs from, by the voltages there are (R34): the logic supply, the supercapacitor, and the
coin cell once the supercapacitor has fallen below it. -/
def State.bkpSource (s : State) (v : BkpStore) : BkpSource :=
  if s.logicSupply then .logic else if v.scap < v.coin then .coin else .scap

/-- The store cannot carry the backup domain (R139). -/
def storeEmpty (v : BkpStore) : Bool := decide (max v.scap v.coin < 1600)

/-- BKP_SOURCE_CHANGE (R34, R140): the sources are judged by the voltages as they are. One that falls below 1.6 V sets OSF
(R139). -/
def execBkpSourceChange (v : BkpStore) (s : State) : Out State :=
  let old := s.get Reg.BKP_SOURCE
  let src := s.bkpSource v
  let s := if src ≠ .logic ∧ storeEmpty v = true then s.setOsf else s
  let s := s.set Reg.BKP_SOURCE (bkpCode src)
  if old = 0 ∧ src ≠ .logic then
    let s := s.bump Reg.RTC_SWO_CNT
    if s.flag Reg.RTC_SWO_ARMED then
      let s := ((s.setWord 0x5060 (s.word 0x5040)).setWord 0x5064 (s.word 0x5044)).set Reg.RTC_SWO_SRC (bkpCode src)
      .next (((s.setFlag Reg.RTC_SWO_VALID true).setFlag Reg.RTC_SWO_ARMED false).irq Page.RTC Irq.RTC_SWO)
    else .next s
  else .next s

/-- The backup supply is low (R36). -/
def State.bkpLow (s : State) : Bool := decide (s.get Reg.BKP_SCAP_MV < 4000) && decide (s.get Reg.BKP_COIN_MV ≤ 2700)

/-- SCAP_MV_UPDATE: the voltages in mV (R34). A store that falls below 1.6 V sets OSF (R139). -/
def execScapMvUpdate (scap coin : Nat) (s : State) : Out State :=
  let falls := !storeEmpty ⟨s.get Reg.BKP_SCAP_MV, s.get Reg.BKP_COIN_MV⟩ && storeEmpty ⟨scap, coin⟩
  let s := if falls then s.setOsf else s
  .next (((s.set Reg.BKP_SCAP_MV scap).set Reg.BKP_COIN_MV coin).setFlag Reg.BKP_COIN_PRES (decide (2700 < coin)))

end Sys2Proof.Machine
end

