-- ==== Sys2Proof/Machine/TwinOps.lean ====
section
/-! DEFINITION. Twin states and giving up control (R443, R455). -/

namespace Sys2Proof.Machine

/-! Codes of TWN_STAT.STATE (R443). -/
namespace TwinState
abbrev SOLO : Nat := 0
abbrev ACTIVE : Nat := 1
abbrev STANDBY : Nat := 2
abbrev RESYNC : Nat := 3
end TwinState

/-- A unit in ACTIVE or STANDBY. -/
def State.inPair (s : State) : Bool := s.get Reg.TWN_STATE == 1 || s.get Reg.TWN_STATE == 2

/-! ## The unit's own readings (R443, R447 to R449) -/

/-- An agreed value enters the point table. -/
def State.takeAgreed (s : State) (v : InVal) : State :=
  if s.ptIn v.point then
    ({ s with pointWaiting := s.pointWaiting.filter (fun (e : Nat × Bool) => e.1 != v.point) }).setPoint v.point v.value v.qual
  else s

/-- A car position enters its page. -/
def State.takeCarPos (s : State) (n : Nat) (p : Word) (valid : Bool) : State :=
  (s.setWord (Reg.CAR_POS n).addr p).setFlag (Reg.CAR_POS_VALID n) valid

/-- The readings of its own that a unit holds as it enters a pair: those of the point table and of the car pages. -/
def State.noteOwn (s : State) : State :=
  { s with twin := { s.twin with
    own := (s.pointsWith 3 s.ptIn).foldl (fun (k : KV InVal) n => KV.put k n ⟨n, s.word (ptAddr n 0), s.get (Reg.PT_QUAL n)⟩) []
    carOwn := (List.range 8).foldl (fun (k : KV (Word × Bool)) n => KV.put k n (s.word (Reg.CAR_POS n).addr, s.flag (Reg.CAR_POS_VALID n))) []
    peer := []
    fresh := [] } }

/-- A unit whose partner is gone uses its own readings; its cars follow with their next samples. -/
def State.useOwn (s : State) : State :=
  let vs := s.twin.own
  vs.foldl (fun (s : State) (e : Nat × InVal) => s.takeAgreed e.2) { s with twin := { s.twin with peer := [], fresh := [] } }

/-! ## States -/

/-- STATE changes (R461). A STANDBY that becomes ACTIVE or SOLO resumes PTP from HOLDOVER (R451). A unit that is left alone uses
its own readings. -/
def State.setTwinState (s : State) (v : Nat) : State :=
  let old := s.get Reg.TWN_STATE
  if old = v then s
  else
    let alone := (v == TwinState.SOLO && s.inPair) || (v == TwinState.ACTIVE && s.twin.gotGive)
    let s := if old = TwinState.SOLO then s.noteOwn else s
    let s := (s.set Reg.TWN_STATE v).irq Page.TWN Irq.TWN_STATE
    let s := { s with twin := { s.twin with gotGive := false, switchIn := none } }
    let s := if alone then s.useOwn else s
    if v = TwinState.STANDBY then (s.setFlag Reg.TWN_TIME_TWIN true).bmca
    else if old = TwinState.STANDBY then ((s.setFlag Reg.TWN_TIME_TWIN false).enterHoldover).bmca
    else s

/-- The partner's output levels are unknown to every tile (R454). -/
def State.dropPeers (s : State) : State := foldN 8 (fun t s => s.modTile t Tile.dropPeer) s

/-- Give up control with a cause (R455): GIVE_UP on both lanes, GO_SAFE to every tile, RESYNC, a record. -/
def State.giveUpNow (s : State) (cause : Nat) : State :=
  let s := (s.dropPeers.set Reg.TWN_GIVE_CAUSE cause).send .twinGiveUp 0 0 [cause]
  let s := (s.orderGoSafeAll.setTwinState TwinState.RESYNC).irq Page.TWN Irq.TWN_GIVE_UP
  s.record sevFault Page.TWN 1 cause []

/-- Give up control, in ACTIVE or STANDBY. -/
def State.giveUp (s : State) (cause : Nat) : State := if s.inPair then s.giveUpNow cause else s

end Sys2Proof.Machine
end

