-- ==== Sys2Proof/Machine/Sessions.lean ====
section
/-! DEFINITION. Keeper's handles as the other blocks use them, the end of sessions, and what a session is sent, its notes
among it (R93, R95, R110, R429 to R435). -/

namespace Sys2Proof.Machine

/-! ## Handles (R429, R431) -/

namespace Kind
abbrev DEVICE_ROOT : Nat := 1
abbrev ATTEST_SIGN : Nat := 2
abbrev OWNER_ROOT : Nat := 3
abbrev FACTORY : Nat := 4
abbrev TENANT_ROOT : Nat := 5
abbrev CREDENTIAL : Nat := 6
abbrev SC_CERT : Nat := 7
abbrev ATTEST_MAC : Nat := 8
abbrev SESSION : Nat := 9
end Kind

/-- Usable (R431): LIVE, made under the parent's present generation, and the parent usable; six generations suffice. -/
def State.usableIn (s : State) : Nat → Nat → Bool
  | 0, _ => false
  | _ + 1, 0 => true
  | k + 1, h => match KV.get? s.handles h with
    | none => false
    | some e => e.state == .live && ((KV.get? s.handles e.parent).elim false (fun p => p.gen == e.pgen)) && s.usableIn k e.parent

def State.usable (s : State) (h : Nat) : Bool := s.usableIn 7 h

/-- The value of a handle, from its SRAM pair (R436). -/
def Handle.value (e : Handle) : Nat := e.masked ^^^ e.mask

def State.keyValue (s : State) (h : Nat) : Nat := (KV.get? s.handles h).elim 0 Handle.value

/-- The number of owner and factory: OWNER_ST (R437). -/
def State.owned (s : State) : Bool := s.get Reg.KEY_OWNER_ST == 1

/-- The credential that a CRED_ID names: a usable CREDENTIAL, or FACTORY while not OWNED and on MNT (R437). -/
def State.findCred (s : State) (credId : Nat) (port : Port) : Option (Nat × Handle) :=
  s.handles.find? (fun e => e.2.credId == credId && s.usable e.1
    && (e.2.kind == Kind.CREDENTIAL || (e.2.kind == Kind.FACTORY && !s.owned && port == .MNT)))

/-! ## The end of a session (R95, R434) -/

/-- Free a handle. -/
def State.freeHandle (s : State) (h : Nat) : State := { s with handles := KV.del s.handles h }

/-- End a session-table entry: the entry, its subscriptions and COV subscriptions go, and a LIVE key handle is freed
(R95, R109, R435). -/
def State.endSession (s : State) (n : Nat) : State :=
  match KV.get? s.sessions n with
  | none => s
  | some e =>
    let live := (KV.get? s.handles e.keyHandle).elim false (fun h => h.state == .live)
    let s := if live then s.freeHandle e.keyHandle else s
    { s with
      sessions := KV.del s.sessions n
      subs := s.subs.filter (fun u => u.sess != n)
      covSubs := s.covSubs.filter (fun c => match c.client with | .session m => m.val != n | _ => true) }

/-- The number of a port in a sent message. -/
def Port.num : Port → Nat
  | .A => 0 | .B => 1 | .MNT => 2

/-- End a session and send CLOSE with a reason (R95). -/
def State.closeSession (s : State) (n reason : Nat) : State :=
  match KV.get? s.sessions n with
  | none => s
  | some e => (s.send .billetClose (Port.num e.port) e.sid [reason]).endSession n

/-- CLOSE with reason REKEY, whose number the spec does not state. -/
def State.rekey (n : Nat) (s : State) : State :=
  let (v, s) := s.fresh
  s.closeSession n (v % 256)

/-! ## What a session is sent (R95, R109, R110) -/

/-- Change a session's entry. -/
def State.modSession (s : State) (n : Nat) (g : Session → Session) : State :=
  match KV.get? s.sessions n with
  | some e => { s with sessions := KV.put s.sessions n (g e) }
  | none => s

/-- A datagram sent to a session through a port: the last of 2^32 ends the session with REKEY (R95). -/
def State.sendTo (s : State) (k : SentKind) (n : Nat) (p : Port) (body : List Nat) : State :=
  match KV.get? s.sessions n with
  | none => s
  | some e =>
    let s := (s.send k (Port.num p) e.sid body).modSession n (fun (e : Session) => { e with txCount := e.txCount + 1 })
    if 2 ^ 32 ≤ e.txCount + 1 then s.rekey n else s

/-- Whether a session has sent fewer than 2^32 − 1 datagrams, so that it may send one more and live on (R95). -/
def State.underRekey (s : State) (n : Nat) : Bool := (KV.get? s.sessions n).elim true (fun (e : Session) => decide (e.txCount + 1 < 2 ^ 32))

/-- The port through which a NOTIFY leaves: that of the session's latest datagram. R110 names none (DESIGN CHOICE, log
entry 92). -/
def State.notePort (s : State) (n : Nat) : Port := (KV.get? s.sessions n).elim .A (fun (e : Session) => e.port)

/-- Change a subscription. -/
def State.modSub (s : State) (id : Nat) (g : Sub → Sub) : State :=
  { s with subs := s.subs.map (fun (u : Sub) => if u.id = id then g u else u) }

/-- The body of a NOTIFY. -/
def Note.body (u : Sub) (x : Note) : List Nat :=
  (Config.subId u.id).toNat :: x.seq :: b2n x.coalesced :: x.devSeq :: x.payload.map (·.toNat)

/-- Send the first pending note of a subscription, where fewer than 8 are unacknowledged and notes are not paused. -/
def State.sendNote (u : Sub) (s : State) : State :=
  match u.waiting with
  | [] => s
  | x :: l =>
    if s.notesPaused = true ∨ 8 ≤ u.unacked.length ∨ s.appUp = false then s
    else
      let y : Note := { x with seq := u.nextNote }
      (s.modSub u.id (fun (u : Sub) => { u with waiting := l, unacked := u.unacked ++ [y], nextNote := u.nextNote + 1 })).sendTo
        .billetNotify u.sess (s.notePort u.sess) (y.body u)

/-- Where a change of state has ended the pause, every subscription with a pending change sends one note (R110). -/
def State.resumeNotes (was : State) (s : State) : State :=
  if was.notesPaused && !s.notesPaused then s.subs.foldl (fun (t : State) (u : Sub) => t.sendNote u) s else s

/-- Discard a half-open session. -/
def State.dropHalfOpen (s : State) (sid : Nat) : State :=
  match s.halfOpen.find? (fun h => h.sid == sid) with
  | none => s
  | some h => { (s.freeHandle h.keyHandle) with halfOpen := s.halfOpen.filter (fun g => g.sid != sid) }

/-- The lowest free entry for a session of a tag (R93): 0 to 503, and for the owner then 504 to 511. -/
def State.freeEntry (s : State) (tag : Nat) : Option Nat :=
  match KV.firstFree s.sessions 0 504 with
  | some n => some n
  | none => if tag = 0 then KV.firstFree s.sessions 504 8 else none

/-- The lowest free session handle (R429). -/
def State.freeSessionHandle (s : State) : Option Nat := KV.firstFree s.handles 1472 576

end Sys2Proof.Machine
end

