-- ==== Sys2Proof/Machine/Keeper.lean ====
section
/-! DEFINITION. Keeper: keys, derivation and attestation (R429 to R442). Every cryptographic result is an uninterpreted
constant of Config (log entry 6). -/

namespace Sys2Proof.Machine

/-! ## Guards of EXEC commands (R387, R388) -/

/-- A command that needs tag 0 and the EXEC right (R387): any other requester is refused by the guard at the page. -/
def State.ownerExec (s : State) (r : Requester) (page : Nat) (g : State → State) : State :=
  if (s.creds r).tag = 0 ∧ (s.creds r).may Right.EXEC = true then g s
  else s.guardRefuse r (page * 4096)

/-- A KEY command refused by a condition (R441). -/
def State.keyRefused (s : State) : State := (s.err Page.KEY Err.KEY_KEY_REFUSED).answer Status.E_STATE []

/-- The manifest that this start runs (R58): the active bank's, or the inactive bank's where the boot straps chose it. -/
def State.runManifest (s : State) : Manifest :=
  if s.get Reg.RST_STRAP_BOOT = 2 then s.upd.prev.getD s.upd.running else s.upd.running

/-- The words of a value, most significant first. -/
def wordsOf (v : Nat) : Nat → List Word
  | 0 => []
  | n + 1 => BitVec.ofNat 32 (v / 2 ^ (32 * n)) :: wordsOf v n

/-- An MRAM write that fails its readback: nothing changes but MRAM_FAIL, and a pair's unit gives up control (R441,
R455). The status is not stated: a free value. -/
def State.mramFail (s : State) : State :=
  let (v, s) := (s.err Page.KEY Err.KEY_MRAM_FAIL).fresh
  (s.giveUp 2).answer (v % 256) []

/-- Store Keeper's handles, sessions excepted, in MRAM (R435). -/
def State.saveHandles (s : State) : State :=
  { s with handlesMram := s.handles.keep (fun _ e => e.kind != Kind.SESSION), ownedMram := s.owned }

/-- A new handle of a kind under a parent. -/
def State.putHandle (s : State) (h : Nat) (e : Handle) : State :=
  { s with handles := KV.put s.handles h { e with gen := KV.getD s.handleGens h 0, pgen := (KV.get? s.handles e.parent).elim 0 (·.gen) } }

/-! ## Orphans (R433, R434) -/

/-- Whether handle `h` descends from `a`. -/
def State.descends (s : State) (a : Nat) : Nat → Nat → Bool
  | 0, _ => false
  | k + 1, h => match KV.get? s.handles h with
    | none => false
    | some e => h != 0 && (e.parent == a || s.descends a k e.parent)

/-- Orphan every descendant of a handle: values zeroed, sessions ended without CLOSE (R433, R434). -/
def State.orphanBelow (s : State) (a : Nat) : State :=
  let any := s.handles.any (fun e => s.descends a 7 e.1 && e.2.state == .live)
  let s := { s with handles := s.handles.mapV (fun h e => if s.descends a 7 h then { e with state := .orphan, masked := 0, mask := 0 } else e) }
  let dead := fun (h : Nat) => (KV.get? s.handles h).elim true (fun e => e.state == .orphan)
  let s := (s.sessions.keep (fun _ e => dead e.keyHandle || dead e.credHandle)).keys.foldl State.endSession s
  let s := { s with halfOpen := s.halfOpen.filter (fun (h : HalfOpen) => !dead h.keyHandle) }
  if any then (s.irq Page.KEY Irq.KEY_ORPHANED).record sevWarning Page.KEY 1 a [] else s

/-- The end of a pair whose credential has gone (R445): the ACTIVE becomes SOLO, the STANDBY gives up control. -/
def State.checkPairCred (s : State) : State :=
  let id := s.get Reg.TWN_PAIR_CRED
  if !s.twin.paired || (s.handles.any (fun e => e.2.kind == Kind.CREDENTIAL && e.2.credId == id && e.2.tag == 0 && s.usable e.1)) then s
  else
    let s := { s with twin := { s.twin with paired := false } }
    if s.get Reg.TWN_STATE = TwinState.ACTIVE then s.setTwinState TwinState.SOLO
    else if s.get Reg.TWN_STATE = TwinState.STANDBY then s.giveUp 1 else s

/-- Raise the generation of a handle and orphan its descendants; a tenant root takes a new value (R433). -/
def State.raiseGen (s : State) (h : Nat) : State :=
  match KV.get? s.handles h with
  | none => s
  | some e =>
    let s := s.orphanBelow h
    let g := e.gen + 1
    let v := if e.kind = Kind.TENANT_ROOT then Config.derive 4 [s.keyValue 2, e.tag, g] else e.value
    { s with handles := KV.put s.handles h { e with gen := g, masked := v ^^^ e.mask }, handleGens := KV.put s.handleGens h g }

/-- Whether ROTATE and DESTROY may act on a handle (R441). -/
def State.mayRotate (s : State) (r : Requester) (h : Nat) : Bool :=
  (s.creds r).may Right.CONFIG && !s.flag Reg.KEY_OWNER_LOCK && h != 0 && h != 1 && decide (h < 1472) && s.usable h
    && (KV.get? s.handles h).elim false (fun e => decide (e.gen < 0xFFFFFFFF))

/-! ## Commands (R437, R430, R433, R441) -/

/-- OWNER_TAKE: from a FACTORY session while FACTORY. The first owner credential takes the lowest free handle, as any other. -/
def ownerTake (r : Requester) (mramOk : Bool) (s : State) : State :=
  let fromFactory := match r with
    | .session n => (KV.get? s.sessions n.val).elim false (fun e => e.credHandle == 3)
    | _ => false
  if s.owned || !fromFactory then s.keyRefused
  else match KV.firstFree s.handles 4 1468 with
    | none => (s.err Page.KEY Err.KEY_HANDLE_FULL).answer Status.E_STATE []
    | some h =>
      if !mramOk then s.mramFail
      else
        let (root, s) := s.fresh
        let (m, s) := s.fresh
        let (cred, s) := s.fresh
        let s := s.putHandle 2 ⟨Kind.OWNER_ROOT, .live, 0, 0, 0, 0, 0, 0, 0, root ^^^ m, m⟩
        let s := s.putHandle h ⟨Kind.CREDENTIAL, .live, 2, 0, 0, 0, 127, 15, 0, cred ^^^ m, m⟩
        let s := (s.set Reg.KEY_OWNER_ST 1).irq Page.KEY Irq.KEY_OWNER
        s.saveHandles.answer Status.OK (wordsOf cred 12)

/-- OWNER_RELEASE: the owner root is destroyed, and FACTORY is enabled again. -/
def ownerRelease (r : Requester) (mramOk : Bool) (s : State) : State :=
  let c := s.creds r
  if !s.owned || !c.may Right.CONFIG || !c.may Right.RESET || s.flag Reg.KEY_OWNER_LOCK then s.keyRefused
  else if !mramOk then s.mramFail
  else
    let s := (s.raiseGen 2).freeHandle 2
    let s := (s.set Reg.KEY_OWNER_ST 0).irq Page.KEY Irq.KEY_OWNER
    s.saveHandles.checkPairCred.answer Status.OK []

/-- TENANT_ROOT: the handle of a tag's root, made where absent. -/
def tenantRoot (r : Requester) (tag : Nat) (mramOk : Bool) (s : State) : State :=
  if !(s.creds r).may Right.CONFIG || s.flag Reg.KEY_OWNER_LOCK || !s.usable 2 || tag == 0 || decide (1023 < tag) then s.keyRefused
  else match s.handles.find? (fun e => e.2.kind == Kind.TENANT_ROOT && e.2.tag == tag && e.2.state == .live) with
    | some e => s.answer Status.OK [BitVec.ofNat 32 e.1]
    | none =>
      if !mramOk then s.mramFail
      else match KV.firstFree s.handles 4 1468 with
        | none => (s.err Page.KEY Err.KEY_HANDLE_FULL).answer Status.E_STATE []
        | some h =>
          let (m, s) := s.fresh
          let v := Config.derive 4 [s.keyValue 2, tag, KV.getD s.handleGens h 0]
          let s := s.putHandle h ⟨Kind.TENANT_ROOT, .live, 2, 0, 0, tag, 0, 0, 0, v ^^^ m, m⟩
          s.saveHandles.answer Status.OK [BitVec.ofNat 32 h]

/-- Whether a handle carries a CRED_ID: CREDENTIAL, SC_CERT and ATTEST_MAC, and FACTORY (R430, R437). -/
def Handle.hasCredId (e : Handle) : Bool := e.kind == Kind.FACTORY || (decide (6 ≤ e.kind) && decide (e.kind ≤ 8))

/-- CRED_CREATE: a CREDENTIAL, SC_CERT or ATTEST_MAC under the owner root or a tenant root. Kinds and parents outside
R430, and a CRED_ID in use, are refused. -/
def credCreate (r : Requester) (a : CredArgs) (mramOk : Bool) (s : State) : State :=
  let parentOk := s.usable a.parent && (KV.get? s.handles a.parent).elim false (fun p => p.kind == Kind.OWNER_ROOT || p.kind == Kind.TENANT_ROOT)
  let unique := !s.handles.any (fun e => e.2.credId == a.credId && e.2.hasCredId && e.2.state == .live)
  if !(s.creds r).may Right.CONFIG || s.flag Reg.KEY_OWNER_LOCK || !parentOk || !unique || !(6 ≤ a.kind && a.kind ≤ 8) then s.keyRefused
  else match KV.firstFree s.handles 4 1468 with
    | none => (s.err Page.KEY Err.KEY_HANDLE_FULL).answer Status.E_STATE []
    | some h =>
      if !mramOk then s.mramFail
      else
        let tag := (KV.get? s.handles a.parent).elim 0 (·.tag)
        let (m, s) := s.fresh
        let (gen, s) := s.fresh
        let v := a.value.getD gen
        let s := s.putHandle h ⟨a.kind, .live, a.parent, 0, 0, tag, a.rights % 128, a.prio % 16, a.credId, v ^^^ m, m⟩
        s.saveHandles.answer Status.OK (BitVec.ofNat 32 h :: (if a.value.isNone then wordsOf v 12 else []))

/-- ROTATE. -/
def rotate (r : Requester) (h : Nat) (mramOk : Bool) (s : State) : State :=
  if !s.mayRotate r h then s.keyRefused
  else if !mramOk then s.mramFail
  else (s.raiseGen h).saveHandles.checkPairCred.answer Status.OK []

/-- DESTROY: as ROTATE, and the handle is freed; not the owner root. -/
def destroy (r : Requester) (h : Nat) (mramOk : Bool) (s : State) : State :=
  if !s.mayRotate r h || h == 2 then s.keyRefused
  else if !mramOk then s.mramFail
  else ((s.raiseGen h).freeHandle h).saveHandles.checkPairCred.answer Status.OK []

/-! ## Attestation (R439, R440) -/

/-- FLAGS of a statement: OWNER_LOCK, TAI_VALID, TACK. -/
def State.attFlags (s : State) : Nat :=
  b2n (s.flag Reg.KEY_OWNER_LOCK) + 2 * b2n (s.flag Reg.TBS_VALID) + 4 * b2n (s.flag Reg.RST_TACK)

/-- The part types as 16 bytes in four words. -/
def Manifest.typeWords (m : Manifest) : List Word :=
  let t := (m.parts.map (fun (p : Nat × Nat) => p.1) ++ List.replicate 16 0).take 16
  (List.range 4).map (fun k => BitVec.ofNat 32 ((List.range 4).foldl (fun a j => a * 256 + t.getD (4 * k + j) 0) 0))

/-- Bytes 64 onward of a statement, up to the signature. -/
def State.measWords (s : State) : List Word :=
  s.runManifest.typeWords ++ s.runManifest.parts.foldr (fun (p : Nat × Nat) l => wordsOf p.2 12 ++ l) []

/-- MEAS_DIGEST (R440). -/
def State.measDigest (s : State) : Nat := Config.sha384 (s.measWords.map (·.toNat))

/-- TAI as a statement carries it. -/
def State.attTai (s : State) : Nat := if s.flag Reg.TBS_VALID then s.tai else 0

/-- The words of a statement before its signature (R439). -/
def State.statement (s : State) (nonce : List Word) : List Word :=
  [BitVec.ofNat 32 (0x10000 + s.runManifest.parts.length * 256 + s.attFlags), s.word Reg.SYS_SERIAL_HI.addr, s.word Reg.SYS_SERIAL_LO.addr]
    ++ wordsOf s.attTai 2 ++ [s.word Reg.RST_RST_TOTAL.addr, s.word Reg.RST_POWER_CYCLES.addr,
      BitVec.ofNat 32 (if s.owned then (KV.get? s.handles 2).elim 0 (·.gen) else 0)]
    ++ (nonce ++ List.replicate 8 0).take 8 ++ s.measWords

/-- One more in the running second; false beyond the limit. -/
def rateTake (sec limit : Nat) (r : Nat × Nat) : Bool × (Nat × Nat) :=
  let n := if r.1 = sec then r.2 else 0
  if limit ≤ n then (false, (sec, n)) else (true, (sec, n + 1))

/-- ATTEST_SIGN: at most 20 a second. -/
def attestSign (nonce : List Word) (s : State) : State :=
  let (ok, r) := rateTake s.taiSec 20 s.attSignSec
  let s := { s with attSignSec := r }
  if !ok || !s.usable 1 then s.keyRefused
  else
    let body := s.statement nonce
    let sig := Config.sign (s.keyValue 1) (body.map (·.toNat))
    (s.bump Reg.KEY_ATT_SIGN_CNT).answer Status.OK (body ++ wordsOf sig 24)

/-- ATTEST_MAC: at most ATT_RATE a second. -/
def attestMac (credId : Nat) (challenge : List Word) (s : State) : State :=
  match s.handles.find? (fun e => e.2.kind == Kind.ATTEST_MAC && e.2.credId == credId && s.usable e.1) with
  | none => s.keyRefused
  | some e =>
    let (ok, r) := rateTake s.taiSec (s.get Reg.KEY_ATT_RATE) s.attMacSec
    let s := { s with attMacSec := r }
    if !ok then s.keyRefused
    else
      let d := s.measDigest
      let challenge := (challenge ++ List.replicate 8 0).take 8
      let head := wordsOf s.attTai 2 ++ [s.word Reg.RST_RST_TOTAL.addr, BitVec.ofNat 32 (s.attFlags * 2 ^ 24)]
      let mac := Config.hmac e.2.value (s.getW ⟨Reg.SYS_SERIAL_LO.addr, 2⟩ :: (challenge.map (·.toNat) ++ head.map (·.toNat) ++ [d]))
      (s.bump Reg.KEY_ATT_MAC_CNT).answer Status.OK (head ++ wordsOf d 12 ++ wordsOf mac 12)

/-- ATTEST_PUB: the public key and its certificate, whose contents the spec does not give: a free value. -/
def attestPub (s : State) : State :=
  let (cert, s) := s.fresh
  s.answer Status.OK (wordsOf (Config.publicKey (s.keyValue 1)) 25 ++ [BitVec.ofNat 32 cert])

def execOwnerTake (r : Requester) (mramOk : Bool) (s : State) : Out State := .next (s.ownerExec r Page.KEY (ownerTake r mramOk))
def execOwnerRelease (r : Requester) (mramOk : Bool) (s : State) : Out State := .next (s.ownerExec r Page.KEY (ownerRelease r mramOk))
def execTenantRoot (r : Requester) (tag : Nat) (mramOk : Bool) (s : State) : Out State := .next (s.ownerExec r Page.KEY (tenantRoot r tag mramOk))
def execCredCreate (r : Requester) (a : CredArgs) (mramOk : Bool) (s : State) : Out State := .next (s.ownerExec r Page.KEY (credCreate r a mramOk))
def execRotate (r : Requester) (h : Fin 2048) (mramOk : Bool) (s : State) : Out State := .next (s.ownerExec r Page.KEY (rotate r h mramOk))
def execDestroy (r : Requester) (h : Fin 2048) (mramOk : Bool) (s : State) : Out State := .next (s.ownerExec r Page.KEY (destroy r h mramOk))
def execAttestSign (r : Requester) (nonce : List Word) (s : State) : Out State := .next (s.ownerExec r Page.KEY (attestSign nonce))
def execAttestMac (r : Requester) (credId : Nat) (challenge : List Word) (s : State) : Out State :=
  .next (s.ownerExec r Page.KEY (attestMac credId challenge))
def execAttestPub (r : Requester) (s : State) : Out State := .next (s.ownerExec r Page.KEY attestPub)

/-! ## Registers (R438, R429, R436) -/

/-- Whether a requester may write OWNER_LOCK so (R438): it stays as it is, or a session of tag 0 with the rights changes it. -/
def State.mayLockOwner (s : State) (r : Requester) (v : Bool) : Bool :=
  let c := s.creds r
  v == s.flag Reg.KEY_OWNER_LOCK
    || (isSession r && c.tag == 0 && (if v then c.may Right.WRITE && c.may Right.CONFIG else c.may Right.CONFIG && c.may Right.RESET))

/-- A write of OWNER_LOCK (R438). -/
def writeOwnerLock (r : Requester) (v : Bool) (s : State) : State :=
  if v = s.flag Reg.KEY_OWNER_LOCK then s
  else if s.mayLockOwner r v then { ((s.setFlag Reg.KEY_OWNER_LOCK v).irq Page.KEY Irq.KEY_LOCK) with ownerLockMram := v }
  else s.err Page.KEY Err.NO_RIGHT

def execOwnerLockWrite (r : Requester) (v : Bool) (s : State) : Out State := .next (writeOwnerLock r v s)

/-- A write of HANDLE_SEL captures a handle (R429). A free handle reads 0 throughout. -/
def writeHandleSel (h : Nat) (s : State) : State :=
  let s := s.set Reg.KEY_HANDLE_SEL h
  let e := (KV.get? s.handles h).getD ⟨0, .live, 0, 0, 0, 0, 0, 0, 0, 0, 0⟩
  let st := if (KV.get? s.handles h).isNone then 0 else match e.state with | .live => 1 | .orphan => 2
  let s := (((s.set Reg.KEY_KIND e.kind).set Reg.KEY_STATE st).set Reg.KEY_TAG e.tag).set Reg.KEY_RIGHTS e.rights
  let s := ((s.set Reg.KEY_PRIO e.prio).set Reg.KEY_PARENT e.parent).set Reg.KEY_GEN e.gen
  (s.set Reg.KEY_PGEN e.pgen).set Reg.KEY_CRED_ID (if e.kind = Kind.CREDENTIAL ∨ e.kind = Kind.FACTORY then e.credId else 0)

def execHandleSelWrite (h : Fin 2048) (s : State) : Out State := .next (writeHandleSel h s)

/-- BURNISH_PASS: every LIVE handle takes a new mask and every ORPHAN is freed; the pass took `ns` (R436). -/
def execBurnishPass (ns : Nat) (s : State) : Out State :=
  let s := { s with handles := s.handles.keep (fun _ (e : Handle) => e.state == HandleState.live) }
  let s := s.handles.keys.foldl (fun (s : State) (h : Nat) =>
    let (m, s) := s.fresh
    { s with handles := s.handles.mapV (fun k e => if k = h then { e with masked := e.value ^^^ m, mask := m } else e) }) s
  .next (((s.bump Reg.KEY_BURN_CNT).raiseTo Reg.KEY_BURN_MAX_NS ns).saveHandles)

/-- Reload at a release of reach FULL or wider (R435): every handle but the sessions' comes from MRAM. -/
def State.reloadHandles (s : State) : State :=
  let s := { s with handles := s.handlesMram }
  let s := (s.setFlag Reg.KEY_OWNER_LOCK s.ownerLockMram).set Reg.KEY_OWNER_ST (b2n s.ownedMram)
  { s with handles := s.handles.mapV (fun k e => if k ≠ 0 ∧ (KV.get? s.handles e.parent).elim true (fun p => p.gen != e.pgen) = true then { e with state := .orphan } else e) }

end Sys2Proof.Machine
end

