-- ==== Sys2Proof/Machine/PointCmds.lean ====
section
/-! DEFINITION. Commands on points and sessions, and the BACnet services (R382 to R394). -/

namespace Sys2Proof.Machine

/-! ## The guard on one point (R387, R388) -/

/-- Whether a requester may read an entry. -/
def State.mayReadPoint (s : State) (c : Creds) (n : Nat) : Bool :=
  c.may Right.READ && (c.tag == 0 || s.get (Reg.PT_TAG n) == c.tag || (s.get (Reg.PT_TAG n) == 0 && s.flag (Reg.PT_PUBLIC n)))

/-- Whether a requester may write VALUE of an entry. -/
def State.mayWritePoint (s : State) (c : Creds) (n : Nat) : Bool :=
  (if s.flag (Reg.PT_CMD n) then c.may Right.COMMAND else c.may Right.WRITE) && (c.tag == 0 || s.get (Reg.PT_TAG n) == c.tag)

/-- Whether a requester may command an entry's array. -/
def State.mayCommandPoint (s : State) (c : Creds) (n : Nat) : Bool :=
  c.may Right.COMMAND && (c.tag == 0 || s.get (Reg.PT_TAG n) == c.tag)

/-! ## Writes (R383, R384) -/

/-- POINT_VALUE_WRITE. -/
def pointValueWrite (r : Requester) (n : Nat) (v : Word) (q : Nat) (s : State) : State :=
  if isNarrow r then s.refuseSize r (ptAddr n 0)
  else if s.mayWritePoint (s.creds r) n then State.answered (ownedBy r n (writeValue (s.creds r) n v q s)) else s.guardRefuse r (ptAddr n 0)

def execPointValueWrite (r : Requester) (n : Fin 8192) (v : Word) (q : BitVec 8) (s : State) : Out State :=
  .next (pointValueWrite r n v q.toNat s)

/-- POINT_CONFIG_WRITE: tag 0 with WRITE and CONFIG, and PGD's LOCK open (R77). -/
def pointConfigWrite (r : Requester) (n k : Nat) (w : Word) (s : State) : State :=
  let c := s.creds r
  if isNarrow r then s.refuseSize r (ptAddr n k)
  else if c.tag = 0 ∧ c.may Right.WRITE = true ∧ c.may Right.CONFIG = true then
    if s.flag (Reg.HDR_LOCK Page.PGD) then (s.err Page.PGD Err.LOCKED_WR).answer Status.W_IGNORED []
    else State.answered (writePtConfig n k w s)
  else s.guardRefuse r (ptAddr n k)

def execPointConfigWrite (r : Requester) (n : Fin 8192) (k : Fin 8) (w : Word) (s : State) : Out State :=
  .next (pointConfigWrite r n k w s)

/-- EXEC WRITE_PRIO. -/
def pointWritePrio (r : Requester) (n p : Nat) (v : Word) (q : Nat) (s : State) : State :=
  if s.mayCommandPoint (s.creds r) n then State.answered (ownedBy r n (writePrio (s.creds r) n p v q s)) else s.guardRefuse r (Page.PGD * 4096)

def execWritePrio (r : Requester) (n : Fin 8192) (p : Nat) (v : Word) (q : BitVec 8) (s : State) : Out State :=
  .next (pointWritePrio r n p v q.toNat s)

/-- EXEC RELINQUISH. -/
def pointRelinquish (r : Requester) (n p : Nat) (s : State) : State :=
  if s.mayCommandPoint (s.creds r) n then State.answered (ownedBy r n (relinquish (s.creds r) n p s)) else s.guardRefuse r (Page.PGD * 4096)

def execRelinquish (r : Requester) (n : Fin 8192) (p : Nat) (s : State) : Out State := .next (pointRelinquish r n p s)

/-- A value of a remote device has come: the device is marked unreachable no longer (R211, log entry 21). -/
def State.deviceHeard (s : State) (n : Nat) : State :=
  if s.get (Reg.PT_BIND n) = 3 then { s with scan := { s.scan with bacDown := s.scan.bacDown.filter (· != s.get (Reg.PT_TARGET n) % 2 ^ 22) } } else s

/-- BINDING_DELIVERY: a CAN object, a remote object or a metering quantity gives its value. -/
def execBindingDelivery (n : Fin 8192) (v : Word) (q : BitVec 8) (s : State) : Out State :=
  .next (if s.ptIn n && s.get (Reg.PT_BIND n) != 1 then (s.deviceHeard n).deliverIn n v q.toNat else s)

/-! ## Sessions as PGD shows them -/

/-- EXEC END_SESSION: tag 0; the module sends CLOSE, whose reason the spec does not state. -/
def endSessionCmd (n : Nat) (s : State) : State :=
  let (v, s) := s.fresh
  (s.closeSession n (v % 256)).answer Status.OK []

def execEndSession (r : Requester) (n : Fin 512) (s : State) : Out State := .next (s.ownerExec r Page.PGD (endSessionCmd n))

/-- SESS_IDX_WRITE captures an entry into 0x064 to 0x06C. -/
def sessIdxWrite (n : Nat) (s : State) : State :=
  let s := (s.set Reg.PGD_SESS_IDX n).setFlag Reg.PGD_OWNER_RES (decide (504 ≤ n))
  match KV.get? s.sessions n with
  | none =>
    (((((s.set Reg.PGD_SESS_ID 0).set Reg.PGD_SESS_STATE 0).set Reg.PGD_SESS_TAG 0).set Reg.PGD_SESS_RIGHTS 0).set Reg.PGD_SESS_PRIO 0).set Reg.PGD_KEY_HANDLE 0
  | some e =>
    (((((s.set Reg.PGD_SESS_ID (Config.sessionId e.sid)).set Reg.PGD_SESS_STATE (if e.sc then 3 else 2)).set Reg.PGD_SESS_TAG e.tag).set Reg.PGD_SESS_RIGHTS e.rights).set
      Reg.PGD_SESS_PRIO e.prio).set Reg.PGD_KEY_HANDLE e.keyHandle

def execSessIdxWrite (n : Fin 512) (s : State) : Out State := .next (sessIdxWrite n s)

/-- LAST_REFUSE_READ: reading WHO clears the capture. -/
def lastRefuseRead (s : State) : State := { s with refUnread := false }

def execLastRefuseRead (s : State) : Out State := .next (lastRefuseRead s)

/-! ## BACnet (R391, R392) -/

/-- Whether a requester's BACnet messages are served: BACnet/IP only while BIP_EN is set, and communication on. -/
def State.bacnetServes (s : State) (r : Requester) : Bool :=
  s.bacnetOn && (match r with
    | .bacnetIp => s.flag Reg.PGD_BIP_EN
    | .session n => (KV.get? s.sessions n.val).elim false (·.sc)
    | _ => false)

/-- A requester as an addressee. -/
def State.bacAddr (s : State) (r : Requester) : Nat := (refWho s r).1 * 1024 + (refWho s r).2

/-- Whether a point has an object: an identifier of the type that the point maps to (R391). -/
def State.objExists (s : State) (n : Nat) : Bool :=
  s.get (Reg.PT_OBJ_ID n) != 0xFFFFFFFF && s.get (Reg.PT_TYPE n) != 0 && s.objFits n

/-- Whether the object of a point exists for a requester. -/
def State.objKnown (s : State) (c : Creds) (n : Nat) : Bool := s.objExists n && s.mayReadPoint c n

/-- The Device object's identifier. -/
def deviceId : Nat := 8 * 2 ^ 22 + Config.deviceInstance % 2 ^ 22

/-- Object_List as a requester sees it: the firmware's objects, and the points' that it may read (R392). -/
def State.objectList (s : State) (c : Creds) : List Nat :=
  deviceId :: Config.firmwareObjects ++ (s.pointsWith 1 (s.objKnown c)).map (fun n => s.get (Reg.PT_OBJ_ID n))

/-- The value of a property of a point's object: the identifier, the property's number, and its contents; none where the object has
no such property. -/
def State.property (s : State) (n : Nat) (p : BacProp) : Option (List Nat) :=
  let id := s.get (Reg.PT_OBJ_ID n)
  match p with
  | .presentValue => some [id, 85, s.get (Reg.PT_VALUE n)]
  | .statusFlags => some [id, 111, s.get (Reg.PT_QUAL n)]
  | .priorityArray => some (id :: 87 :: (List.range 16).foldr (fun p l =>
      (match KV.get? (s.paSlots (s.get (Reg.PT_PA n))) (p + 1) with
        | some x => if x.active then [1, x.value.toNat] else [0]
        | none => [0]) ++ l) [])
  | .relinquishDefault => some [id, 104, s.get (Reg.PT_RELINQ n)]
  | .objectIdentifier => some [id, 75, id]
  | .objectType => some [id, 79, id / 2 ^ 22]
  | .covIncrement => if s.ptAnalog n then some [id, 22, (KV.getD s.covInc n 0).toNat] else none
  | .objectList => none
  | .other k => some (id :: k :: Config.firmwareProperty id k)

/-- The value of a property of an object that the firmware serves, by its identifier: what the spec does not state of it is free. -/
def State.served (s : State) (c : Creds) (id : Nat) (p : BacProp) : List Nat :=
  match p with
  | .objectIdentifier => [id, 75, id]
  | .objectType => [id, 79, id / 2 ^ 22]
  | .objectList => if id = deviceId then id :: 76 :: s.objectList c else id :: 76 :: Config.firmwareProperty id 76
  | .presentValue => id :: 85 :: Config.firmwareProperty id 85
  | .statusFlags => id :: 111 :: Config.firmwareProperty id 111
  | .priorityArray => id :: 87 :: Config.firmwareProperty id 87
  | .relinquishDefault => id :: 104 :: Config.firmwareProperty id 104
  | .covIncrement => id :: 22 :: Config.firmwareProperty id 22
  | .other k => id :: k :: Config.firmwareProperty id k

/-- The guard on the object of a point: the error that a requester receives who may not read it, an unknown object for a tenant
(R389, R392). -/
def State.objError (s : State) (c : Creds) (n : Nat) : Option Nat :=
  if !s.objExists n then some 31
  else if s.mayReadPoint c n then none
  else some (if c.tag = 0 then 27 else 31)

/-- A BACnet access that the guard refuses: counted where the point has an object (R389), and answered. -/
def State.bacRefuse (s : State) (r : Requester) (n e : Nat) : State :=
  (if s.objExists n then s.refuse r (ptAddr n 0) else s).send .bacnetError 0 (s.bacAddr r) [e]

/-- The answer to a read of a property. -/
def State.readProp (r : Requester) (s : State) (x : BacObj × BacProp) : State :=
  let c := s.creds r
  let reply := fun (v : Option (List Nat)) => match v with
    | some l => s.send .bacnetReply 0 (s.bacAddr r) l
    | none => s.send .bacnetError 0 (s.bacAddr r) [32]
  match x.1 with
  | .point n => match s.objError c n with
    | some e => s.bacRefuse r n e
    | none => reply (s.property n x.2)
  | .device => reply (some (s.served c deviceId x.2))
  | .firmware i => match Config.firmwareObjects[i]? with
    | some id => reply (some (s.served c id x.2))
    | none => s.send .bacnetError 0 (s.bacAddr r) [31]

/-- READ_PROPERTY: each property, or the error of an unknown object. -/
def execReadProperty (r : Requester) (reads : List (BacObj × BacProp)) (s : State) : Out State :=
  .next (if s.bacnetServes r then reads.foldl (State.readProp r) s else s)

/-- One write of Present_Value or COV_Increment; NULL relinquishes the slot of the requester's priority. COV_Increment is the
owner's to set (DESIGN CHOICE, log entry 12). -/
def bacWrite (r : Requester) (n : Nat) (v : BacWrite) (s : State) : State :=
  let c := s.creds r
  let done := fun (x : Nat × State) => x.2.send (if x.1 = Status.OK then .bacnetReply else .bacnetError) 0 (s.bacAddr r) [s.get (Reg.PT_OBJ_ID n)]
  match s.objError c n with
  | some e => s.bacRefuse r n e
  | none => match v with
    | .covIncrement w =>
      if !s.ptAnalog n then s.send .bacnetError 0 (s.bacAddr r) [32]
      else if c.tag ≠ 0 ∨ c.may Right.WRITE = false then s.bacRefuse r n 40
      else done (Status.OK, { s with covInc := if w = 0 then KV.del s.covInc n else KV.put s.covInc n w })
    | .value w => if !s.mayWritePoint c n then s.bacRefuse r n 40 else done (writeValue c n w Qual.GOOD s)
    | .null => if !s.mayWritePoint c n then s.bacRefuse r n 40 else done (relinquish c n c.prio s)

def execWriteProperty (r : Requester) (writes : List (Fin 8192 × BacWrite)) (s : State) : Out State :=
  .next (if s.bacnetServes r then writes.foldl (fun (s : State) (e : Fin 8192 × BacWrite) => bacWrite r e.1 e.2 s) s else s)

/-- SUBSCRIBE_COV. -/
def execSubscribeCov (r : Requester) (n : Fin 8192) (confirmed : Bool) (s : State) : Out State :=
  .next (if !s.bacnetServes r then s
  else if let some e := s.objError (s.creds r) n then s.bacRefuse r n e
  else if !(s.creds r).may Right.SUBSCRIBE then s.bacRefuse r n 40
  else if !s.flag (Reg.PT_COV n) then s.send .bacnetError 0 (s.bacAddr r) [45]
  else
    let keep := s.covSubs.filter (fun c => !(c.client == r && c.point == n.val))
    ({ s with covSubs := keep ++ [CovSub.mk r n confirmed false (s.word (ptAddr n 0)) (s.get (Reg.PT_QUAL n))] }).send .bacnetReply 0 (s.bacAddr r) [s.get (Reg.PT_OBJ_ID n)])

/-- COV_NOTIFICATION: a subscription whose point has changed is told, unless stage S2 or its twin form pauses
notifications (R47), or the client may no longer read the point. -/
def execCovNotification (i : Nat) (s : State) : Out State :=
  .next (match s.covSubs[i]? with
  | none => s
  | some c =>
    if c.dirty && !s.notesPaused && s.bacnetServes c.client then
      let s := { s with covSubs := s.covSubs.set i { c with dirty := false, value := s.word (ptAddr c.point 0), qual := s.get (Reg.PT_QUAL c.point) } }
      if s.objKnown (s.creds c.client) c.point then
        s.send .covNotification (b2n c.confirmed) (s.bacAddr c.client) [s.get (Reg.PT_OBJ_ID c.point), s.get (Reg.PT_VALUE c.point), s.get (Reg.PT_QUAL c.point)]
      else s
    else s)

/-- WHO_IS, or Who-Has of an object. -/
def execWhoIs (r : Requester) (obj : Option (Fin 8192)) (s : State) : Out State :=
  .next (if !s.bacnetServes r then s
  else match obj with
    | none => s.send .iAm 0 (s.bacAddr r) [deviceId]
    | some n => if s.objKnown (s.creds r) n then s.send .iAm 1 (s.bacAddr r) [s.get (Reg.PT_OBJ_ID n)] else s)

/-- DEVICE_COMMUNICATION_CONTROL, from tag 0 only. It is served while communication is off. -/
def execDeviceCommunicationControl (r : Requester) (on : Bool) (s : State) : Out State :=
  .next (if !({ s with bacnetOn := true }).bacnetServes r then s
  else if (s.creds r).tag = 0 then ({ s with bacnetOn := on }).send .bacnetReply 0 (s.bacAddr r) []
  else s.send .bacnetError 0 (s.bacAddr r) [])

/-- TIME_SYNCHRONIZATION is accepted and ignored. -/
def execTimeSynchronization (_ : Requester) (s : State) : Out State := .next s

/-- BACNET_SC_CONNECT: a usable SC_CERT handle gives the connection its tag, rights and priority, a session entry and a
key handle. In Tack room only owner Billet sessions are accepted (R65). -/
def execBacnetScConnect (x : ScConnect) (s : State) : Out State :=
  .next (match KV.get? s.handles x.handle.val with
  | none => s
  | some e =>
    if e.kind = Kind.SC_CERT ∧ s.usable x.handle = true ∧ s.flag Reg.RST_TACK = false then
      match s.freeEntry e.tag, s.freeSessionHandle with
      | some n, some k =>
        let (v, s) := s.fresh
        let s := s.putHandle k ⟨Kind.SESSION, .live, x.handle, 0, 0, e.tag, e.rights, e.prio, 0, v, 0⟩
        let p : Port := match x.port with | .A => .A | .B => .B
        { s with
          sessions := KV.put s.sessions n
            ⟨true, 0, s.nextSid, e.tag, e.rights, e.prio, k, x.handle, p, p, 0, [], 0, [], [], 0, [], 0, 0, [], if x.failover then 2 else 1⟩
          nextSid := s.nextSid + 1 }
      | _, _ => s
    else s)

end Sys2Proof.Machine
end

