-- ==== Sys2Proof/Machine/MotionOps.lean ====
section
/-! DEFINITION. Operations of the motion engine (R258 to R280): plans and their entries, splices, stops, faults,
groups, gearing and step entries. Instants are TAI nanoseconds less the sum of time steps, so that they keep their
physical place (R264). -/

namespace Sys2Proof.Machine

def State.axis (s : State) (n : Nat) : Axis := KV.getD s.axes n Axis.initial
def State.setAxis (s : State) (n : Nat) (x : Axis) : State := { s with axes := KV.put s.axes n x }
def State.modAxis (s : State) (n : Nat) (g : Axis → Axis) : State := s.setAxis n (g (s.axis n))

/-! Codes of AX_STAT.STATE. -/
namespace AxState
abbrev DISABLED : Nat := 0
abbrev STANDSTILL : Nat := 1
abbrev MOVING : Nat := 2
abbrev STOPPING : Nat := 3
abbrev STOPPED : Nat := 4
abbrev FAULT : Nat := 5
end AxState

def isStepAxis (n : Nat) : Bool := decide (16 ≤ n)
def isCarAxis (n : Nat) : Bool := decide (n < 8)

/-- The limits of an axis, with `fineBits` fractional bits: V_MAX, A_MAX, J_MAX. -/
def State.limits (s : State) (n : Nat) : Int × Int × Int :=
  (max 1 ((s.get (Reg.AXIS_V_MAX n) : Int) * fineV), max 1 (s.get (Reg.AXIS_A_MAX n)) * fine1, max 1 (s.get (Reg.AXIS_J_MAX n)) * fine1)

/-! ## Entries (R260, R261) -/

/-- An entry leaves a plan: a pool entry becomes FREE, a host entry DONE. -/
def State.releaseEntry (s : State) (e : Nat) : State :=
  s.set (Reg.SEG_STATE e) (if e < s.get Reg.MOT_PLAN_BASE then 3 else 0)

/-- Release the entries of segments. -/
def State.releaseSegs (s : State) (l : List Seg) : State :=
  l.foldl (fun s g => match g.entry with | some e => s.releaseEntry e | none => s) s

/-- `k` free pool entries, searched upwards from `i`. -/
def State.freePool (s : State) : Nat → Nat → Nat → List Nat
  | _, _, 0 => []
  | _, 0, _ + 1 => []
  | i, f + 1, k + 1 => if s.get (Reg.SEG_STATE i) = 0 then i :: s.freePool (i + 1) f k else s.freePool (i + 1) f (k + 1)

/-- Free pool entries, for MOT.POOL_FREE. -/
def State.poolFree (s : State) : Nat :=
  4096 - s.get Reg.MOT_PLAN_BASE - (s.mem.filter (fun e => decide (0x05000000 + 32 * s.get Reg.MOT_PLAN_BASE ≤ e.1) && decide (e.1 < 0x05020000)
    && e.1 % 32 == 0 && getBits e.2 31 30 != 0)).length

/-- Write a segment into a pool entry, TENTATIVE. -/
def State.writeEntry (s : State) (n : Nat) (g : Seg) (e next : Nat) (last : Bool) : State :=
  let s := ((((s.set (Reg.SEG_STATE e) 1).setFlag (Reg.SEG_LAST e) last).set (Reg.SEG_AXIS e) n).set (Reg.SEG_NEXT e) next).set (Reg.SEG_DT e) (g.h / 1000)
  ((s.setWS (Reg.SEG_POS e) g.p1).setS (Reg.SEG_VEL e) g.v1).setW (Reg.SEG_SEQ e) 0

/-- Write segments into entries. -/
def State.writeEntries (s : State) (n : Nat) : List Seg → List Nat → State
  | g :: gs, e :: es => (s.writeEntry n g e (es.headD 0) gs.isEmpty).writeEntries n gs es
  | _, _ => s

/-! ## Plans -/

/-- Round a profile's knots to the formats of R259 and chain them into segments from a start point. The last knot is at
rest, at `fin` where it is given. -/
def State.layKnots (s : State) (t : Int) (st : Point) (fin : Option Int) : Nat → List (Int × Int × Int) → List Seg × State
  | _, [] => ([], s)
  | us, (kt, kp, kv) :: rest =>
    let (us', s) := s.quot (kt * 1000000) (2 ^ fineBits)
    let (p, s) := s.quot kp (2 ^ 80)
    let (v, s) := s.quot kv (2 ^ 88)
    let p := if rest.isEmpty then fin.getD p else p
    let v := if rest.isEmpty then 0 else v
    if us'.toNat ≤ us ∧ rest.isEmpty = false then s.layKnots t st fin us rest
    else
      let g : Seg := ⟨t, max 1 (us'.toNat - us) * 1000, st.p, st.v, p, v, none, false, false, false⟩
      let (gs, s) := s.layKnots (t + g.h) ⟨p, v, 0⟩ fin us'.toNat rest
      (g :: gs, s)

/-- A point with `fineBits` fractional bits. -/
def Point.fine (x : Point) : Int × Int × Int := (x.p * fineP, x.v * fineV, x.a * fine1)

/-- The profile term of an axis at an instant. -/
def Axis.profile (x : Axis) (t : Int) : Point := if x.plan.isEmpty then ⟨x.base, 0, 0⟩ else trajAt x.plan x.base t

/-! ### The gear term (R271, R272) -/

/-- The master at an instant: the last sample, extrapolated with the velocity over the last two ticks. -/
def Gear.masterAt (g : Gear) (t : Int) : Int := g.now + (g.now - g.prev) * (t - g.tick) / 125000

/-- Whether the armed change has been crossed at a master value, and in which direction (R160): noted at a tick, or seen
ahead on the extrapolated master. -/
def Gear.crossedAt (g : Gear) (c : GearChange) (m : Int) : Option Bool :=
  match c.crossed with
  | some up => some up
  | none => if g.now < c.pos ∧ c.pos ≤ m then some true else if c.pos ≤ g.now ∧ m < c.pos then some false else none

/-- Where a master value stands against the armed change: nothing before the change, else the direction, the distance
beyond CHG_POS and what of it lies in the ramp. -/
def Gear.beyond (g : Gear) (m : Int) : Option (GearChange × Int × Int × Int) :=
  match g.chg with
  | none => none
  | some c => match g.crossedAt c m with
    | none => none
    | some up =>
      let d : Int := if up then 1 else -1
      let x := d * (m - c.pos)
      if x < 0 then none else some (c, d, x, min x c.ramp)

/-- The gear term at a master value: the integral of the ratio, floor of 2^-16 units. -/
def Gear.value (g : Gear) (m : Int) : Int :=
  match g.beyond m with
  | none => g.term + (m - g.ref) * g.num / (g.den : Int)
  | some (c, d, x, x') =>
    let r : Int := max 1 (c.ramp : Int)
    let n := ((c.pos - g.ref + d * x') * g.num * c.den + d * (x - x') * c.num * g.den) * (2 * r) + d * (c.num * g.den - g.num * c.den) * x' ^ 2
    g.term + n / ((g.den : Int) * c.den * 2 * r)

/-- The gear term at an instant: position, velocity and acceleration from the master's, whose velocity is taken as constant
between ticks. -/
def Gear.point (g : Gear) (t : Int) : Point :=
  if t < g.from_ then ⟨0, 0, 0⟩
  else
    let m := g.masterAt t
    let w := (g.now - g.prev) * 8000
    let va : Int × Int := match g.beyond m with
      | none => (divRoundEven (w * g.num) (256 * g.den), 0)
      | some (c, d, x, _) =>
        if x < (c.ramp : Int) then
          let k := g.den * c.den * c.ramp
          (divRoundEven (w * (g.num * c.den * c.ramp + (c.num * g.den - g.num * c.den) * x)) (256 * k),
           divRoundEven (w ^ 2 * d * (c.num * g.den - g.num * c.den)) (65536 * k))
        else (divRoundEven (w * c.num) (256 * c.den), 0)
    ⟨g.value m, va.1, va.2⟩

def Point.add (x y : Point) : Point := ⟨x.p + y.p, x.v + y.v, x.a + y.a⟩

/-- What the limiter withholds at an instant: between two outputs, in proportion. -/
def lagAt (t : Int) : List GearOut → Int
  | [] => 0
  | [x] => if x.at_ ≤ t then x.lag else 0
  | x :: y :: l =>
    if x.at_ ≤ t then x.lag
    else if y.at_ < t then y.lag + (x.lag - y.lag) * (t - y.at_) / (x.at_ - y.at_)
    else lagAt t (y :: l)

/-- The set-point of an axis at an instant (R271): the profile term and the gear term, less what the limiter withholds; an
output already computed stays as it is. -/
def Axis.setpoint (x : Axis) (t : Int) : Point :=
  let p := x.profile t
  let g := x.gear
  let geared : Point :=
    match g.outs.find? (fun o => o.at_ == t) with
    | some o => o.out
    | none =>
      let q := p.add (g.point t)
      let q : Point := { q with p := q.p - lagAt t g.outs }
      match g.outs.find? (fun o => decide (o.at_ ≤ t)) with
      | some o => if o.lag = 0 then q else { q with v := o.out.v, a := o.out.a }
      | none => q
  if !g.on then p
  else match g.until_ with
    | some (u, f) => if u ≤ t then { p with p := p.p + f } else geared
    | none => geared

def State.setpoint (s : State) (n : Nat) (t : Int) : Point := (s.axis n).setpoint t

/-- The instant from which a change of an axis starts: CMT_END, not before now. -/
def State.changeAt (s : State) (n : Nat) : Int := max (s.axis n).cmt s.unow

/-! ### Standstill current (R277) -/

/-- The earliest instant of motion after a restore of the current made now. -/
def State.restoreAt (s : State) (n : Nat) : Int :=
  if s.flag (Reg.AXIS_IDLE_RED n) then s.unow + s.get (Reg.AXIS_RESTORE_US n) * 1000 else s.unow

/-- A reduced current is restored. -/
def State.restoreCurrent (s : State) (n : Nat) : State :=
  if s.flag (Reg.AXIS_IDLE_RED n) then
    let s := s.setFlag (Reg.AXIS_IDLE_RED n) false
    let s := s.modAxis n (fun x => { x with current := 100 })
    if isStepAxis n then writeOutBit (s.get (Reg.AXIS_CUR_CH n)) false s else s
  else s

/-- PLAN_END and TENT of an axis. -/
def State.showPlan (s : State) (n : Nat) : State :=
  let x := s.axis n
  let s := match planEnd x.plan with
    | some t => if x.cmt < t then s.setW (Reg.AXIS_PLAN_END n) (s.taiOf t) else s
    | none => s
  s.setFlag (Reg.AXIS_TENT n) (x.plan.any (fun g => !g.com))

/-- Cut a plan at an instant: what starts there or later is discarded. -/
def State.cutPlan (s : State) (n : Nat) (t : Int) : State :=
  let x := s.axis n
  let s := s.releaseSegs (x.plan.filter (fun g => decide (t ≤ g.t0)))
  s.modAxis n (fun x => { x with plan := x.plan.filter (fun g => decide (g.t0 < t)) })

/-- Append segments after a cut at their start: the new plan of an axis. It supersedes a stop. -/
def State.putPlan (s : State) (n : Nat) (t : Int) (gs : List Seg) (k : RunKind) : State :=
  let s := (s.restoreCurrent n).cutPlan n t
  let s := s.modAxis n (fun x => { x with plan := x.plan ++ gs, kind := k, stopping := false })
  let s := (s.bump (Reg.AXIS_PLAN_CNT n)).setW (Reg.AXIS_PLAN_END n) (s.taiOf t)
  let s := (s.setFlag (Reg.AXIS_RESUME_OK n) false).setWS (Reg.AXIS_REM n) 0
  (s.showPlan n).set (Reg.AXIS_STATE n) AxState.MOVING

/-- Give the segments of a plan pool entries; none where too few are free, counting those that the cut at `t` frees
(R261). -/
def State.planIntoPool (s : State) (n : Nat) (t : Int) (gs : List Seg) (k : RunKind) : Option State :=
  let s1 := s.cutPlan n t
  let base := s.get Reg.MOT_PLAN_BASE
  let es := s1.freePool base (4096 - base) gs.length
  if es.length < gs.length then none
  else
    let s1 := s1.writeEntries n gs es
    some (s1.putPlan n t ((gs.zip es).map (fun (e : Seg × Nat) => { e.1 with entry := some e.2 })) k)

/-- A re-plan that finds too few entries (R261). -/
def State.planFailed (s : State) (ns : List Nat) : State :=
  ((ns.foldl (fun (s : State) n => s.err (Page.AXIS n) Err.AXIS_POOL_EMPTY) s).err Page.MOT Err.MOT_POOL_EMPTY).bump Reg.MOT_PLAN_FAIL

/-- Minimum-time plan from the state at the change instant to rest at a position (R266); none where the pool is too small.
From rest it waits for a current that is being restored (R277). -/
def State.replanTo (s : State) (n : Nat) (target : Int) (k : RunKind) : Option State :=
  let x := s.axis n
  let t := if x.plan.isEmpty then max (s.changeAt n) (s.restoreAt n) else s.changeAt n
  let pt := x.profile t
  let (vm, am, jm) := s.limits n
  let (p, v, a) := pt.fine
  if pt.p = target ∧ pt.v = 0 ∧ pt.a = 0 then some (s.putPlan n t [] k)   -- an empty plan
  else
    let (gs, s') := s.layKnots t pt (some target) 0 (knotsOf (p, v, a) 0 (minTime (target * fineP - p) v a vm am jm))
    s'.planIntoPool n t gs k

/-! ## Chains (R263, R268) -/

/-- The entries of a chain from a head, at most `fuel`, and the entry that fails check 1, if one does: it lies outside the
host area, is neither FREE nor DONE, or is the last that may follow and has no LAST. -/
def State.chainEntries (s : State) : Nat → Nat → List Nat × Option Nat
  | _, 0 => ([], none)
  | e, f + 1 =>
    let st := s.get (Reg.SEG_STATE e)
    if s.get Reg.MOT_PLAN_BASE ≤ e ∨ (st ≠ 0 ∧ st ≠ 3) then ([], some e)
    else if s.flag (Reg.SEG_LAST e) then ([e], none)
    else if f = 0 then ([], some e)
    else let r := s.chainEntries (s.get (Reg.SEG_NEXT e)) f; (e :: r.1, r.2)

/-- The segments of host entries from a start instant and point. -/
def State.chainSegs (s : State) (rel : Int) (t : Int) (st : Point) : List Nat → List Seg
  | [] => []
  | e :: es =>
    let p := s.getWS (Reg.SEG_POS e) + (if s.flag (Reg.SEG_REL e) then rel else 0)
    let v := s.getS (Reg.SEG_VEL e)
    let g : Seg := ⟨t, s.get (Reg.SEG_DT e) * 1000, st.p, st.v, p, v, some e, s.flag (Reg.SEG_EVT e), false, false⟩
    g :: s.chainSegs rel (t + g.h) ⟨p, v, 0⟩ es

/-- Check 2, and check 3 of a segment's end knot (R263): the failing code, 0 where it passes. -/
def State.knotCheck (s : State) (n : Nat) (g : Seg) : Nat :=
  if g.h = 0 ∨ 60000000000 < g.h then 2 else if s.get (Reg.AXIS_V_MAX n) < g.v1.natAbs then 3 else 0

/-- Checks 3 to 5 of a segment (R263): the failing code, 0 where it passes. -/
def State.segCheck (s : State) (n : Nat) (g : Seg) : Nat :=
  let vm : Int := s.get (Reg.AXIS_V_MAX n)
  let am : Int := s.get (Reg.AXIS_A_MAX n)
  let jm : Int := s.get (Reg.AXIS_J_MAX n)
  let h3 : Int := 65536 * (g.h : Int) ^ 3
  let a0 := g.accNum 0
  let a1 := g.accNum g.h
  let inner := decide (a0 < 0 ∧ 0 < a1 ∨ 0 < a0 ∧ a1 < 0)
  let vi := if inner then (g.velNum ((g.h : Int) * a0 / (a0 - a1))) / (256 * (g.h : Int) ^ 3) else 0
  if vm < g.v0.natAbs ∨ vm < g.v1.natAbs ∨ vm < vi.natAbs then 3
  else if am * h3 < a0.natAbs ∨ am * h3 < a1.natAbs then 4
  else if jm * h3 < g.jerkNum.natAbs then 5
  else 0

/-- The first failing entry and its code among segments: of the first the end knot alone where its start knot is not known. -/
def State.segsCheck (s : State) (n : Nat) (open_ : Bool) : List Seg → Option (Nat × Nat)
  | [] => none
  | g :: gs =>
    let k := s.knotCheck n g
    let c := if k = 0 ∧ open_ = false then s.segCheck n g else k
    if c = 0 then s.segsCheck n false gs else some (g.entry.getD 0, c)

/-- Checks 1 to 5 of a chain (R263): its first failing entry and code. The first segment's start knot is known only at
the splice (check 6); REL positions count from the axis's position at the instant given, as its plan stands. -/
def State.chainCheck (s : State) (n head : Nat) (t : Int) : Option (Nat × Nat) :=
  let r := s.chainEntries head 4096
  match s.segsCheck n true (s.chainSegs ((s.axis n).profile t).p 0 ⟨0, 0, 0⟩ r.1) with
  | some e => some e
  | none => r.2.map (fun e => (e, 1))

/-- Note a failed chain check (R263). -/
def State.chainFailed (s : State) (n : Nat) (e : Nat × Nat) : State :=
  (s.set (Reg.AXIS_CHAIN_ERR_CODE n) e.2).set (Reg.AXIS_CHAIN_ERR_ENTRY n) e.1

/-- The entries of a running chain become TENTATIVE, with the axis that holds them. -/
def State.markChain (s : State) (n : Nat) (gs : List Seg) : State :=
  gs.foldl (fun s g => match g.entry with
    | some e => ((s.set (Reg.SEG_STATE e) 1).set (Reg.SEG_AXIS e) n).setW (Reg.SEG_SEQ e) 0
    | none => s) s

/-- The rest of an interrupted chain is given up: its entries return to DONE. -/
def State.dropChain (s : State) (n : Nat) : State :=
  let s := (s.axis n).chainRest.foldl (fun (s : State) e => s.releaseEntry e) s
  s.modAxis n (fun x => { x with chainRest := [], chainEnd := none })

/-- Splice a chain (R268), with check 6: at the later of the start instant and CMT_END, or later still where a current is
being restored (R277). The answer says whether it was spliced; `slot` says that a slot starts it. -/
def State.spliceChain (s : State) (n head : Nat) (start noSooner : Int) (slot : Bool) : State × Bool :=
  let cmt := max start (s.axis n).cmt
  let t := max cmt (max noSooner (s.restoreAt n))
  match s.chainEntries head 4096 with
  | (_, some e) => (s.chainFailed n (e, 1), false)
  | (es, none) =>
    let pt := (s.axis n).profile t
    let gs := s.chainSegs pt.p t pt es
    match s.segsCheck n false (gs.take 1) with
    | some (e, _) => (s.chainFailed n (e, 6), false)
    | none =>
      let s := if start < cmt then (s.bump (Reg.AXIS_START_LATE n)).irq (Page.AXIS n) Irq.AXIS_LATE else s
      let s := if cmt < t then s.bump (Reg.AXIS_START_LATE n) else s
      let s := ((s.dropChain n).markChain n gs).putPlan n t gs .chain
      let s := s.modAxis n (fun x => { x with relBase := pt.p, chainFrom := t, slotChain := slot })
      (s.setFlag (Reg.AXIS_IN_CHAIN n) true, true)

/-! ## Stops (R274, R275) -/

/-- Deceleration and jerk of a stop. -/
def State.stopLimits (s : State) (n : Nat) (quick : Bool) : Int × Int :=
  let (_, _, jm) := s.limits n
  if quick then (max 1 (s.get (Reg.AXIS_QS_A n)) * fine1, 8 * jm) else (max 1 (s.get (Reg.AXIS_STOP_A n)) * fine1, jm)

/-- A frozen gear term becomes part of the position. -/
def State.foldGear (s : State) (n : Nat) (f : Int) : State :=
  let s := s.modAxis n (fun x => { x with
    base := x.base + f
    plan := x.plan.map (fun (g : Seg) => { g with p0 := g.p0 + f, p1 := g.p1 + f })
    gear := { x.gear with on := false, until_ := none, outs := [] } })
  (s.setWS (Reg.AXIS_GEAR_LAG n) 0).setFlag (Reg.AXIS_GEAR_LIM n) false

/-- Freeze the gear term from an instant on (R273, R274): what it then adds to the profile stands in the position until the
next ENGAGE. A change already crossed is over. -/
def State.freezeGear (s : State) (n : Nat) (t : Int) : State :=
  let x := s.axis n
  let s := s.setFlag (Reg.AXIS_GEARED n) false
  if !x.gear.on || x.gear.until_.isSome then s
  else
    let f := (x.setpoint t).p - (x.profile t).p
    let crossed := x.gear.chg.any (fun c => c.crossed.isSome)
    let s := s.modAxis n (fun x => { x with gear := { x.gear with
      until_ := some (t, f), outs := x.gear.outs.filter (fun o => decide (o.at_ ≤ t)), chg := if crossed then none else x.gear.chg } })
    let s := if crossed then (s.setFlag (Reg.AXIS_CHG_ARMED n) false).setFlag (Reg.AXIS_RAMPING n) false else s
    if t ≤ s.unow then s.foldGear n f else s

/-! ## Frames pending on a CAN channel (R417, R422) -/

def State.can (s : State) (c : Nat) : CanChan := KV.getD s.cans c ⟨[], [], []⟩
def State.modCan (s : State) (c : Nat) (g : CanChan → CanChan) : State := { s with cans := KV.put s.cans c (g (s.can c)) }

/-- The bytes of a number, least significant first. -/
def leBytes : Nat → Nat → List Nat
  | 0, _ => []
  | k + 1, v => v % 256 :: leBytes k (v / 256)

/-- The words that a frame adds to a twin's output digest (R450). -/
def frameWords (id : Nat) : List Nat → List Word
  | [] => [BitVec.ofNat 32 id]
  | d :: ds => frameWords ((id * 256 + d) % 2 ^ 32) ds

/-- Queue a frame on a channel, in order of entry; a unit in RESYNC sends none (R443). -/
def State.canPush (s : State) (c : Nat) (f : CanFrame) : State :=
  if s.get Reg.TWN_STATE = TwinState.RESYNC then s
  else
    let s := s.modCan c (fun x => { x with tx := x.tx ++ [f] })
    if s.inPair then { s with twin := { s.twin with roundOut := s.twin.roundOut ++ frameWords f.id f.data } } else s

/-- The current limit of a door axis (R310), mA: by the last move, reduced at rest (R277). -/
def State.doorIlim (s : State) (n : Nat) : Nat :=
  let close := s.get (Reg.CAR_ILIM_CLOSE n)
  let lim := (KV.getD s.cars n Car.initial).door.lim
  let v := if lim = 0 then close else if lim = 1 then close * s.get (Reg.CAR_REV_ILIM_PCT n) / 100 else s.get (Reg.CAR_ILIM_OPEN n)
  v * (s.axis (8 + n)).current / 100

/-- A set-point frame (R422) to a node. -/
def setpointFrame (n node : Nat) (p : Point) (t count flags ilim : Nat) : CanFrame :=
  ⟨true, false, true, true, 13, 0x200 + node,
    leBytes 8 (ofSigned 64 p.p) ++ leBytes 4 (ofSigned 32 p.v) ++ leBytes 4 (ofSigned 32 p.a) ++ leBytes 8 t
      ++ [count % 256, flags] ++ leBytes 2 ilim ++ [0, 0, 0, 0], some n, 0, 0⟩

/-- The node that an axis serves: a door axis serves one side at a time (R308). -/
def State.axisNode (s : State) (n : Nat) : Nat :=
  if isCarAxis n then s.get (Reg.AXIS_NODE n)
  else if s.flag (Reg.CAR_SIDE_REAR (n - 8)) then s.get (Reg.CAR_REAR_NODE (n - 8)) else s.get (Reg.AXIS_NODE n)

/-- The set-point frame of a car or door axis (R279): position, velocity and acceleration for its instant, the instant,
the count, the flags SUPERSEDE (1) and STOP (2), and the current limit of a door axis. -/
def State.sendSetpoint (s : State) (n : Nat) (t : Int) (flags : Nat) : State :=
  let x := s.axis n
  let f := setpointFrame n (s.axisNode n) (s.setpoint n t) (s.taiOf t) x.frames flags (if isCarAxis n then 0xFFFF else s.doorIlim (n - 8))
  (s.modAxis n (fun x => { x with frames := x.frames + 1 })).canPush (s.get (Reg.AXIS_CAN_CH n)) f

/-- Whether an entry lies in the host area. -/
def State.hostEntry (s : State) (e : Nat) : Bool := decide (e < s.get Reg.MOT_PLAN_BASE)

/-- The host entry that holds a segment's end knot. -/
def State.hostKnot (s : State) (g : Seg) : Option Nat := g.entry.filter s.hostEntry

/-- What a chain leaves when it is interrupted at an instant (R275): the end of the interrupted segment with its EVT, and
the entries after it. On the way back to an interrupted knot, that knot is the one interrupted again. A stop or a fault during a
stop changes nothing. A target change of the same tick ends the chain, and its target is kept for REM (R274). -/
def State.keepChain (s : State) (n : Nat) (t : Int) : State :=
  let x := s.axis n
  if x.newTarget then
    let k := match x.kind with | .group g => RunKind.group g | _ => .target
    (s.dropChain n).modAxis n (fun x => { x with newTarget := false, kind := k })
  else if x.stopping || x.kind != RunKind.chain then s
  else
    let ahead := x.plan.filter (fun g => decide (t < g.t0 + (g.h : Int)))
    let run := match ahead.head? with
      | some g => if (s.hostKnot g).isSome then some g else (ahead.filter (fun g => (s.hostKnot g).isNone)).getLast?
      | none => x.plan.getLast?
    let rest := (ahead.filter (fun g => run.any (fun r => decide (r.t0 < g.t0)))).filterMap s.hostKnot
    s.modAxis n (fun x => { x with chainEnd := run.map (fun g => (g.p1, g.evt)), chainRest := rest })

/-- Release the entries of segments but for the rest of a chain that is kept. -/
def State.releaseBut (s : State) (n : Nat) (l : List Seg) : State :=
  s.releaseSegs (l.filter (fun g => !(g.entry.any (fun e => (s.axis n).chainRest.contains e))))

/-- Segments whose first output lies before an instant commit, with a sequence value (R265). -/
def State.commitTo (s : State) (n : Nat) (t : Int) : State :=
  let s := ((s.axis n).plan.filter (fun g => !g.com && decide (g.t0 < t))).foldl (fun (s : State) g =>
    let (q, s) := s.takeSeq
    let s := match g.entry with
      | some e => (s.set (Reg.SEG_STATE e) 2).setW (Reg.SEG_SEQ e) q
      | none => s
    (s.setW (Reg.AXIS_PLAN_SEQ n) q).irq (Page.AXIS n) Irq.AXIS_COMMIT) s
  s.modAxis n (fun x => { x with plan := x.plan.map (fun (g : Seg) => if g.t0 < t then { g with com := true } else g) })

/-- Begin a stop (R274): a car or door axis from its set-point at the tick, with a set-point sent at once that breaks the
commitment; a step axis from CMT_END. The gear term is frozen there, and its velocity is braked with the profile's. -/
def State.beginStop (s : State) (n : Nat) (quick fault : Bool) : State :=
  let t := if isStepAxis n then s.changeAt n else s.unow
  let sp := s.setpoint n t
  let s := (s.freezeGear n t).keepChain n t
  let x := s.axis n
  let pt : Point := ⟨(x.profile t).p, sp.v, sp.a⟩
  let (am, jm) := s.stopLimits n quick
  let (p, v, a) := pt.fine
  let (gs, s) := s.layKnots t pt none 0 (knotsOf (p, v, a) 0 ((toVel v a 0 am jm).filter (fun f => decide (0 < f.2))))
  let s := s.releaseBut n (x.plan.filter (fun g => decide (t ≤ g.t0)))
  let s := s.modAxis n (fun x => { x with
    plan := x.plan.filter (fun g => decide (g.t0 < t)) ++ gs
    stopping := true, toFault := fault, stop := none, resume := false
    starts := x.starts.filter (fun c => c.slot.isSome) })
  let s := (s.set (Reg.AXIS_STATE n) (if fault then AxState.FAULT else AxState.STOPPING)).showPlan n
  if isStepAxis n then s
  else ((s.modAxis n (fun x => { x with cmt := t })).commitTo n (t + 1)).sendSetpoint n t 3

/-- REM and RESUME_OK at the end of a stop or a fault (R275). -/
def State.setRem (s : State) (n : Nat) : State :=
  let x := s.axis n
  let tgt := match x.chainEnd with | some e => e.1 | none => s.getWS (Reg.AXIS_TARGET n)
  (s.setWS (Reg.AXIS_REM n) (tgt - s.getWS (Reg.AXIS_SP_POS n))).setFlag (Reg.AXIS_RESUME_OK n) true

/-- The end of every motion of an axis: its plan is over and the axis rests. -/
def State.restAxis (s : State) (n : Nat) : State :=
  let x := s.axis n
  let p := (x.profile s.unow).p
  let s := s.releaseBut n x.plan
  let s := s.modAxis n (fun x => { x with plan := [], base := p, stopping := false })
  (s.setFlag (Reg.AXIS_TENT n) false).setFlag (Reg.AXIS_IN_CHAIN n) false

/-! ## Faults (R276) -/

/-- Which faults send a stop: QUICK_STOP (true), STOP (false), or none. -/
def faultStop (code : Nat) : Option Bool :=
  if code = 1 ∨ code = 7 then some true else if code = 6 then some false else none

/-- An axis enters FAULT. Where no stop is sent it rests at once, and its position is taken from the drive or the timer
(R276). -/
def State.axisFault (s : State) (n code : Nat) (data : List Word) : State :=
  if s.get (Reg.AXIS_STATE n) = AxState.DISABLED ∨ s.get (Reg.AXIS_STATE n) = AxState.FAULT then s
  else
    let s := (s.set (Reg.AXIS_FAULT n) code).modAxis n (fun x => { x with causeLive := true, offBus := false })
    let s : State := match faultStop code with
      | some q => s.beginStop n q true
      | none =>
        let s := (s.freezeGear n s.unow).keepChain n s.unow
        let s := s.modAxis n (fun x => { x with starts := x.starts.filter (fun c => c.slot.isSome), stop := none, resume := false })
        ((s.restAxis n).set (Reg.AXIS_STATE n) AxState.FAULT).setRem n
    (s.irq (Page.AXIS n) Irq.AXIS_FAULT).record sevFault (Page.AXIS n) 1 code data

/-! ## Step entries (R278) -/

/-- Steps between two instants, ns, within a piece on which the position is monotone: `f` is its floor. Each is the first
nanosecond at or after its crossing, with its direction. -/
def stepsBetween (f : Int → Int) : Nat → Int → Int → List (Int × Bool)
  | 0, lo, hi => List.replicate (f hi - f lo).natAbs (hi, decide (f lo < f hi))
  | k + 1, lo, hi =>
    if f lo = f hi then []
    else if hi ≤ lo + 1 then List.replicate (f hi - f lo).natAbs (hi, decide (f lo < f hi))
    else let mid := (lo + hi) / 2; stepsBetween f k lo mid ++ stepsBetween f k mid hi

/-- Steps along successive instants, monotone between each two. -/
def stepsAlong (f : Int → Int) : List Int → List (Int × Bool)
  | a :: b :: l => stepsBetween f 40 a b ++ stepsAlong f (b :: l)
  | _ => []

/-- Insert an instant into a rising list. -/
def insertAsc (t : Int) : List Int → List Int
  | [] => [t]
  | x :: l => if t < x then t :: x :: l else if t = x then x :: l else x :: insertAsc t l

/-- The instants between which a plan's position is monotone: those given, the knots and the turning points between. -/
def monoPieces (plan : List Seg) (lo hi : Int) : List Int :=
  (plan.flatMap (fun g => g.turns.map (fun x => g.t0 + x))).foldl
    (fun l t => if lo < t ∧ t < hi then insertAsc t l else l) [lo, hi]

/-- The floor of a step axis's profile term at an instant, in steps, from the cubic itself. -/
def Axis.floorAt (x : Axis) (t : Int) : Int :=
  match segAt x.plan t with
  | none => (x.profile t).p / 65536
  | some g => if g.t0 + (g.h : Int) ≤ t then g.p1 / 65536 else g.floorAt (t - g.t0)

/-- Every microsecond between two instants, and their ends. -/
def microPieces (lo hi : Int) : List Int :=
  (List.range ((hi - lo - 1).toNat / 1000 + 1)).map (fun (k : Nat) => lo + 1000 * (k : Int)) ++ [hi]

/-- The steps of an axis from one output instant to the next (R278). The sum of a geared axis is taken as monotone within a
microsecond (DESIGN CHOICE, log entry 97). -/
def Axis.stepsTo (x : Axis) (lo hi : Int) : List (Int × Bool) :=
  if x.gear.on then
    stepsAlong (fun t => if t = lo then x.stepPos else (x.setpoint t).p / 65536) (microPieces lo hi)
  else stepsAlong (fun t => if t = lo then x.stepPos else x.floorAt t) (monoPieces x.plan lo hi)

/-- Whether a step is the last of the plan: no knot after it lies elsewhere, and no gear runs. -/
def Axis.lastStep (x : Axis) (t k : Int) : Bool :=
  !x.gear.on && (x.plan.filter (fun g => decide (t < g.t0 + (g.h : Int)))).all (fun g => g.p1 / 65536 == k)

/-- Place one step: on the nearest instant of the 4 ns grid, at least 1 000 units after the step before. An entry that cannot be
timed from that step is held back, INTERVAL 0 for now, to be timed from its arrival. -/
def State.placeStep (s : State) (n : Nat) (e : Int × Bool) : State :=
  let x := s.axis n
  let at' := max ((e.1 + 1) / 4) (x.stepAt + 1000)
  let iv := at' - x.stepAt
  let held := x.stepLast || decide (16777215 < iv)
  let pos := if e.2 then x.stepPos + 1 else x.stepPos - 1
  let last := x.lastStep (at' * 4) pos
  let w := BitVec.ofNat 32 (b2n e.2 * 2 ^ 31 + b2n last * 2 ^ 30 + (if held then 0 else iv.toNat))
  s.modAxis n (fun x => { x with
    stepAt := at', stepLast := last, stepPos := pos, stepDue := x.stepDue ++ [(at' * 4, e.2)], stepHeld := x.stepHeld ++ [(at' * 4, w)] })

/-- Whether an entry waits for the millisecond before it is due. -/
def entryWaits (now : Int) (e : Int × Word) : Bool := getBits e.2 23 0 == 0 && decide (now + 1000000 < e.1)

/-- Send the step entries that may leave, up to the first that waits. The next downlink frames carry them, where one that is
timed from its arrival takes the interval that then remains. -/
def State.releaseHeld (s : State) (n : Nat) : State :=
  let l := (s.axis n).stepHeld
  let s := s.modAxis n (fun x => { x with stepHeld := l.dropWhile (fun e => !entryWaits s.unow e) })
  s.modTile (s.get (Reg.AXIS_STEP_TILE n)) (fun y => { y with
    stepOut := y.stepOut ++ (l.takeWhile (fun e => !entryWaits s.unow e)).map (fun e => (s.get (Reg.AXIS_STEP_TIMER n), e.2, e.1)) })

/-- Steps of an axis placed at or before an instant and counted as emitted by then. -/
def Axis.emittedBy (x : Axis) (t : Int) : Int :=
  x.stepPos - (x.stepDue.filter (fun e => decide (t < e.1))).foldl (fun a (e : Int × Bool) => a + (if e.2 then 1 else -1)) 0

end Sys2Proof.Machine
end

