-- ==== Sys2Proof/Machine/Update.lean ====
section
/-! DEFINITION. Field update: the manifest image, staging and refusal (R473 to R477), and the end of a trial (R482).
Activation itself resets the module and stands in Activation. -/

namespace Sys2Proof.Machine

/-- The guard of UPD commands: tag 0 with EXEC and CONFIG (R387). -/
def State.updExec (s : State) (r : Requester) (g : State → State) : State :=
  if (s.creds r).may Right.CONFIG then s.ownerExec r Page.UPD g
  else s.guardRefuse r (Page.UPD * 4096)

/-! ## Refusal (R476) -/

/-- Refused with a code. -/
def State.updRefused (s : State) (code : Nat) : State :=
  ((s.set Reg.UPD_REFUSE code).err Page.UPD Err.UPD_REFUSED).answer Status.E_STATE []

/-- A car of CAR_MAP that moves or whose door is not CLOSED. -/
def State.carBusy (s : State) : Bool :=
  (List.range 8).any (fun n => s.getBit Reg.LFT_CAR_MAP n && (s.get (Reg.AXIS_STATE n) != AxState.STANDSTILL || s.get (Reg.CAR_DOOR_STATE n) != 1))

/-- Conditions 1 to 5 of R476, those of them that apply in Tack room (R477): the first that fails, or 0. -/
def State.updBarred (s : State) : Nat :=
  let tack := s.flag Reg.RST_TACK
  if s.flag Reg.KEY_OWNER_LOCK then 1
  else if s.bkpLow then 2
  else if tack then 0
  else if s.get Reg.FIR_MODE ≠ 0 then 3
  else if s.carBusy then 4
  else if s.get Reg.PWR_MODE ≠ 0 then 5
  else 0

/-- Condition 7 (R483): the ACTIVE unit is refused while its partner runs the manifest it runs itself. -/
def State.updTwinBarred (s : State) : Bool :=
  !s.flag Reg.RST_TACK && s.get Reg.TWN_STATE == TwinState.ACTIVE && s.twin.peerParts == s.runManifest.parts.map (fun (p : Nat × Nat) => p.2)

/-! ## Staging (R475) -/

/-- Forget what is staged. -/
def State.unstage (s : State) : State :=
  let s := ((((s.set Reg.UPD_STATE 0).set Reg.UPD_STAGED_VER 0).setFlag Reg.UPD_REACH_FULL false).set Reg.UPD_TILE_DONE 0).set Reg.UPD_RCVD 0
  { s with upd := { s.upd with image := [], staged := none } }

/-- STAGE_BEGIN: the erase of the inactive bank starts. -/
def stageBegin (len : Nat) (s : State) : State :=
  if len = 0 ∨ 536870912 < len then s.answer Status.E_OP []
  else if s.updBarred ≠ 0 then s.updRefused s.updBarred
  else if s.flag Reg.UPD_STAGE_BUSY ∨ s.get Reg.UPD_STATE = 2 then s.updRefused 6
  else
    let s := (((s.unstage.set Reg.UPD_REFUSE 0).setFlag Reg.UPD_STAGE_BUSY true).set Reg.UPD_STAGE_LEN len).setFlag Reg.UPD_PREV_VALID false
    ({ s with upd := { s.upd with erasing := true, prev := none } }).answer Status.OK []

def execStageBegin (r : Requester) (len : Nat) (s : State) : Out State := .next (s.updExec r (stageBegin len))

/-- STAGE_ERASE_DONE. -/
def execStageEraseDone (s : State) : Out State :=
  .next (if s.upd.erasing then { (s.setFlag Reg.UPD_STAGE_BUSY false) with upd := { s.upd with erasing := false } } else s)

/-- Write bytes into the image. -/
def putBytes (m : KV Byte) (o : Nat) : List Byte → KV Byte
  | [] => m
  | b :: bs => putBytes (KV.put m o b) (o + 1) bs

/-- STAGE_DATA. -/
def stageData (ofs : Nat) (data : List Byte) (s : State) : State :=
  if ofs % 4 ≠ 0 ∨ s.get Reg.UPD_STAGE_LEN < ofs + data.length then s.answer Status.E_OP []
  else if s.get Reg.UPD_STATE ≠ 0 ∨ s.flag Reg.UPD_STAGE_BUSY = true then s.updRefused 6
  else
    let im := putBytes s.upd.image ofs data
    (({ s with upd := { s.upd with image := im } }).set Reg.UPD_RCVD im.length).answer Status.OK []

def execStageData (r : Requester) (ofs : Nat) (data : List Byte) (s : State) : Out State := .next (s.updExec r (stageData ofs data))

/-- STAGE_END: refused unless every byte has been written; the verification starts. -/
def stageEnd (s : State) : State :=
  if s.get Reg.UPD_STATE ≠ 0 ∨ s.flag Reg.UPD_STAGE_BUSY = true ∨ s.get Reg.UPD_STAGE_LEN = 0 ∨ s.upd.image.length ≠ s.get Reg.UPD_STAGE_LEN then s.updRefused 6
  else ({ (s.setFlag Reg.UPD_STAGE_BUSY true) with upd := { s.upd with verifying := true } }).answer Status.OK []

def execStageEnd (r : Requester) (s : State) : Out State := .next (s.updExec r stageEnd)

/-! ## Verification (R473 to R475) -/

/-- The big-endian number of `n` bytes from `o`. -/
def imNum (m : KV Byte) (o : Nat) : Nat → Nat
  | 0 => 0
  | n + 1 => imNum m o n * 256 + (KV.getD m (o + n) 0).toNat

/-- The bytes from `o`. -/
def imBytes (m : KV Byte) (o n : Nat) : List Nat := (List.range n).map (fun k => (KV.getD m (o + k) 0).toNat)

/-- TYPE and hash of part entry `i`. -/
def imPart (m : KV Byte) (i : Nat) : Nat × Nat := (imNum m (16 + 64 * i) 1, imNum m (16 + 64 * i + 16) 48)

/-- Whether the bytes of part `i` lie in the image and have the hash its entry names. -/
def imHashOk (m : KV Byte) (len i : Nat) : Bool :=
  let o := imNum m (16 + 64 * i + 4) 4
  let n := imNum m (16 + 64 * i + 8) 4
  decide (o + n ≤ len) && Config.sha384 (imBytes m o n) == (imPart m i).2

/-- Types 1 to 9 each exactly once, and no other (R474). -/
def typesOk (l : List Nat) : Bool := l.length == 9 && (List.range 9).all (fun k => (l.filter (· == k + 1)).length == 1)

/-- The manifest that an image holds. -/
def imManifest (m : KV Byte) : Manifest :=
  ⟨imNum m 8 4, imNum m 12 4, (List.range (imNum m 6 1)).map (imPart m)⟩

/-- The first check that fails, in the order of VERIFY_ERR, 0 where all hold but the tiles'. -/
def State.verifyImage (s : State) : Nat :=
  let m := s.upd.image
  let n := imNum m 6 1
  let len := s.get Reg.UPD_STAGE_LEN
  if imNum m 0 4 ≠ 0x4D465354 then 1
  else if imNum m 4 2 ≠ 1 ∨ n = 0 ∨ 16 < n then 2
  else if !(Config.manifestSigned (imBytes m 0 (16 + 64 * n)) (imNum m (16 + 64 * n) 96)) then 3
  else if imNum m 8 4 ≤ s.get Reg.UPD_ROLL_FLOOR then 4
  else if (List.range n).any (fun i => !imHashOk m len i) then 5
  else if !typesOk ((List.range n).map (fun i => (imPart m i).1)) then 6
  else 0

/-- The hash of a type in a manifest. -/
def Manifest.hash (m : Manifest) (t : Nat) : Option Nat := (m.parts.find? (fun (p : Nat × Nat) => p.1 == t)).map (fun (p : Nat × Nat) => p.2)

/-- Whether a change from one manifest to another needs reach FULL (R474, R478). -/
def needsFull (a b : Manifest) : Bool := [5, 6, 7, 9].any (fun t => a.hash t != b.hash t)

/-- STAGE_END_DONE: verification has run; `tiles` has a bit for each tile that stored the firmware. -/
def execStageEndDone (tiles : BitVec 8) (s : State) : Out State :=
  .next (if !s.upd.verifying then s
  else
    let e := s.verifyImage
    let e := if e = 0 ∧ tiles.toNat ≠ 255 then 7 else e
    let s := { (s.setFlag Reg.UPD_STAGE_BUSY false) with upd := { s.upd with verifying := false } }
    let s := s.set Reg.UPD_VERIFY_ERR e
    let s := if e = 0 ∨ e = 7 then s.set Reg.UPD_TILE_DONE tiles.toNat else s
    if e = 0 then
      let m := imManifest s.upd.image
      let s := { s with upd := { s.upd with staged := some m } }
      (((s.set Reg.UPD_STATE 1).set Reg.UPD_STAGED_VER m.version).setFlag Reg.UPD_REACH_FULL (needsFull s.upd.running m)).irq Page.UPD Irq.UPD_STAGED
    else s.irq Page.UPD Irq.UPD_VERIFY_FAIL)

/-- UPD_ABORT: allowed in IDLE or STAGED. -/
def updAbort (s : State) : State :=
  if s.get Reg.UPD_STATE = 2 ∨ s.flag Reg.UPD_STAGE_BUSY = true then s.updRefused 6 else s.unstage.answer Status.OK []

def execUpdAbort (r : Requester) (s : State) : Out State := .next (s.updExec r updAbort)

/-- What a reset does to staging while STAGE_BUSY is set (R475). -/
def State.dropStaging (s : State) : State :=
  if s.flag Reg.UPD_STAGE_BUSY then
    { (s.unstage.setFlag Reg.UPD_STAGE_BUSY false) with upd := { s.unstage.upd with erasing := false, verifying := false } }
  else s

/-! ## The end of a trial (R482) -/

/-- START_OK is set while a manifest runs on trial. -/
def State.trialPassed (s : State) : State :=
  if s.flag Reg.UPD_TRIAL then
    let s := (s.setFlag Reg.UPD_TRIAL false).set Reg.UPD_ROLL_FLOOR s.upd.running.floor
    let s := { s with upd := { s.upd with floor := s.upd.running.floor } }
    let s := match s.upd.prev with
      | some m => (s.setFlag Reg.UPD_PREV_VALID true).set Reg.UPD_PREV_VER m.version
      | none => s
    s.irq Page.UPD Irq.UPD_ACTIVATED
  else s

/-- A trial start has failed: the next start runs the previous bank. -/
def State.trialFailed (s : State) : State :=
  if s.flag Reg.UPD_TRIAL then
    match s.upd.prev with
    | some m =>
      let s := { s with upd := { s.upd with running := m, prev := none, bank := !s.upd.bank } }
      let s := (((s.setFlag Reg.UPD_TRIAL false).setFlag Reg.UPD_ROLLED_BACK true).setFlag Reg.UPD_ACTIVE_BANK s.upd.bank).set Reg.UPD_RUN_VER m.version
      (s.irq Page.UPD Irq.UPD_ROLLBACK).record sevFault Page.UPD 2 0 []
    | none => s
  else s

end Sys2Proof.Machine
end

