-- ==== Sys2Proof/Machine/Diagnostics.lean ====
section
/-! DEFINITION. Error correction as engines and scrubs meet it (R88, R490, R491), self-tests, temperature and the
calibration store (R485 to R494). -/

namespace Sys2Proof.Machine

/-! ## Error correction (R88, R490) -/

/-- The memory of R490 that holds a word. The record store counts among the other memories (log entry 15). -/
def eccMemory (a : Nat) : Nat :=
  match windowOf a with
  | none => 5
  | some (k, _) => match k with
    | .point => 1
    | .program | .scanData => 2
    | .loop => 3
    | .segment | .slot => 4
    | .record => 7

/-- Count an error of a memory: CE_CNT or UE_CNT and the last error's data. -/
def State.countEcc (s : State) (m addr syn : Nat) (ue : Bool) : State :=
  let s := s.bump (if ue then Reg.ECC_UE_CNT m else Reg.ECC_CE_CNT m)
  let s := ((s.set (Reg.ECC_LAST_ADDR m) addr).setFlag (Reg.ECC_LAST_UE m) ue).set (Reg.ECC_SYNDROME m) syn
  if ue then s.irq Page.ECC Irq.ECC_UE else s

/-- The key under which errors in the active bank's words, which no window shows, are listed (R88). -/
def bankMark (ofs : Nat) : Nat := 0x100000000 + ofs

/-- The key under which an error in word `k` of the active copy of loop slot `n` is listed (R240). -/
def loopMark (n k : Nat) : Nat := 0x200000000 + 128 * n + 4 * k

/-- The address by which an error is reported: a word of the active bank, or of a loop slot's active copy, by that of its place
in the window. -/
def eccAddr (a : Nat) : Nat :=
  if loopMark 0 0 ≤ a then 0x04000000 + (a - loopMark 0 0) else if bankMark 0 ≤ a then 0x02000000 + (a - bankMark 0) else a

/-- Report and count an error of a word; its syndrome is free. -/
def State.reportEcc (s : State) (a : Nat) (ue : Bool) : State :=
  let (v, s) := s.fresh
  (s.ownerErr (eccAddr a) (if ue then Err.ECC_UE else Err.ECC_CE)).countEcc (eccMemory (eccAddr a)) (eccAddr a) (v % 128) ue

/-- A read of a word with a single-bit error: corrected, rewritten, reported and counted. -/
def State.correctAt (s : State) (a : Nat) : State :=
  if s.eccSingle.contains a then ({ s with eccSingle := s.eccSingle.filter (· != a) }).reportEcc a false else s

/-- A read of a word with an uncorrectable error: reported and counted; the word stays marked. -/
def State.marked (s : State) (a : Nat) : State :=
  ({ s with eccMarked := s.eccMarked.filter (· != a) ++ [a], eccNew := s.eccNew.filter (· != a) }).reportEcc a true

/-- An engine finds an uncorrectable error (R88, R455). -/
def State.engineMarked (s : State) (a : Nat) : State := (s.marked a).giveUp 2

/-! ## Scrubbing (R491) -/

/-- Words of DRAM. -/
abbrev dramWords : Nat := 536870912

/-- The words scrubbed of the running pass, in percent. -/
def State.showPass (s : State) : State := s.set Reg.ECC_PASS_PCT (s.diag.scrubPos * 100 / dramWords)

/-- What a DRAM word is found to hold. An error in a firmware region resets the module through the command
ECC_FATAL. -/
def scrubWord (found : Option EccFind) (s : State) : State :=
  if !s.flag Reg.ECC_SCRUB_EN || s.getBit Reg.PWR_SHED 0 then s
  else
    let at_ := s.diag.scrubPos
    let s := { s with diag := { s.diag with scrubPos := (at_ + 1) % dramWords } }
    let s := s.showPass
    match found with
    | none => s
    | some e =>
      let s := s.countEcc 0 (4 * at_) e.syndrome.toNat e.ue
      if e.ue then { s with diag := { s.diag with dramMarked := s.diag.dramMarked.filter (· != at_) ++ [at_] } } else s

def execScrubWord (found : Option EccFind) (s : State) : Out State := .next (scrubWord found s)

/-- One error that the scrub of the SRAMs finds: a corrected word is rewritten, an uncorrectable one marked. -/
def State.scrubFind (s : State) (e : EccFind) : State :=
  let s := (s.ownerErr e.addr (if e.ue then Err.ECC_UE else Err.ECC_CE)).countEcc (eccMemory e.addr) e.addr e.syndrome.toNat e.ue
  let s := { s with eccSingle := s.eccSingle.filter (· != e.addr), eccNew := s.eccNew.filter (· != e.addr) }
  if e.ue then { s with eccMarked := s.eccMarked.filter (· != e.addr) ++ [e.addr] } else s

/-- An error that arises in a word of an SRAM after a scrub; nothing has found it yet. -/
def State.arise (s : State) (e : EccFind) : State :=
  if e.ue then { s with eccNew := s.eccNew.filter (· != e.addr) ++ [e.addr] } else { s with eccSingle := s.eccSingle.filter (· != e.addr) ++ [e.addr] }

/-- SRAM_SCRUB: the SRAMs in full; every error held is found, and those of `found` with it. Those of `later` arise after
this scrub, for a read or the next scrub to find. -/
def execSramScrub (found later : List EccFind) (s : State) : Out State :=
  .next (
    let s := s.eccSingle.foldl State.correctAt s
    let s := s.eccNew.foldl State.marked s
    later.foldl State.arise (found.foldl State.scrubFind s))

/-- SCRUB_PASS_END. -/
def execScrubPassEnd (secs : Nat) (s : State) : Out State :=
  .next (
    let s := ({ s with diag := { s.diag with scrubPos := 0 } }).showPass
    let s := ((s.bump Reg.ECC_PASS_CNT).set Reg.ECC_LAST_PASS_S (satTo 0xFFFFFFFF secs)).irq Page.ECC Irq.ECC_PASS
    if 86400 < secs then s.record sevWarning Page.ECC 1 secs [] else s)

/-- CE_THRESHOLD: the count of a memory has grown by `grown` within one hour. -/
def execCeThreshold (m : Fin 8) (grown : Nat) (s : State) : Out State :=
  .next (if s.get Reg.ECC_CE_THRESH < grown then s.record sevWarning Page.ECC 2 m [] else s)

/-! ## Test buses and self-tests (R485, R487) -/

/-- The node that NODE and SUB name (R486); reserved codes name none. -/
def atbNode (node sub : Nat) : Option AtbNode :=
  if node = 0x01 then some .bandgap
  else if node = 0x02 then some .meterRef
  else if node = 0x03 then some .clockRef
  else if h : 0x04 ≤ node ∧ node ≤ 0x09 then some (.mains ⟨node - 4, by omega⟩)
  else if node = 0x0A then (if h : sub < 48 then some (.current ⟨sub, h⟩) else none)
  else if h : 0x10 ≤ node ∧ node ≤ 0x19 then some (.welt ⟨node - 0x10, by omega⟩)
  else if node = 0x20 then some .bus48
  else if node = 0x21 then some .portA
  else if node = 0x22 then some .portB
  else if node = 0x23 then some .scap
  else if node = 0x24 then some .coin
  else if h : 0x25 ≤ node ∧ node ≤ 0x2C then some (.fieldSupply ⟨node - 0x25, by omega⟩)
  else if node = 0x2D then some .logic33
  else if node = 0x2E then some .core09
  else if node = 0x2F then some .dram11
  else if h : 0x30 ≤ node ∧ node ≤ 0x3E then some (.temp ⟨node - 0x30, by omega⟩)
  else if node = 0x3F then some .ground
  else none

/-- The voltage at a bus that shows a node (R486). Of the nodes that the block measures itself, the last reading is taken; the
temperature sensors give 0.1 K (DESIGN CHOICE, log entry 99). -/
def State.atbVolt (s : State) (x : AtbNode) : AtbOut :=
  match x with
  | .bandgap => .volts 1200000
  | .meterRef => .volts 2048000
  | .clockRef => .volts 1000000
  | .mains _ => .follows x 1250000 1 560
  | .current _ => .follows x 1250000 2083 1000
  | .welt _ => .follows x 0 1 1
  | .bus48 => .volts ((s.get Reg.PWR_BUS_MV : Int) * 1000 / 24)
  | .portA | .portB => .follows x 0 1 24
  | .scap => .volts ((s.get Reg.BKP_SCAP_MV : Int) * 400)
  | .coin => .volts ((s.get Reg.BKP_COIN_MV : Int) * 500)
  | .fieldSupply t => .volts ((s.get (Reg.TILE_FS_MV t) : Int) * 1000 / 16)
  | .logic33 => .follows x 0 1 2
  | .core09 | .dram11 => .follows x 0 1 1
  | .temp k => .volts (500000 + 1000 * s.getS (Reg.ATB_TEMP k))
  | .ground => .volts 0

/-- What ATB_0 and ATB_1 show (R485): open in ENDURANCE and until a change of selection has connected its node. -/
def State.atbOut (s : State) (b : Bool) : AtbOut :=
  let at' := if b then s.diag.atb1 else s.diag.atb0
  let x := if b then atbNode (s.get Reg.ATB_NODE_1) (s.get Reg.ATB_SUB_1) else atbNode (s.get Reg.ATB_NODE_0) (s.get Reg.ATB_SUB_0)
  if s.get Reg.FIR_MODE = 4 ∨ s.cycles * 8 < at'.1 * 8 + at'.2 then .opened else x.elim .opened s.atbVolt

/-- A bus whose selection changes opens for 2 µs and takes its new node within 10 µs: when in between is free (log entry 2). -/
def State.atbChange (s : State) (b : Bool) : State :=
  let (v, s) := s.fresh
  let e := (s.cycles, 2000 + v % 8001)
  { s with diag := if b then { s.diag with atb1 := e } else { s.diag with atb0 := e } }

/-- ATB_SELECT: ignored with NO_RIGHT while the fire mode is ENDURANCE. A bus whose selection stays is left as it is. -/
def atbSelect (w : Word) (s : State) : State :=
  if s.get Reg.FIR_MODE = 4 then s.err Page.ATB Err.NO_RIGHT
  else
    let old := s.word Reg.ATB_NODE_0.addr
    let w := w &&& 0x3F3F3F3F
    let s := (s.setWord Reg.ATB_NODE_0.addr w).eccClean Reg.ATB_NODE_0.addr
    let s := if getBits old 13 0 = getBits w 13 0 then s else s.atbChange false
    if getBits old 29 16 = getBits w 29 16 then s else s.atbChange true

def execAtbSelect (w : Word) (s : State) : Out State := .next (atbSelect w s)

/-- A self-test fails: BIST_FAIL, a record with the test's number, and on a twin unit a failed self-test (R455). -/
def State.testFails (s : State) (n : Nat) : State :=
  (((s.setBit Reg.ATB_BIST_FAIL n true).irq Page.ATB Irq.ATB_BIST).record sevFault Page.ATB 1 n []).giveUp 2

/-- Whether every loop slot is OFF. -/
def State.loopsOff (s : State) : Bool := (List.range 256).all (fun n => s.get (Reg.LOOP_MODE n) == 0)

/-- EXEC BIST_RUN. -/
def bistRun (s : State) : State :=
  if s.get Reg.SCN_MODE ≠ 0 ∨ s.loopsOff = false then s.answer Status.E_STATE []
  else (s.setFlag Reg.ATB_BIST_BUSY true).answer Status.OK []

def execBistRun (r : Requester) (s : State) : Out State := .next (s.ownerExec r Page.ATB bistRun)

/-- BIST_DONE. -/
def execBistDone (ok : Bool) (s : State) : Out State :=
  .next (if s.flag Reg.ATB_BIST_BUSY then
    let s := s.setFlag Reg.ATB_BIST_BUSY false
    if ok then s else s.testFails 7
  else s)

/-- REFERENCE_CHECK: the metering reference differs from the bandgap by so many ppm; the limit is 0.1 %. A
set whose CRC failed stays bad (R368). -/
def execReferenceCheck (ppm : Nat) (s : State) : Out State :=
  .next (if 1000 < ppm then (s.setFlag Reg.MTR_CAL_BAD true).testFails 5 else s.setFlag Reg.MTR_CAL_BAD s.diag.calBad)

/-! ## Temperature (R488, R489) -/

/-- A sensor is read, in 0.1 °C. -/
def tempOne (k : Nat) (t : Int) (s : State) : State :=
  let s := s.setS (Reg.ATB_TEMP k) t
  let warn : Int := s.getS Reg.ATB_TEMP_WARN
  let high := bitOf s.diag.tempHigh k
  if warn < t ∧ high = false then
    let s := { s with diag := { s.diag with tempHigh := s.diag.tempHigh + 2 ^ k } }
    (s.irq Page.ATB Irq.ATB_TEMP).record sevWarning Page.ATB 2 k []
  else if t ≤ warn - 50 ∧ high = true then { s with diag := { s.diag with tempHigh := s.diag.tempHigh - 2 ^ k } }
  else s

/-- Exposure and peak of sensor 0. -/
def exposure (t : Int) (s : State) : State :=
  let s := if 850 < t then s.bump Reg.ATB_EXP_S else s
  if s.getS Reg.ATB_PEAK < t then s.setS Reg.ATB_PEAK t else s

/-- TEMP_READ: the readings of sensors 0 to 14 in order. -/
def tempRead (ts : List Int) (s : State) : State :=
  let s := foldN (min 15 ts.length) (fun k s => tempOne k (ts.getD k 0) s) s
  match ts with
  | [] => s
  | t :: _ => exposure t s

def execTempRead (ts : List Int) (s : State) : Out State := .next (tempRead ts s)

/-- EXPOSURE_REACHED. -/
def execExposureReached (s : State) : Out State :=
  .next (if 600 ≤ s.get Reg.ATB_EXP_S ∧ s.flag Reg.ATB_EXPOSED = false then
    (s.setFlag Reg.ATB_EXPOSED true).record sevFault Page.ATB 3 0 []
  else s)

/-! ## The calibration store (R492, R493) -/

/-- Words of the image. -/
abbrev calWords : Nat := 1808

/-- The copy in force after a release: the first whose CRC holds, else the factory copy. -/
def Diag.newest (d : Diag) : KV Word := if d.calAOk then d.calA else if d.calBOk then d.calB else []

/-- Take the newest set into force, at a release of reach FULL or wider (R368, R493). -/
def State.loadCal (s : State) : State :=
  { s with diag := { s.diag with calForce := s.diag.newest, calBad := !(s.diag.calAOk || s.diag.calBOk) } }

/-- CAL_READ (offset, count): the offset in bytes, the count in words (log entry 16). -/
def calRead (ofs cnt : Nat) (s : State) : State :=
  if ofs % 4 ≠ 0 ∨ calWords < ofs / 4 + cnt then s.answer Status.E_OP []
  else s.answer Status.OK ((List.range cnt).map (fun i => calWord s.diag.newest (ofs / 4 + i)))

def execCalRead (r : Requester) (ofs cnt : Nat) (s : State) : Out State := .next (s.ownerExec r Page.CAL (calRead ofs cnt))

/-- Stage words of the image; those equal to the factory copy are not listed. -/
def stageCal (m : KV Word) (i : Nat) : List Word → KV Word
  | [] => m
  | w :: ws => stageCal (if w = Config.calFactory i then KV.del m i else KV.put m i w) (i + 1) ws

/-- CAL_STAGE (offset, data). -/
def calStage (ofs : Nat) (data : List Word) (s : State) : State :=
  if ofs % 4 ≠ 0 ∨ calWords < ofs / 4 + data.length then s.answer Status.E_OP []
  else ({ s with diag := { s.diag with calStage := stageCal s.diag.calStage (ofs / 4) data } }).answer Status.OK []

def execCalStage (r : Requester) (ofs : Nat) (data : List Word) (s : State) : Out State :=
  .next (s.ownerExec r Page.CAL (calStage ofs data))

/-- Whether the staged image may be committed with a CRC: MAGIC, and the CRC of words 0 to 1 806. -/
def State.calOk (s : State) (crc : Word) : Bool :=
  let w := fun (i : Nat) => calWord s.diag.calStage i
  let c := BitVec.ofNat 32 (crc32c ((List.range 1807).map w))
  w 0 == 0x43414C31 && w 1807 == c && crc == c

/-- CAL_COMMIT: both copies are written; `okA` and `okB` say whether each reads back. A copy that does not no longer holds. -/
def calCommit (crc : Word) (okA okB : Bool) (s : State) : State :=
  if s.flag Reg.KEY_OWNER_LOCK then s.answer Status.E_STATE []
  else if !s.calOk crc then (s.err Page.CAL Err.CAL_CAL_INVALID).answer Status.E_STATE []
  else
    let d := s.diag
    let new := d.calStage
    let s := { s with diag := { d with calA := if okA then new else d.calA, calB := if okB then new else d.calB, calAOk := okA, calBOk := okB } }
    let s := if okA && okB then s else s.err Page.CAL Err.CAL_CAL_FAIL
    ((s.setFlag Reg.CAL_PEND true).record sevWarning Page.CAL 1 0 []).answer Status.OK []

def execCalCommit (r : Requester) (crc : Word) (okA okB : Bool) (s : State) : Out State :=
  .next (if isSession r && (s.creds r).may Right.CONFIG && (s.creds r).may Right.RESET then s.ownerExec r Page.CAL (calCommit crc okA okB)
  else s.guardRefuse r (Page.CAL * 4096))

/-- CAL_FACTORY: the factory copy is staged. -/
def calFactory (s : State) : State := ({ s with diag := { s.diag with calStage := [] } }).answer Status.OK []

def execCalFactory (r : Requester) (s : State) : Out State := .next (s.ownerExec r Page.CAL calFactory)

end Sys2Proof.Machine
end

