-- ==== Sys2Proof/Machine/ScanIsa.lean ====
section
/-! DEFINITION. The scan engine's instruction set (R223 to R237): operand spaces, the access rules of the data window,
and what each instruction does to the working registers and the data window. -/

namespace Sys2Proof.Machine

/-! ## Faults of the engine (R229, codes of SCN_STAT.FAULT) -/

namespace ScanFault
abbrev SCAN_WDT : Nat := 1
abbrev OVR_LIMIT : Nat := 2
abbrev STACK : Nat := 3
abbrev ECC_UE : Nat := 4
abbrev ILLEGAL_OP : Nat := 5
abbrev OPERAND_ADDR : Nat := 6
end ScanFault

/-- A fault: its code; for ECC_UE the address of the marked word; and, where reads came before it, the words whose single errors
they have left uncorrected (R88). -/
structure Trap where
  code  : Nat
  word  : Nat
  left  : Option (List Nat)
deriving DecidableEq, Repr

/-- An instruction's outcome: a fault, with which it has changed nothing but the words it corrected (R88, R230), or the next state. -/
abbrev Ins := Except Trap State

/-- A trap of a code, before the instruction has read anything. -/
def trap {α : Type} (code : Nat) : Except Trap α := .error ⟨code, 0, none⟩

/-- A trap after reads that have led to `s`. -/
def trapAt {α : Type} (code word : Nat) (s : State) : Except Trap α := .error ⟨code, word, some s.eccSingle⟩

/-- The words that an instruction corrected before its trap stay corrected, reported and counted (R88, R229). -/
def State.afterTrap (s : State) (t : Trap) : State :=
  match t.left with
  | none => s
  | some l => (s.eccSingle.filter (fun a => !l.contains a)).foldl State.correctAt s

/-! ## The data window (R208, R226); words by index -/

/-- The areas, as the first word of each and of what follows. -/
abbrev inW : Nat := 0
abbrev inQ : Nat := 0x2000
abbrev outFailW : Nat := 0x2800
abbrev outW : Nat := 0x3000
abbrev outQ : Nat := 0x5000
abbrev sysW : Nat := 0x5800
abbrev workW : Nat := 0x6000
abbrev retW : Nat := 0x1C000
abbrev dataEnd : Nat := 0x20000

/-- Words that exist: neither reserved nor beyond the window. -/
def dataReadable (k : Nat) : Bool :=
  decide (k < 0x2900) || (decide (0x3000 ≤ k) && decide (k < 0x5840)) || (decide (0x6000 ≤ k) && decide (k < 0x20000))

/-- Words the engine writes. -/
def dataWritable (k : Nat) : Bool :=
  (decide (0x3000 ≤ k) && decide (k < 0x5800)) || (decide (0x6000 ≤ k) && decide (k < 0x20000))

/-- Whether a word lies in OUT_W. -/
def inOutW (k : Nat) : Bool := decide (0x3000 ≤ k) && decide (k < 0x5000)

/-- The address of word `k`. -/
def dataAddr (k : Nat) : Nat := 0x03000000 + 4 * k

/-- Word `k`. -/
def State.dataWord (s : State) (k : Nat) : Word := s.word (dataAddr k)

/-- Write word `k`: a 32-bit write replaces a marked word (R88). -/
def State.setDataWord (s : State) (k : Nat) (w : Word) : State :=
  let a := dataAddr k
  (s.setWord a w).eccClean a

/-- Byte `n` of an area that begins at word `base`: bits 8 (n mod 4) of its word (log entry 17). -/
def State.dataByte (s : State) (base n : Nat) : Nat := getBits (s.dataWord (base + n / 4)) (8 * (n % 4) + 7) (8 * (n % 4))

/-- Write such a byte. -/
def State.setDataByte (s : State) (base n v : Nat) : State :=
  let k := base + n / 4
  s.setWord (dataAddr k) (setBits (s.dataWord k) (8 * (n % 4) + 7) (8 * (n % 4)) v)

/-! ## Working registers -/

def State.cpu (s : State) : Cpu := s.scan.cpu

def State.setCpu (s : State) (c : Cpu) : State := { s with scan := { s.scan with cpu := c } }

def State.modCpu (s : State) (g : Cpu → Cpu) : State := s.setCpu (g s.cpu)

/-- End an instruction that goes on to the next: the registers change, PC + 1, and its cycles are spent. -/
def State.retire (s : State) (cost : Nat) (g : Cpu → Cpu) : State :=
  s.modCpu (fun c => let c := g c; { c with pc := c.pc + 1, cyc := c.cyc + cost })

/-- Set BA. -/
def Cpu.setBa (b : Bool) (c : Cpu) : Cpu := { c with ba := b }

/-- Give WA a result with its quality: Z and N follow it, V is sticky (R224, R232). -/
def Cpu.result (w : Word) (q : Nat) (v : Bool) (c : Cpu) : Cpu :=
  { c with wa := w, wq := q, z := w == 0, n := w.msb, v := c.v || v }

/-- Give WA a REAL32 result: Z is set for both zeros (R234). -/
def Cpu.resultF (w : Word) (q : Nat) (v : Bool) (c : Cpu) : Cpu :=
  { c with wa := w, wq := q, z := w == 0 || w == 0x80000000, n := w.msb, v := c.v || v }

/-! ## Operands (R225) -/

/-- Where an operand lies: a constant, or word `k`. -/
inductive Place where
  | const (w : Word)
  | word (k : Nat)
deriving DecidableEq, Repr

/-- Where a bit lies: a constant, or bit `j` of word `k`. -/
inductive BitPlace where
  | const (b : Bool)
  | bit (k j : Nat)
deriving DecidableEq, Repr

/-- The SP and ADDR fields. -/
def opSp (op : BitVec 24) : Nat := op.toNat / 2 ^ 22
def opAddr (op : BitVec 24) : Nat := op.toNat % 2 ^ 22

/-- A word operand, for reading or for writing. None where unused bits are set or the index leaves the window. -/
def placeW (wr : Bool) (x : BitVec 22) (op : BitVec 24) : Option Place :=
  let a := opAddr op
  match opSp op with
  | 0 => if a < 2 ^ 17 then some (.word a) else none
  | 1 => if a < 2 ^ 13 then some (.word (if wr then outW + a else inW + a)) else none
  | 2 => some (.const (BitVec.ofInt 32 (toSigned 22 a)))
  | _ => if a < 2 ^ 17 ∧ a + x.toNat < dataEnd then some (.word (a + x.toNat)) else none

/-- A bit operand. -/
def placeB (wr : Bool) (x : BitVec 22) (op : BitVec 24) : Option BitPlace :=
  let a := opAddr op
  match opSp op with
  | 0 => some (.bit (a / 32) (a % 32))
  | 1 => if a < 2 ^ 18 then some (.bit ((if wr then outW else inW) + a % 2 ^ 13) (a / 2 ^ 13)) else none
  | 2 => if a < 2 then some (.const (a == 1)) else none
  | _ => if a + x.toNat < 32 * dataEnd then some (.bit ((a + x.toNat) / 32) ((a + x.toNat) % 32)) else none

/-- A structure operand: three words wholly in WORK or wholly in RET (R229). -/
def placeS (x : BitVec 22) (op : BitVec 24) : Option Nat :=
  if opSp op = 0 ∨ opSp op = 3 then
    match placeW false x op with
    | some (.word k) => if (workW ≤ k ∧ k + 2 < retW) ∨ (retW ≤ k ∧ k + 2 < dataEnd) then some k else none
    | _ => none
  else none

/-! ## Reads and writes (R226, R229) -/

/-- Read word `k`: a corrected error costs 4 cycles, a marked word traps. -/
def readData (k : Nat) (s : State) : Except Trap (Word × State) :=
  if !dataReadable k then trapAt ScanFault.OPERAND_ADDR 0 s
  else if s.badWord (dataAddr k) then trapAt ScanFault.ECC_UE (dataAddr k) s
  else if s.eccSingle.contains (dataAddr k) then
    .ok (s.dataWord k, (s.correctAt (dataAddr k)).modCpu (fun c => { c with cyc := c.cyc + 4 }))
  else .ok (s.dataWord k, s)

/-- The quality of word `k`: of its point in IN_W and OUT_W, else GOOD. -/
def readQual (k : Nat) (s : State) : Except Trap (Nat × State) :=
  if k < inQ then do
    let (_, s) ← readData (inQ + k / 4) s
    pure (qualCode (s.dataByte inQ k), s)
  else if inOutW k then do
    let (_, s) ← readData (outQ + (k - outW) / 4) s
    pure (qualCode (s.dataByte outQ (k - outW)), s)
  else .ok (Qual.GOOD, s)

/-- Read a word operand with its quality. -/
def readW (op : BitVec 24) (s : State) : Except Trap (Word × Nat × State) :=
  match placeW false s.cpu.x op with
  | none => trap ScanFault.OPERAND_ADDR
  | some (.const w) => .ok (w, Qual.GOOD, s)
  | some (.word k) => do
    let (w, s) ← readData k s
    let (q, s) ← readQual k s
    pure (w, q, s)

/-- Store a value with a quality at a word operand; into OUT_W the quality goes to OUT_Q, with SUBST and FORCED 0. -/
def storeW (op : BitVec 24) (w : Word) (q : Nat) (s : State) : Ins :=
  match placeW true s.cpu.x op with
  | some (.word k) =>
    if dataWritable k then
      let s := s.setDataWord k w
      .ok (if inOutW k then s.setDataByte outQ (k - outW) q else s)
    else trap ScanFault.OPERAND_ADDR
  | _ => trap ScanFault.OPERAND_ADDR

/-- Read a bit operand. -/
def readB (op : BitVec 24) (s : State) : Except Trap (Bool × State) :=
  match placeB false s.cpu.x op with
  | none => trap ScanFault.OPERAND_ADDR
  | some (.const b) => .ok (b, s)
  | some (.bit k j) => do
    let (w, s) ← readData k s
    pure (w.getLsbD j, s)

/-- Whether a bit operand may be stored to. -/
def checkStoreB (op : BitVec 24) (s : State) : Except Trap (Nat × Nat) :=
  match placeB true s.cpu.x op with
  | some (.bit k j) => if dataWritable k then .ok (k, j) else trap ScanFault.OPERAND_ADDR
  | _ => trap ScanFault.OPERAND_ADDR

/-- Store a bit in one locked read-modify-write (R227); into OUT_W it writes GOOD to OUT_Q (R210). -/
def storeB (op : BitVec 24) (b : Bool) (s : State) : Ins := do
  let (k, j) ← checkStoreB op s
  let (w, s) ← readData k s
  let s := s.setDataWord k (setBits w j j (b2n b))
  pure (if inOutW k then s.setDataByte outQ (k - outW) Qual.GOOD else s)

/-- An instruction without operand: "—" must be 0 (R228). -/
def noOperand (op : BitVec 24) : Except Trap Unit := if op = 0 then .ok () else trap ScanFault.OPERAND_ADDR

/-! ## The active program (R216, R223) -/

/-- Word `k` of the active bank. -/
def State.bankWord (s : State) (k : Nat) : Word := KV.getD s.scan.bank (4 * k) 0

/-- CODE_LEN of the active program. -/
def State.codeLen (s : State) : Nat := (s.bankWord 2).toNat

/-- A jump target: bits 23:18 are 0 and the index is below CODE_LEN (R223, R229). -/
def target (op : BitVec 24) (s : State) : Except Trap Nat :=
  if op.toNat < 2 ^ 18 ∧ op.toNat < s.codeLen then .ok op.toNat else trap ScanFault.OPERAND_ADDR

/-- Jump. -/
def State.jump (s : State) (pc cost : Nat) : State := s.modCpu (fun c => { c with pc := pc, cyc := c.cyc + cost })

/-! ## Control -/

def insNop (op : BitVec 24) (s : State) : Ins := do noOperand op; pure (s.retire 1 id)

/-- END: the registers stay; the scan goes on to its output phase. -/
def insEnd (op : BitVec 24) (s : State) : Ins := do
  noOperand op
  if s.cpu.stack.isEmpty then pure (s.modCpu (fun c => { c with cyc := c.cyc + 2 })) else trap ScanFault.STACK

def insJmp (op : BitVec 24) (s : State) : Ins := do let t ← target op s; pure (s.jump t 2)

/-- A branch taken on a condition; its target is judged whether or not it is taken (log entry 18). -/
def insBranch (taken : Bool) (op : BitVec 24) (s : State) : Ins := do
  let t ← target op s
  pure (if taken then s.jump t 2 else s.retire 1 id)

def insJmpc (op : BitVec 24) (s : State) : Ins := insBranch s.cpu.ba op s
def insJmpcn (op : BitVec 24) (s : State) : Ins := insBranch (!s.cpu.ba) op s

/-- Push an entry: overflow where 16 are held (R230). -/
def push (e : StkEntry) (s : State) : Ins :=
  if 16 ≤ s.cpu.stack.length then trap ScanFault.STACK else .ok (s.modCpu (fun c => { c with stack := e :: c.stack }))

def insCall (op : BitVec 24) (s : State) : Ins := do
  let t ← target op s
  let s ← push (.ret (s.cpu.pc + 1)) s
  pure (s.jump t 3)

/-- Pop a RET entry and return to it. -/
def doRet (s : State) : Ins :=
  match s.cpu.stack with
  | .ret pc :: t => .ok ((s.modCpu (fun c => { c with stack := t })).jump pc 3)
  | _ => trap ScanFault.STACK

def insRet (op : BitVec 24) (s : State) : Ins := do noOperand op; doRet s
def insRetc (op : BitVec 24) (s : State) : Ins := do noOperand op; if s.cpu.ba then doRet s else pure (s.retire 1 id)

/-! ## Index register and flags -/

def insLdx (op : BitVec 24) (s : State) : Ins := do
  let (w, _, s) ← readW op s
  pure (s.retire 1 (fun c => { c with x := w.setWidth 22 }))

def insAddx (op : BitVec 24) (s : State) : Ins := do
  let (w, _, s) ← readW op s
  pure (s.retire 1 (fun c => { c with x := c.x + w.setWidth 22 }))

def insStx (op : BitVec 24) (s : State) : Ins := do
  let s ← storeW op (s.cpu.x.setWidth 32) Qual.GOOD s
  pure (s.retire 1 id)

def insLdv (op : BitVec 24) (s : State) : Ins := do
  noOperand op
  pure (s.retire 1 (fun c => { c with ba := c.v, v := false }))

def insLdz (op : BitVec 24) (s : State) : Ins := do noOperand op; pure (s.retire 1 (fun c => { c with ba := c.z }))
def insLdnf (op : BitVec 24) (s : State) : Ins := do noOperand op; pure (s.retire 1 (fun c => { c with ba := c.n }))

/-! ## Bit instructions -/

/-- Combine BA with a bit. -/
def insBit (f : Bool → Bool → Bool) (op : BitVec 24) (s : State) : Ins := do
  let (b, s) ← readB op s
  pure (s.retire 1 (fun c => { c with ba := f c.ba b }))

def insLd (op : BitVec 24) (s : State) : Ins := insBit (fun _ b => b) op s
def insLdn (op : BitVec 24) (s : State) : Ins := insBit (fun _ b => !b) op s
def insAnd (op : BitVec 24) (s : State) : Ins := insBit (fun a b => a && b) op s
def insAndn (op : BitVec 24) (s : State) : Ins := insBit (fun a b => a && !b) op s
def insOr (op : BitVec 24) (s : State) : Ins := insBit (fun a b => a || b) op s
def insOrn (op : BitVec 24) (s : State) : Ins := insBit (fun a b => a || !b) op s
def insXor (op : BitVec 24) (s : State) : Ins := insBit (fun a b => a != b) op s
def insXorn (op : BitVec 24) (s : State) : Ins := insBit (fun a b => a == b) op s

/-- Store a bit made from BA. -/
def insStore (b : Bool) (op : BitVec 24) (s : State) : Ins := do
  let s ← storeB op b s
  pure (s.retire 1 id)

def insSt (op : BitVec 24) (s : State) : Ins := insStore s.cpu.ba op s
def insStn (op : BitVec 24) (s : State) : Ins := insStore (!s.cpu.ba) op s

/-- Store a bit where BA is 1; the operand is judged in either case (log entry 18). -/
def insCondStore (b : Bool) (op : BitVec 24) (s : State) : Ins := do
  let _ ← checkStoreB op s
  if s.cpu.ba then insStore b op s else pure (s.retire 1 id)

def insSet (op : BitVec 24) (s : State) : Ins := insCondStore true op s
def insRes (op : BitVec 24) (s : State) : Ins := insCondStore false op s

def insNot (op : BitVec 24) (s : State) : Ins := do noOperand op; pure (s.retire 1 (fun c => { c with ba := !c.ba }))

/-- Edge detection with a memory bit: BA is stored, and becomes a function of the old bit and itself. -/
def insEdge (f : Bool → Bool → Bool) (op : BitVec 24) (s : State) : Ins := do
  let (m, s) ← readB op s
  let s ← storeB op s.cpu.ba s
  pure (s.retire 2 (fun c => { c with ba := f m c.ba }))

def insRe (op : BitVec 24) (s : State) : Ins := insEdge (fun m b => b && !m) op s
def insFe (op : BitVec 24) (s : State) : Ins := insEdge (fun m b => m && !b) op s

/-! ## Branch stack -/

def insPush (op : BitVec 24) (s : State) : Ins := do
  noOperand op
  let s ← push (.bit s.cpu.ba) s
  pure (s.retire 1 id)

/-- Take the newest BIT entry: the bit and the rest. -/
def topBit (s : State) : Except Trap (Bool × List StkEntry) :=
  match s.cpu.stack with
  | .bit b :: t => .ok (b, t)
  | _ => trap ScanFault.STACK

/-- Pop a bit and combine it with BA. -/
def insPopWith (f : Bool → Bool → Bool) (op : BitVec 24) (s : State) : Ins := do
  noOperand op
  let (b, t) ← topBit s
  pure (s.retire 1 (fun c => { c with ba := f b c.ba, stack := t }))

def insAndb (op : BitVec 24) (s : State) : Ins := insPopWith (fun p b => p && b) op s
def insOrb (op : BitVec 24) (s : State) : Ins := insPopWith (fun p b => p || b) op s
def insXorb (op : BitVec 24) (s : State) : Ins := insPopWith (fun p b => p != b) op s
def insPop (op : BitVec 24) (s : State) : Ins := insPopWith (fun p _ => p) op s

def insPeek (op : BitVec 24) (s : State) : Ins := do
  noOperand op
  let (b, _) ← topBit s
  pure (s.retire 1 (Cpu.setBa b))

/-! ## Word loads and stores -/

def insLdw (op : BitVec 24) (s : State) : Ins := do
  let (w, q, s) ← readW op s
  pure (s.retire 1 (Cpu.result w q false))

def insStw (op : BitVec 24) (s : State) : Ins := do
  let s ← storeW op s.cpu.wa s.cpu.wq s
  pure (s.retire 1 id)

/-- STWC: the operand is judged whether or not BA is 1 (log entry 18). -/
def insStwc (op : BitVec 24) (s : State) : Ins := do
  let s' ← storeW op s.cpu.wa s.cpu.wq s
  pure ((if s.cpu.ba then s' else s).retire 1 id)

def insLdq (op : BitVec 24) (s : State) : Ins := do
  let (_, q, s) ← readW op s
  pure (s.retire 1 (Cpu.result (BitVec.ofNat 32 q) Qual.GOOD false))

def insQok (op : BitVec 24) (s : State) : Ins := do
  let (_, q, s) ← readW op s
  pure (s.retire 1 (Cpu.setBa (decide (q ≤ Qual.UNCERTAIN))))

/-- SETQ: an immediate operand of two bits. -/
def insSetq (op : BitVec 24) (s : State) : Ins :=
  if opSp op = 2 ∧ opAddr op < 4 then .ok (s.retire 1 (fun c => { c with wq := opAddr op })) else trap ScanFault.OPERAND_ADDR

def insTstw (op : BitVec 24) (s : State) : Ins := do noOperand op; pure (s.retire 1 (fun c => { c with ba := c.wa != 0 }))

def insLdba (op : BitVec 24) (s : State) : Ins := do
  noOperand op
  pure (s.retire 1 (Cpu.result (BitVec.ofNat 32 (b2n s.cpu.ba)) Qual.GOOD false))

/-! ## Integers (R232, R233) -/

/-- Saturation to 32 bits: the word and whether it clamped. -/
def satWord (i : Int) : Word × Bool :=
  let c := clampI (-2147483648) 2147483647 i
  (BitVec.ofInt 32 c, c != i)

/-- An integer instruction: the result word, V, and whether the result is BAD. -/
structure IRes where
  w   : Word
  v   : Bool
  bad : Bool
deriving DecidableEq, Repr

/-- A saturated result. -/
def isat (i : Int) : IRes := ⟨(satWord i).1, (satWord i).2, false⟩

/-- A plain result. -/
def iplain (w : Word) : IRes := ⟨w, false, false⟩

/-- DIV: truncation toward zero; by zero the extreme of the dividend's sign. -/
def idiv (a b : Word) : IRes :=
  if b = 0 then ⟨if a = 0 then 0 else if a.msb then 0x80000000 else 0x7FFFFFFF, true, true⟩
  else isat (a.toInt.tdiv b.toInt)

/-- MOD: the sign of the dividend; 0 by zero. -/
def imod (a b : Word) : IRes :=
  if b = 0 then ⟨0, true, true⟩ else iplain (BitVec.ofInt 32 (a.toInt.tmod b.toInt))

/-- Combine WA with a word operand: WA.Q takes the worse quality. -/
def insInt (f : Word → Word → IRes) (cost : Nat) (op : BitVec 24) (s : State) : Ins := do
  let (w, q, s) ← readW op s
  let r := f s.cpu.wa w
  pure (s.retire cost (Cpu.result r.w (if r.bad then Qual.BAD else max s.cpu.wq q) r.v))

def insAdd (op : BitVec 24) (s : State) : Ins := insInt (fun a b => isat (a.toInt + b.toInt)) 1 op s
def insSub (op : BitVec 24) (s : State) : Ins := insInt (fun a b => isat (a.toInt - b.toInt)) 1 op s
def insMul (op : BitVec 24) (s : State) : Ins := insInt (fun a b => isat (a.toInt * b.toInt)) 2 op s
def insDiv (op : BitVec 24) (s : State) : Ins := insInt idiv 12 op s
def insMod (op : BitVec 24) (s : State) : Ins := insInt imod 12 op s

/-- An integer instruction on WA alone: its quality stays. -/
def insWa (f : Word → IRes) (op : BitVec 24) (s : State) : Ins := do
  noOperand op
  let r := f s.cpu.wa
  pure (s.retire 1 (Cpu.result r.w s.cpu.wq r.v))

def insNeg (op : BitVec 24) (s : State) : Ins := insWa (fun a => isat (- a.toInt)) op s
def insAbs (op : BitVec 24) (s : State) : Ins := insWa (fun a => isat (a.toInt.natAbs : Int)) op s

def insMin (op : BitVec 24) (s : State) : Ins := insInt (fun a b => iplain (if b.toInt < a.toInt then b else a)) 1 op s
def insMax (op : BitVec 24) (s : State) : Ins := insInt (fun a b => iplain (if a.toInt < b.toInt then b else a)) 1 op s
def insAndw (op : BitVec 24) (s : State) : Ins := insInt (fun a b => iplain (a &&& b)) 1 op s
def insOrw (op : BitVec 24) (s : State) : Ins := insInt (fun a b => iplain (a ||| b)) 1 op s
def insXorw (op : BitVec 24) (s : State) : Ins := insInt (fun a b => iplain (a ^^^ b)) 1 op s
def insShl (op : BitVec 24) (s : State) : Ins := insInt (fun a b => iplain (a <<< b.toNat)) 1 op s
def insShr (op : BitVec 24) (s : State) : Ins := insInt (fun a b => iplain (a >>> b.toNat)) 1 op s
def insAsr (op : BitVec 24) (s : State) : Ins := insInt (fun a b => iplain (a.sshiftRight b.toNat)) 1 op s

/-- Compare WA with an operand into BA. -/
def insCmp (f : Word → Word → Bool) (cost : Nat) (op : BitVec 24) (s : State) : Ins := do
  let (w, _, s) ← readW op s
  pure (s.retire cost (Cpu.setBa (f s.cpu.wa w)))

def insEq (op : BitVec 24) (s : State) : Ins := insCmp (fun a b => a == b) 1 op s
def insNe (op : BitVec 24) (s : State) : Ins := insCmp (fun a b => a != b) 1 op s
def insLt (op : BitVec 24) (s : State) : Ins := insCmp (fun a b => a.slt b) 1 op s
def insLe (op : BitVec 24) (s : State) : Ins := insCmp (fun a b => a.sle b) 1 op s
def insGt (op : BitVec 24) (s : State) : Ins := insCmp (fun a b => b.slt a) 1 op s
def insGe (op : BitVec 24) (s : State) : Ins := insCmp (fun a b => b.sle a) 1 op s
def insLtu (op : BitVec 24) (s : State) : Ins := insCmp (fun a b => a.ult b) 1 op s
def insGeu (op : BitVec 24) (s : State) : Ins := insCmp (fun a b => b.ule a) 1 op s

/-! ## REAL32 (R233, R234) -/

/-- Combine WA with an operand in binary32: a NaN operand or result is BAD. -/
def insReal (f : Word → Word → FRes) (cost : Nat) (op : BitVec 24) (s : State) : Ins := do
  let (w, q, s) ← readW op s
  let r := f s.cpu.wa w
  pure (s.retire cost (Cpu.resultF r.w (if r.nan then Qual.BAD else max s.cpu.wq q) r.v))

def insAddf (op : BitVec 24) (s : State) : Ins := insReal fadd 3 op s
def insSubf (op : BitVec 24) (s : State) : Ins := insReal fsub 3 op s
def insMulf (op : BitVec 24) (s : State) : Ins := insReal fmul 3 op s

/-- A division by zero is BAD as well (R233). -/
def insDivf (op : BitVec 24) (s : State) : Ins :=
  insReal (fun a b => let r := fdiv a b; match fval b with | .fin _ 0 _ => { r with nan := true } | _ => r) 14 op s

/-- The smaller of two values; minus zero is below zero (log entry 18). -/
def fmin (a b : Word) : FRes :=
  match fless a b, fless b a with
  | none, _ | _, none => fnan
  | some true, _ => (fval a).round
  | _, some true => (fval b).round
  | _, _ => if a.msb then (fval a).round else (fval b).round

/-- The larger of two values. -/
def fmaxOf (a b : Word) : FRes :=
  match fless a b, fless b a with
  | none, _ | _, none => fnan
  | some true, _ => (fval b).round
  | _, some true => (fval a).round
  | _, _ => if a.msb then (fval b).round else (fval a).round

def insMinf (op : BitVec 24) (s : State) : Ins := insReal fmin 2 op s
def insMaxf (op : BitVec 24) (s : State) : Ins := insReal fmaxOf 2 op s

/-- An instruction on the sign of WA. Its result follows R234 as any REAL32 result does: a NaN becomes 0, an infinity the greatest
value, both with V, and a subnormal a zero of its sign (log entry 18). -/
def insSign (f : FVal → FVal) (op : BitVec 24) (s : State) : Ins := do
  noOperand op
  let r := (f (fval s.cpu.wa)).round
  pure (s.retire 1 (Cpu.resultF r.w (if r.nan then Qual.BAD else s.cpu.wq) r.v))

def insAbsf (op : BitVec 24) (s : State) : Ins := insSign FVal.abs op s
def insNegf (op : BitVec 24) (s : State) : Ins := insSign FVal.flip op s

def insEqf (op : BitVec 24) (s : State) : Ins := insCmp (fun a b => fless a b == some false && fless b a == some false) 2 op s
def insLtf (op : BitVec 24) (s : State) : Ins := insCmp (fun a b => fless a b == some true) 2 op s
def insGtf (op : BitVec 24) (s : State) : Ins := insCmp (fun a b => fless b a == some true) 2 op s

def insItof (op : BitVec 24) (s : State) : Ins := do
  noOperand op
  pure (s.retire 2 (Cpu.resultF (itof s.cpu.wa.toInt) s.cpu.wq false))

def insFtoi (op : BitVec 24) (s : State) : Ins := do
  noOperand op
  let r := ftoi s.cpu.wa
  pure (s.retire 2 (Cpu.result r.w (if r.nan then Qual.BAD else s.cpu.wq) r.v))

/-- SCLF: gain and offset are two consecutive words, or points with PNT; an immediate is refused (log entry 18). -/
def insSclf (op : BitVec 24) (s : State) : Ins :=
  match placeW false s.cpu.x op with
  | some (.word k) => do
    let (g, s) ← readData k s
    let (q1, s) ← readQual k s
    let (o, s) ← readData (k + 1) s
    let (q2, s) ← readQual (k + 1) s
    let r := ffma s.cpu.wa g o
    pure (s.retire 4 (Cpu.resultF r.w (if r.nan then Qual.BAD else max s.cpu.wq (max q1 q2)) r.v))
  | _ => trap ScanFault.OPERAND_ADDR

/-! ## Timers (R235, R236) -/

/-- A TIMER element. -/
structure Timer where
  pt   : Nat
  et   : Nat
  prev : Bool
  q    : Bool
  run  : Bool
  rem_ : Nat
deriving DecidableEq, Repr

/-- A TIMER element from its words. -/
def Timer.ofWords (w0 w1 w2 : Word) : Timer :=
  ⟨w0.toNat, w1.toNat, w2.getLsbD 0, w2.getLsbD 1, w2.getLsbD 2, getBits w2 25 16⟩

/-- Word 2 of an element. -/
def Timer.word2 (t : Timer) : Word := BitVec.ofNat 32 (b2n t.prev + 2 * b2n t.q + 4 * b2n t.run + 65536 * t.rem_)

/-- advance: ET grows by dt, kept to the microsecond, up to PT. -/
def Timer.advance (t : Timer) (dt : Nat) : Timer :=
  let r := t.rem_ + dt
  let et := min (t.et + r / 1000) t.pt
  { t with et := et, rem_ := if et = t.pt then 0 else r % 1000 }

def Timer.ton (dt : Nat) (i : Bool) (t : Timer) : Timer :=
  let t := if !i then { t with et := 0, rem_ := 0, q := false }
    else if !t.prev then { t with et := 0, rem_ := 0, q := t.pt == 0 }
    else let t := t.advance dt; { t with q := decide (t.pt ≤ t.et) }
  { t with prev := i }

def Timer.tof (dt : Nat) (i : Bool) (t : Timer) : Timer :=
  let t := if i then { t with run := false, et := 0, rem_ := 0, q := true }
    else if t.prev then { t with run := decide (0 < t.pt), et := 0, rem_ := 0, q := decide (0 < t.pt) }
    else if t.run then let t := t.advance dt; { t with run := decide (t.et < t.pt), q := decide (t.et < t.pt) }
    else { t with q := false }
  { t with prev := i }

def Timer.tp (dt : Nat) (i : Bool) (t : Timer) : Timer :=
  let t := if t.run then let t := t.advance dt; { t with run := decide (t.et < t.pt) }
    else if i && !t.prev then { t with run := decide (0 < t.pt), et := 0, rem_ := 0 }
    else if !i then { t with et := 0, rem_ := 0 }
    else t
  { t with q := t.run, prev := i }

/-- Read the three words of an element. -/
def readElem (op : BitVec 24) (s : State) : Except Trap (Nat × Word × Word × Word × State) :=
  match placeS s.cpu.x op with
  | none => trap ScanFault.OPERAND_ADDR
  | some k => do
    let (w0, s) ← readData k s
    let (w1, s) ← readData (k + 1) s
    let (w2, s) ← readData (k + 2) s
    pure (k, w0, w1, w2, s)

/-- A timer instruction: its input is BA, its dt is SCAN_DT of this scan as SYSW word 1 holds it. -/
def insTimer (f : Nat → Bool → Timer → Timer) (op : BitVec 24) (s : State) : Ins := do
  let (k, w0, w1, w2, s) ← readElem op s
  let t := f (s.dataWord (sysW + 1)).toNat s.cpu.ba (Timer.ofWords w0 w1 w2)
  let s := (s.setDataWord (k + 1) (BitVec.ofNat 32 t.et)).setDataWord (k + 2) t.word2
  pure (s.retire 4 (Cpu.setBa t.q))

def insTon (op : BitVec 24) (s : State) : Ins := insTimer Timer.ton op s
def insTof (op : BitVec 24) (s : State) : Ins := insTimer Timer.tof op s
def insTp (op : BitVec 24) (s : State) : Ins := insTimer Timer.tp op s

/-! ## Counters (R235, R237) -/

/-- CTU: CV, CU_PREV, CD_PREV and Q of word 2; V where CV is at its greatest. -/
def insCtu (op : BitVec 24) (s : State) : Ins := do
  let (k, w0, w1, w2, s) ← readElem op s
  let cu := s.cpu.ba
  let edge := cu && !w2.getLsbD 0
  let full := w1 == 0x7FFFFFFF
  let cv := if edge && !full then w1 + 1 else w1
  let q := w0.sle cv
  let s := (s.setDataWord (k + 1) cv).setDataWord (k + 2) (BitVec.ofNat 32 (b2n cu + 2 * b2n (w2.getLsbD 1) + 4 * b2n q))
  pure (s.retire 3 (fun c => { c with ba := q, v := c.v || (edge && full) }))

def insCtd (op : BitVec 24) (s : State) : Ins := do
  let (k, _, w1, w2, s) ← readElem op s
  let cd := s.cpu.ba
  let edge := cd && !w2.getLsbD 1
  let least := w1 == 0x80000000
  let cv := if edge && !least then w1 - 1 else w1
  let q := cv.sle 0
  let s := (s.setDataWord (k + 1) cv).setDataWord (k + 2) (BitVec.ofNat 32 (b2n (w2.getLsbD 0) + 2 * b2n cd + 4 * b2n q))
  pure (s.retire 3 (fun c => { c with ba := q, v := c.v || (edge && least) }))

def insCrst (op : BitVec 24) (s : State) : Ins := do
  let (k, _, _, _, s) ← readElem op s
  pure ((if s.cpu.ba then s.setDataWord (k + 1) 0 else s).retire 2 id)

def insCld (op : BitVec 24) (s : State) : Ins := do
  let (k, w0, _, _, s) ← readElem op s
  pure ((if s.cpu.ba then s.setDataWord (k + 1) w0 else s).retire 2 id)

/-! ## The opcode table (R228) -/

/-- Opcodes 0x00 to 0x2F. -/
def insLow (code : Nat) : Option (BitVec 24 → State → Ins) :=
  match code with
  | 0x00 => some insNop | 0x01 => some insEnd | 0x02 => some insJmp | 0x03 => some insJmpc | 0x04 => some insJmpcn
  | 0x05 => some insCall | 0x06 => some insRet | 0x07 => some insRetc | 0x08 => some insLdx | 0x09 => some insAddx
  | 0x0A => some insStx | 0x0B => some insLdv | 0x0C => some insLdz | 0x0D => some insLdnf
  | 0x10 => some insLd | 0x11 => some insLdn | 0x12 => some insAnd | 0x13 => some insAndn | 0x14 => some insOr
  | 0x15 => some insOrn | 0x16 => some insXor | 0x17 => some insXorn | 0x18 => some insSt | 0x19 => some insStn
  | 0x1A => some insSet | 0x1B => some insRes | 0x1C => some insNot | 0x1D => some insRe | 0x1E => some insFe
  | 0x20 => some insPush | 0x21 => some insAndb | 0x22 => some insOrb | 0x23 => some insXorb | 0x24 => some insPop
  | 0x25 => some insPeek | _ => none

/-- Opcodes 0x30 to 0x5F. -/
def insMid (code : Nat) : Option (BitVec 24 → State → Ins) :=
  match code with
  | 0x30 => some insLdw | 0x31 => some insStw | 0x32 => some insStwc | 0x33 => some insLdq | 0x34 => some insQok
  | 0x35 => some insSetq | 0x36 => some insTstw | 0x37 => some insLdba
  | 0x40 => some insAdd | 0x41 => some insSub | 0x42 => some insMul | 0x43 => some insDiv | 0x44 => some insMod
  | 0x45 => some insNeg | 0x46 => some insAbs | 0x47 => some insMin | 0x48 => some insMax | 0x49 => some insAndw
  | 0x4A => some insOrw | 0x4B => some insXorw | 0x4C => some insShl | 0x4D => some insShr | 0x4E => some insAsr
  | 0x50 => some insEq | 0x51 => some insNe | 0x52 => some insLt | 0x53 => some insLe | 0x54 => some insGt
  | 0x55 => some insGe | 0x56 => some insLtu | 0x57 => some insGeu | _ => none

/-- Opcodes 0x60 to 0x7F. -/
def insHigh (code : Nat) : Option (BitVec 24 → State → Ins) :=
  match code with
  | 0x60 => some insAddf | 0x61 => some insSubf | 0x62 => some insMulf | 0x63 => some insDivf | 0x64 => some insMinf
  | 0x65 => some insMaxf | 0x66 => some insAbsf | 0x67 => some insNegf | 0x68 => some insEqf | 0x69 => some insLtf
  | 0x6A => some insGtf | 0x6B => some insItof | 0x6C => some insFtoi | 0x6D => some insSclf
  | 0x70 => some insTon | 0x71 => some insTof | 0x72 => some insTp | 0x73 => some insCtu | 0x74 => some insCtd
  | 0x75 => some insCrst | 0x76 => some insCld | _ => none

/-- The instruction of an opcode, none where R228 lists none. -/
def insOf (code : Nat) : Option (BitVec 24 → State → Ins) :=
  if code < 0x30 then insLow code else if code < 0x60 then insMid code else insHigh code

/-- Fetch at PC: an index beyond the code and an opcode not listed are ILLEGAL_OP, a marked word ECC_UE; a corrected error costs 4
cycles (R229). -/
def fetch (s : State) : Except Trap (Nat × BitVec 24 × State) :=
  let pc := s.cpu.pc
  let key := bankMark (4 * (16 + pc))
  if s.codeLen ≤ pc then trap ScanFault.ILLEGAL_OP
  else if s.badWord key then trapAt ScanFault.ECC_UE key s
  else
    let w := s.bankWord (16 + pc)
    let s := if s.eccSingle.contains key then (s.correctAt key).modCpu (fun c => { c with cyc := c.cyc + 4 }) else s
    .ok (getBits w 31 24, w.setWidth 24, s)

/-- One instruction at PC: whether it was END, and the state. A fault after the fetch leaves the word fetched corrected. -/
def scanStep (s : State) : Except Trap (Bool × State) := do
  let (code, op, s) ← fetch s
  match insOf code with
  | none => trapAt ScanFault.ILLEGAL_OP 0 s
  | some f => match f op s with
    | .ok s => pure (code == 1, s)
    | .error t => .error { t with left := some (t.left.getD s.eccSingle) }

end Sys2Proof.Machine
end

