-- ==== Sys2Proof/Machine/ScanProg.lean ====
section
/-! DEFINITION. Program images of the scan engine (R215 to R217), symbols and their places in the data window, forces
(R219, R220), the retentive data (R212, R214), and the change of program (R218). -/

namespace Sys2Proof.Machine

/-! ## Images (R216) -/

/-- A bank, by word. -/
abbrev Prog := Nat → Word

/-- Words of a bank. -/
abbrev bankWords : Nat := 262144

def State.activeProg (s : State) : Prog := fun k => s.bankWord k
def State.inactiveProg (s : State) : Prog := fun k => s.word (0x02000000 + 4 * k)

/-- A header word as a number. -/
def hdr (p : Prog) (k : Nat) : Nat := (p k).toNat

/-- Symbol `i`. -/
def progSym (p : Prog) (i : Nat) : Symbol :=
  let b := hdr p 4 + 4 * i
  ⟨hdr p b, getBits (p (b + 1)) 31 24, getBits (p (b + 1)) 16 16 == 1, getBits (p (b + 1)) 15 0, hdr p (b + 2)⟩

def progSyms (p : Prog) : List Symbol := (List.range (hdr p 5)).map (progSym p)

/-- Entries of the input list: point and SUBST. -/
def inEntries (p : Prog) : List (Nat × Nat) :=
  (List.range (hdr p 9)).map (fun i => let w := p (hdr p 8 + i); (getBits w 12 0, getBits w 23 22))

/-- Entries of the output list: point and BACnet priority. -/
def outEntries (p : Prog) : List (Nat × Nat) :=
  (List.range (hdr p 11)).map (fun i => let w := p (hdr p 10 + i); (getBits w 12 0, getBits w 27 24 + 1))

/-! ## Symbols -/

/-- The extent of a symbol in bits of the data window: first bit, and the first bit beyond. -/
def Symbol.span (y : Symbol) : Nat × Nat :=
  if y.type = 1 then (y.addr, y.addr + y.len)
  else if y.type ≤ 4 then (8 * y.addr, 8 * y.addr + 32 * y.len)
  else (8 * y.addr, 8 * y.addr + 96 * y.len)

/-- The areas of R208 that are not reserved, in words. -/
def dataAreas : List (Nat × Nat) :=
  [(inW, inQ), (inQ, outFailW), (outFailW, 0x2900), (outW, outQ), (outQ, sysW), (sysW, 0x5840), (workW, retW), (retW, dataEnd)]

/-- The extent lies wholly within one area. -/
def Symbol.placed (y : Symbol) : Bool :=
  let e := y.span
  dataAreas.any (fun a => decide (32 * a.1 ≤ e.1) && decide (e.2 ≤ 32 * a.2))

/-- First word and first word beyond. -/
def Symbol.words (y : Symbol) : Nat × Nat := (y.span.1 / 32, (y.span.2 + 31) / 32)

/-- Same SYM_ID and same type (R216). -/
def Symbol.same (a b : Symbol) : Bool := a.id == b.id && a.type == b.type && a.len == b.len

/-- A word with the bits from window bit `lo` to below `hi` replaced. -/
def overlay (lo hi k : Nat) (val : Nat → Bool) (w : Word) : Word :=
  BitVec.ofNat 32 ((List.range 32).foldl (fun (a : Nat) j =>
    let p := 32 * k + j
    a + b2n (if lo ≤ p ∧ p < hi then val (p - lo) else w.getLsbD j) * 2 ^ j) 0)

/-- Put bits over the extent of a symbol. -/
def State.overlaySym (y : Symbol) (val : Nat → Bool) (s : State) : State :=
  let (a, b) := y.words
  (List.range (b - a)).foldl (fun (s : State) i => s.setDataWord (a + i) (overlay y.span.1 y.span.2 (a + i) val (s.dataWord (a + i)))) s

/-- Bit `p` of the data window. -/
def State.dataBit (s : State) (p : Nat) : Bool := (s.dataWord (p / 32)).getLsbD (p % 32)

/-! ## Checks (R217) -/

/-- The words that code and tables end at. -/
def progEnd (p : Prog) : Nat :=
  [16 + hdr p 2, hdr p 4 + 4 * hdr p 5, hdr p 6 + hdr p 7, hdr p 8 + hdr p 9, hdr p 10 + hdr p 11].foldl max 16

/-- The CRC over words 0 to 14 and every word from 16 to the end of the last table. -/
def progCrc (p : Prog) : Word :=
  BitVec.ofNat 32 (crc32c ((List.range 15).map p ++ (List.range (progEnd p - 16)).map (fun i => p (16 + i))))

/-- No two equal members. -/
def distinct : List Nat → Bool
  | [] => true
  | a :: t => !t.contains a && distinct t

/-- The conditions of BOUNDS beside the size of the tables. -/
def progBounds (p : Prog) : Bool :=
  let rl := hdr p 12
  decide (1 ≤ hdr p 2) && decide (hdr p 3 < hdr p 2) && rl % 8 == 0 && decide (rl ≤ 65536) && decide (hdr p 7 ≤ 106496)
    && (progSyms p).all (fun y => decide (1 ≤ y.type) && decide (y.type ≤ 6) && decide (1 ≤ y.len) && y.placed
        && (!y.ret || (decide (32 * retW ≤ y.span.1) && decide (y.span.2 ≤ 32 * retW + 8 * rl))))
    && decide (((progSyms p).filter (fun y => y.ret)).length ≤ 4096)

/-- Whether a point is bound to a channel with SAFETY set. -/
def State.safetyPoint (s : State) (n : Nat) : Bool :=
  let k := s.get (Reg.PT_TARGET n) % 256
  s.get (Reg.PT_BIND n) == 1 && s.flag (Reg.TILE_SAFETY (k / 32) (k % 32))

/-- The first check that fails, as SWAP_ERR reports it; 0 where all hold. -/
def State.checkProg (s : State) (p : Prog) : Nat :=
  if hdr p 0 ≠ 0x53434E31 then 1
  else if hdr p 1 / 65536 ≠ 1 then 2
  else if bankWords < progEnd p then 4
  else if p 15 ≠ progCrc p then 3
  else if !progBounds p then 4
  else if !distinct ((progSyms p).map (fun y => y.id)) then 5
  else if (outEntries p).any (fun e => s.safetyPoint e.1) then 6
  else if 8192 < hdr p 9 ∨ 8192 < hdr p 11 ∨ distinct ((inEntries p).map (fun e => e.1)) = false
      ∨ distinct ((outEntries p).map (fun e => e.1)) = false then 7
  else 0

/-- PROG_ID, counts and RET_LEN of the active program. -/
def State.showProg (s : State) : State :=
  let p := s.activeProg
  let s := (s.setWord Reg.SCN_PROG_ID.addr (p 13)).set Reg.SCN_OUT_COUNT (hdr p 11)
  (s.set Reg.SCN_IN_COUNT (hdr p 9)).set Reg.SCN_RET_LEN (hdr p 12)

/-! ## WORK and RET (R208) -/

/-- Keep the words of the store outside a range of addresses. -/
def State.clearRange (s : State) (lo hi : Nat) : State :=
  { s with mem := s.mem.filter (fun (e : Nat × Word) => decide (e.1 < lo) || decide (hi ≤ e.1)) }

/-- Every word in a range of addresses is written anew: what errors it held ends (R88). -/
def State.eccForget (s : State) (lo hi : Nat) : State :=
  let out := fun (a : Nat) => decide (a < lo) || decide (hi ≤ a)
  { s with eccMarked := s.eccMarked.filter out, eccSingle := s.eccSingle.filter out, eccNew := s.eccNew.filter out }

/-- Give the words in a range of addresses the value 0. -/
def State.wipe (s : State) (lo hi : Nat) : State := (s.clearRange lo hi).eccForget lo hi

/-- Give WORK and RET the initial image of a program, 0 beyond INIT_LEN. -/
def State.initData (s : State) (p : Prog) : State :=
  let s := s.wipe (dataAddr workW) (dataAddr dataEnd)
  (List.range (hdr p 7)).foldl (fun (s : State) i => s.setDataWord (workW + i) (p (hdr p 6 + i))) s

/-! ## Retentive data (R212 to R214) -/

/-- The retentive symbols of a program. -/
def retSyms (p : Prog) : List Symbol := (progSyms p).filter (fun y => y.ret)

/-- The first RET_LEN bytes of RET, words that are not 0, by index. -/
def State.retData (s : State) : KV Word :=
  (s.mem.filter (fun (e : Nat × Word) => decide (dataAddr retW ≤ e.1) && decide (e.1 < dataAddr retW + s.get Reg.SCN_RET_LEN))).map
    (fun (e : Nat × Word) => ((e.1 - dataAddr 0) / 4, e.2))

/-- The retentive copy at the end of a completed scan; held from H3 on (R213). -/
def State.retentiveCopy (s : State) : State :=
  if s.scan.frozen then s
  else { s with scan := { s.scan with 
    shadow := ⟨s.scan.shadow.gen + 1, 0, s.get Reg.SCN_PROG_ID, retSyms s.activeProg, s.get Reg.SCN_RET_LEN, s.retData, 0⟩, shadowOk := true } }

/-- Bit `p` of the data window in a copy. -/
def RetCopy.bit (c : RetCopy) (p : Nat) : Bool := (KV.getD c.data (p / 32) 0).getLsbD (p % 32)

/-- Place a copy's data by symbol: the retentive symbols of the active program that the copy holds with the same TYPE
and LEN take their saved value. -/
def State.placeCopy (s : State) (c : RetCopy) : State :=
  (retSyms s.activeProg).foldl (fun (s : State) y =>
    match c.syms.find? (fun o => o.same y) with
    | some o => s.overlaySym y (fun i => c.bit (o.span.1 + i))
    | none => s) s

/-- The words of a copy, in the order in which R212 names its parts (log entry 96). -/
def RetCopy.words (c : RetCopy) : List Word :=
  [BitVec.ofNat 32 c.gen, BitVec.ofNat 32 c.kind, BitVec.ofNat 32 c.progId]
    ++ c.syms.flatMap (fun y => [BitVec.ofNat 32 y.id, BitVec.ofNat 32 (y.type * 2 ^ 24 + b2n y.ret * 2 ^ 16 + y.len), BitVec.ofNat 32 y.addr])
    ++ (List.range (c.len / 4)).map (fun i => KV.getD c.data (retW + i) 0)

/-- The CRC-32C over a copy (R212, R532), and whether the one it carries holds. -/
def RetCopy.sum (c : RetCopy) : Word := BitVec.ofNat 32 (crc32c c.words)
def RetCopy.holds (c : RetCopy) : Bool := c.crc == c.sum

/-- A copy whose write is under way: its CRC does not hold. -/
def RetCopy.torn (c : RetCopy) : RetCopy := { c with crc := ~~~ c.sum }

/-- The newest MRAM copy whose CRC holds. -/
def ScanEngine.newest (e : ScanEngine) : Option RetCopy :=
  if e.copyA.holds && e.copyB.holds then some (if e.copyA.gen < e.copyB.gen then e.copyB else e.copyA)
  else if e.copyA.holds then some e.copyA else if e.copyB.holds then some e.copyB else none

/-- Start a write of the shadow to the older of the two copies (R212): the copy written holds no valid CRC until it is
complete. Before a scan has filled the shadow it is the newest copy that is written again. A COMMANDED copy that another
replaces waits. -/
def State.startRetCopy (s : State) (kind : Nat) : State :=
  let e := s.scan
  let useA := !e.copyA.holds || (e.copyB.holds && decide (e.copyA.gen < e.copyB.gen))
  let src := if e.shadowOk then e.shadow else e.newest.getD e.shadow
  let c : RetCopy := { src with gen := max e.copyA.gen e.copyB.gen + 1, kind := kind }
  let wait := e.retWait || (e.writing.elim false (fun w => w.2.kind == 2) && kind != 2)
  let e := if useA then { e with copyA := e.copyA.torn } else { e with copyB := e.copyB.torn }
  { s with scan := { e with writing := some (useA, { c with crc := c.sum }), retWait := wait } }

/-- The write completes: RET_GEN is its generation; a COMMANDED copy raises RET_SAVED, and one that waits is started. -/
def State.endRetCopy (s : State) : State :=
  match s.scan.writing with
  | none => s
  | some (useA, c) =>
    let e := { s.scan with writing := none }
    let s := { s with scan := if useA then { e with copyA := c } else { e with copyB := c } }
    let s := s.set Reg.SCN_RET_GEN c.gen
    let s := if c.kind = 2 then s.irq Page.SCN Irq.SCN_RET_SAVED else s
    if s.scan.retWait then ({ s with scan := { s.scan with retWait := false } }).startRetCopy 2 else s

/-- RET at a release (R214): from the shadow at reach APP or SYS, from MRAM at FULL or wider. -/
def State.restoreRet (s : State) (full : Bool) : State :=
  if !full && s.scan.shadowOk then s.placeCopy s.scan.shadow
  else match s.scan.newest with
    | none =>
      ((s.setFlag Reg.SCN_RET_LOST true).err Page.SCN Err.SCN_RET_LOST).record sevFault Page.SCN 1 0 []
    | some c =>
      let s := s.placeCopy c
      if c.kind = 0 then ((s.setFlag Reg.SCN_RET_OLD true).err Page.SCN Err.SCN_RET_OLD).record sevWarning Page.SCN 2 0 [] else s

/-! ## Forces (R219 to R221) -/

/-- The active forces with their values. -/
def State.forces (s : State) : List (Symbol × Word) :=
  s.scan.forceSym.map (fun (e : Nat × Symbol) => (e.2, s.word (Reg.SCN_FORCE_VALUE e.1).addr))

/-- The bits that a force writes: bit 0 of VALUE for BOOL, else VALUE in every word (log entry 19). -/
def forceBits (y : Symbol) (v : Word) (i : Nat) : Bool := if y.type = 1 then v.getLsbD 0 else v.getLsbD (i % 32)

/-- The points that a symbol in IN_W or OUT_W covers. -/
def Symbol.points (y : Symbol) : List Nat :=
  let (a, b) := y.words
  if b ≤ inQ then (List.range (b - a)).map (fun i => a + i)
  else if outW ≤ a ∧ b ≤ outQ then (List.range (b - a)).map (fun i => a + i - outW)
  else []

/-- Forces on input symbols replace the captured values and set FORCED. -/
def State.forceInputs (s : State) : State :=
  s.forces.foldl (fun (s : State) (e : Symbol × Word) =>
    if e.1.words.2 ≤ inQ then
      e.1.points.foldl (fun (s : State) n => s.setDataByte inQ n (s.dataByte inQ n ||| 128)) (s.overlaySym e.1 (forceBits e.1 e.2))
    else s) s

/-- Forces on WORK and RET are written at the start of each execute phase. -/
def State.forceWork (s : State) : State :=
  s.forces.foldl (fun (s : State) (e : Symbol × Word) =>
    if workW ≤ e.1.words.1 then s.overlaySym e.1 (forceBits e.1 e.2) else s) s

/-- The value that the output phase writes to point `n`, and whether a force gives it. -/
def State.outValue (s : State) (n : Nat) : Word × Bool :=
  s.forces.foldl (fun (r : Word × Bool) (e : Symbol × Word) =>
    if e.1.points.contains n && decide (outW ≤ e.1.words.1) then
      (overlay e.1.span.1 e.1.span.2 (outW + n) (forceBits e.1 e.2) r.1, true)
    else r) (s.dataWord (outW + n), false)

/-- FORCED shows whether any force is active. -/
def State.showForced (s : State) : State := s.setFlag Reg.SCN_FORCED (!s.scan.forceSym.isEmpty)

/-- The symbol that a force entry names in the active program. -/
def State.forceTarget (s : State) (f : Nat) : Option Symbol :=
  (progSyms s.activeProg).find? (fun y => y.id == s.get (Reg.SCN_FORCE_SYM_ID f) && y.type == s.get (Reg.SCN_FORCE_TYPE f)
    && y.len == s.get (Reg.SCN_FORCE_LEN f))

/-- Make a force entry inactive with a status. -/
def State.forceOff (s : State) (f st : Nat) : State :=
  let s := (s.setFlag (Reg.SCN_FORCE_EN f) false).set (Reg.SCN_FORCE_STATUS f) st
  ({ s with scan := { s.scan with forceSym := KV.del s.scan.forceSym f } }).showForced

/-- EXEC CLEAR_FORCES, and what a reset of reach APP or wider does: the whole table is cleared. -/
def State.clearForces (s : State) : State :=
  let s := s.clearRange (Reg.SCN_FORCE_SYM_ID 0).addr ((Reg.SCN_FORCE_SYM_ID 127).addr + 16)
  ({ s with scan := { s.scan with forceSym := [] } }).showForced

/-- Resolve the active forces again after a swap (R221). -/
def State.reforce (s : State) : State :=
  s.scan.forceSym.foldl (fun (s : State) (e : Nat × Symbol) =>
    let f := e.1
    match s.forceTarget f with
    | some y => { s with scan := { s.scan with forceSym := KV.put s.scan.forceSym f y } }
    | none =>
      let s := ((s.forceOff f 0).setFlag (Reg.SCN_FORCE_DROPPED f) true).bump Reg.SCN_FORCE_DROP
      let id := s.get (Reg.SCN_FORCE_SYM_ID f)
      (s.irq Page.SCN Irq.SCN_FORCE_DROP).record sevWarning Page.SCN 3 id []) s

/-! ## The swap (R218) -/

/-- Words of WORK and RET that some symbol covers: the spans by first word, then their union's size. -/
def coveredWords (ys : List Symbol) : Nat :=
  let spans : KV Nat := ys.foldl (fun (m : KV Nat) y =>
    let (a, b) := y.words
    if workW ≤ a then KV.put m a (max b (KV.getD m a 0)) else m) []
  (spans.foldl (fun (r : Nat × Nat) (e : Nat × Nat) => (r.1 + (e.2 - max e.1 r.2), max r.2 e.2)) (0, 0)).1

/-- The time of a swap in units of 0.5 ns. -/
def swapTime (new old : Prog) : Nat :=
  let ys := progSyms new
  let kept := ys.filter (fun y => decide (workW ≤ y.words.1) && (progSyms old).any (fun o => o.same y))
  let bytes := kept.foldl (fun (a : Nat) y => a + (y.span.2 - y.span.1 + 7) / 8) 0 + 4 * (106496 - coveredWords ys)
  4000 + 80 * ys.length + 5 * (bytes / 8)

/-- Exchange the banks: the program window takes the old program, and marked words go with their bank. -/
def State.exchangeBanks (s : State) : State :=
  let lo := 0x02000000
  let hi := 0x02100000
  let new : KV Word := (s.mem.filter (fun (e : Nat × Word) => decide (lo ≤ e.1) && decide (e.1 < hi))).map (fun (e : Nat × Word) => (e.1 - lo, e.2))
  let mem := s.scan.bank.foldl (fun (m : Memory) (e : Nat × Word) => m.write (lo + e.1) e.2)
    (s.mem.filter (fun (e : Nat × Word) => decide (e.1 < lo) || decide (hi ≤ e.1)))
  let moved := fun (a : Nat) => if lo ≤ a ∧ a < hi then bankMark (a - lo) else if bankMark 0 ≤ a ∧ a < loopMark 0 0 then lo + (a - bankMark 0) else a
  { s with mem := mem, eccMarked := s.eccMarked.map moved, eccSingle := s.eccSingle.map moved, eccNew := s.eccNew.map moved, scan := { s.scan with bank := new } }

/-- Carry the old values of symbols that both programs hold; everything else takes the new program's initial image. -/
def State.carry (s : State) (old : List Symbol) (before : State) : State :=
  let p := s.activeProg
  (progSyms p).foldl (fun (s : State) y =>
    if workW ≤ y.words.1 then
      match old.find? (fun o => o.same y) with
      | some o => s.overlaySym y (fun i => before.dataBit (o.span.1 + i))
      | none => s
    else s) (s.initData p)

/-- The swap ends: the window may be written again. -/
def State.swapDone (s : State) : State :=
  (({ s with scan := { s.scan with swapRest := 0 } }).setFlag Reg.SCN_SWAP_PEND false).irq Page.SCN Irq.SCN_SWAP_DONE

/-- The exchange of a swap; until SWAP_DONE it is pending, for `rest` beyond the tick. -/
def State.doSwap (s : State) (rest : Nat) : State :=
  let before := s
  let old := progSyms s.activeProg
  let s := s.exchangeBanks.carry old before
  let s := (s.setFlag Reg.SCN_ACTIVE_BANK (!s.flag Reg.SCN_ACTIVE_BANK)).setFlag Reg.SCN_PROG_OK true
  let s := s.showProg.reforce.showForced
  if rest = 0 then s.swapDone else ({ s with scan := { s.scan with swapRest := rest } }).setFlag Reg.SCN_SWAP_PEND true

/-- The words of a program that a swap reads: its header and its symbols, by key in the bank at `base`. -/
def swapProgReads (base : Nat) (p : Prog) : List Nat :=
  (List.range 16).map (fun i => base + 4 * i) ++ (List.range (4 * hdr p 5)).map (fun i => base + 4 * (hdr p 4 + i))

/-- The words that a swap reads (R88, R207): both programs' headers and symbols, the new one's initial image, and the values
carried. -/
def State.swapReads (s : State) : List Nat :=
  let old := progSyms s.activeProg
  let p := s.inactiveProg
  swapProgReads (bankMark 0) s.activeProg ++ swapProgReads 0x02000000 p
    ++ (List.range (hdr p 7)).map (fun i => 0x02000000 + 4 * (hdr p 6 + i))
    ++ (progSyms p).flatMap (fun y => if workW ≤ y.words.1 then
        match old.find? (fun o => o.same y) with
        | some o => (List.range (o.words.2 - o.words.1)).map (fun i => dataAddr (o.words.1 + i))
        | none => []
      else [])

end Sys2Proof.Machine
end

