-- ==== Sys2Proof/Machine/Twin.lean ====
section
/-! DEFINITION. Twin operation (R443 to R461): pairing, joining, agreement rounds, giving up control and
resynchronisation. For a unit whose EN is clear every command of this file is void (R443). -/

namespace Sys2Proof.Machine

/-- A command of the pair, void while EN is clear. -/
def State.twinned (s : State) (g : State → State) : State := if s.flag Reg.TWN_EN then g s else s

/-! ## Pairing (R444, R445) -/

/-- The addresses that CFG_DIGEST leaves out: the MTR, CIRC and PULSE pages, the calibration store, and the unit's own
addresses (its MAC addresses). -/
def digestSkips (a : Nat) : Bool :=
  let p := a / 4096
  match pageKind p with
  | some .MTR | some .CIRC | some .PULSE | some .CAL => decide (a < 0x01000000)
  | some .MAC => a % 4096 == 0x48 || a % 4096 == 0x4C
  | _ => false

/-- The 48-byte CFG_DIGEST, with PREFER left out: configuration words, priority arrays and the saved program. -/
def State.cfgDigest (s : State) : Nat :=
  Config.sha384 ((s.cfgStore.filter (fun (e : Nat × Word) => !digestSkips e.1)).foldr
    (fun (e : Nat × Word) l => e.1 :: (if e.1 = Reg.TWN_PREFER.addr then setBits e.2 30 30 0 else e.2).toNat :: l)
    (s.cfgPrio.foldr (fun (e : Nat × KV PSlot) l => e.1 :: e.2.foldr (fun (x : Nat × PSlot) l => x.1 :: x.2.value.toNat :: x.2.qual :: b2n x.2.active :: l) l)
      (s.scan.store.foldr (fun (e : Nat × Word) l => e.1 :: e.2.toNat :: l) [])))

/-- Check 5: channels with PAIRED and TWIN set. -/
def State.pairChannelsOk (s : State) : Bool :=
  (List.range 256).all (fun k =>
    let w := s.word (chCfgAddr (k / 32) (k % 32))
    let m := getBits w 31 28
    !(getBits w 24 24 == 1 && getBits w 7 7 == 1)
      || ((m == ChMode.DOUT || (m == ChMode.FAST && getBits w 13 12 == 0)) && getBits w 9 9 == 0 && s.get (Reg.TILE_CH_ACTION (k / 32) (k % 32)) == 0))

/-- The hashes of a manifest's parts. -/
def Manifest.hashes (m : Manifest) : List Nat := m.parts.map (fun (p : Nat × Nat) => p.2)

/-- The first check of R444 that fails, 0 where all hold. Check 2 counts as met for the resync of an updated unit
(R483). -/
def State.pairError (s : State) (p : TwinPeer) : Nat :=
  let credOk := s.handles.any (fun e => e.2.kind == Kind.CREDENTIAL && e.2.credId == s.get Reg.TWN_PAIR_CRED && e.2.tag == 0 && s.usable e.1)
  let own := s.runManifest.hashes
  if !credOk || !p.handshake then 1
  else if !(own == p.parts || (s.twin.updated && own == p.staged)) then 2
  else if s.cfgDigest ≠ p.digest then 3
  else if !s.flag (Reg.MAC_PRP_ACTIVE 0) || !p.prp then 4
  else if !s.pairChannelsOk || !p.channels then 5
  else 0

/-- PAIRING_ATTEMPT. A unit in RESYNC that pairs starts its copy, with AUTO_RESYNC set. -/
def pairingAttempt (p : TwinPeer) (s : State) : State :=
  let e := s.pairError p
  let s := (s.set Reg.TWN_PAIR_ERR e).setFlag Reg.TWN_PARTNER p.handshake
  let s := { s with twin := { s.twin with paired := e == 0, peerState := p.state, peerParts := p.parts, peerStaged := p.staged } }
  if e ≠ 0 then s.err Page.TWN Err.TWN_PAIR_FAIL
  else
    let s := s.setW Reg.TWN_PEER_SERIAL p.serial
    if s.get Reg.TWN_STATE = TwinState.RESYNC ∧ s.flag Reg.TWN_AUTO_RESYNC = true then s.setFlag Reg.TWN_RESYNC_BUSY true else s

def execPairingAttempt (p : TwinPeer) (s : State) : Out State := .next (s.twinned (pairingAttempt p))

/-! ## Joining (R446) -/

/-- Enter RESYNC: the unit's tiles go to safe state, and once the units have paired the copy starts. -/
def State.enterResync (s : State) : State :=
  let s := (s.orderGoSafeAll.setTwinState TwinState.RESYNC).setFlag Reg.TWN_RESYNC_BUSY s.twin.paired
  { s with twin := { s.twin with starting := false } }

/-- PARTNER_FOUND: a starting unit takes its part beside a partner whose handshake verifies; one that has not paired yet pairs in
RESYNC. -/
def partnerFound (p : TwinPeer) (s : State) : State :=
  if !s.twin.starting || !p.handshake then s
  else if p.starting then
    let own := s.flag Reg.TWN_PREFER
    let first := if own != p.prefer then own else decide (s.get Reg.SYS_SERIAL_HI * 2 ^ 32 + s.get Reg.SYS_SERIAL_LO < p.serial)
    if first then
      let s := s.setTwinState TwinState.ACTIVE
      { s with twin := { s.twin with starting := false } }
    else s.enterResync
  else if p.state.val ≤ 1 ∧ s.flag Reg.TWN_AUTO_RESYNC = true then s.enterResync
  else s

def execPartnerFound (p : TwinPeer) (s : State) : Out State := .next (s.twinned (partnerFound p))

/-- EN is cleared: the unit is SOLO (R443). -/
def State.twinOff (s : State) : State :=
  let s := (s.dropPeers.setTwinState TwinState.SOLO).setFlag Reg.TWN_RESYNC_BUSY false
  { s with twin := { s.twin with starting := false, paired := false } }

/-! ## Commands (TWN_CMD) -/

/-- TWN_CMD. -/
def twnCmd (c : Nat) (s : State) : State :=
  let st := s.get Reg.TWN_STATE
  let bad := s.answer Status.E_STATE []
  if c = 0 then s
  else if !s.flag Reg.TWN_EN then bad
  else if c = 1 then
    if (st = TwinState.SOLO ∨ st = TwinState.RESYNC) ∧ s.twin.paired = true ∧ s.flag Reg.TWN_RESYNC_BUSY = false then s.enterResync.answer Status.OK []
    else bad
  else if c = 2 then
    if st = TwinState.ACTIVE ∧ s.twin.peerState = TwinState.STANDBY then ({ s with twin := { s.twin with switchIn := some 2 } }).answer Status.OK [] else bad
  else if s.inPair then (s.giveUpNow 1).answer Status.OK [] else bad

def execTwnCmdResync (s : State) : Out State := .next (twnCmd 1 s)
def execTwnCmdSwitch (s : State) : Out State := .next (twnCmd 2 s)
def execTwnCmdGiveUp (s : State) : Out State := .next (twnCmd 3 s)

/-! ## Agreement rounds (R447 to R451) -/

/-- The output digest of the round that ends: OUT words of paired channels, and the frames queued (R450). -/
def State.roundDigest (s : State) : Nat :=
  let mask := fun (t : Nat) => (List.range 32).foldl (fun (a : Nat) n =>
    let w := s.word (chCfgAddr t n)
    if getBits w 24 24 = 1 ∧ getBits w 7 7 = 1 then a + 2 ^ n else a) 0
  crc32c ((List.range 8).map (fun t => s.word (Reg.TILE_OUT t).addr &&& BitVec.ofNat 32 (mask t)) ++ s.twin.roundOut)

/-- The agreed value of a point from the ACTIVE's own reading and the STANDBY's (R448): the better quality, the own
value where equal. -/
def agree (own : Option InVal) (peer : Option InVal) : Option InVal :=
  match own, peer with
  | some a, some b => some (if qualCode b.qual < qualCode a.qual then b else a)
  | some a, none => some a
  | none, b => b

/-- A disagreement between two readings both GOOD is counted and captured. -/
def State.noteDisagree (s : State) (n : Nat) (own peer : Option InVal) : State :=
  match own, peer with
  | some a, some b => if qualCode a.qual = Qual.GOOD ∧ qualCode b.qual = Qual.GOOD ∧ a.value ≠ b.value then (s.bump Reg.TWN_DISAGREE_CNT).set Reg.TWN_DIS_POINT n else s
  | _, _ => s

/-- The ACTIVE forms the agreed set, sends it with its digest, and enters it. -/
def State.activeRound (s : State) (m : RoundIn) (digest : Nat) : State :=
  let got : List InVal := m.vals.map (fun (v : RoundVal) => ⟨v.point, v.value, v.qual.toNat⟩)
  let s := { s with twin := { s.twin with peer := got.foldl (fun k v => KV.put k v.point v) s.twin.peer } }
  let pts := (s.twin.fresh ++ got).map (·.point)
  let pts := pts.foldl (fun (l : List Nat) n => if l.contains n then l else l ++ [n]) []
  let agreed := pts.filterMap (fun n => agree (KV.get? s.twin.own n) (KV.get? s.twin.peer n))
  let s := pts.foldl (fun (s : State) n => s.noteDisagree n (KV.get? s.twin.own n) (KV.get? s.twin.peer n)) s
  let s := s.send .twinRound 0 0 (digest :: s.getW Reg.ANG_SEQ :: agreed.foldr (fun (v : InVal) l => v.point :: v.value.toNat :: v.qual :: l) [])
  let s := { s with twin := { s.twin with fresh := [] } }
  let s := agreed.foldl State.takeAgreed s
  foldN 8 (fun n (s : State) =>
    match KV.get? s.twin.carOwn n, m.cars.find? (fun e => e.1.val == n) with
    | some (p, true), _ => s.takeCarPos n p true
    | _, some e => s.takeCarPos n e.2.1 e.2.2
    | some (p, false), none => s.takeCarPos n p false
    | none, none => s) s

/-- A word of the coil table (R156). -/
def inCoilTable (a : Nat) : Bool := decide (0x17800 ≤ a) && decide (a < 0x18000) && a % 4 == 0

/-- The STANDBY sends its set and applies the agreed one; a digest that differs makes it give up control. -/
def State.standbyRound (s : State) (m : RoundIn) (digest : Nat) : State :=
  let s := s.send .twinRound 0 0 (s.twin.fresh.foldr (fun (v : InVal) l => v.point :: v.value.toNat :: v.qual :: l) [])
  let s := { s with twin := { s.twin with fresh := [] } }
  let s := m.vals.foldl (fun (s : State) (v : RoundVal) => s.takeAgreed ⟨v.point, v.value, v.qual.toNat⟩) s
  let s := m.cars.foldl (fun (s : State) (e : Fin 8 × Word × Bool) => s.takeCarPos e.1 e.2.1 e.2.2) s
  let s := ((s.setW Reg.ANG_SEQ m.seq).set Reg.TWN_TIME_OFS m.ofs.toNat).setFlag Reg.TBS_VALID m.valid
  let s := { s with twin := { s.twin with pairSeq := m.pairSeq } }
  let s := m.coils.foldl (fun (s : State) (e : Nat × Word) => if inCoilTable e.1 then s.setWord e.1 e.2 else s) s
  if digest ≠ m.digest then ((s.bump Reg.TWN_DIVERGE_CNT).irq Page.TWN Irq.TWN_DIVERGE).giveUp 5 else s

/-- The partner's levels of paired channels (R454). -/
def State.takePeerOuts (s : State) (outs : List Word) : State :=
  foldN 8 (fun t s => s.modTile t (fun x => x.setPeer (outs.getD t 0).toNat)) s

/-- Roles change at the second round after SWITCH, and a STANDBY whose partner gave up becomes ACTIVE (R456). -/
def State.changeRoles (s : State) : State :=
  let st := s.get Reg.TWN_STATE
  if s.twin.gotGive && st == TwinState.STANDBY then s.setTwinState TwinState.ACTIVE
  else match s.twin.switchIn with
    | none => s
    | some k =>
      if 1 < k then { s with twin := { s.twin with switchIn := some (k - 1) } }
      else
        let s := { s with twin := { s.twin with switchIn := none, peerState := st } }
        (s.setTwinState (if st = TwinState.ACTIVE then TwinState.STANDBY else TwinState.ACTIVE)).bump Reg.TWN_SWITCH_CNT

/-- AGREEMENT_ROUND: one round with what has reached the unit in time. A unit whose scan engine has left RUN since the
last round while the partner's runs gives up control (R455). -/
def agreementRound (m : RoundIn) (s : State) : State :=
  if !s.inPair then s
  else
    let d := s.roundDigest
    let ran := s.get Reg.SCN_MODE == 1
    let left := s.twin.ownRan && !ran && m.scanRun
    let s := { s with twin := { s.twin with ownRan := ran } }
    if left then s.giveUp 8 else
    let s := { s with twin := { s.twin with roundOut := [], peerRuns := m.scanRun, peerTemp := m.temp, switchIn := if m.switch && s.twin.switchIn.isNone then some 2 else s.twin.switchIn } }
    let s := s.changeRoles
    let s := s.takePeerOuts m.outs
    let act := s.get Reg.TWN_STATE == TwinState.ACTIVE
    let st := if act then s.get Reg.PWR_SHED else m.stages.toNat
    let s := State.resumeNotes s { s with twinActiveS1 := bitOf st 0, twinActiveS2 := bitOf st 1 }
    if s.get Reg.TWN_STATE = TwinState.ACTIVE then s.activeRound m d
    else if s.get Reg.TWN_STATE = TwinState.STANDBY then s.standbyRound m d
    else s

/-- A unit applies its own set. -/
def State.ownRound (s : State) : State :=
  let s := s.useOwn
  s.twin.carOwn.foldl (fun (s : State) (e : Nat × Word × Bool) => s.takeCarPos e.1 e.2.1 e.2.2) s

/-- ROUND_LATE (R449). On the ACTIVE a late set of the STANDBY joins the next round. -/
def execRoundLate (s : State) : Out State :=
  .next (s.twinned (fun s =>
    if s.get Reg.TWN_STATE = TwinState.STANDBY then
      (if s.twin.gotGive then s.ownRound else (s.bump Reg.TWN_ROUND_LATE).giveUp 6)
    else if s.get Reg.TWN_STATE = TwinState.ACTIVE then s.bump Reg.TWN_ROUND_LATE
    else s))

/-! ## Giving up control (R455 to R457) -/

/-- GIVE_UP_RECEIVE: an ACTIVE goes on alone with its own readings. -/
def execGiveUpReceive (s : State) : Out State :=
  .next (s.twinned (fun s =>
    if s.inPair then
      let s := if s.get Reg.TWN_STATE = TwinState.ACTIVE then s.useOwn else s
      { (s.irq Page.TWN Irq.TWN_GIVE_UP) with twin := { s.twin with peerState := TwinState.RESYNC, gotGive := s.get Reg.TWN_STATE == TwinState.STANDBY } }
    else s))

/-- TWIN_HEARTBEAT. -/
def execTwinHeartbeat (s : State) : Out State :=
  .next (s.twinned (fun s => s.send .twinHeartbeat 0 20648 [s.get Reg.TWN_STATE]))

/-- TWIN_HEARTBEAT_RECEIVE: a former STANDBY gives up control where its partner shows SOLO or ACTIVE within 30 ms of the
loss of the link. -/
def execTwinHeartbeatReceive (st : Fin 4) (s : State) : Out State :=
  .next (s.twinned (fun s =>
    let lost := s.twin.lostAt
    let s := { s with twin := { s.twin with hbAt := some s.unow, peerState := st } }
    match lost with
    | some t =>
      if s.get Reg.TWN_STATE = TwinState.SOLO ∧ st.val ≤ 1 ∧ s.unow < t + 30000000 then
        ({ s with twin := { s.twin with lostAt := none } }).giveUpNow 7
      else s
    | none => s))

/-- Whether the partner's last heartbeat came within 30 ms (NET_PEER). -/
def State.netPeer (s : State) : Bool := s.twin.hbAt.elim false (fun t => decide (s.unow < t + 30000000))

/-- TWIN_LINK_LOST. -/
def twinLinkLost (s : State) : State :=
  let st := s.get Reg.TWN_STATE
  let s := ((s.setFlag Reg.TWN_LANE0_UP false).setFlag Reg.TWN_LANE1_UP false).setFlag Reg.TWN_PARTNER false
  let s := { (s.irq Page.TWN Irq.TWN_LINK) with twin := { s.twin with paired := false, lostAt := if st = TwinState.STANDBY then some s.unow else none } }
  let s := s.dropPeers
  if st = TwinState.ACTIVE ∨ st = TwinState.STANDBY then s.setTwinState TwinState.SOLO else s

def execTwinLinkLost (s : State) : Out State := .next (s.twinned twinLinkLost)

/-- TWIN_LINK_TRAINED: a lane delivers valid messages; EPOCH rises (R445). -/
def execTwinLinkTrained (lane1 : Bool) (s : State) : Out State :=
  .next (s.twinned (fun s =>
    let back := !s.flag Reg.TWN_LANE0_UP && !s.flag Reg.TWN_LANE1_UP
    let s := s.setFlag (if lane1 then Reg.TWN_LANE1_UP else Reg.TWN_LANE0_UP) true
    let s := { s with twin := { s.twin with epoch := s.twin.epoch + 1 } }
    if back then s.irq Page.TWN Irq.TWN_LINK else s))

/-- TWIN_PRES_CHANGE: TWIN_PRES low is a cable fitted (R18). -/
def execTwinPresChange (low : Bool) (s : State) : Out State := .next { s with twin := { s.twin with present := low } }

/-! ## Resynchronisation (R459) -/

/-- The words that a resync copies. -/
def resyncCopies (a : Nat) : Bool :=
  decide (0x01000000 ≤ a && a < 0x07000000) ||
    (decide (a < 0x01000000) && match pageKind (a / 4096) with
      | some .AXIS | some .CAR | some .LFT | some .FIR | some .ANG | some .MOT => decide (0x40 ≤ a % 4096)
      | some .TILE => a == (Reg.TILE_OUT ((a / 4096) % 8)).addr
      | _ => false)

/-- The ACTIVE's state beside its words enters. The unit's own readings of the field stay, and the MRAM copies of its engines. -/
def State.takeCopy (s : State) (c : UnitCopy) : State :=
  { s with
    prioArrays := KV.between c.prio 1 2048
    cfgPrio := KV.between c.prio 1 2048
    scan := { s.scan with bank := (KV.between c.bank 0 (2 ^ 20)).keep (fun _ w => w != 0), forceSym := KV.between c.forces 0 256 }
    loops := KV.between c.loops 0 256
    axes := KV.between c.axes 0 24
    lines := KV.between c.lines 0 8
    slotCommit := KV.between c.commits 0 1024
    slotUnresolved := c.unsolved
    slotDev := c.devs
    coilLearn := KV.between c.coils 0 256
    calls := KV.between c.calls 0 4096
    nextCall := c.nextCall
    cars := (KV.between c.cars 0 8).mapV (fun n (x : Car) =>
      let own := KV.getD s.cars n Car.initial
      { x with hist := own.hist, bad := own.bad, good := own.good })
    fire := c.fire
    sessions := KV.between c.sessions 0 512
    handles := (KV.between c.keys 1472 2048).foldl (fun (k : KV Handle) e => KV.put k e.1 { e.2 with kind := Kind.SESSION })
      (s.handles.keep (fun h _ => decide (h < 1472)))
    subs := c.subs
    nextSid := c.nextSid
    nextSubId := c.nextSubId }

/-- RESYNC_COMPLETE: in RESYNC the unit becomes STANDBY, or ACTIVE where it was updated (R483); its partner takes the
other part. -/
def resyncComplete (m : ResyncIn) (s : State) : State :=
  let st := s.get Reg.TWN_STATE
  if st = TwinState.RESYNC ∧ s.flag Reg.TWN_RESYNC_BUSY = true then
    let s := s.setFlag Reg.TWN_RESYNC_BUSY false
    if !m.checks then (s.set Reg.TWN_RESYNC_ERR 2).err Page.TWN Err.TWN_RESYNC_FAIL
    else
      let s := s.noteOwn
      let s := s.takeCopy m.parts
      let s := m.words.foldl (fun (s : State) (e : Nat × Word) => if resyncCopies e.1 && e.1 % 4 == 0 then s.setWord e.1 e.2 else s) s
      let s := ((s.setW Reg.ANG_SEQ m.seq).set Reg.TWN_RESYNC_MS m.ms).set Reg.TWN_RESYNC_ERR 0
      let s := s.irq Page.TWN Irq.TWN_RESYNC_DONE
      let up := s.twin.updated
      let s := { s with twin := { s.twin with
        pairSeq := m.pairSeq
        updated := false
        starting := false
        peerState := if up then TwinState.STANDBY else TwinState.ACTIVE } }
      s.setTwinState (if up then TwinState.ACTIVE else TwinState.STANDBY)
  else if (st = TwinState.SOLO ∨ st = TwinState.ACTIVE) ∧ s.twin.paired = true ∧ m.checks = true then
    ({ s with twin := { s.twin with peerState := if m.updated then TwinState.ACTIVE else TwinState.STANDBY } }).setTwinState
      (if m.updated then TwinState.STANDBY else TwinState.ACTIVE)
  else s

def execResyncComplete (m : ResyncIn) (s : State) : Out State := .next (s.twinned (resyncComplete m))

/-- RESYNC_TIMEOUT. -/
def execResyncTimeout (s : State) : Out State :=
  .next (s.twinned (fun s =>
    if s.get Reg.TWN_STATE = TwinState.RESYNC ∧ s.flag Reg.TWN_RESYNC_BUSY = true then
      ((s.setFlag Reg.TWN_RESYNC_BUSY false).set Reg.TWN_RESYNC_ERR 1).err Page.TWN Err.TWN_RESYNC_FAIL
    else s))

end Sys2Proof.Machine
end

