-- ==== Sys2Proof/Machine/Scan.lean ====
section
/-! DEFINITION. The scan engine's modes and scan cycle (R196 to R211). A scan whose execute phase ends within its cycle
runs whole at its tick; otherwise it goes on at the next ticks (log entry 20). -/

namespace Sys2Proof.Machine

/-! Codes of SCN_STAT.MODE and PHASE. -/
namespace ScanMode
abbrev STOP : Nat := 0
abbrev RUN : Nat := 1
abbrev HOLD : Nat := 2
end ScanMode

namespace ScanPhase
abbrev IDLE : Nat := 0
abbrev INPUT : Nat := 1
abbrev EXECUTE : Nat := 2
abbrev OUTPUT : Nat := 3
end ScanPhase

/-- Change the engine's own state. -/
def State.modScan (s : State) (g : ScanEngine → ScanEngine) : State := { s with scan := g s.scan }

/-- MODE changes (IRQ MODE); time in HOLD is kept apart (R201). -/
def State.setScanMode (s : State) (m : Nat) : State :=
  let old := s.get Reg.SCN_MODE
  if old = m then s
  else
    let now := s.cycles
    let s := if old = ScanMode.HOLD then
        s.modScan (fun e => { e with held := e.held + (now - e.heldAt.getD now), heldAt := none }) else s
    let s := if m = ScanMode.HOLD then s.modScan (fun e => { e with heldAt := some now }) else s
    let s := if m = ScanMode.RUN then s.modScan (fun e => { e with stepping := false }) else s
    (s.set Reg.SCN_MODE m).irq Page.SCN Irq.SCN_MODE

/-! ## STOP (R200, R207) -/

/-- The quality of a point becomes UNCERTAIN, in its slot as in the point; its value is not delivered again. -/
def State.uncertain (s : State) (n prio : Nat) : State :=
  let pa := s.get (Reg.PT_PA n)
  let s := if s.flag (Reg.PT_CMD n) then
      match KV.get? (s.paSlots pa) prio with
      | some x =>
        let a := KV.put s.prioArrays pa (KV.put (s.paSlots pa) prio { x with qual := Qual.UNCERTAIN })
        { s with prioArrays := a, cfgPrio := a }
      | none => s
    else s
  let q := s.get (Reg.PT_QUAL n)
  let q' := q / 16 * 16 + Qual.UNCERTAIN
  if q = q' then s else (s.set (Reg.PT_QUAL n) q').ptChanged n

/-- The tile that a point is bound to. -/
def State.tileOfPoint (s : State) (n : Nat) : Option Nat :=
  if s.get (Reg.PT_BIND n) = 1 then some (s.get (Reg.PT_TARGET n) % 256 / 32) else none

/-- The tiles that hold a channel bound to a point of the output list. -/
def State.scanTiles (s : State) : List Nat :=
  (List.range 8).filter (fun t => (outEntries s.activeProg).any (fun e => s.tileOfPoint e.1 == some t))

/-- The rules of STOP for the points and tiles; in a fire mode STOP_OUT counts as KEEP (R510). -/
def State.stopRules (s : State) : State :=
  let s := (outEntries s.activeProg).foldl (fun (s : State) e => s.uncertain e.1 e.2) s
  if s.flag Reg.SCN_STOP_OUT && s.get Reg.FIR_MODE == 0 then s.scanTiles.foldl (fun (s : State) t => s.orderGoSafe t) s else s

/-- A word with an uncorrectable error among those that a phase reads (R88, R207). -/
def State.broken (s : State) (l : List Nat) : Option Nat := l.find? s.badWord

/-- The words that a phase reads, single errors corrected (R88). -/
def State.corrected (s : State) (l : List Nat) : State := l.foldl State.correctAt s

/-- What a fault leaves besides STOP (R207, R229): PC, the word found marked, a record, and on a twin unit giving up control
(R455). -/
def State.faultNoted (s : State) (t : Trap) : State :=
  let s := s.afterTrap t
  let s := if t.code = ScanFault.ECC_UE then s.marked t.word else s
  (((s.set Reg.SCN_PC s.cpu.pc).irq Page.SCN Irq.SCN_FAULT).record sevFault Page.SCN 4 t.code []).giveUp 2

/-- The swap in STOP, at once; a word that it cannot read is a fault, and the swap is not made. FAULT keeps one that the entry to
STOP has just shown. -/
def State.swapStopped (s : State) (shown : Bool) : State :=
  match s.broken s.swapReads with
  | none => (s.corrected s.swapReads).doSwap 0
  | some a =>
    let s := (s.setFlag Reg.SCN_SWAP_PEND false).faultNoted ⟨ScanFault.ECC_UE, a, none⟩
    if shown then s else (s.set Reg.SCN_STOP_CAUSE 2).set Reg.SCN_FAULT ScanFault.ECC_UE

/-- Enter STOP: a scan under way is abandoned, a swap under way ends, and a pending one is made (log entry 20). -/
def State.enterStop (s : State) (cause fault : Nat) : State :=
  let was := s.get Reg.SCN_MODE
  let s := ((s.set Reg.SCN_STOP_CAUSE cause).set Reg.SCN_FAULT fault).set Reg.SCN_PHASE ScanPhase.IDLE
  let s := s.modScan (fun e => { e with toRun := false, toStop := false, toHold := false, stepping := false, skipBreak := false, total := 0, skipped := 0 })
  let s := s.setScanMode ScanMode.STOP
  let s := if was = ScanMode.STOP then s else s.stopRules
  if 0 < s.scan.swapRest then s.swapDone else if s.flag Reg.SCN_SWAP_PEND then s.swapStopped (fault != 0) else s

/-- A fault stops the engine (R207, R229). -/
def State.scanFault (s : State) (t : Trap) : State := (s.faultNoted t).enterStop 2 t.code

/-- A fault that no instruction raises. -/
def Trap.of (code : Nat) : Trap := ⟨code, 0, none⟩

/-! ## Writes to stations (R211) -/

/-- A write is found undeliverable: OUT_FAIL, UNDELIV_CNT, and UNDELIV once per scan. -/
def State.undeliverable (s : State) (n : Nat) : State :=
  let s := s.modScan (fun e => { e with outFail := e.outFail.filter (· != n) ++ [n], handed := e.handed.filter (· != n) })
  let s := s.bump Reg.SCN_UNDELIV_CNT
  if s.scan.undRaised then s else (s.modScan (fun e => { e with undRaised := true })).irq Page.SCN Irq.SCN_UNDELIV

/-- A write is confirmed. -/
def State.confirmed (s : State) (n : Nat) : State :=
  s.modScan (fun e => { e with outFail := e.outFail.filter (· != n), handed := e.handed.filter (· != n) })

/-- A CAN node marked absent: it is configured and not alive (R424). -/
def State.nodeAbsent (s : State) (c k : Nat) : Bool :=
  s.getBit (Reg.CANCH_NODE_CFG c (k / 32)) (k % 32) && !s.getBit (Reg.CANCH_NODE_ALIVE c (k / 32)) (k % 32)

/-- Whether a write to a point's station is undeliverable at its hand-over: a tile without link or whose channel
ENDURANCE has shed (R505), an absent node, an unreachable device. -/
def State.stationLost (s : State) (n : Nat) : Bool :=
  let tg := s.get (Reg.PT_TARGET n)
  let b := s.get (Reg.PT_BIND n)
  if b = 1 then !s.flag (Reg.TILE_LINK_UP (tg % 256 / 32)) || s.fireShed.contains (tg % 256)
  else if b = 2 then s.nodeAbsent (tg / 2 ^ 26 % 4) (tg / 2 ^ 19 % 128)
  else if b = 3 then s.scan.bacDown.contains (tg % 2 ^ 22)
  else false

/-- Hand a point of the output list on (R205): its value, or the forced one, at its priority. -/
def State.handOver (s : State) (n prio : Nat) : State :=
  let (w, forced) := s.outValue n
  let q := qualCode (s.dataByte outQ n) + (if forced then 128 else 0)
  if s.ptIn n then s
  else
    let s := if s.flag (Reg.PT_CMD n) then s.writeSlot (s.get (Reg.PT_PA n)) prio w q else s.setPoint n w q
    let s := s.ownerWrote n
    if s.flag (Reg.PT_OUT n) && s.get (Reg.PT_BIND n) != 0 then
      if s.stationLost n then s.undeliverable n
      else s.modScan (fun e => { e with handed := e.handed.filter (· != n) ++ [n] })
    else s

/-- WRITE_CONFIRM: the station's path confirms a write handed over. -/
def execWriteConfirm (n : Fin 8192) (s : State) : Out State :=
  .next (if s.scan.handed.contains n then
    let s := s.confirmed n
    if s.get (Reg.PT_BIND n) = 3 then
      let dev := s.get (Reg.PT_TARGET n) % 2 ^ 22
      { (s.modScan (fun e => { e with bacDown := e.bacDown.filter (· != dev) })) with deliveries := s.deliveries.filter (fun (d : Nat × Word) => d.1 != n) }
    else s
  else s)

/-- WRITE_UNDELIVERABLE: the path of a write handed over detects the loss, and the inputs of the station go COMM_FAIL with it. A
remote device is then marked unreachable, until one of its values is delivered again (log entry 21). -/
def execWriteUndeliverable (n : Fin 8192) (s : State) : Out State :=
  .next (if s.scan.handed.contains n then
    let s := s.undeliverable n
    let tg := s.get (Reg.PT_TARGET n)
    if s.get (Reg.PT_BIND n) = 3 then
      let dev := tg % 2 ^ 22
      (s.modScan (fun e => { e with bacDown := e.bacDown.filter (· != dev) ++ [dev] })).commFail (s.deviceInputs dev)
    else if s.get (Reg.PT_BIND n) = 2 then s.commFail (s.nodeInputs (tg / 2 ^ 26 % 4) (tg / 2 ^ 19 % 128))
    else s
  else s)

/-! ## Input phase (R204, R208) -/

/-- Capture one point of the input list. SUBST 3 is reserved: what it captures is free. -/
def State.capture (s : State) (n subst : Nat) : State :=
  let v := s.word (ptAddr n 0)
  let q := s.get (Reg.PT_QUAL n) &&& 0x8F
  let put := fun (s : State) (w : Word) (q : Nat) => (s.setDataWord (inW + n) w).setDataByte inQ n q
  if qualCode q < 2 then (put s v q).modScan (fun e => { e with lastGood := KV.put e.lastGood n v })
  else match subst with
    | 0 => put s (KV.getD s.scan.lastGood n 0) (q + 64)
    | 1 => put s 0 (q + 64)
    | 2 => put s v q
    | _ =>
      let (f, s) := s.fresh
      put s (BitVec.ofNat 32 f) (q + 64 * (f / 2 ^ 32 % 2))

/-- OUT_FAIL takes the points whose last write was undeliverable. -/
def State.copyOutFail (s : State) : State :=
  let s := s.clearRange (dataAddr outFailW) (dataAddr 0x2900)
  s.scan.outFail.foldl (fun (s : State) n => s.setDataWord (outFailW + n / 32) (setBits (s.dataWord (outFailW + n / 32)) (n % 32) (n % 32) 1)) s

/-- Cycles in HOLD since the last scan start, those of a HOLD that lasts among them (R201). -/
def State.heldFor (s : State) : Nat := s.scan.held + s.scan.heldAt.elim 0 (fun a => s.cycles - a)

/-- SCAN_DT in µs: counter cycles since the last scan start less those in HOLD; of a pair, grid intervals; 0 in the
first scan (R201, R202, R236, R450). -/
def State.scanDt (s : State) : Nat :=
  if s.scan.first then 0
  else match s.scan.started with
    | none => 0
    | some t => if s.inPair then s.scan.grids * s.get Reg.SCN_CYCLE_US else (s.cycles - t - s.heldFor) * 8 / 1000

/-- The values of the active forces. -/
def State.forceReads (s : State) : List Nat := s.scan.forceSym.map (fun (e : Nat × Symbol) => (Reg.SCN_FORCE_VALUE e.1).addr)

/-- The words that the input phase reads: the input list, the points it names, and the forces. -/
def State.inputReads (s : State) : List Nat :=
  let p := s.activeProg
  (List.range (hdr p 9)).map (fun i => bankMark (4 * (hdr p 8 + i))) ++ (inEntries p).flatMap (fun e => [ptAddr e.1 0, ptAddr e.1 1])
    ++ s.forceReads

/-- The words that the output phase reads: the output list, the points' words of the image, the forces, and the area retained. -/
def State.outputReads (s : State) : List Nat :=
  let p := s.activeProg
  (List.range (hdr p 11)).map (fun i => bankMark (4 * (hdr p 10 + i)))
    ++ (outEntries p).flatMap (fun e => [dataAddr (outW + e.1), dataAddr (outQ + e.1 / 4)])
    ++ (List.range (s.get Reg.SCN_RET_LEN / 4)).map (fun i => dataAddr (retW + i)) ++ s.forceReads

/-- The system words. -/
def State.writeSysw (s : State) (dt : Nat) : State :=
  let w := fun (s : State) (k v : Nat) => s.setDataWord (sysW + k) (BitVec.ofNat 32 v)
  let s := w (w s 0 (b2n s.scan.first)) 1 dt
  let s := w (w s 2 s.tai) 3 (s.tai / 2 ^ 32)
  let s := w s 4 (s.getW Reg.SCN_SCAN_CNT)
  w s 5 (s.get Reg.FIR_MODE + 16 * s.get Reg.PWR_MODE + 256 * s.get Reg.TWN_STATE)

/-- The input phase, and the forces and start values of the execute phase. -/
def State.inputPhase (s : State) : State :=
  let p := s.activeProg
  let dt := s.scanDt
  let ins := inEntries p
  let s := ins.foldl (fun (s : State) e => s.capture e.1 e.2) s
  let s := (s.copyOutFail.writeSysw dt).forceInputs
  let s := (s.set Reg.SCN_LAST_DT_US dt).forceWork
  let spent := 4000 + 10 * ins.length + 80 * s.scan.forceSym.length
  let now := s.cycles
  let s := s.modScan (fun e => { e with
    first := false, started := some now, held := 0, heldAt := e.heldAt.map (fun _ => now), grids := 0, undRaised := false, skipped := 0, total := 0, susp := 0
    spent := spent, limit := s.get Reg.SCN_CYCLE_US * 2000, skipBreak := false })
  (s.setCpu (Cpu.start (hdr p 3))).set Reg.SCN_PHASE ScanPhase.EXECUTE

/-! ## Output phase and the end of a scan (R203, R205, R206, R212) -/

/-- Enter HOLD at the end of a scan or at a breakpoint. -/
def State.enterHold (s : State) : State :=
  ((s.modScan (fun e => { e with toHold := false, stepping := false })).set Reg.SCN_PC s.cpu.pc).setScanMode ScanMode.HOLD

/-- The swap of a scan that ends `at_` after its start: it takes its time from there (R218). -/
def State.swapAt (s : State) (at_ : Nat) : State := s.doSwap (at_ + swapTime s.inactiveProg s.activeProg - s.scan.limit)

/-- What was asked for the end of the scan: swap, STOP, HOLD, or the end of a STEP. A swap that cannot read a word is a fault. -/
def State.scanPending (s : State) (total : Nat) : State :=
  let swap := s.flag Reg.SCN_SWAP_PEND
  match if swap then s.broken s.swapReads else none with
  | some a => (s.setFlag Reg.SCN_SWAP_PEND false).scanFault ⟨ScanFault.ECC_UE, a, none⟩
  | none =>
  let s := if swap then (s.corrected s.swapReads).swapAt total else s
  if s.scan.toStop then s.enterStop 1 0
  else if s.scan.toHold || s.scan.stepping then s.enterHold
  else s

/-- Whether the unit's outputs are withheld: it looks for a partner, or is in RESYNC (R446, R512). -/
def State.outputsHeld (s : State) : Bool := s.twin.starting || s.get Reg.TWN_STATE == 3

/-- The output phase writes every point of the list. -/
def State.outputPhase (s : State) : State :=
  if s.outputsHeld then s else (outEntries s.activeProg).foldl (fun (s : State) e => s.handOver e.1 e.2) s

/-- A scan whose output phase is over: its outputs, its retentive copy, its counts, and its end. Scan time runs from the tick, time
suspended at a breakpoint included (R203). -/
def State.endScan (s : State) : State :=
  let ns := (s.scan.total + s.scan.susp + 1) / 2
  let s := s.outputPhase
  let s := (s.retentiveCopy.set Reg.SCN_LAST_SCAN_NS (satTo 0xFFFFFFFF ns)).raiseTo Reg.SCN_MAX_SCAN_NS ns
  let s := if s.get Reg.SCN_WARN_PCT * s.get Reg.SCN_CYCLE_US * 1000 < ns * 100 then
      (s.bump Reg.SCN_WARN_CNT).irq Page.SCN Irq.SCN_WARN else s
  let s := (s.setW Reg.SCN_SCAN_CNT (s.getW Reg.SCN_SCAN_CNT + 1)).set Reg.SCN_PHASE ScanPhase.IDLE
  s.scanPending s.scan.total

/-- The scan ends before the next tick, or its output phase outlasts it; one that is abandoned until then writes no output (R198). -/
def State.outputWait (s : State) : State := if s.scan.total ≤ s.scan.limit then s.endScan else s

/-- The time of a scan that has reached END, with its output phase and its retentive copy. -/
def State.scanTotal (s : State) : Nat :=
  s.scan.spent + 5 * s.cpu.cyc + 4000 + 20 * hdr s.activeProg 11 + 5 * (hdr s.activeProg 12 / 8)

/-- A scan that has reached END: its output phase, its retentive copy, and its end. It is abandoned where it would
outlast SCAN_WDT_US, or where it would read a word with an uncorrectable error. -/
def State.finishScan (s : State) : State :=
  let total := s.scanTotal
  if s.get Reg.SCN_SCAN_WDT_US * 2000 < total then s.scanFault (.of ScanFault.SCAN_WDT)
  else match s.broken s.outputReads with
  | some a => s.scanFault ⟨ScanFault.ECC_UE, a, none⟩
  | none =>
    let s := (s.corrected s.outputReads).modScan (fun e => { e with total := total })
    (s.set Reg.SCN_PHASE ScanPhase.OUTPUT).outputWait

/-! ## Execute phase -/

/-- How a run of instructions stops. -/
inductive RunEnd where
  | ended
  | outOfTime
  | late
  | atBreak
  | fault (t : Trap)
deriving DecidableEq, Repr

/-- Run instructions up to END, a breakpoint, a fault, or a number of cycles. One that would go beyond `wdt` cycles does not
complete: the watchdog comes while it executes (R207). -/
def scanRun (brk : Option Nat) (lim wdt : Nat) : Nat → Bool → State → RunEnd × State
  | 0, _, s => (.outOfTime, s)
  | n + 1, skip, s =>
    if brk = some s.cpu.pc ∧ skip = false then (.atBreak, s)
    else if lim ≤ s.cpu.cyc then (.outOfTime, s)
    else match scanStep s with
      | .error t => (.fault t, s)
      | .ok (ended, t) =>
        if wdt < t.cpu.cyc then (.late, s.afterTrap ⟨0, 0, some t.eccSingle⟩)
        else if ended then (.ended, t) else scanRun brk lim wdt n false t

/-- Run the execute phase until it ends, its tick or its watchdog comes, or it stops. -/
def State.executePhase (s : State) : State :=
  let wdt := (s.get Reg.SCN_SCAN_WDT_US * 2000 - s.scan.spent) / 5
  let lim := (s.scan.limit - s.scan.spent + 4) / 5
  let brk := if s.flag Reg.SCN_BREAK_EN then some (s.get Reg.SCN_BREAK_ADDR) else none
  let (r, s) := scanRun brk lim wdt (min lim wdt + 1) s.scan.skipBreak s
  let s := s.modScan (fun e => { e with skipBreak := false })
  match r with
  | .ended => s.finishScan
  | .fault t => s.scanFault t
  | .late => s.scanFault (.of ScanFault.SCAN_WDT)
  | .atBreak => s.enterHold.irq Page.SCN Irq.SCN_BREAK
  | .outOfTime => s

/-- One scan from its start. -/
def State.startScan (s : State) : State :=
  match s.broken s.inputReads with
  | some a => s.scanFault ⟨ScanFault.ECC_UE, a, none⟩
  | none => (s.corrected s.inputReads).inputPhase.executePhase

/-! ## Ticks (R197, R202, R206) -/

/-- Enter RUN from STOP: the next scan is the first, and no value has been captured yet. -/
def State.enterRun (s : State) : State :=
  (s.modScan (fun e => { e with toRun := false, first := true, lastGood := [], swapRest := 0 })).setScanMode ScanMode.RUN

/-- A tick that the running scan has not left free. -/
def State.overrun (s : State) : State :=
  let s := ((s.bump Reg.SCN_OVR_CNT).irq Page.SCN Irq.SCN_OVERRUN).modScan (fun e => { e with skipped := e.skipped + 1 })
  if s.get Reg.SCN_OVR_LIMIT ≠ 0 ∧ s.get Reg.SCN_OVR_LIMIT ≤ s.scan.skipped then s.scanFault (.of ScanFault.OVR_LIMIT) else s

/-- The scan under way goes on to the next tick. -/
def State.goOn (s : State) : State :=
  let s := s.modScan (fun e => { e with limit := e.limit + s.get Reg.SCN_CYCLE_US * 2000 })
  if s.get Reg.SCN_PHASE = ScanPhase.EXECUTE then s.executePhase else if s.get Reg.SCN_PHASE = ScanPhase.OUTPUT then s.outputWait else s

/-- A tick that falls within a swap is skipped; the swap ends before the next one where its time does (R218). -/
def State.tickSwapping (s : State) : State :=
  let rest := s.scan.swapRest - s.get Reg.SCN_CYCLE_US * 2000
  let s := s.bump Reg.SCN_SWAP_SKIP
  if rest = 0 then s.swapDone else s.modScan (fun e => { e with swapRest := rest })

/-- A tick in RUN: one that falls within a scan is an overrun, one that falls within a swap is skipped (R206, R218). -/
def State.tickRunning (s : State) : State :=
  if s.get Reg.SCN_PHASE ≠ ScanPhase.IDLE then s.overrun.goOn
  else if 0 < s.scan.swapRest then s.tickSwapping
  else s.startScan

/-- Resume a scan suspended at a breakpoint. Its time goes on from the tick, the time in suspense included; what is left of the
cycle stands until the next tick (R203, R206). -/
def State.resumeScan (s : State) (tick : Bool) : State :=
  let cyc := s.get Reg.SCN_CYCLE_US * 2000
  let v := s.scan.spent + 5 * s.cpu.cyc
  let since := max (v + s.scan.susp) (s.scan.started.elim 0 (fun a => 16 * (s.cycles - a)))
  let rest := if tick then cyc else cyc - since % cyc
  (s.modScan (fun e => { e with skipBreak := true, susp := since - v, limit := v + rest })).executePhase

/-- A tick in HOLD: a RUN or STEP given at the end of a scan takes effect; in a fire mode HOLD ends (R510). A scan that a STEP has
started goes on, and the tick counts as no overrun (R201). -/
def State.tickHeld (s : State) : State :=
  let phase := s.get Reg.SCN_PHASE
  let stepping := s.scan.stepping && phase != ScanPhase.IDLE
  if 0 < s.scan.swapRest then s.tickSwapping
  else if s.get Reg.FIR_MODE ≠ 0 ∨ (s.scan.toRun = true ∧ stepping = false) then
    if s.flag Reg.SCN_PROG_OK then
      let s := (s.modScan (fun e => { e with toRun := false })).setScanMode ScanMode.RUN
      if phase = ScanPhase.EXECUTE then s.resumeScan true else if phase = ScanPhase.OUTPUT then s.goOn else s.startScan
    else s.enterStop 1 0
  else if stepping then s.goOn
  else if s.scan.stepping then s.startScan
  else s

/-- SCAN_TICK. -/
def scanTick (s : State) : State :=
  if !s.flag (Reg.HDR_ENABLE Page.SCN) then s
  else
    let s := s.modScan (fun e => { e with grids := e.grids + 1 })
    if s.get Reg.SCN_MODE = ScanMode.RUN then s.tickRunning
    else if s.get Reg.SCN_MODE = ScanMode.HOLD then s.tickHeld
    else if s.scan.toRun then s.enterRun.startScan
    else s

def execScanTick (s : State) : Out State := .next (scanTick s)

/-- SCAN_WATCHDOG: a scan under way is abandoned. -/
def execScanWatchdog (s : State) : Out State :=
  .next (if s.get Reg.SCN_MODE = ScanMode.RUN ∧ s.get Reg.SCN_PHASE = ScanPhase.EXECUTE then s.scanFault (.of ScanFault.SCAN_WDT) else s)

/-- HOLD_MAX_TIMEOUT. -/
def execHoldMaxTimeout (s : State) : Out State :=
  .next (if s.get Reg.SCN_MODE = ScanMode.HOLD then s.enterStop 3 0 else s)

/-! ## Commands (R197, R218, R510, R512) -/

/-- A command that the mode does not admit. -/
def State.notReady (s : State) : State := (s.err Page.SCN Err.SCN_NOT_READY).answer Status.E_STATE []

def scnRun (s : State) : State :=
  let m := s.get Reg.SCN_MODE
  if !s.flag (Reg.HDR_ENABLE Page.SCN) then s.notReady
  else if m = ScanMode.STOP then
    if s.flag Reg.SCN_PROG_OK then (s.modScan (fun e => { e with toRun := true })).answer Status.OK [] else s.notReady
  else if m = ScanMode.HOLD then
    if s.get Reg.SCN_PHASE = ScanPhase.EXECUTE then
      (((s.modScan (fun e => { e with stepping := false })).setScanMode ScanMode.RUN).resumeScan false).answer Status.OK []
    else (s.modScan (fun e => { e with toRun := true, stepping := e.stepping && s.get Reg.SCN_PHASE != ScanPhase.IDLE })).answer Status.OK []
  else s.notReady

/-- STOP between two scans, or from HOLD, is at once. -/
def scnStop (s : State) : State :=
  let m := s.get Reg.SCN_MODE
  if m = ScanMode.RUN then
    if s.get Reg.SCN_PHASE ≠ ScanPhase.IDLE then (s.modScan (fun e => { e with toStop := true })).answer Status.OK []
    else (s.enterStop 1 0).answer Status.OK []
  else if m = ScanMode.HOLD then (s.enterStop 1 0).answer Status.OK []
  else s.notReady

def scnHold (s : State) : State :=
  if s.inPair then s.answer Status.E_STATE []
  else if s.get Reg.FIR_MODE ≠ 0 then s.notReady
  else if s.get Reg.SCN_MODE = ScanMode.RUN then
    if s.get Reg.SCN_PHASE ≠ ScanPhase.IDLE then (s.modScan (fun e => { e with toHold := true })).answer Status.OK []
    else s.enterHold.answer Status.OK []
  else s.notReady

/-- STEP: at the end of a scan one scan at the next tick; at a breakpoint on to the next, or to the end of the scan. -/
def scnStep (s : State) : State :=
  if s.inPair then s.answer Status.E_STATE []
  else if s.get Reg.FIR_MODE ≠ 0 then s.notReady
  else if s.get Reg.SCN_MODE = ScanMode.HOLD then
    let susp := s.get Reg.SCN_PHASE == ScanPhase.EXECUTE
    let s := s.modScan (fun e => { e with stepping := true, toRun := false })
    (if susp then s.resumeScan false else s).answer Status.OK []
  else s.notReady

/-- SWAP: in RUN after the retentive copy of the current scan, and at once where that is over. A swap in RUN takes its time from
there (R218). -/
def scnSwap (s : State) : State :=
  if s.get Reg.SCN_MODE = ScanMode.HOLD ∨ s.flag Reg.SCN_SWAP_PEND = true then s.notReady
  else
    let e := s.checkProg s.inactiveProg
    let s := s.set Reg.SCN_SWAP_ERR e
    if e ≠ 0 then (s.err Page.SCN Err.SCN_SWAP_INVALID).answer Status.E_STATE []
    else if s.get Reg.SCN_MODE ≠ ScanMode.RUN then (s.swapStopped false).answer Status.OK []
    else if s.get Reg.SCN_PHASE ≠ ScanPhase.IDLE then (s.setFlag Reg.SCN_SWAP_PEND true).answer Status.OK []
    else match s.broken s.swapReads with
    | some a => (s.scanFault ⟨ScanFault.ECC_UE, a, none⟩).answer Status.OK []
    | none => ((s.corrected s.swapReads).swapAt (s.scan.started.elim 0 (fun a => 16 * (s.cycles - a) - s.scan.susp))).answer Status.OK []

def execScnCmdRun (s : State) : Out State := .next (scnRun s)
def execScnCmdStop (s : State) : Out State := .next (scnStop s)
def execScnCmdHold (s : State) : Out State := .next (scnHold s)
def execScnCmdStep (s : State) : Out State := .next (scnStep s)
def execScnCmdSwap (s : State) : Out State := .next (scnSwap s)

/-- SCN_CMD by its code: 0 has no effect, others than 1 to 5 are ignored with NOT_READY. -/
def scnCmd (c : Nat) (s : State) : State :=
  if c = 0 then s.answer Status.OK []
  else if c = 1 then scnRun s else if c = 2 then scnStop s else if c = 3 then scnHold s
  else if c = 4 then scnStep s else if c = 5 then scnSwap s else s.notReady

/-! ## Retentive copies (R212) -/

/-- RET_PERIODIC_SAVE; none is taken once the final checkpoint has started, nor while a copy is being written. -/
def execRetPeriodicSave (s : State) : Out State :=
  .next (if s.scan.frozen || s.scan.writing.isSome then s else s.startRetCopy 0)

/-- EXEC RET_SAVE; while a FINAL copy is being written the COMMANDED one waits for its end. -/
def retSave (s : State) : State :=
  (if s.scan.writing.elim false (fun w => w.2.kind == 1) then s.modScan (fun e => { e with retWait := true }) else s.startRetCopy 2).answer Status.OK []

def execRetSave (r : Requester) (s : State) : Out State := .next (s.ownerExec r Page.SCN retSave)

def execRetentiveCopyWritten (s : State) : Out State := .next s.endRetCopy

/-! ## The program store and forces (R215, R219, R221) -/

def saveProg (s : State) : State :=
  if s.flag Reg.SCN_SAVE_BUSY then s.answer Status.E_STATE []
  else ((s.setFlag Reg.SCN_SAVE_BUSY true).modScan (fun e => { e with saving := some e.bank })).answer Status.OK []

def execSaveProg (r : Requester) (s : State) : Out State := .next (s.ownerExec r Page.SCN saveProg)

def execSaveProgDone (s : State) : Out State :=
  .next (match s.scan.saving with
  | some b => (s.setFlag Reg.SCN_SAVE_BUSY false).modScan (fun e => { e with saving := none, store := b })
  | none => s)

def execClearForces (r : Requester) (s : State) : Out State :=
  .next (s.ownerExec r Page.SCN (fun s => s.clearForces.answer Status.OK []))

/-- A write of a force entry's word with EN, TYPE and LEN: EN set resolves the entry; one that does not resolve stays
inactive (R219). -/
def forceWrite (r : Requester) (f : Nat) (w : Word) (s : State) : State :=
  let s := (s.set (Reg.SCN_FORCE_TYPE f) (getBits w 23 16)).set (Reg.SCN_FORCE_LEN f) (getBits w 15 0)
  if getBits w 31 31 = 0 then (s.forceOff f 0).answer Status.OK []
  else
    let s := s.setFlag (Reg.SCN_FORCE_DROPPED f) false
    match s.forceTarget f with
    | none => ((s.forceOff f 2).err Page.SCN Err.SCN_FORCE_REFUSED).answer Status.E_STATE []
    | some y =>
      if y.points.all (fun n => s.mayWritePoint (s.creds r) n && !s.safetyPoint n) then
        let s := (s.setFlag (Reg.SCN_FORCE_EN f) true).set (Reg.SCN_FORCE_STATUS f) 1
        ((s.modScan (fun e => { e with forceSym := KV.put e.forceSym f y })).showForced).answer Status.OK []
      else ((s.forceOff f 3).err Page.SCN Err.SCN_FORCE_REFUSED).answer Status.E_STATE []

def execForceEnable (r : Requester) (f : Fin 128) (w : Word) (s : State) : Out State :=
  .next (if s.flag (Reg.HDR_LOCK Page.SCN) then (s.err Page.SCN Err.LOCKED_WR).answer Status.W_IGNORED [] else forceWrite r f w s)

/-! ## Host writes to the windows (R209, R218) -/

/-- A write of word `k` of the data window: the status and the state. -/
def dataWindowWrite (k : Nat) (w : Word) (s : State) : Nat × State :=
  if !dataReadable k then (Status.W_IGNORED, s.err Page.SCN Err.RSVD_ACC)
  else if !dataWritable k ∨ (k < sysW ∧ s.get Reg.SCN_MODE ≠ ScanMode.STOP) then (Status.W_IGNORED, s.err Page.SCN Err.SCN_IMG_RO)
  else (Status.OK, s.setDataWord k w)

def execDataWindowWrite (k : Fin 131072) (w : Word) (s : State) : Out State :=
  .next (if s.flag (Reg.HDR_LOCK Page.SCN) then (s.err Page.SCN Err.LOCKED_WR).answer Status.W_IGNORED []
  else State.answered (dataWindowWrite k w s))

/-- A write of word `k` of the program window: ignored from a SWAP command to SWAP_DONE. -/
def progWindowWrite (k : Nat) (w : Word) (s : State) : Nat × State :=
  if s.flag Reg.SCN_SWAP_PEND then (Status.W_IGNORED, s.err Page.SCN Err.SCN_NOT_READY)
  else
    let a := 0x02000000 + 4 * k
    (Status.OK, (s.setWord a w).eccClean a)

/-! ## Release (R199, R208, R214, R215) -/

/-- The supervisory firmware loads the saved program, checks it, and gives WORK and RET their contents. -/
def State.loadProgram (s : State) (full : Bool) : State :=
  let s := s.modScan (fun e => { e with bank := e.store })
  let s := (s.wipe 0x02000000 0x02100000).eccForget (bankMark 0) (loopMark 0 0)
  let s := s.set Reg.SCN_RET_GEN (s.scan.newest.elim 0 (·.gen))
  let e := s.checkProg s.activeProg
  let ok := e == 0
  let s := ((s.set Reg.SCN_SWAP_ERR e).setFlag Reg.SCN_PROG_OK ok).showProg
  if ok then (s.initData s.activeProg).restoreRet full
  else s.wipe (dataAddr workW) (dataAddr dataEnd)

/-- The check that reads the point table is made again once the table has its configuration (R217). -/
def State.recheckProg (s : State) : State :=
  if s.flag Reg.SCN_PROG_OK then
    let e := s.checkProg s.activeProg
    (s.set Reg.SCN_SWAP_ERR e).setFlag Reg.SCN_PROG_OK (e == 0)
  else s

/-- The first scan after a release: RUN at the first tick where R199 admits it. -/
def State.autoStart (s : State) : State :=
  let ret := !s.flag Reg.SCN_RET_LOST || s.flag Reg.SCN_RET_LOST_RUN
  if s.flag (Reg.HDR_ENABLE Page.SCN) && s.flag Reg.SCN_AUTO_RUN && s.flag Reg.SCN_PROG_OK && ret then s.enterRun.startScan
  else if s.flag Reg.SCN_PROG_OK && !ret then s.set Reg.SCN_STOP_CAUSE 4
  else s

/-! ## Commands of other chapters that end in a scan's output or in an undeliverable write -/

/-- JOIN_TIMEOUT: no partner, SOLO with the first output write made at once (R446). -/
def execJoinTimeout (s : State) : Out State :=
  .next (s.twinned (fun s =>
    if s.twin.starting && !s.flag Reg.TWN_PARTNER then
      let s := { s with twin := { s.twin with starting := false } }
      let s := s.setTwinState TwinState.SOLO
      if s.get Reg.SCN_MODE = ScanMode.RUN then s.outputPhase else s
    else s))

/-- WELT_LINK_LOST (R183): no valid uplink frame for `us` microseconds, at least the barrier timeout. The points of the
tile go COMM_FAIL, and writes handed over to it are undeliverable (R211). -/
def weltLinkLost (t us : Nat) (s : State) : State :=
  if s.get (Reg.TILE_BARRIER_US t) ≤ us ∧ s.flag (Reg.TILE_LINK_UP t) = true then
    let s := (s.setLinkUp t false).err (Page.TILE t) Err.TILE_LINK_LOST
    let s := s.modTile t (fun x => { x with upRun := 0 })
    let ins := s.tilePoints t false
    let s := s.commFail ins
    (s.scan.handed.filter (fun n => s.tileOfPoint n == some t)).foldl (fun (s : State) n => s.undeliverable n) s
  else s

def execWeltLinkLost (t : Fin 8) (us : Nat) (s : State) : Out State := .next (weltLinkLost t us s)

end Sys2Proof.Machine
end

