-- ==== Sys2Proof/Machine/ScanRows.lean ====
section
/-! DEFINITION. The instructions of the scan engine as commands (R223 to R237): each runs once on the engine's working
registers and data window; a fault stops the engine (R207). -/

namespace Sys2Proof.Machine

/-- Run an instruction with its operand: the next state, or the fault's (R229, R230). -/
def runIns (f : BitVec 24 → State → Ins) (op : BitVec 24) (s : State) : State :=
  match f op s with
  | .ok s => s
  | .error t => s.scanFault t

def execScNop (op : BitVec 24) (s : State) : Out State := .next (runIns insNop op s)
/-- END: a scan under way goes on to its output phase (R203, R230). -/
def execScEnd (op : BitVec 24) (s : State) : Out State :=
  .next (match insEnd op s with
  | .ok s => if s.get Reg.SCN_PHASE = ScanPhase.EXECUTE then s.finishScan else s
  | .error t => s.scanFault t)

def execScJmp (op : BitVec 24) (s : State) : Out State := .next (runIns insJmp op s)
def execScJmpc (op : BitVec 24) (s : State) : Out State := .next (runIns insJmpc op s)
def execScJmpcn (op : BitVec 24) (s : State) : Out State := .next (runIns insJmpcn op s)
def execScCall (op : BitVec 24) (s : State) : Out State := .next (runIns insCall op s)
def execScRet (op : BitVec 24) (s : State) : Out State := .next (runIns insRet op s)
def execScRetc (op : BitVec 24) (s : State) : Out State := .next (runIns insRetc op s)
def execScLdx (op : BitVec 24) (s : State) : Out State := .next (runIns insLdx op s)
def execScAddx (op : BitVec 24) (s : State) : Out State := .next (runIns insAddx op s)
def execScStx (op : BitVec 24) (s : State) : Out State := .next (runIns insStx op s)
def execScLdv (op : BitVec 24) (s : State) : Out State := .next (runIns insLdv op s)
def execScLdz (op : BitVec 24) (s : State) : Out State := .next (runIns insLdz op s)
def execScLdnf (op : BitVec 24) (s : State) : Out State := .next (runIns insLdnf op s)
def execScLd (op : BitVec 24) (s : State) : Out State := .next (runIns insLd op s)
def execScLdn (op : BitVec 24) (s : State) : Out State := .next (runIns insLdn op s)
def execScAnd (op : BitVec 24) (s : State) : Out State := .next (runIns insAnd op s)
def execScAndn (op : BitVec 24) (s : State) : Out State := .next (runIns insAndn op s)
def execScOr (op : BitVec 24) (s : State) : Out State := .next (runIns insOr op s)
def execScOrn (op : BitVec 24) (s : State) : Out State := .next (runIns insOrn op s)
def execScXor (op : BitVec 24) (s : State) : Out State := .next (runIns insXor op s)
def execScXorn (op : BitVec 24) (s : State) : Out State := .next (runIns insXorn op s)
def execScSt (op : BitVec 24) (s : State) : Out State := .next (runIns insSt op s)
def execScStn (op : BitVec 24) (s : State) : Out State := .next (runIns insStn op s)
def execScSet (op : BitVec 24) (s : State) : Out State := .next (runIns insSet op s)
def execScRes (op : BitVec 24) (s : State) : Out State := .next (runIns insRes op s)
def execScNot (op : BitVec 24) (s : State) : Out State := .next (runIns insNot op s)
def execScRe (op : BitVec 24) (s : State) : Out State := .next (runIns insRe op s)
def execScFe (op : BitVec 24) (s : State) : Out State := .next (runIns insFe op s)
def execScPush (op : BitVec 24) (s : State) : Out State := .next (runIns insPush op s)
def execScAndb (op : BitVec 24) (s : State) : Out State := .next (runIns insAndb op s)
def execScOrb (op : BitVec 24) (s : State) : Out State := .next (runIns insOrb op s)
def execScXorb (op : BitVec 24) (s : State) : Out State := .next (runIns insXorb op s)
def execScPop (op : BitVec 24) (s : State) : Out State := .next (runIns insPop op s)
def execScPeek (op : BitVec 24) (s : State) : Out State := .next (runIns insPeek op s)
def execScLdw (op : BitVec 24) (s : State) : Out State := .next (runIns insLdw op s)
def execScStw (op : BitVec 24) (s : State) : Out State := .next (runIns insStw op s)
def execScStwc (op : BitVec 24) (s : State) : Out State := .next (runIns insStwc op s)
def execScLdq (op : BitVec 24) (s : State) : Out State := .next (runIns insLdq op s)
def execScQok (op : BitVec 24) (s : State) : Out State := .next (runIns insQok op s)
def execScSetq (op : BitVec 24) (s : State) : Out State := .next (runIns insSetq op s)
def execScTstw (op : BitVec 24) (s : State) : Out State := .next (runIns insTstw op s)
def execScLdba (op : BitVec 24) (s : State) : Out State := .next (runIns insLdba op s)
def execScAdd (op : BitVec 24) (s : State) : Out State := .next (runIns insAdd op s)
def execScSub (op : BitVec 24) (s : State) : Out State := .next (runIns insSub op s)
def execScMul (op : BitVec 24) (s : State) : Out State := .next (runIns insMul op s)
def execScDiv (op : BitVec 24) (s : State) : Out State := .next (runIns insDiv op s)
def execScMod (op : BitVec 24) (s : State) : Out State := .next (runIns insMod op s)
def execScNeg (op : BitVec 24) (s : State) : Out State := .next (runIns insNeg op s)
def execScAbs (op : BitVec 24) (s : State) : Out State := .next (runIns insAbs op s)
def execScMin (op : BitVec 24) (s : State) : Out State := .next (runIns insMin op s)
def execScMax (op : BitVec 24) (s : State) : Out State := .next (runIns insMax op s)
def execScAndw (op : BitVec 24) (s : State) : Out State := .next (runIns insAndw op s)
def execScOrw (op : BitVec 24) (s : State) : Out State := .next (runIns insOrw op s)
def execScXorw (op : BitVec 24) (s : State) : Out State := .next (runIns insXorw op s)
def execScShl (op : BitVec 24) (s : State) : Out State := .next (runIns insShl op s)
def execScShr (op : BitVec 24) (s : State) : Out State := .next (runIns insShr op s)
def execScAsr (op : BitVec 24) (s : State) : Out State := .next (runIns insAsr op s)
def execScEq (op : BitVec 24) (s : State) : Out State := .next (runIns insEq op s)
def execScNe (op : BitVec 24) (s : State) : Out State := .next (runIns insNe op s)
def execScLt (op : BitVec 24) (s : State) : Out State := .next (runIns insLt op s)
def execScLe (op : BitVec 24) (s : State) : Out State := .next (runIns insLe op s)
def execScGt (op : BitVec 24) (s : State) : Out State := .next (runIns insGt op s)
def execScGe (op : BitVec 24) (s : State) : Out State := .next (runIns insGe op s)
def execScLtu (op : BitVec 24) (s : State) : Out State := .next (runIns insLtu op s)
def execScGeu (op : BitVec 24) (s : State) : Out State := .next (runIns insGeu op s)
def execScAddf (op : BitVec 24) (s : State) : Out State := .next (runIns insAddf op s)
def execScSubf (op : BitVec 24) (s : State) : Out State := .next (runIns insSubf op s)
def execScMulf (op : BitVec 24) (s : State) : Out State := .next (runIns insMulf op s)
def execScDivf (op : BitVec 24) (s : State) : Out State := .next (runIns insDivf op s)
def execScMinf (op : BitVec 24) (s : State) : Out State := .next (runIns insMinf op s)
def execScMaxf (op : BitVec 24) (s : State) : Out State := .next (runIns insMaxf op s)
def execScAbsf (op : BitVec 24) (s : State) : Out State := .next (runIns insAbsf op s)
def execScNegf (op : BitVec 24) (s : State) : Out State := .next (runIns insNegf op s)
def execScEqf (op : BitVec 24) (s : State) : Out State := .next (runIns insEqf op s)
def execScLtf (op : BitVec 24) (s : State) : Out State := .next (runIns insLtf op s)
def execScGtf (op : BitVec 24) (s : State) : Out State := .next (runIns insGtf op s)
def execScItof (op : BitVec 24) (s : State) : Out State := .next (runIns insItof op s)
def execScFtoi (op : BitVec 24) (s : State) : Out State := .next (runIns insFtoi op s)
def execScSclf (op : BitVec 24) (s : State) : Out State := .next (runIns insSclf op s)
def execScTon (op : BitVec 24) (s : State) : Out State := .next (runIns insTon op s)
def execScTof (op : BitVec 24) (s : State) : Out State := .next (runIns insTof op s)
def execScTp (op : BitVec 24) (s : State) : Out State := .next (runIns insTp op s)
def execScCtu (op : BitVec 24) (s : State) : Out State := .next (runIns insCtu op s)
def execScCtd (op : BitVec 24) (s : State) : Out State := .next (runIns insCtd op s)
def execScCrst (op : BitVec 24) (s : State) : Out State := .next (runIns insCrst op s)
def execScCld (op : BitVec 24) (s : State) : Out State := .next (runIns insCld op s)

end Sys2Proof.Machine
end

