-- ==== Sys2Proof/Machine/Motion.lean ====
section
/-! DEFINITION. Commands of the motion engine (R258 to R281). -/

namespace Sys2Proof.Machine

/-! ## Groups (R269, R270) -/

namespace GrpState
abbrev IDLE : Nat := 0
abbrev MOVING : Nat := 1
abbrev STOPPING : Nat := 2
abbrev STOPPED : Nat := 3
abbrev FAULT : Nat := 4
end GrpState

def State.grpState (s : State) (g : Nat) : Nat := s.get Reg.MOT_GRP_STATE / 2 ^ (3 * g) % 8
def State.setGrpState (s : State) (g v : Nat) : State := s.set ⟨Reg.MOT_GRP_STATE.addr, 3 * g + 2, 3 * g⟩ v

/-- The members of a group. -/
def State.members (s : State) (g : Nat) : List Nat := (List.range 24).filter (fun n => s.getBit (Reg.MOT_MEMBERS g) n)

/-- The group that an axis belongs to. -/
def State.groupOf (s : State) (n : Nat) : Option Nat := (List.range 8).find? (fun g => s.getBit (Reg.MOT_MEMBERS g) n)

def State.line (s : State) (g : Nat) : Line := KV.getD s.lines g ⟨[], 0, []⟩

/-- The least of a limit over the members that move, scaled to a path of length `len`. -/
def lineLimit (len : Int) (l : List (Int × Int)) : Int :=
  match l.filter (fun e => decide (e.1 ≠ 0)) with
  | [] => 1
  | e :: es => es.foldl (fun a e => min a (e.2 * len / e.1.natAbs)) (e.2 * len / e.1.natAbs)

/-- Limits of the path parameter (R269): velocity, acceleration, jerk. -/
def State.lineLimits (s : State) (ln : Line) : Int × Int × Int :=
  (max 1 (lineLimit ln.len (ln.members.map (fun m => (m.2.2, (s.limits m.1).1)))),
   max 1 (lineLimit ln.len (ln.members.map (fun m => (m.2.2, (s.limits m.1).2.1)))),
   max 1 (lineLimit ln.len (ln.members.map (fun m => (m.2.2, (s.limits m.1).2.2)))))

/-- A path segment as a member follows it: p_i = p_i0 + d_i * s. -/
def State.scaleSegs (s : State) (p0 d len : Int) : List Seg → List Seg × State
  | [] => ([], s)
  | g :: gs =>
    let (a, s) := s.quot (g.p0 * d) len.natAbs
    let (va, s) := s.quot (g.v0 * d) len.natAbs
    let (b, s) := s.quot (g.p1 * d) len.natAbs
    let (vb, s) := s.quot (g.v1 * d) len.natAbs
    let (r, s) := s.scaleSegs p0 d len gs
    ({ g with p0 := p0 + a, v0 := va, p1 := p0 + b, v1 := vb } :: r, s)

/-- Give every member its segments of a path; none where the pool is too small. -/
def State.layLine (g : Nat) (t : Int) (path : List Seg) (len : Int) : List (Nat × Int × Int) → State → Option State
  | [], s => some s
  | (n, p0, d) :: ms, s =>
    if d = 0 then
      let s := (s.modAxis n (fun x => { x with kind := .group g, stopping := false })).set (Reg.AXIS_STATE n) AxState.MOVING
      State.layLine g t path len ms ((s.setFlag (Reg.AXIS_RESUME_OK n) false).setWS (Reg.AXIS_REM n) 0)
    else
      let (gs, s) := s.scaleSegs p0 d len path
      match s.planIntoPool n t gs (.group g) with
      | none => none
      | some s => State.layLine g t path len ms s

/-- The instant from which the members of a line change: CMT_END of the latest. -/
def State.lineChangeAt (s : State) (ms : List Nat) : Int := ms.foldl (fun a n => max a (s.changeAt n)) s.unow

/-- Plan a line over a remaining path from a path point. A pool too small for it refuses it for every member (R261). -/
def State.planLine (s : State) (g : Nat) (ln : Line) (t : Int) (pt : Point) : State :=
  let (vm, am, jm) := s.lineLimits ln
  let (p, v, a) := pt.fine
  let (gs, s') := s.layKnots t pt (some ln.len) 0 (knotsOf (p, v, a) 0 (minTime (ln.len * fineP - p) v a vm am jm))
  match State.layLine g t gs ln.len ln.members s' with
  | some s' => { (s'.setGrpState g GrpState.MOVING) with lines := KV.put s'.lines g { ln with path := gs } }
  | none => s.planFailed (ln.members.map (·.1))

/-- The instant from which the members of a line may move: as `lineChangeAt`, or later where a current is being restored
(R277). -/
def State.lineStartAt (s : State) (ms : List Nat) : Int := ms.foldl (fun (a : Int) n => max a (s.restoreAt n)) (s.lineChangeAt ms)

/-- GRP_CMD MOVE takes effect at a tick (R269), to the TARGETs as they stand: those written in the same tick are part of it. -/
def State.groupMove (s : State) (g : Nat) : State :=
  let s := (s.members g).foldl (fun (s : State) n => s.modAxis n (fun x => { x with newTarget := false })) s
  let ms : List (Nat × Int × Int) := (s.members g).map (fun n => (n, (s.axis n).base, s.getWS (Reg.AXIS_TARGET n) - (s.axis n).base))
  let len := ms.foldl (fun (a : Int) (m : Nat × Int × Int) => max a (m.2.2.natAbs : Int)) 0
  if len = 0 then s.irq Page.MOT Irq.MOT_GRP_DONE
  else s.planLine g ⟨ms, len, []⟩ (s.lineStartAt (s.members g)) ⟨0, 0, 0⟩

/-- One member of a group stops along the path's segments `gs` from an instant: its gear term is frozen (R274), and its line
starts where the frozen term puts it. -/
def State.stopMember (gs : List Seg) (len t : Int) (s : State) (m : Nat × Int × Int) : State × (Nat × Int × Int) :=
  let was := (s.axis m.1).profile t
  let s := s.freezeGear m.1 t
  let m : Nat × Int × Int := (m.1, m.2.1 + ((s.axis m.1).profile t).p - was.p, m.2.2)
  let (ms, s) := s.scaleSegs m.2.1 m.2.2 len gs
  let ms : List Seg := if m.2.2 = (0 : Int) then [] else ms
  let s := s.cutPlan m.1 t
  let s := s.modAxis m.1 (fun x => { x with
    plan := x.plan ++ ms, stopping := true, newTarget := false, stop := none })
  let s := (s.set (Reg.AXIS_STATE m.1) AxState.STOPPING).showPlan m.1
  (if isStepAxis m.1 then s
   else ((s.modAxis m.1 (fun x => { x with cmt := t })).commitTo m.1 (t + 1)).sendSetpoint m.1 t 3, m)

/-- Stop a group along its path (R270): the members end on the straight line. -/
def State.groupStop (s : State) (g : Nat) (quick : Bool) (endState : Nat) : State :=
  let ln := s.line g
  let (_, am, jm) := s.lineLimits ln
  let qa := max 1 (lineLimit ln.len (ln.members.map (fun m => (m.2.2, (s.stopLimits m.1 true).1))))
  let steps := ln.members.any (fun m => isStepAxis m.1)
  let t := if steps then s.lineChangeAt (ln.members.map (·.1)) else s.unow
  let pt := trajAt ln.path 0 t
  let (p, v, a) := pt.fine
  let ph := toVel v a 0 (if quick then qa else am) (if quick then 8 * jm else jm)
  let (gs, s) := s.layKnots t pt none 0 (knotsOf (p, v, a) 0 (ph.filter (fun f => decide (0 < f.2))))
  let (s, ms) := ln.members.foldl (fun (e : State × List (Nat × Int × Int)) m =>
    if e.1.get (Reg.AXIS_STATE m.1) = AxState.FAULT then (e.1, e.2 ++ [m])
    else let r := e.1.stopMember gs ln.len t m; (r.1, e.2 ++ [r.2])) (s, [])
  let s := { s with lines := KV.put s.lines g { ln with members := ms, path := ln.path.filter (fun (q : Seg) => decide (q.t0 < t)) ++ gs } }
  s.setGrpState g endState

/-- GRP_CMD RESUME takes effect at a tick: the remaining path to the original targets. -/
def State.groupResume (s : State) (g : Nat) : State :=
  let ln := s.line g
  let t := s.lineStartAt (ln.members.map (·.1))
  let pt := trajAt ln.path 0 t
  s.planLine g ln t ⟨pt.p, 0, 0⟩

/-- A group whose path has ended. -/
def State.groupEnd (g : Nat) (s : State) : State :=
  let st := s.grpState g
  let ln := s.line g
  let past := (planEnd ln.path).elim true (fun t => decide (t ≤ s.unow))
  if st = GrpState.MOVING ∧ past = true then
    let s := ln.members.foldl (fun (s : State) m => if s.get (Reg.AXIS_STATE m.1) = AxState.MOVING then
      ((s.restAxis m.1).set (Reg.AXIS_STATE m.1) AxState.STANDSTILL).irq (Page.AXIS m.1) Irq.AXIS_DONE else s) s
    (s.setGrpState g GrpState.IDLE).irq Page.MOT Irq.MOT_GRP_DONE
  else if st = GrpState.STOPPING ∧ past = true then s.setGrpState g GrpState.STOPPED
  else s

/-- A member in FAULT stops its group (R270). -/
def State.groupFault (s : State) (n : Nat) : State :=
  match (s.axis n).kind with
  | .group g =>
    if s.grpState g = GrpState.MOVING ∨ s.grpState g = GrpState.STOPPING then
      (s.groupStop g false GrpState.FAULT).irq Page.MOT Irq.MOT_GRP_FAULT
    else s
  | _ => s

/-- A fault of an axis, with its group's. -/
def State.faultAxis (s : State) (n code : Nat) (data : List Word := []) : State := (s.axisFault n code data).groupFault n

/-! ## Gearing (R271 to R273) -/

/-- The master's value in 2^-16 units, none where it is lost (R273). A COUNT channel has quality COMM_FAIL while its tile's link
is down and BAD while it is in another mode; an axis that is geared itself is no master (DESIGN CHOICE, log entry 97). -/
def State.master (s : State) (n : Nat) : Option Int :=
  let k := s.get (Reg.AXIS_GEAR_IDX n)
  match s.get (Reg.AXIS_GEAR_SRC n) with
  | 1 => if s.flag (Reg.CAR_POS_VALID k) then some (s.getS (Reg.CAR_POS k) * 65536) else none
  | 2 =>
    let t := k / 32
    if s.flag (Reg.TILE_LINK_UP t) && ((s.tile t).chan (k % 32)).mode == ChMode.COUNT then some ((s.getW (tileCount t (k % 32)) : Int) * 65536) else none
  | 3 => if s.get (Reg.AXIS_STATE k) = AxState.FAULT ∨ (s.axis k).gear.on = true ∨ 24 ≤ k then none else some (s.setpoint k s.unow).p
  | _ => none

/-- Change the gear of an axis. -/
def State.modGear (s : State) (n : Nat) (g : Gear → Gear) : State := s.modAxis n (fun x => { x with gear := g x.gear })

/-- The crossing of CHG_POS by the master between two ticks (R160, R272). -/
def Gear.noteCrossing (g : Gear) : Gear :=
  { g with chg := g.chg.map (fun c =>
      if c.crossed.isSome then c
      else if g.prev < c.pos ∧ c.pos ≤ g.now then { c with crossed := some true }
      else if c.pos ≤ g.prev ∧ g.now < c.pos then { c with crossed := some false }
      else c) }

/-- The gear term goes on with another ratio from the present master value. -/
def Gear.rebase (g : Gear) (num : Int) (den : Nat) : Gear := { g with term := g.value g.now, ref := g.now, num := num, den := den }

/-- The ratio change at a tick: its position is crossed, or its range is left (R272). -/
def State.gearChange (s : State) (n : Nat) : State :=
  let s := s.modGear n Gear.noteCrossing
  let g := (s.axis n).gear
  match g.chg with
  | some ⟨num, den, pos, ramp, some up⟩ =>
    let x := (if up then 1 else -1) * (g.now - pos)
    if (ramp : Int) ≤ x then
      let s := s.modGear n (fun g => { g.rebase num den with chg := none })
      let s := (s.setS (Reg.AXIS_RATIO_NUM n) num).set (Reg.AXIS_RATIO_DEN n) den
      ((s.setFlag (Reg.AXIS_CHG_ARMED n) false).setFlag (Reg.AXIS_RAMPING n) false).irq (Page.AXIS n) Irq.AXIS_GEAR_CHG
    else s.setFlag (Reg.AXIS_RAMPING n) (decide (0 ≤ x))
  | _ => s.setFlag (Reg.AXIS_RAMPING n) false

/-- A ratio written while no change is in its range: the term goes on with it from here. -/
def State.gearRatio (s : State) (n : Nat) : State :=
  let g := (s.axis n).gear
  let num := s.getS (Reg.AXIS_RATIO_NUM n)
  let den := max 1 (s.get (Reg.AXIS_RATIO_DEN n))
  if (num = g.num ∧ den = g.den) ∨ g.chg.any (fun c => c.crossed.isSome) = true then s else s.modGear n (fun g => g.rebase num den)

/-- Sample the master of a geared axis (R271, R273). A reduced current is restored when the term moves, and holds the motion
back (R277). A frozen term joins the position at its instant. -/
def State.gearTick (n : Nat) (s : State) : State :=
  let s := match s.master n with
    | some m => s.setWS (Reg.AXIS_MASTER n) (m / 65536)
    | none => s
  let g := (s.axis n).gear
  if !g.on || s.get (Reg.AXIS_STATE n) == AxState.DISABLED then s
  else match g.until_ with
    | some (u, f) => if u ≤ s.unow then s.foldGear n f else s
    | none => match s.master n with
      | none => s.faultAxis n 6
      | some m =>
        let s := s.gearRatio n
        let s := s.modGear n (fun g => { g with prev := g.now, now := m, tick := s.unow })
        let s := s.gearChange n
        let g := (s.axis n).gear
        if s.flag (Reg.AXIS_IDLE_RED n) = true ∧ g.value g.prev ≠ g.value g.now then
          let r := s.restoreAt n
          (s.restoreCurrent n).modGear n (fun g => { g with hold := r })
        else s

/-- One output of a geared axis passes the limiter (R271): from the output before it the sum keeps |v| ≤ V_MAX and
|a| ≤ A_MAX, and GEAR_LAG keeps what is withheld, to be recovered under the same limits. -/
def State.gearOutput (s : State) (n : Nat) (t : Int) : State :=
  let x := s.axis n
  let g := x.gear
  let last := g.outs.head?.getD ⟨g.from_, x.profile g.from_, 0⟩
  if !g.on || g.until_.isSome || decide (t ≤ last.at_) then s
  else
    let dt := t - last.at_
    let want := (x.profile t).add (g.point t)
    -- velocities in Q24.8 units per second
    let v := (want.p - last.out.p) * 10 ^ 9 / (256 * dt)
    let dv := (s.get (Reg.AXIS_A_MAX n) : Int) * 256 * dt / 10 ^ 9
    let vm : Int := s.get (Reg.AXIS_V_MAX n)
    let v' := if t < g.hold then 0 else clampI (-vm) vm (clampI (last.out.v - dv) (last.out.v + dv) v)
    let p' := last.out.p + v' * 256 * dt / 10 ^ 9
    let o : GearOut := if v' = v then ⟨t, want, 0⟩ else ⟨t, ⟨p', v', (v' - last.out.v) * 10 ^ 9 / (256 * dt)⟩, want.p - p'⟩
    let keep := g.outs.takeWhile (fun o => decide (s.unow < o.at_)) ++ (g.outs.dropWhile (fun o => decide (s.unow < o.at_))).take 1
    let s := (s.modGear n (fun g => { g with outs := o :: keep })).setWS (Reg.AXIS_GEAR_LAG n) o.lag
    s.setFlag (Reg.AXIS_GEAR_LIM n) (o.lag != 0)

/-! ## The tick (R264, R265) -/

/-- Whether a car is present (R282). -/
def State.carPresent (s : State) (n : Nat) : Bool := bitOf s.roles 1 && s.getBit Reg.LFT_CAR_MAP n

/-- The axes that step N2 of ENDURANCE has shed: those of cars that are no firefighter lifts (R505). -/
def State.axisShed (s : State) (n : Nat) : Bool :=
  decide (n < 16) && s.getBit Reg.FIR_SHED 1 && s.carPresent (n % 8) && !s.getBit Reg.FIR_FF_MAP (n % 8)

/-- An axis page's ENABLE brings its axis out of DISABLED. -/
def State.axisEnable (n : Nat) (s : State) : State :=
  if s.flag (Reg.HDR_ENABLE (Page.AXIS n)) && !s.axisShed n then
    if s.get (Reg.AXIS_STATE n) = 0 then
      -- the engine counts steps from where the timer stands (R276)
      let x := s.axis n
      let pos := s.getS (Reg.TILE_STEP_POS (s.get (Reg.AXIS_STEP_TILE n)) (s.get (Reg.AXIS_STEP_TIMER n)))
      (s.modAxis n (fun y => { y with stepPos := x.base / 65536, stepRef := pos - x.base / 65536, stepBind := s.stepTimer n })).set (Reg.AXIS_STATE n) AxState.STANDSTILL
    else s
  else s.set (Reg.AXIS_STATE n) AxState.DISABLED

/-- Resume of a stopped axis (R275): to TARGET, or to the interrupted knot, where EVT is raised, and on along the chain. -/
def State.resumeAxis (s : State) (n : Nat) : State :=
  let x := s.axis n
  match x.chainEnd with
  | none => (s.replanTo n (s.getWS (Reg.AXIS_TARGET n)) .target).getD (s.planFailed [n])
  | some (e, evt) =>
    match s.replanTo n e .chain with
    | none => s.planFailed [n]
    | some r =>
      let plan := (r.axis n).plan
      let t := max ((planEnd plan).getD s.unow) (s.changeAt n)
      let gs := r.chainSegs x.relBase t ⟨e, 0, 0⟩ x.chainRest
      let back := plan.dropLast ++ (plan.getLast?.map (fun (g : Seg) => { g with evt := evt })).toList
      let r := (r.markChain n gs).modAxis n (fun y => { y with plan := back ++ gs, chainEnd := none, chainRest := [] })
      (r.setFlag (Reg.AXIS_IN_CHAIN n) true).showPlan n

/-- CMT_END after a tick (R265). That of a step axis never moves back. -/
def State.nextCmt (s : State) (n : Nat) : Int :=
  let t := s.unow
  if isStepAxis n then max (s.axis n).cmt (t + s.get (Reg.AXIS_STREAM_US n) * 1000 + 125000)
  else if (s.taiOf t + 125000) % 1000000 = 0 then t + s.get (Reg.AXIS_SP_LEAD_US n) * 1000 + 125000
  else (s.axis n).cmt

/-- A target change at a tick (R266): it ends a chain, stops a group that moves along its path (R270), and supersedes a stop
that an earlier tick began, but not one of a group. -/
def State.takeTarget (s : State) (n : Nat) : State :=
  let inGroup := match (s.axis n).kind with | .group g => some (g, s.grpState g) | _ => none
  match inGroup with
  | some (g, 1 /- MOVING -/) => s.groupStop g false GrpState.STOPPING
  | some (_, 2 /- STOPPING -/) => s
  | _ =>
    if s.get (Reg.AXIS_STATE n) = AxState.FAULT then s
    else match s.replanTo n (s.getWS (Reg.AXIS_TARGET n)) .target with
      | some s => (s.dropChain n).setFlag (Reg.AXIS_IN_CHAIN n) false
      | none => s.planFailed [n]

/-- Take what has arrived since the last tick and plan it (R264, steps 1 and 2). A stop comes before a target, which is kept
for REM. -/
def State.takeArrivals (n : Nat) (s : State) : State :=
  let x := s.axis n
  let s := s.modAxis n (fun x => { x with stop := none, resume := false, starts := x.starts.filter (fun c => c.slot.isSome) })
  let done := fun (s : State) => s.modAxis n (fun x => { x with newTarget := false })
  if s.get (Reg.AXIS_STATE n) = AxState.DISABLED then done s
  else match x.stop with
    | some q =>
      -- an axis in FAULT has had its stop (R276)
      if s.get (Reg.AXIS_STATE n) = AxState.FAULT then done s
      else match x.kind with
      | .group g => if s.grpState g = GrpState.MOVING then s.groupStop g q GrpState.STOPPING else s.beginStop n q false
      | _ => s.beginStop n q false
    | none =>
      let s := done s
      let s := if x.newTarget then s.takeTarget n else if x.resume then s.resumeAxis n else s
      (x.starts.filter (fun c => c.slot.isNone)).foldl (fun (s : State) c =>
        let r := s.spliceChain n c.head s.unow c.noSooner false
        if r.2 then r.1 else r.1.err (Page.AXIS n) Err.AXIS_CHAIN_INVALID) s

/-- Up to where the segments of an axis commit: its CMT_END, or the latest of its group's, whose members commit at one tick
(R269). -/
def State.commitBound (s : State) (n : Nat) : Int :=
  match (s.axis n).kind with
  | .group g => (s.line g).members.foldl (fun a m => max a (s.axis m.1).cmt) (s.axis n).cmt
  | _ => (s.axis n).cmt

/-- Knots reached: EVT is raised, and segments overtaken by their successors leave the plan. The knot of a segment that
another one cuts short is not reached. -/
def State.passKnots (s : State) (n : Nat) : State :=
  let t := s.unow
  let x := s.axis n
  let cut := fun (g : Seg) => x.plan.any (fun g' => decide (g.t0 < g'.t0) && decide (g'.t0 < g.t0 + (g.h : Int)))
  let hit := x.plan.filter (fun g => !g.done && !cut g && decide (g.t0 + (g.h : Int) ≤ t))
  let s := if hit.any (·.evt) then s.irq (Page.AXIS n) Irq.AXIS_SEG_EVT else s
  let s := s.modAxis n (fun x => { x with plan := x.plan.map (fun (g : Seg) => if g.t0 + (g.h : Int) ≤ t then { g with done := true } else g) })
  let x := s.axis n
  let keep := fun (g : Seg) => !(x.plan.any (fun g' => decide (g.t0 < g'.t0) && decide (g'.t0 ≤ t)))
  let gone := x.plan.filter (fun g => !keep g)
  -- host entries return to DONE when their chain ends
  let held := fun (g : Seg) => x.kind == RunKind.chain && decide (x.chainFrom ≤ g.t0) && (s.hostKnot g).isSome
  let s := s.releaseBut n (gone.filter (fun g => !held g))
  s.modAxis n (fun x => { x with plan := x.plan.filter (fun g => keep g || held g) })

/-- The end of a plan, a stop or a fault's stop. -/
def State.finishAxis (s : State) (n : Nat) : State :=
  let x := s.axis n
  let past := (planEnd x.plan).elim true (fun t => decide (t ≤ s.unow))
  let grp := match x.kind with | .group g => s.grpState g == GrpState.MOVING | _ => false
  if !past then s
  else if x.stopping then
    let s := s.restAxis n
    let s := (s.setWS (Reg.AXIS_SP_POS n) (s.axis n).base).setRem n
    let s := s.irq (Page.AXIS n) Irq.AXIS_STOPPED
    if x.toFault then s.modAxis n (fun x => { x with toFault := false }) else s.set (Reg.AXIS_STATE n) AxState.STOPPED
  else if s.get (Reg.AXIS_STATE n) = AxState.MOVING ∧ grp = false then
    (((s.restAxis n).set (Reg.AXIS_STATE n) AxState.STANDSTILL).modAxis n (fun x => { x with kind := .none })).irq (Page.AXIS n) Irq.AXIS_DONE
  else s

/-- Steps up to the new CMT_END (R265, R278), at most 256 in the timer: where that ends them, CMT_END is that of the last. -/
def State.stepTick (s : State) (n : Nat) (old : Int) : State :=
  let t := s.unow
  let s := s.modAxis n (fun x => { x with stepDue := x.stepDue.filter (fun e => decide (t - 500000 < e.1)) })
  let x := s.axis n
  let lo := max old t
  if !s.stepBound n || decide (x.cmt ≤ lo) then s.releaseHeld n
  else
    let steps := x.stepsTo lo x.cmt
    let room := 256 - (x.stepDue.filter (fun e => decide (t < e.1))).length
    let now := steps.take room
    let s := if steps.length ≤ room then s else s.modAxis n (fun x => { x with cmt := (now.getLast?).elim lo (·.1) })
    (now.foldl (fun (s : State) e => s.placeStep n e) s).releaseHeld n

/-- The outputs that fall due at a tick (R264, step 3): CMT_END moves on, the limiter takes them, steps are placed. -/
def State.outputs (n : Nat) (s : State) : State :=
  if s.get (Reg.AXIS_STATE n) = AxState.DISABLED then s
  else
    let old := (s.axis n).cmt
    let cmt := s.nextCmt n
    let s := s.modAxis n (fun x => { x with cmt := cmt })
    let s := s.gearOutput n cmt
    let s := if isStepAxis n then s.stepTick n old else s
    s.setW (Reg.AXIS_CMT_END n) (s.taiOf (s.axis n).cmt)

/-- The commits of a tick (R265). -/
def State.commitAxis (n : Nat) (s : State) : State :=
  if s.get (Reg.AXIS_STATE n) = AxState.DISABLED then s else s.commitTo n (s.commitBound n)

/-- Stream faults of a STEP axis (R276, code 4), at rest and in motion: its timer underruns, its tile's LINK_UP clears, or two
uplink frames in a row carry a STEP_POS more than 1 from the engine's count. -/
def State.streamCheck (n : Nat) (s : State) : State :=
  let t := s.get (Reg.AXIS_STEP_TILE n)
  let k := s.get (Reg.AXIS_STEP_TIMER n)
  let up := s.flag (Reg.TILE_LINK_UP t)
  let was := (s.axis n).linkWas
  let s := s.modAxis n (fun x => { x with linkWas := up })
  if s.get (Reg.AXIS_STATE n) = AxState.DISABLED ∨ s.stepBound n = false then s
  -- another timer: the count goes on from where it stands
  else if (s.axis n).stepBind ≠ s.stepTimer n then s.modAxis n (fun x => { x with
    stepBind := s.stepTimer n, stepRef := s.getS (Reg.TILE_STEP_POS t k) - x.stepPos, stepOff := 0 })
  else if s.flag (Reg.TILE_STEP_UNDERRUN t k) || (was && !up) then s.faultAxis n 4
  else
    let seen := ((s.tile t).laneA.upRx, (s.tile t).laneB.upRx)
    let x := s.axis n
    if seen = x.stepSeen then s
    else
      let a := x.emittedBy (s.unow - 375000)
      let b := x.emittedBy s.unow
      let d := toSigned 32 (ofSigned 32 (s.getS (Reg.TILE_STEP_POS t k) - x.stepRef - a))
      let off := decide (d < min 0 (b - a) - 1) || decide (max 0 (b - a) + 1 < d)
      let s := s.modAxis n (fun x => { x with stepSeen := seen, stepOff := if off then x.stepOff + 1 else 0 })
      if off && decide (1 ≤ x.stepOff) then s.faultAxis n 4 else s

/-- An uncorrectable error in an entry of the running plan (R276, code 7). -/
def State.planMarked (n : Nat) (s : State) : State :=
  let bad := ((s.axis n).plan.filter (fun g => !g.done)).any (fun g => g.entry.any (fun e =>
    (List.range 8).any (fun w => s.eccMarked.contains (0x05000000 + 32 * e + 4 * w))))
  if bad then s.faultAxis n 7 else s

/-- SP_POS, SP_VEL and SP_ACC at the tick (R264, step 4), and the copies of AX_STAT. A faulted axis that was sent no stop
takes its position from the drive or the timer (R276). -/
def State.showAxis (s : State) (n : Nat) : State :=
  let x := s.axis n
  let noStop := s.get (Reg.AXIS_STATE n) == AxState.FAULT && (faultStop (s.get (Reg.AXIS_FAULT n))).isNone
  let act := if isStepAxis n then s.getS (Reg.TILE_STEP_POS (s.get (Reg.AXIS_STEP_TILE n)) (s.get (Reg.AXIS_STEP_TIMER n))) * 65536
             else s.getWS (Reg.AXIS_ACT_POS n)
  let s := if isStepAxis n then s.setWS (Reg.AXIS_ACT_POS n) act else s
  if noStop then
    let s := s.modAxis n (fun x => { x with base := act, stepPos := act / 65536, stepRef := 0, stepDue := [], stepHeld := [], stepLast := true })
    let s := ((s.setWS (Reg.AXIS_SP_POS n) act).setS (Reg.AXIS_SP_VEL n) 0).setS (Reg.AXIS_SP_ACC n) 0
    -- a target change has cleared RESUME_OK and REM (R275)
    if s.flag (Reg.AXIS_RESUME_OK n) then s.setRem n else s
  else
    let p := s.setpoint n s.unow
    let s := ((s.setWS (Reg.AXIS_SP_POS n) p.p).setS (Reg.AXIS_SP_VEL n) p.v).setS (Reg.AXIS_SP_ACC n) p.a
    match segAt x.plan s.unow with
    | some g => s.set (Reg.AXIS_CUR_SEG n) (g.entry.getD (s.get (Reg.AXIS_CUR_SEG n)))
    | none => s

/-- The end of a tick for one axis (R264, step 4). -/
def State.endTick (n : Nat) (s : State) : State :=
  if s.get (Reg.AXIS_STATE n) = AxState.DISABLED then s else (((s.passKnots n).finishAxis n).showAxis n).showPlan n

/-- GRP_CMD commands that wait for the tick. -/
def State.groupCmds (s : State) : State :=
  s.grpPend.foldl (fun (s : State) (e : Nat × Nat) =>
    if e.2 = 1 then s.groupMove e.1 else if e.2 = 3 then s.groupResume e.1
    else s.groupStop e.1 (e.2 == 4) GrpState.STOPPING) { s with grpPend := [] }

/-- The motion engine at a tick, which took `ns` nanoseconds: each step of R264 over all axes before the next. -/
def motionTick (ns : Nat) (s : State) : State :=
  if s.flag (Reg.HDR_ENABLE Page.MOT) then
    let s := foldN 24 State.takeArrivals (foldN 24 State.axisEnable s.groupCmds)
    let s := foldN 24 State.outputs (foldN 24 State.gearTick s)
    let s := foldN 24 State.planMarked (foldN 24 State.commitAxis s)
    let s := foldN 8 (fun j => State.streamCheck (16 + j)) s
    (foldN 8 State.groupEnd (foldN 24 State.endTick s)).raiseTo Reg.MOT_TICK_MAX ns
  else s

/-! ## Writes and commands -/

/-- TARGET_CHANGE: the commit of AXIS.TARGET (R266), taken at the next tick. It clears RESUME_OK and REM (R275). In FAULT it
gives up what is left of a chain and plans nothing. -/
def targetChange (n : Nat) (v : Int) (s : State) : State :=
  let s := ((s.setWS (Reg.AXIS_TARGET n) v).setFlag (Reg.AXIS_RESUME_OK n) false).setWS (Reg.AXIS_REM n) 0
  let st := s.get (Reg.AXIS_STATE n)
  if st = AxState.FAULT then s.dropChain n
  else if st = AxState.DISABLED then s
  else s.modAxis n (fun x => { x with newTarget := true })

/-- A command that the axis does not accept in its state. -/
def State.axisRefuse (s : State) (n : Nat) : State := (s.err (Page.AXIS n) Err.AXIS_CMD_REFUSED).answer Status.E_STATE []

/-- Axis and door commands are refused while an update activates (R478). -/
def State.activating (s : State) : Bool := s.get Reg.UPD_STATE == 2

/-- |SP_POS - ACT_POS| exceeds FE_MAX (R276). -/
def State.followOff (s : State) (n : Nat) : Bool :=
  decide (s.get (Reg.AXIS_FE_MAX n) * 65536 < (s.getWS (Reg.AXIS_SP_POS n) - s.getWS (Reg.AXIS_ACT_POS n)).natAbs)

/-- Whether the cause of a fault is gone (R276); a bus-off is over once the channel is on the bus again (R427). -/
def State.causeGone (s : State) (n : Nat) : Bool :=
  let c := s.get (Reg.AXIS_FAULT n)
  if c = 4 then s.flag (Reg.TILE_LINK_UP (s.get (Reg.AXIS_STEP_TILE n))) && !s.flag (Reg.TILE_STEP_UNDERRUN (s.get (Reg.AXIS_STEP_TILE n)) (s.get (Reg.AXIS_STEP_TIMER n)))
  else if c = 6 then (s.master n).isSome
  else if c = 1 then !s.flag (Reg.AXIS_FE_EN n) || !s.followOff n
  else if c = 7 then true
  else if c = 3 ∧ (s.axis n).offBus = true then
    let st := s.get (Reg.CANCH_STATE (s.get (Reg.AXIS_CAN_CH n)))
    st != 3 && st != 4
  else if c = 5 then (if n < 8 then s.getBit Reg.SAF_MOVE_PERM n else (KV.getD s.saf.cars (n - 8) SafCar.initial).doorEn)
  else !(s.axis n).causeLive

/-- Whether an axis moves, by its plan, a stop or its gear, so that a stop has something to stop. -/
def State.canStop (s : State) (n : Nat) : Bool :=
  let st := s.get (Reg.AXIS_STATE n)
  st == AxState.MOVING || st == AxState.STOPPING || ((s.axis n).gear.on && st != AxState.FAULT && st != AxState.DISABLED)

/-- A command of AXIS.CMD (R268, R274 to R276). -/
def axisCmd (n c : Nat) (s : State) : State :=
  let st := s.get (Reg.AXIS_STATE n)
  let ok := s.answer Status.OK []
  if c = 0 then ok
  else if s.activating then s.axisRefuse n
  else if c = 1 then
    if st = AxState.STANDSTILL ∨ st = AxState.MOVING ∨ st = AxState.STOPPED then
      match s.chainCheck n (s.get (Reg.AXIS_CHAIN_HEAD n)) (s.changeAt n) with
      | some e => ((s.chainFailed n e).err (Page.AXIS n) Err.AXIS_CHAIN_INVALID).answer Status.E_STATE []
      | none =>
        let head := s.get (Reg.AXIS_CHAIN_HEAD n)
        (((s.set (Reg.AXIS_CHAIN_ERR_CODE n) 0).setFlag (Reg.AXIS_RESUME_OK n) false).setWS (Reg.AXIS_REM n) 0).modAxis n
          (fun x => { x with starts := x.starts ++ [⟨head, none, s.unow, none⟩] }) |>.answer Status.OK []
    else s.axisRefuse n
  else if c = 2 ∨ c = 3 then
    if s.canStop n then
      (s.modAxis n (fun x => { x with stop := some (c == 3) })).answer Status.OK []
    else s.axisRefuse n
  else if c = 4 then
    if st = AxState.STOPPED ∧ s.flag (Reg.AXIS_RESUME_OK n) = true then
      (s.modAxis n (fun x => { x with resume := true })).answer Status.OK []
    else s.axisRefuse n
  else if c = 5 then
    if st = AxState.STOPPED then
      let s := ((s.setFlag (Reg.AXIS_RESUME_OK n) false).setWS (Reg.AXIS_REM n) 0).set (Reg.AXIS_STATE n) AxState.STANDSTILL
      ((s.dropChain n).modAxis n (fun x => { x with kind := .none })).answer Status.OK []
    else s.axisRefuse n
  else if c = 6 then
    if st = AxState.FAULT ∧ s.causeGone n = true ∧ (s.axis n).stopping = false then
      (((s.set (Reg.AXIS_STATE n) AxState.STOPPED).set (Reg.AXIS_FAULT n) 0).modAxis n (fun x => { x with offBus := false })).answer Status.OK []
    else s.axisRefuse n
  else s.axisRefuse n


/-- STOP_ALL: every axis of the mask that moves is stopped (R274). -/
def stopAll (w : Word) (s : State) : State :=
  let q := getBits w 31 31 == 1
  foldN 24 (fun n s => if bitOf w.toNat n && s.canStop n
    then s.modAxis n (fun x => { x with stop := some q }) else s) s

def execStopAll (w : Word) (s : State) : Out State := .next (stopAll w s)

/-- A command of GRP_CMD (R269, R270). -/
def grpCmd (g c : Nat) (s : State) : State :=
  let ms := s.members g
  let push := ({ s with grpPend := s.grpPend ++ [(g, c)] }).answer Status.OK []
  let no := s.answer Status.E_STATE []
  if c = 1 then
    if ms.all (fun n => s.get (Reg.AXIS_STATE n) == AxState.STANDSTILL) then push else no
  else if c = 2 ∨ c = 4 then (if s.grpState g = GrpState.MOVING then push else no)
  else if c = 3 then
    if (s.grpState g = GrpState.STOPPED ∨ s.grpState g = GrpState.FAULT) ∧ ms.all (fun n => s.get (Reg.AXIS_STATE n) == AxState.STOPPED) = true then push else no
  else s.err Page.MOT Err.MOT_GRP_INVALID

def execGrpCmdMove (g : Fin 8) (s : State) : Out State := .next (grpCmd g 1 s)
def execGrpCmdStop (g : Fin 8) (s : State) : Out State := .next (grpCmd g 2 s)
def execGrpCmdResume (g : Fin 8) (s : State) : Out State := .next (grpCmd g 3 s)
def execGrpCmdQuickStop (g : Fin 8) (s : State) : Out State := .next (grpCmd g 4 s)

/-- The class of an axis: 0 CAR, 1 DOOR, 2 STEP (R258). -/
def axisClass (n : Nat) : Nat := if n < 8 then 0 else if n < 16 then 1 else 2

/-- A write of GRP_CFG_g: one group per axis, one class per group (R269). -/
def writeGrpCfg (g : Nat) (w : Word) (s : State) : State :=
  let m := getBits w 23 0
  let ns := (List.range 24).filter (fun n => bitOf m n)
  let taken := (List.range 8).any (fun h => h != g && (s.get (Reg.MOT_MEMBERS h) &&& m) != 0)
  let mixed := ns.any (fun n => ns.any (fun k => axisClass n != axisClass k))
  if taken || mixed then s.err Page.MOT Err.MOT_GRP_INVALID else s.set (Reg.MOT_MEMBERS g) m

def execGrpCfgWrite (g : Fin 8) (w : Word) (s : State) : Out State := .next (s.unlocked Page.MOT (writeGrpCfg g w))

/-- The set-point engages from the present master value at CMT_END, where it stands. -/
def State.engage (s : State) (n : Nat) (m : Int) : State :=
  let s := match (s.axis n).gear.until_ with | some (_, f) => s.foldGear n f | none => s
  let t := s.changeAt n
  let p := (s.axis n).profile t
  let s := s.modGear n (fun g => { g with
    on := true, from_ := t, until_ := none, term := 0, ref := m, prev := m, now := m, tick := s.unow,
    num := s.getS (Reg.AXIS_RATIO_NUM n), den := max 1 (s.get (Reg.AXIS_RATIO_DEN n))
    chg := g.chg.map (fun c => { c with crossed := none }), outs := [⟨t, p, 0⟩], hold := s.unow })
  (s.setFlag (Reg.AXIS_GEARED n) true).setWS (Reg.AXIS_GEAR_LAG n) 0

/-- A command of GEAR_CMD (R271 to R273). What it changes takes effect at CMT_END (R267). -/
def gearCmd (n c : Nat) (s : State) : State :=
  if c = 1 then
    match s.flag (Reg.AXIS_GEAR_EN n), s.master n with
    | true, some m => (s.engage n m).answer Status.OK []
    | _, _ => s.axisRefuse n
  else if c = 2 then (s.freezeGear n (s.changeAt n)).answer Status.OK []
  else if c = 3 then
    if (s.axis n).gear.chg.any (fun c => c.crossed.isSome) then s.answer Status.E_STATE []
    else
      let c : GearChange := ⟨s.getS (Reg.AXIS_NEXT_NUM n), max 1 (s.get (Reg.AXIS_NEXT_DEN n)), s.getWS (Reg.AXIS_CHG_POS n) * 65536,
        s.get (Reg.AXIS_RAMP n) * 65536, none⟩
      ((s.modGear n (fun g => { g with chg := some c })).setFlag (Reg.AXIS_CHG_ARMED n) true).answer Status.OK []
  else s.answer Status.OK []

def execGearEngage (n : Fin 24) (s : State) : Out State := .next (gearCmd n 1 s)
def execGearDisengage (n : Fin 24) (s : State) : Out State := .next (gearCmd n 2 s)
def execGearArmChg (n : Fin 24) (s : State) : Out State := .next (gearCmd n 3 s)

/-! ## Faults, standstill, frames -/

/-- FOLLOWING_ERROR: a car or door axis with FE_EN whose error exceeds FE_MAX has done so for FE_MS (R276). -/
def execFollowingError (n : Fin 16) (s : State) : Out State :=
  .next (if s.flag (Reg.AXIS_FE_EN n) && s.followOff n then s.faultAxis n 1 else s)

/-- No gear motion: no term is engaged, or its master has not moved between the last two ticks. -/
def Gear.still (g : Gear) : Bool := !g.on || g.now == g.prev

/-- IDLE_REDUCTION: a door or step axis at rest for IDLE_MS (R277). -/
def execIdleReduction (n : Fin 24) (s : State) : Out State :=
  let x := s.axis n
  .next (if !isCarAxis n && s.flag (Reg.AXIS_IDLE_EN n) && x.plan.isEmpty && x.gear.still && !s.flag (Reg.AXIS_IDLE_RED n)
      && s.get (Reg.AXIS_STATE n) != 0 then
    let s := s.setFlag (Reg.AXIS_IDLE_RED n) true
    let s := s.modAxis n (fun x => { x with current := s.get (Reg.AXIS_IDLE_PCT n) })
    if isStepAxis n then writeOutBit (s.get (Reg.AXIS_CUR_CH n)) true s else s
  else s)

end Sys2Proof.Machine
end

