-- ==== Sys2Proof/Machine/Angle.lean ====
section
/-! DEFINITION. The angle scheduler and the sequence of events (R143 to R162): prediction, commit and recall of slots,
timed commands, the DONE queue, the mains PLLs, coil learning and the sequencer. Firing of slots is in SlotFire. -/

namespace Sys2Proof.Machine

/-! Slot states, bases, actions and codes (R143, R146, R147). -/
namespace SlotState
abbrev FREE : Nat := 0
abbrev ARMED : Nat := 1
abbrev COMMITTED : Nat := 2
abbrev DONE : Nat := 3
end SlotState

namespace SlotCode
abbrev NONE : Nat := 0
abbrev FIRED : Nat := 1
abbrev FIRED_LATE : Nat := 2
abbrev MISSED : Nat := 3
abbrev RECALLED : Nat := 4
abbrev REFUSED : Nat := 5
abbrev NO_TARGET : Nat := 6
end SlotCode

namespace SlotAction
abbrev PREDICT : Nat := 0
abbrev SET_CH : Nat := 1
abbrev START_PROFILE : Nat := 2
abbrev SNAPSHOT : Nat := 3
abbrev POST_IRQ : Nat := 4
abbrev TRIG_REC : Nat := 5
end SlotAction

/-- PRED while no crossing is predicted, and DEV where nothing was measured (R146). -/
abbrev noPred : Nat := 0xFFFFFFFFFFFFFFFF
abbrev noDev : Nat := 0x8000000

/-- The slots in a state. A slot that is not FREE has its word 0 listed in memory. -/
def State.slotsIn (s : State) (st : Nat) : List Nat :=
  s.mem.filterMap (fun e => if 0x06000000 ≤ e.1 ∧ e.1 < 0x06008000 ∧ e.1 % 32 = 0 ∧ getBits e.2 31 29 = st then some ((e.1 - 0x06000000) / 32) else none)

/-- The least time from commit to command instant, ns (R147). -/
def lMin (action : Nat) : Int := if action = SlotAction.SET_CH ∨ action = SlotAction.START_PROFILE then 125000 else 0

/-! ## Mains bases (R144) -/

/-- Registers of a PLL. -/
def pllFreq (b : Bus) : Fld := match b with | .A => Reg.ANG_FREQ_A | .B => Reg.ANG_FREQ_B
def pllLock (b : Bus) : Fld := match b with | .A => Reg.ANG_LOCK_A | .B => Reg.ANG_LOCK_B
def pllHeld (b : Bus) : Fld := match b with | .A => Reg.ANG_HELD_A | .B => Reg.ANG_HELD_B
def pllPh (b : Bus) : Wide := match b with | .A => Reg.ANG_PH_A | .B => Reg.ANG_PH_B

def State.pll (s : State) (b : Bus) : Pll := match b with | .A => s.pllA | .B => s.pllB
def State.setPll (s : State) (b : Bus) (x : Pll) : State := match b with | .A => { s with pllA := x } | .B => { s with pllB := x }

/-- BASE_LOST where a base with ARMED slots becomes invalid or HELD (R162). -/
def State.baseLost (s : State) (base : Nat) : State :=
  if (s.slotsIn SlotState.ARMED).any (fun n => s.get (Reg.SLOT_BASE n) == base) then s.irq Page.ANG Irq.ANG_BASE_LOST else s

/-- The base code of a bus. -/
def busBase (b : Bus) : Nat := match b with | .A => 1 | .B => 2

/-- The frequency that a PLL is locked at, and FREQ. A frequency above 65 535 mHz does not fit FREQ, which then reads all ones:
R144 does not say what it reads (DESIGN CHOICE, log entry 93). -/
def State.setPllFreq (s : State) (b : Bus) (mHz : Nat) : State :=
  (s.setPll b { s.pll b with freq := mHz }).set (pllFreq b) (satTo 65535 mHz)

/-- Whether a PLL locks: 40 V rms, from 45 Hz to 65 Hz, for 10 consecutive cycles. -/
def pllLocks (m : MainsSeen) : Bool :=
  decide (40000 ≤ m.mV) && decide (45000 ≤ m.mHz) && decide (m.mHz ≤ 65000) && decide (10 ≤ m.cycles)

/-- Whether a PLL loses lock: below 30 V rms or outside 40 Hz to 70 Hz for 2 cycles, or a frequency that changes by more than
5 Hz/s. -/
def pllLoses (m : MainsFault) : Bool :=
  (decide (2 ≤ m.cycles) && (decide (m.mV < 30000) || decide (m.mHz < 40000) || decide (70000 < m.mHz))) || decide (5000 < m.rocof)

/-- The PLLs run: their page is in the APP domain. -/
def State.angRuns (s : State) : Bool := !s.sysHeld && s.appUp

/-- MAINS_PLL_LOCK: the first lock after a release starts the cycle count at 0, at the measured phase. -/
def execMainsPllLock (b : Bus) (m : MainsSeen) (phase : Nat) (s : State) : Out State :=
  .next (if pllLocks m && s.angRuns && !(s.pll b).ever then
    (((s.setPll b ⟨true, 0, 0⟩).setPllFreq b m.mHz).setFlag (pllLock b) true).setW (pllPh b) (phase % 65536)
  else s)

/-- MAINS_PLL_LOSS: HELD, at the last locked frequency. -/
def execMainsPllLoss (m : MainsFault) (s : State) : Out State :=
  let b := m.bus
  .next (if pllLoses m && s.flag (pllLock b) then
    (((s.setFlag (pllLock b) false).setFlag (pllHeld b) true).setPll b { s.pll b with rem_ := 0 }).baseLost (busBase b)
  else s)

/-- The step of a re-lock: from the coordinate to the measured phase, at most half a cycle. -/
def relockStep (ph measured : Nat) : Int := ((measured : Int) - ph + 32768) % 65536 - 32768

/-- A PLL advances over 125 µs: as measured while locked, at the last locked frequency while HELD. -/
def State.pllTick (b : Bus) (m : MainsRead) (s : State) : State :=
  if s.flag (pllLock b) then (s.setPllFreq b m.mHz).setW (pllPh b) (s.getW (pllPh b) + m.advance)
  else if s.flag (pllHeld b) then
    let x := (s.pll b).rem_ + (s.pll b).freq * 65536 * 125
    (s.setPll b { s.pll b with rem_ := x % 1000000000 }).setW (pllPh b) (s.getW (pllPh b) + x / 1000000000)
  else s

/-! ## Car bases (R145, R289) -/

/-- Whether TB_CAR_n is valid. -/
def State.carBaseValid (s : State) (n : Nat) : Bool :=
  s.flag (Reg.CAR_POS_VALID n) && s.flag (Reg.CAR_LEARNED n) && !s.flag (Reg.CAR_REF_NEEDED n)

/-- CAR_VALID follows the cars. -/
def State.showCarValid (s : State) : State :=
  foldN 8 (fun n s =>
    let v := s.carBaseValid n
    let was := s.getBit Reg.ANG_CAR_VALID n
    let s := s.setBit Reg.ANG_CAR_VALID n v
    if was && !v then s.baseLost (4 + n) else s) s

/-- Whether a base can be predicted on. -/
def State.baseOk (s : State) (base : Nat) : Bool :=
  if base = 0 then true
  else if base = 1 then s.flag Reg.ANG_LOCK_A
  else if base = 2 then s.flag Reg.ANG_LOCK_B
  else if 4 ≤ base ∧ base ≤ 11 then s.carBaseValid (base - 4)
  else false

/-- The first instant after `lo`, not after `hi`, at which a test holds that is false at `lo` and true at `hi`. -/
def firstTrue (f : Int → Bool) : Nat → Int → Int → Int
  | 0, _, hi => hi
  | k + 1, lo, hi =>
    if hi ≤ lo + 1 then hi
    else let mid := (lo + hi) / 2; if f mid then firstTrue f k lo mid else firstTrue f k mid hi

/-- The first crossing within the pieces of a segment that lie between successive instants: `above t` says whether the
position stands at or above the coordinate (R160). The reserved DIR 3 is taken as either direction (DESIGN CHOICE, log entry 93). -/
def crossPieces (dir : Nat) (above : Int → Bool) : List Int → Option Int
  | a :: b :: rest =>
    if above a = false ∧ above b = true ∧ dir ≠ 2 then some (firstTrue above 64 a b)
    else if above a = true ∧ above b = false ∧ dir ≠ 1 then some (firstTrue (fun t => !above t) 64 a b)
    else crossPieces dir above (b :: rest)
  | _ => none

/-- The first crossing of a coordinate (2^-16 units, less the tracking offset) by a plan from an instant on. -/
def planCross (dir : Nat) (c base : Int) (plan : List Seg) (t0 : Int) : List Seg → Option Int
  | [] => none
  | g :: gs =>
    let stop := g.t0 + (g.h : Int)
    if stop ≤ t0 then planCross dir c base plan t0 gs
    else
      let at' := (g.turns.map (fun x => max t0 (g.t0 + x)))
      match crossPieces dir (fun t => decide (c ≤ (trajAt plan base t).p)) at' with
      | some t => some t
      | none => planCross dir c base plan t0 gs

/-- The predicted instant at which a car crosses a coordinate (R149), by the axis's set-point and its tracking offset. -/
def State.predictCar (s : State) (car dir : Nat) (coord : Int) : Option Int :=
  let x := s.axis car
  let t0 := s.unow
  let ofs := s.getS (Reg.CAR_POS car) * 65536 - (x.profile t0).p
  planCross dir (coord * 65536 - ofs) x.base x.plan t0 x.plan

/-! ## Prediction and commit (R149 to R151) -/

/-- The lead of a slot in ns (R150, R155): the learned operate time where COIL is set and the direction is ready. -/
def State.slotLead (s : State) (n : Nat) : Nat :=
  let arg := s.get (Reg.SLOT_ARG n)
  let k := arg % 256
  if !s.flag (Reg.SLOT_COIL n) then 0
  else if bitOf arg 8 then (if s.flag (Reg.ANG_ON_READY k) then s.get (Reg.ANG_ON_US k) * 1000 else 0)
  else (if s.flag (Reg.ANG_OFF_READY k) then s.get (Reg.ANG_OFF_US k) * 1000 else 0)

/-- Whether a slot is compensated: COIL is set and its direction is ready (R155). -/
def State.coilReady (s : State) (n : Nat) : Bool :=
  let arg := s.get (Reg.SLOT_ARG n)
  s.flag (Reg.SLOT_COIL n) && s.flag ((if bitOf arg 8 then Reg.ANG_ON_READY else Reg.ANG_OFF_READY) (arg % 256))

/-- The horizon of a slot, ns. -/
def State.slotHorizon (s : State) (n : Nat) : Nat :=
  let h := s.get (Reg.SLOT_HORIZON n)
  (if h = 0 then s.get Reg.ANG_HZN_DEF else h) * 1000

/-- Resolve a phase of NEXT at the first prediction (R149), and at the next one after NEXT or the phase was written (R148): the
first cycle whose command instant lies at least 125 µs after the tick. -/
def State.resolveNext (s : State) (n : Nat) (ph mHz : Nat) : State :=
  if s.slotUnresolved.contains n && s.flag (Reg.SLOT_NEXT n) then
    let phase := s.getW (Reg.SLOT_COORD n) % 65536
    let need := ((s.slotLead n + 125000) * 65536 * mHz + (10 ^ 12 - 1)) / 10 ^ 12
    let cyc := (ph + need + 65535 - phase) / 65536
    s.setW (Reg.SLOT_COORD n) (cyc * 65536 + phase)
  else s

/-- A slot is predicted: nothing is left to resolve. -/
def State.slotResolved (s : State) (n : Nat) : State := { s with slotUnresolved := s.slotUnresolved.filter (· != n) }

/-- NEXT or the phase of an ARMED slot was written: its next prediction resolves the phase. The spec states resolution for the first
prediction alone, and R148 lets the write take effect at the next one (DESIGN CHOICE, log entry 93). -/
def State.slotRenew (s : State) (n : Nat) : State :=
  if s.get (Reg.SLOT_STATE n) = SlotState.ARMED ∧ s.flag (Reg.SLOT_NEXT n) = true then
    { s with slotUnresolved := s.slotUnresolved.filter (· != n) ++ [n] }
  else s

/-- The target instant of a slot, TAI less steps, at a tick; none where no crossing is predicted (R149). -/
def State.slotTarget (s : State) (n : Nat) : Option Int × State :=
  let base := s.get (Reg.SLOT_BASE n)
  let mains := fun (ph mHz : Nat) (s : State) =>
    let s := s.resolveNext n ph mHz
    let (d, s) := s.quot (((s.getW (Reg.SLOT_COORD n) : Int) - ph) * 10 ^ 12) (65536 * mHz)
    (some (s.unow + d), s)
  if base = 0 then (some ((s.getW (Reg.SLOT_COORD n) : Int) - s.tb.stepSum), s)
  else if base = 1 then mains (s.getW Reg.ANG_PH_A) s.pllA.freq s
  else if base = 2 then mains (s.getW Reg.ANG_PH_B) s.pllB.freq s
  else (s.predictCar (base - 4) (s.get (Reg.SLOT_DIR n)) (toSigned 32 (s.getW (Reg.SLOT_COORD n) % 2 ^ 32)), s)

/-- A slot ends in DONE with a code; only one that fired has a deviation to be measured still. -/
def State.slotDone (s : State) (n code : Nat) : State :=
  let s := (s.set (Reg.SLOT_STATE n) SlotState.DONE).set (Reg.SLOT_CODE n) code
  let fired := code == SlotCode.FIRED || code == SlotCode.FIRED_LATE
  ({ s with
    slotCommit := KV.del s.slotCommit n
    slotDev := s.slotDev.filter (fun (e : DevWait) => fired || e.slot != n) }).slotResolved n

/-- A slot ends MISSED. -/
def State.slotMissed (s : State) (n : Nat) : State :=
  ((s.slotDone n SlotCode.MISSED).bump Reg.ANG_MISS_CNT).irq Page.ANG Irq.ANG_MISSED

/-- Hand a committed slot to its target (R151). A START_PROFILE restores a reduced current (R277) and has its chain checked
(R263); it is spliced when it fires. -/
def State.slotHand (s : State) (n : Nat) (tc : Int) : State :=
  let arg := s.get (Reg.SLOT_ARG n)
  match s.get (Reg.SLOT_ACTION n) with
  | 1 =>
    let k := arg % 256
    s.modTile (k / 32) (fun x => { x with timedOut := x.timedOut ++ [⟨k % 32, bitOf arg 8, n, tc⟩] })
  | 2 =>
    let ax := arg % 32
    let c : ChainStart := ⟨arg / 32, some n, s.restoreAt ax, s.chainCheck ax (arg / 32) (max tc (s.changeAt ax))⟩
    (s.restoreCurrent ax).modAxis ax (fun x => { x with starts := x.starts ++ [c] })
  | _ => s

/-- A deviation from the target instant, in µs. -/
def State.noteDev (s : State) (n : Nat) (d : Int) : State :=
  let (us, s) := s.quot d 1000
  s.setS (Reg.SLOT_DEV n) us

/-- The crossing of a slot's coordinate is measured from its commit on, but for a COIL slot and TB_TAI (R154). A mains coordinate that
stands at COORD in the tick of the commit crosses it there. -/
def State.awaitDev (s : State) (n : Nat) (tp : Int) : State :=
  let e : DevWait := ⟨n, tp, s.get (Reg.SLOT_BASE n), s.getW (Reg.SLOT_COORD n), s.get (Reg.SLOT_DIR n)⟩
  let ph := if e.base = 1 then s.getW Reg.ANG_PH_A else s.getW Reg.ANG_PH_B
  if s.flag (Reg.SLOT_COIL n) = true ∨ e.base = 0 then s
  else if (e.base = 1 ∨ e.base = 2) ∧ ph = e.coord then s.noteDev n (s.unow - tp)
  else { s with slotDev := s.slotDev ++ [e] }

/-- Commit a slot (R151). -/
def State.slotCommitAt (s : State) (n : Nat) (tc tp : Int) (late : Bool) : State :=
  let (q, s) := s.takeSeq
  let s := (s.set (Reg.SLOT_STATE n) SlotState.COMMITTED).setW (Reg.SLOT_PRED n) (s.taiOf tp)
  let comp := s.coilReady n
  let s := ({ s with slotCommit := KV.put s.slotCommit n ⟨tc, tp, late, q, comp⟩ }).awaitDev n tp
  (s.slotHand n tc).irq Page.ANG Irq.ANG_COMMIT

/-- One ARMED slot at a tick (R150, R153). -/
def State.slotTick (s : State) (n : Nat) : State :=
  let act := s.get (Reg.SLOT_ACTION n)
  let lead : Int := s.slotLead n
  let t0 := s.unow
  if !s.baseOk (s.get (Reg.SLOT_BASE n)) then
    -- held; missed once the command instant last predicted has passed
    if s.getW (Reg.SLOT_PRED n) ≠ noPred ∧ act ≠ SlotAction.PREDICT ∧ (s.getW (Reg.SLOT_PRED n) : Int) - lead < s.tai then s.slotMissed n else s
  else
    let (tp, s) := s.slotTarget n
    let s := s.slotResolved n
    match tp with
    | none => s.setW (Reg.SLOT_PRED n) noPred
    | some tp =>
      let tc := tp - lead
      if act = SlotAction.PREDICT ∨ (act = SlotAction.START_PROFILE ∧ s.get Reg.PWR_MODE = 2) then s.setW (Reg.SLOT_PRED n) (s.taiOf tp)
      else if tc < t0 + s.slotHorizon n then
        if lMin act ≤ tc - t0 then s.slotCommitAt n tc tp false
        else if s.flag (Reg.SLOT_LATE_OK n) then s.slotCommitAt n (t0 + lMin act) tp true
        else s.slotMissed n
      else s.setW (Reg.SLOT_PRED n) (s.taiOf tp)

/-- Deviations of mains slots: measured where the PLL, locked or HELD, passes the coordinate (R154). `old` is the coordinate before;
within a step of a re-lock the passing is at the step. -/
def State.measureMains (b : Bus) (old : Nat) (stepped : Bool) (s : State) : State :=
  let ph := s.getW (pllPh b)
  let hit := s.slotDev.filter (fun (e : DevWait) => e.base == busBase b && decide (old < e.coord) && decide (e.coord ≤ ph))
  let s := hit.foldl (fun (s : State) (e : DevWait) =>
    let (back, s) := if stepped then ((0 : Int), s) else s.quot (((ph : Int) - e.coord) * 10 ^ 12) (65536 * (s.pll b).freq)
    s.noteDev e.slot (s.unow - back - e.tp)) s
  { s with slotDev := s.slotDev.filter (fun (e : DevWait) => !hit.contains e) }

/-- MAINS_PLL_RELOCK. -/
def execMainsPllRelock (b : Bus) (m : MainsSeen) (phase : Nat) (s : State) : Out State :=
  .next (if pllLocks m && s.flag (pllHeld b) then
    let ph := s.getW (pllPh b)
    ((((s.setFlag (pllHeld b) false).setFlag (pllLock b) true).setPllFreq b m.mHz).setW (pllPh b) ((ph : Int) + relockStep ph phase).toNat).measureMains b ph true
  else s)

/-- The measured position of a car crosses the coordinate of a committed or fired slot between two samples (R154): the deviation is
measured at the crossing, an instant between them that the spec does not fix further. -/
def State.measureCar (n : Nat) (old new : Int) (tOld : Int) (s : State) : State :=
  let hit := s.slotDev.filter (fun (e : DevWait) =>
    let c := toSigned 32 (e.coord % 2 ^ 32)
    e.base == 4 + n && ((decide (old < c) && decide (c ≤ new) && e.dir != 2) || (decide (c ≤ old) && decide (new < c) && e.dir != 1)))
  let s := hit.foldl (fun (s : State) (e : DevWait) =>
    let (v, s) := s.fresh
    let at' := tOld + 1 + (v : Int) % (max 1 (s.unow - tOld))
    s.noteDev e.slot (at' - e.tp)) s
  { s with slotDev := s.slotDev.filter (fun (e : DevWait) => !hit.contains e) }

/-- PREDICTION_TICK (R149, R150): the PLLs' readings over the last 125 µs, and how long the pass took. -/
def execPredictionTick (a b : MainsRead) (ns : Nat) (s : State) : Out State :=
  if !s.angRuns then .next s
  else
    let oldA := s.getW Reg.ANG_PH_A
    let oldB := s.getW Reg.ANG_PH_B
    let s := (((s.pllTick .A a).pllTick .B b).measureMains .A oldA false).measureMains .B oldB false
    let s := s.showCarValid
    if s.flag (Reg.HDR_ENABLE Page.ANG) && s.flag Reg.ANG_PRED_EN then
      .next (((s.slotsIn SlotState.ARMED).foldl State.slotTick s).raiseTo Reg.ANG_PRED_MAX ns)
    else .next s

/-! ## Slot commands (R147, R148, R151) -/

/-- Whether an ARM is admitted. -/
def State.armValid (s : State) (n : Nat) : Bool :=
  let base := s.get (Reg.SLOT_BASE n)
  let act := s.get (Reg.SLOT_ACTION n)
  let arg := s.get (Reg.SLOT_ARG n)
  let baseOk := decide (base ≤ 2) || (decide (4 ≤ base) && decide (base ≤ 11))
  let argOk := match act with
    | 0 => arg == 0
    | 1 => decide (arg < 512)
    | 2 => decide (arg < 2 ^ 17) && decide (arg % 32 ≤ 23)
    | 3 => decide (arg < 4)
    | 4 => decide (arg < 8)
    | 5 => decide (arg < 16)
    | _ => false
  baseOk && argOk && !(s.flag (Reg.SLOT_COIL n) && act != SlotAction.SET_CH) && !(s.flag (Reg.SLOT_NEXT n) && base != 1 && base != 2)

/-- A command that the state of a slot does not accept. -/
def State.slotBusy (s : State) : State := (s.err Page.ANG Err.ANG_SLOT_BUSY).answer Status.E_STATE []

/-- A contact that a slot's last command has still to make no longer counts for its DEV. -/
def CoilLearn.forget (n : Nat) (x : CoilLearn) : CoilLearn :=
  { x with slot := match x.slot with | some e => (if e.1 = n then none else some e) | none => none }

/-- CMD ARM. -/
def slotArm (n : Nat) (s : State) : State :=
  let st := s.get (Reg.SLOT_STATE n)
  if st = SlotState.FREE ∨ st = SlotState.DONE then
    if s.armValid n then
      let s := ((s.set (Reg.SLOT_STATE n) SlotState.ARMED).set (Reg.SLOT_CODE n) SlotCode.NONE).set (Reg.SLOT_DEV n) noDev
      let s := s.setW (Reg.SLOT_PRED n) noPred
      ({ s with
        slotUnresolved := s.slotUnresolved.filter (· != n) ++ [n]
        slotDev := s.slotDev.filter (fun (e : DevWait) => e.slot != n)
        coilLearn := s.coilLearn.mapV (fun _ (x : CoilLearn) => x.forget n) }).answer Status.OK []
    else (s.err Page.ANG Err.ANG_ARM_INVALID).answer Status.E_STATE []
  else s.slotBusy

/-- Withdraw a committed slot's action from its target. -/
def State.slotWithdraw (s : State) (n : Nat) : State :=
  let arg := s.get (Reg.SLOT_ARG n)
  match s.get (Reg.SLOT_ACTION n) with
  | 1 =>
    let t := arg % 256 / 32
    (s.modTile t (fun x => { x with timed := x.timed.filter (fun (e : Timed) => e.slot != n), timedOut := x.timedOut.filter (fun (e : Timed) => e.slot != n) })).send .recallFrame t n []
  | 2 =>
    let ax := arg % 32
    s.modAxis ax (fun x => { x with starts := x.starts.filter (fun c => c.slot != some n) })
  | _ => s

/-- CMD CANCEL: frees an ARMED slot, or recalls a COMMITTED one while time allows (R151). -/
def slotCancel (n : Nat) (s : State) : State :=
  let st := s.get (Reg.SLOT_STATE n)
  if st = SlotState.ARMED then
    ((s.set (Reg.SLOT_STATE n) SlotState.FREE).slotResolved n).answer Status.OK []
  else if st = SlotState.COMMITTED then
    match KV.get? s.slotCommit n with
    | none => s.slotBusy
    | some c =>
      let act := s.get (Reg.SLOT_ACTION n)
      let left := c.tc - s.unow
      if (if lMin act = 0 then decide (0 < left) else decide (125000 ≤ left)) then
        let s := ((s.slotWithdraw n).slotDone n SlotCode.RECALLED).bump Reg.ANG_RECALL_CNT
        (s.record sevInfo Page.ANG 1 n []).answer Status.OK []
      else (s.err Page.ANG Err.ANG_RECALL_LATE).answer Status.E_STATE []
  else s.slotBusy

/-- CMD RELEASE frees a DONE slot. -/
def slotRelease (n : Nat) (s : State) : State :=
  if s.get (Reg.SLOT_STATE n) = SlotState.DONE then (s.set (Reg.SLOT_STATE n) SlotState.FREE).answer Status.OK []
  else s.slotBusy

/-- The CMD field of a slot. -/
def slotCmd (n c : Nat) (s : State) : State :=
  if c = 1 then slotArm n s else if c = 2 then slotCancel n s else if c = 3 then slotRelease n s else s

def execSlotArm (n : Fin 1024) (s : State) : Out State := .next (slotArm n s)
def execSlotCancel (n : Fin 1024) (s : State) : Out State := .next (slotCancel n s)
def execSlotRelease (n : Fin 1024) (s : State) : Out State := .next (slotRelease n s)

/-! ## Firing (R152) -/

/-- A slot ends with its code at its firing, reported to the sequencer with its timestamp. A snapshot's set takes the sequence
value with it. -/
def State.slotFired' (s : State) (n code : Nat) : State :=
  let ts := s.tai
  let snap := if s.get (Reg.SLOT_ACTION n) = SlotAction.SNAPSHOT ∧ (code = SlotCode.FIRED ∨ code = SlotCode.FIRED_LATE)
    then some (s.get (Reg.SLOT_ARG n) % 4) else none
  let s := s.slotDone n code
  { s with
    seqr := { s.seqr with waiting := s.seqr.waiting ++ [⟨ts, .slot (Fin.ofNat 1024 n)⟩] }
    slotFired := s.slotFired ++ [⟨n, code, ts, snap⟩] }

/-- FIRED, or FIRED_LATE for a slot that committed late. -/
def State.firedCode (s : State) (n : Nat) : Nat :=
  if (KV.get? s.slotCommit n).elim false (·.late) then SlotCode.FIRED_LATE else SlotCode.FIRED

/-- The command instant of a coil, and its slot where it is compensated (R155, R156). -/
def State.noteCoil (s : State) (n k : Nat) (on : Bool) (tc : Int) : State :=
  let tgt := match KV.get? s.slotCommit n with
    | some c => if c.comp then some (n, c.tp) else none
    | none => none
  { s with coilLearn := KV.modD s.coilLearn k CoilLearn.initial (fun x =>
      { (if on then { x with onCmd := some tc, onAt := none } else { x with offCmd := some tc, offAt := none }) with slot := tgt }) }

/-- TIMED_COMMAND_EXECUTE: the tile's earliest timed command falls due. `recent` says whether a valid frame arrived in
the 125 µs before; without one, or where the channel takes no command, being shed, by ENDURANCE too (R534), or in no output mode,
the slot reads NO_TARGET. -/
def execTimedCommandExecute (t : Fin 8) (recent : Bool) (s : State) : Out State :=
  let x := s.tile t
  match x.timed with
  | [] => .next s
  | e :: es =>
    let m := es.foldl (fun (a : Timed) (b : Timed) => if b.tc < a.tc then b else a) e
    let n := m.slot
    let s := s.setTile t { x with timed := x.timed.filter (fun y => y.slot != n) }
    let c := x.chan m.ch
    if recent && c.isOut && !c.safety && !c.shed && !bitOf x.fireHold m.ch then
      let s := s.modTile t (fun x => x.command m.ch m.level)
      let s := s.set ⟨(Reg.TILE_OUT t).addr, m.ch, m.ch⟩ (b2n m.level)
      let s := s.noteCoil n (32 * t.val + m.ch) m.level m.tc
      .next (if s.get (Reg.SLOT_STATE n) = SlotState.COMMITTED then s.slotFired' n (s.firedCode n) else s)
    else .next (if s.get (Reg.SLOT_STATE n) = SlotState.COMMITTED then s.slotFired' n SlotCode.NO_TARGET else s)

/-! ## The DONE queue (R162) -/

/-- Queue an entry; the newest is dropped where 64 are held. -/
def State.pushDone (s : State) (e : DoneEntry) : State :=
  if 64 ≤ s.doneQ.length then (s.bump Reg.ANG_DONE_DROP).err Page.ANG Err.ANG_DONE_OVF
  else
    let first := s.doneQ.isEmpty
    let s := { s with doneQ := s.doneQ ++ [e] }
    if first then s.irq Page.ANG Irq.ANG_DONE else s

/-- DONE_POP: a read of DONE_4 removes the head entry. -/
def donePop (s : State) : State := { s with doneQ := s.doneQ.tail }

def execDonePop (s : State) : Out State := .next (donePop s)

/-- SNAPSHOT_SEQ_READ: the set has been read, and OVERWRITTEN clears. -/
def snapshotSeqRead (k : Nat) (s : State) : State :=
  ({ s with snapUnread := s.snapUnread.filter (· != k) }).setFlag (Reg.ANG_SNAP_OVERWRITTEN k) false

def execSnapshotSeqRead (k : Fin 4) (s : State) : Out State := .next (snapshotSeqRead k s)

/-! ## Coil compensation (R155, R156) -/

/-- The new mean of a direction, to the nearest microsecond; a half is not stated. -/
def State.coilMean (s : State) (mean measured : Nat) : Nat × State :=
  let n : Int := 16 * (mean : Int) + ((measured : Int) - mean)
  let r := n % 16
  if r < 8 then ((n / 16).toNat, s) else if 8 < r then ((n / 16 + 1).toNat, s)
  else let (q, s) := s.quot n 16; (q.toNat, s)

/-- COIL_MEASUREMENT: the contact instant of CH_k for a direction, TAI ns, as the edges of FB_CH or the samples of I_IN have
shown it. It updates the direction while LEARN is set, on a STANDBY never (R450), and DEV of a compensated slot; one more than
100 ms after the command is not counted. -/
def execCoilMeasurement (k : Fin 256) (on : Bool) (contact : Nat) (s : State) : Out State :=
  let x := KV.getD s.coilLearn k.val CoilLearn.initial
  let at' : Int := (contact : Int) - s.tb.stepSum
  match (if on then x.onCmd else x.offCmd) with
  | none => .next s
  | some tc =>
    if (if on then x.onAt else x.offAt) ≠ some at' ∨ 100000000 < at' - tc then .next s
    else
      let s := { s with coilLearn := KV.put s.coilLearn k.val (if on then { x with onCmd := none, onAt := none } else { x with offCmd := none, offAt := none }) }
      let s := match x.slot with
        | some (n, tp) => let (d, s) := s.quot (at' - tp) 1000; s.setS (Reg.SLOT_DEV n) d
        | none => s
      if !s.flag (Reg.ANG_LEARN k) || s.get Reg.TWN_STATE == 2 then .next s
      else
        let (us, s) := s.quot (at' - tc) 1000
        let measured := us.toNat
        let fMean := if on then Reg.ANG_ON_US k else Reg.ANG_OFF_US k
        let fJit := if on then Reg.ANG_ON_JIT k else Reg.ANG_OFF_JIT k
        let mean := s.get fMean
        let jit := s.get fJit
        let d := ((measured : Int) - mean).natAbs
        let (m', s) := s.coilMean mean measured
        let s := (s.set fMean (satTo 65535 m')).set fJit (if jit < d then satTo 65535 (jit + 19) else jit - 1)
        let count := min 64 ((if on then x.onCount else x.offCount) + 1)
        let s := { s with coilLearn := KV.modD s.coilLearn k.val CoilLearn.initial (fun y => if on then { y with onCount := count } else { y with offCount := count }) }
        .next (s.setFlag (if on then Reg.ANG_ON_READY k else Reg.ANG_OFF_READY k) (count == 64))

/-- Whether a mean has moved by more than 2 % since the last save. -/
def coilMoved (saved mean : Nat) : Bool := decide (saved * 2 < 100 * ((mean : Int) - saved).natAbs)

/-- COIL_TABLE_SAVE: the coil table goes to MRAM where a mean has moved, at most once per minute of OP_S. -/
def execCoilTableSave (s : State) : Out State :=
  let min' := s.get Reg.EVR_OP_S / 60
  let moved := (List.range 256).any (fun k =>
    let x := KV.getD s.coilLearn k CoilLearn.initial
    coilMoved x.onSaved (s.get (Reg.ANG_ON_US k)) || coilMoved x.offSaved (s.get (Reg.ANG_OFF_US k)))
  .next (if moved && s.coilSaveMin != some min' then
    { s with
      coilMram := s.mem.filter (fun e => decide (0x17800 ≤ e.1) && decide (e.1 < 0x18000))
      coilSaveMin := some min'
      coilLearn := (List.range 256).foldl (fun m k =>
        let x := KV.getD m k CoilLearn.initial
        let on := s.get (Reg.ANG_ON_US k)
        let off := s.get (Reg.ANG_OFF_US k)
        if x.onSaved = on ∧ x.offSaved = off then m else KV.put m k { x with onSaved := on, offSaved := off }) s.coilLearn }
  else s)

/-! ## The sequencer (R158, R159) -/

/-- Rank of a source among reports of one timestamp. -/
def srcRank : ReportSource → Nat
  | .stirrup => 0
  | .tile n => 1 + n
  | .metering => 9
  | .slot _ => 10
  | .mac .A => 11
  | .mac .B => 12
  | .can n => 13 + n
  | .other _ => 17

/-- Insert an item behind those whose reports come before its own. -/
def insertReport {α : Type} (rep : α → Report) (r : α) : List α → List α
  | [] => [r]
  | q :: qs =>
    if (rep r).ts < (rep q).ts ∨ ((rep r).ts = (rep q).ts ∧ srcRank (rep r).src < srcRank (rep q).src) then r :: q :: qs
    else q :: insertReport rep r qs

/-- The order in which items take their reports' values. -/
def reportOrder {α : Type} (rep : α → Report) (l : List α) : List α := l.foldl (fun a r => insertReport rep r a) []

/-- A report takes the next value; a slot firing then enters the DONE queue, and a snapshot set its value. -/
def State.giveSeq (s : State) (r : Report) : State :=
  let (q, s) := s.number r
  match r.src with
  | .slot n =>
    match s.slotFired.find? (fun (e : Firing) => e.slot == n.val && e.ts == r.ts) with
    | none => s
    | some e =>
      let s := { s with slotFired := s.slotFired.erase e }
      let s := match e.snap with
        | some k => s.setWideFrom (Reg.ANG_SNAP_SEQ k).addr q 2
        | none => s
      s.pushDone ⟨n, e.code, q, e.ts⟩
  | _ => s

/-- Give values to reports in order. -/
def State.giveAll (s : State) (l : List Report) : State :=
  (reportOrder id l).foldl State.giveSeq { s with seqr := { s.seqr with given := [] } }

/-- What waits for the sequencer, in the order in which it takes its values: reports, and events with their records. -/
def waitingOrder (l : List Report) (h : List HeldEvent) : List (Report × Option RecordWords) :=
  reportOrder (fun (e : Report × Option RecordWords) => e.1) (l.map (fun r => (r, none)) ++ h.map (fun (e : HeldEvent) => (e.report, some e.words)))

/-- What waited takes its value: a report, or an event, whose record has it from then on and goes where `put` says. The record of
a trip of Stirrup's gives TRIP_SEQ its value too (R339). -/
def State.giveWith (put : Report → RecordWords → State → State) (s : State) (e : Report × Option RecordWords) : State :=
  match e.2 with
  | none => s.giveSeq e.1
  | some w =>
    let (q, s) := s.number e.1
    put e.1 (numbered q w) (if e.1.src = .stirrup ∧ recordSev w = sevSafety then s.setW Reg.SAF_TRIP_SEQ q else s)

/-- SEQUENCE_ASSIGN: every report whose timestamp lies 250 µs back takes its value, and an event's record is written with it (R158,
R463, R465). -/
def execSequenceAssign (s : State) : Out State :=
  if s.sysHeld then .next s
  else
    let due := fun (r : Report) => decide (r.ts + 250000 ≤ s.tai)
    let l := waitingOrder (s.seqr.waiting.filter due) (s.heldEvents.filter (fun e => due e.report))
    let s := { s with
      seqr := { s.seqr with waiting := s.seqr.waiting.filter (fun r => !due r), given := [] }
      heldEvents := s.heldEvents.filter (fun e => !due e.report) }
    .next (l.foldl (State.giveWith (fun _ w (s : State) => s.writeRecord w)) s)

/-- LATE_REPORT: a report that arrives late takes the next value at once; one in time waits. -/
def execLateReport (r : Report) (s : State) : Out State :=
  if s.sysHeld || decide (s.tai ≤ r.ts + 250000) then
    .next { s with seqr := { s.seqr with waiting := s.seqr.waiting ++ [r] } }
  else .next (((s.giveAll [r]).bump Reg.ANG_SEQ_LATE).err Page.ANG Err.ANG_SEQ_LATE)

/-- SEQ_MIRROR: after every 2^20 values the counter is mirrored to MRAM. -/
def execSeqMirror (s : State) : Out State :=
  .next (if s.seqr.mirror + 2 ^ 20 ≤ s.getW Reg.ANG_SEQ then { s with seqr := { s.seqr with mirror := s.getW Reg.ANG_SEQ } } else s)

/-- The counter resumes at a release of reach SYS or wider, and what waited takes its values in order of timestamp and source
(R159). The value resumed at is mirrored: the counter repeats none, though the next release may come before 2^20 more are given
(DEDUCED, log entry 93). -/
def State.resumeSeq (s : State) : State :=
  let l := waitingOrder s.seqr.waiting s.heldEvents
  let n := s.seqr.mirror + 2 ^ 21
  let s := ({ s with seqr := { s.seqr with waiting := [], given := [], mirror := n }, heldEvents := [] }).setW Reg.ANG_SEQ n
  l.foldl (State.giveWith (fun r w (s : State) => { s with heldEvents := s.heldEvents ++ [⟨r, w⟩] })) s

end Sys2Proof.Machine
end

