-- ==== Sys2Proof/Machine/Tiles.lean ====
section
/-! DEFINITION. Commands of the field tiles and of the Welt link (R163 to R193, R30, R31). What a tile finds on its
field side reaches the registers of the logic side with its next accepted uplink frame (R180). -/

namespace Sys2Proof.Machine

def execChCfgWrite (t : Fin 8) (n : Fin 32) (w : Word) (s : State) : Out State :=
  .next (s.unlocked (Page.TILE t) (writeChCfg t n w))

/-- A channel takes up its configuration (R164): a change of MODE passes through a stage that is off and clears filter,
counter and faults. -/
def Chan.takeUp (c : Chan) (clk : Nat) (cfg param : Word) : Chan :=
  let level := if c.generated then c.wave else c.out
  let d := if getBits cfg 31 28 = c.mode then
      -- a FAST channel with another SUB keeps its level
      if c.mode = ChMode.FAST ∧ getBits cfg 13 12 ≠ c.sub then { c with cfg := cfg, param := param, out := level, wave := level, waveEnd := none }
      else { c with cfg := cfg, param := param }
    else { Chan.initial with cfg := cfg, param := param, testB := c.testB, back := c.back + c.pulses, ext := c.ext, gapEnd := some (clk + 62500) }
  if d.isPwm && !c.isPwm then { d with pwm := param, pwmFrom := clk } else d

/-- The configuration of a channel reaches its tile. One that takes up a mode in safe state is put to its safe action, HOLD as OFF
(R185); one that takes up another SUB keeps its level as its last. -/
def State.takeUpCfg (t : Nat) (s : State) (n : Nat) : State :=
  let cfg := s.word (chCfgAddr t n)
  let param := s.word (chParamAddr t n)
  s.modTile t (fun x =>
    if getBits cfg 31 28 = (x.chan n).mode then
      let y := x.modChan n (fun c => c.takeUp x.clk cfg param)
      if y.driven n = x.driven n ∧ getBits cfg 13 12 = (x.chan n).sub then y else y.reforce x n
    else
      let y := (((x.demand n).unshed n).modChan n (fun c => c.takeUp x.clk cfg param)).noteOff x n
      if y.safe || bitOf y.fireHold n then y.applySafe false n else y)

/-- The settings of a tile reach it: BARRIER_US, HOLD_MS, AUTO_RESTORE and those of its step timers. -/
def State.takeUpCtl (t : Nat) (s : State) : State :=
  s.modTile t (fun x =>
    if x.ctlSend then
      let y := foldN 4 (fun k x => x.modTimer k (fun m =>
        { m with cfg := s.word (Reg.TILE_STEP_EN t k).addr, width := s.get (Reg.TILE_STEP_WIDTH t k) })) x
      -- a DOUT that becomes or ceases to be a DIR_CH in safe state stays at its action
      let y := foldN 32 (fun n y => if y.driven n = x.driven n then y else y.reforce x n) y
      { y with
        barrier := s.get (Reg.TILE_BARRIER_US t), holdUs := 1000 * s.get Reg.FIO_HOLD_MS
        autoRestore := s.flag (Reg.TILE_AUTO_RESTORE t), ctlSend := false }
    else x)

/-- MODE_CHANGE_APPLY: every configuration written since the last frame reaches the tile. -/
def execModeChangeApply (t : Fin 8) (s : State) : Out State :=
  .next (if (s.tile t).trainedA || (s.tile t).trainedB then
    let ns := (s.tile t).cfgSend
    (ns.foldl (State.takeUpCfg t) (s.takeUpCtl t)).modTile t (fun x => { x with cfgSend := [] })
  else s)

/-! ## Inputs -/

/-- The reading of a sample (R166): at or above the upper threshold 1, at or below 5 V 0, else the previous value. -/
def Chan.judge (c : Chan) (mv : Int) : Bool :=
  if (if c.type3 then 11000 else 15000) ≤ mv then true else if mv ≤ 5000 then false else c.last

/-- The wire-break judgement of a sample (R168): 4 consecutive samples below 0.3 mA set BREAK, 4 at or above clear it. -/
def Chan.judgeWire (c : Chan) (ua : Nat) : Chan :=
  if !c.wb then { c with brk := false, brkLow := 0, brkOk := 0 }
  else if ua < 300 then
    let k := min 4 (c.brkLow + 1)
    { c with brkLow := k, brkOk := 0, brk := c.brk || decide (4 ≤ k) }
  else
    let k := min 4 (c.brkOk + 1)
    { c with brkOk := k, brkLow := 0, brk := c.brk && decide (k < 4) }

/-- Take a sample into the filter (R167): the state changes after FILTER consecutive samples with the new value. -/
def Chan.sample (c : Chan) (v : Bool) (ts : Nat) : Chan :=
  let run := if v = c.inp then 0 else if v = c.last ∧ 0 < c.run then c.run + 1 else 1
  let rts := if run = 1 then ts else c.runTs
  let c := { c with last := v, run := run, runTs := rts }
  if c.brk then { c with run := 0 }
  else if v != c.inp && decide (c.filter ≤ run) then { c with inp := v, run := 0 } else c

/-- A channel is sampled: its terminal's level is found (R176), and a DIN channel takes the sample (R166 to R168); an edge is kept
with the instant of the first sample of its run. -/
def Tile.sampleChan (ts : Nat) (x : Tile) (e : Nat × Int × Nat) : Tile :=
  let x := x.modChan e.1 (fun c => { c with ext := decide (10000 ≤ e.2.1) && !x.drives e.1 })
  let c := x.chan e.1
  if c.mode = ChMode.DIN then
    let c' := (c.judgeWire e.2.2).sample (c.judge e.2.1) ts
    let c' := { c' with last := c.judge e.2.1 }
    let x := x.modChan e.1 (fun _ => c')
    if c'.inp = c.inp then x else { x with edges := x.edges ++ [(e.1, c'.inp, c'.runTs)] }
  else x

/-- A safety input as the second controller samples it (R190). -/
def Tile.sampleChanB (ts : Nat) (x : Tile) (e : Nat × Int × Nat) : Tile :=
  let own := x.chan e.1
  if own.mode = ChMode.DIN ∧ own.safety = true then
    let c := { KV.getD x.chB e.1 Chan.initial with cfg := own.cfg }
    { x with chB := KV.put x.chB e.1 { (c.sample (c.judge e.2.1) ts) with last := c.judge e.2.1 } }
  else x

/-- While shed stage S3 applies, TILE_0 to TILE_5 take a sample 20 µs after the multiples of 2 ms alone (R169). -/
def State.skipsSample (s : State) (t ts : Nat) : Bool := s.getBit Reg.PWR_SHED 2 && decide (t < 6) && decide (ts % 2000000 ≠ 20000)

/-- DIN_SAMPLE: the samples that a controller of a tile takes, channel 0 upwards: terminal in mV and sink current in
µA. Controller B, on the safety tiles, samples the safety inputs alone. -/
def execDinSample (t : Fin 8) (l : Lan) (ts : Nat) (samples : List (Int × Nat)) (s : State) : Out State :=
  if s.skipsSample t ts then .next s
  else match l with
  | .B => .next (if t.val < 6 then s else s.modTile t (fun x => ((List.range 32).zip samples).foldl (Tile.sampleChanB ts) x))
  | .A =>
  let s := s.modTile t (fun x => { ((List.range 32).zip samples).foldl (Tile.sampleChan ts) x with sampled := true, sampleTs := ts })
  .next { s with pointWaiting := s.pointWaiting.map (fun e =>
    if s.get (Reg.PT_BIND e.1) = 1 ∧ s.get (Reg.PT_TARGET e.1) % 256 / 32 = t.val then (e.1, true) else e) }

/-- A counted edge of a channel is the contact of each coil whose SRC 1 names it as its feedback channel (R156). -/
def State.feedback (ch ts : Nat) (s : State) : State :=
  { s with coilLearn := s.coilLearn.mapV (fun k (x : CoilLearn) =>
      if s.get (Reg.ANG_SRC k) = 1 ∧ s.get (Reg.ANG_FB_CH k) = ch then x.contact ((ts : Int) - s.tb.stepSum) true true else x) }

/-- COUNT_EDGE: an edge that SUB selects is counted and passed on with its time stamp, which may be a coil's contact instant (R156,
R170). -/
def execCountEdge (t : Fin 8) (n : Fin 32) (rising : Bool) (ts : Nat) (s : State) : Out State :=
  let c := (s.tile t).chan n
  let s := if c.mode = ChMode.COUNT ∧ bitOf c.sub (if rising then 0 else 1) = true then s.feedback (32 * t.val + n.val) (ts / 1000 * 1000) else s
  .next (s.modTile t (fun x =>
    let c := x.chan n
    if c.mode = ChMode.COUNT then
      let x := x.modChan n (fun c => { c with inp := rising })
      if bitOf c.sub (if rising then 0 else 1) then
        { (x.modChan n (fun c => { c with cntInc := c.cntInc + 1, edge := ts / 1000 * 1000 })) with
          edges := x.edges ++ [(n.val, rising, ts / 1000 * 1000)] }
      else x
    else x))

/-! ## Outputs -/

def execTileOutWrite (t : Fin 8) (w : Word) (s : State) : Out State := .next (hostOut t w s)

def execPulseReq (t : Fin 8) (w : Word) (s : State) : Out State := .next (writePulseReq t w s)

/-- Whether a waiting pulse of a channel may start: no safe state and no fault holds the output, and the last pulse and its pause
are over (R173). -/
def Tile.pulseFree (x : Tile) (n : Nat) : Bool :=
  let c := x.chan n
  c.mode == ChMode.PULSE && decide (0 < c.pulses) && x.first && !x.safe && !bitOf x.fireHold n && !c.short && !c.hot && !c.shed && !x.fsRev
    && c.gapEnd.isNone && c.waveEnd.isNone && decide (c.busyTo ≤ x.clk)

/-- PULSE_EMIT: one waiting pulse goes to the terminal, for WIDTH (R173). -/
def execPulseEmit (t : Fin 8) (n : Fin 32) (s : State) : Out State :=
  .next (s.modTile t (fun x =>
    if x.pulseFree n then
      x.modChan n (fun c => { c with
        pulses := c.pulses - 1, emitted := c.emitted + 1, wave := true, waveEnd := some (x.clk + 1000000 * clampN 1 1000 (getBits c.param 15 0)) })
    else x))

/-- STEP_EDGE: a step falls due (R174, R175). -/
def execStepEdge (t : Fin 8) (k : Fin 4) (s : State) : Out State :=
  let m := (s.tile t).timer k
  if !m.enabled || !m.run then .next s
  else match m.fifo with
    | [] =>
      .next (s.modTile t (fun x => x.modTimer k (fun m => { m with run := false, underrun := m.underrun || getBits m.lastWord 30 30 == 0 })))
    | w :: _ => .next ((s.modTile t (Tile.stepDue k)).errIf (getBits w 23 0 < 1000) (Page.TILE t) Err.TILE_CFG_RANGE)

/-! ## Output faults (R176, R177) -/

/-- An output that can be in current limit: one commanded on, and FAST, which drives both ways. -/
def Tile.limits (x : Tile) (n : Nat) : Bool := (x.chan n).isOut && (x.commanded n || (x.chan n).mode == ChMode.FAST)

/-- SHORT_DETECT: an output in current limit for more than 2 ms is switched off, or only reported where it is FAST; suspended
under FS_FAIL. -/
def execShortDetect (t : Fin 8) (n : Fin 32) (s : State) : Out State :=
  .next (s.modTile t (fun x =>
    if x.limits n && !x.fsFail then x.modChan n (fun c => { c with short := true }) else x))

/-- SHORT_RETRY: with RETRY 1 and the output commanded on, the switch closes; where it leaves the current limit within
2 ms SHORT clears. A PULSE channel counts as commanded on while pulses wait (log entry 95). -/
def execShortRetry (t : Fin 8) (n : Fin 32) (holds : Bool) (s : State) : Out State :=
  .next (s.modTile t (fun x =>
    if (x.chan n).short && (x.chan n).retry && (x.limits n || decide (0 < (x.chan n).pulses)) then x.modChan n (fun c => { c with short := !holds }) else x))

def execOvertemp (t : Fin 8) (n : Fin 32) (hot : Bool) (s : State) : Out State :=
  .next (s.modTile t (fun x => if (x.chan n).isOut then x.modChan n (fun c => { c with hot := hot }) else x))

/-- OPEN_LOAD: judged on a DOUT commanded on, and not while FS_FAIL stands. -/
def execOpenLoad (t : Fin 8) (n : Fin 32) (below : Bool) (s : State) : Out State :=
  .next (s.modTile t (fun x =>
    if (x.chan n).mode = ChMode.DOUT ∧ x.commanded n = true ∧ x.fsFail = false then x.modChan n (fun c => { c with openLd := below }) else x))

/-- Whether the partner of a paired DOUT is commanded on, or was in the 5 ms before (R177). -/
def Tile.partnerOn (x : Tile) (n : Nat) : Bool :=
  let c := x.chan n
  let p := getBits c.cfg 4 0
  c.mode == ChMode.DOUT && c.paired
    && (if getBits c.cfg 7 7 = 1 then bitOf x.peerOut n || x.fresh (KV.get? x.peerOff n) else x.commanded p || x.fresh (x.chan p).offAt)

/-- EXT_DRIVE: the terminal of an output commanded off has been high, or has been low again, for 1 ms; not judged within 5 ms of
the off command, nor while the partner is commanded on. -/
def execExtDrive (t : Fin 8) (n : Fin 32) (high : Bool) (s : State) : Out State :=
  .next (s.modTile t (fun x =>
    if !(x.chan n).isOut then x
    else
      let judged := !(high && (x.commanded n || x.fresh (x.chan n).offAt || x.partnerOn n))
      x.modChan n (fun c => { c with ext := high && !x.drives n, extDrv := if judged then high else c.extDrv })))

def execFsFailSet (t : Fin 8) (s : State) : Out State := .next (s.modTile t (fun x => { x with fsFail := true }))
def execFsFailClear (t : Fin 8) (s : State) : Out State := .next (s.modTile t (fun x => { x with fsFail := false }))
def execFsReversed (t : Fin 8) (rev : Bool) (s : State) : Out State := .next (s.modTile t (fun x => { x with fsRev := rev }))

/-! ## Current management (R178, R179) -/

/-- The current that a channel draws while its stage drives. -/
def Tile.drawn (x : Tile) : Nat := (List.range 32).foldl (fun a n => if x.drives n then a + (x.chan n).ma else a) 0

/-- CURRENT_MEASURE: the currents of the channels in mA, FS_t in mV and the temperature in 0.1 °C (R178, R179). -/
def execCurrentMeasure (t : Fin 8) (mas : List Nat) (fsMv : Nat) (temp : Int) (s : State) : Out State :=
  .next (s.modTile t (fun x =>
    let x := ((List.range 32).zip mas).foldl (fun x e => x.modChan e.1 (fun c => { c with ma := e.2 })) x
    let sum := mas.foldl (· + ·) 0
    let low := match x.shedOrder with | (_, ma) :: _ => decide (sum + ma < 7500) | [] => false
    { x with fsMv := fsMv, temp := temp, sum := sum, over8 := if 8000 < sum then x.over8 + 1 else 0, below := if low then x.below + 1 else 0 }))

/-- The next output to shed: lowest PRIO first, within one the highest channel (R178). -/
def Tile.shedNext (x : Tile) : Option Nat :=
  let cand := (List.range 32).filter (fun n => x.drives n && (x.chan n).prio < 3 && !(x.chan n).safety)
  let pick := fun p => (cand.filter (fun n => (x.chan n).prio == p)).getLast?
  match pick 0 with
  | some n => some n
  | none => match pick 1 with
    | some n => some n
    | none => pick 2

/-- Shed outputs until the sum is at or below 8 A. -/
def Tile.shedAll : Nat → Tile → Tile
  | 0, x => x
  | k + 1, x =>
    if x.sum ≤ 8000 then x
    else match x.shedNext with
      | none => x
      | some n =>
        let ma := (x.chan n).ma
        let x := (x.demand n).modChan n (fun c => { c with shed := true, ma := 0 })
        Tile.shedAll k { x with sum := x.sum - ma, shedOrder := (n, ma) :: x.shedOrder, nShed := x.nShed + 1, below := 0 }

/-- CUR_SHED: above 8 A for 10 ms, 40 measurements, or above 10 A in the last. -/
def execCurShed (t : Fin 8) (s : State) : Out State :=
  .next (s.modTile t (fun x => if 40 ≤ x.over8 ∨ 10000 < x.sum then { (Tile.shedAll 32 x) with over8 := 0 } else x))

/-- The last shed output returns to its commanded state. -/
def Tile.restoreOne (x : Tile) : Tile :=
  match x.shedOrder with
  | [] => x
  | (n, _) :: rest => { (x.modChan n (fun c => { c with shed := false })) with shedOrder := rest, below := 0 }

/-- CUR_RESTORE: with AUTO_RESTORE, after 1 s, 4 000 measurements, below the limit (R179). -/
def execCurRestore (t : Fin 8) (s : State) : Out State :=
  .next (if (s.tile t).autoRestore && decide (4000 ≤ (s.tile t).below) then s.modTile t Tile.restoreOne else s)

/-! ## Downlink frames (R180 to R188) -/

/-- Output levels reach a tile that is out of safe state; those of channels held in ENDURANCE are ignored (R534). -/
def Tile.takeLevels (x : Tile) (levels : Nat) : Tile :=
  foldN 32 (fun n x => if bitOf x.fireHold n then x else x.command n (bitOf levels n)) x

/-- The safety part of a frame: the levels that the lane's core commands (R190). -/
def Tile.takeSafety (x : Tile) (l : Lan) : Tile :=
  let v := match l with | .A => x.safA | .B => x.safB
  foldN 32 (fun n x => x.commandSafety l n (bitOf v n)) x

/-- A step entry as a frame carries it, with its timer: one that is timed from its arrival takes what then remains to its due
instant (R174, R278). -/
def stepEntry (now : Int) (e : Nat × Word × Int) : Nat × Word :=
  (e.1, if getBits e.2.1 23 0 = 0 then setBits e.2.1 23 0 (clampN 1000 16777215 ((e.2.2 - now) / 4).toNat) else e.2.1)

/-- The standard part of an accepted frame, with its flags and levels (R184 to R188). -/
def Tile.takeFrame (x : Tile) (now : Int) (live goSafe hold : Bool) (levels : Nat) : Tile :=
  -- the first valid frame after power-up applies the table, HOLD as OFF (R185)
  let x := if x.first then x else { x with first := true }.enterSafe 3 false
  let x := if goSafe then x.enterSafe 2 true else x
  let x := if live && x.safe then { x with safe := false, cause := 0 } else x
  let x := ({ x with holdExt := hold, lastLevels := levels }).takePulses.takeTable
  let cmds := x.timedOut.take 8
  let steps := (x.stepOut.take 64).map (stepEntry now)
  let x := { x with timedOut := x.timedOut.drop 8, stepOut := x.stepOut.drop 64 }
  if x.safe then x
  else
    let x := if hold then x else x.takeLevels levels
    let x := { x with timed := x.timed ++ cmds }
    steps.foldl (fun x e => x.pushStep e.1 e.2) x

/-- Whether a lane of a tile exists and is trained (R180, R190). -/
def State.laneUp (s : State) (t : Nat) (l : Lan) : Bool :=
  let x := s.tile t
  match l with | .A => x.trainedA | .B => x.trainedB && decide (6 ≤ t)

/-- Whether FIO's frames are stopped: from the assertion of a reset of reach SYS or wider until the lanes are trained, so that the
first of them is that of B4 (R533). -/
def State.fioStopped (s : State) : Bool := s.sysHeld || (s.pwr.episode && decide (2 ≤ s.pwr.reach) && decide (s.pwr.point < 3))

/-- The message block of a frame (R180): the configuration written, a new table, pulse requests. Its layout is not stated (log entry
3). The configuration takes effect with MODE_CHANGE_APPLY. -/
def State.weltMessages (s : State) (t : Nat) : List Nat :=
  let x := s.tile t
  (x.cfgSend.flatMap (fun n => [n, (s.word (chCfgAddr t n)).toNat, (s.word (chParamAddr t n)).toNat]))
    ++ (if x.ctlSend then [s.get (Reg.TILE_BARRIER_US t), s.get Reg.FIO_HOLD_MS, b2n (s.flag (Reg.TILE_AUTO_RESTORE t))] else [])
    ++ x.commitOut.toList ++ x.pulseOut.flatMap (fun e => [e.1, e.2])

/-- What a downlink frame carries (R180): FLAGS, SEQ, ACK, TAI at its start, the output levels, timed commands, step entries and the
message block. The value of KIND is not stated (log entry 3). While FIO's frames are stopped there is Stirrup's part alone. -/
def State.weltBody (s : State) (t : Nat) (l : Lan) (seq : Nat) : List Nat :=
  let x := s.tile t
  let ack := (x.lane l).upRx.getD 0
  if s.fioStopped then [0, seq, ack]
  else
    let flags := b2n (s.sendsLive t) + 2 * b2n x.goSafe + 4 * b2n (s.flag Reg.FIO_HOLD) + 8 * b2n (s.flag Reg.TBS_VALID)
    [flags, seq, ack, s.tai, s.get (Reg.TILE_OUT t), min 8 x.timedOut.length]
      ++ (x.timedOut.take 8).flatMap (fun e => [e.ch, b2n e.level, e.slot, s.taiOf e.tc])
      ++ ((x.stepOut.take 64).map (stepEntry s.unow)).flatMap (fun e => [e.1, e.2.toNat]) ++ s.weltMessages t

/-- A timed command that no frame has brought to its tile by t_c is discarded (R152). -/
def State.dropUnsent (s : State) (t : Nat) : State :=
  s.modTile t (fun x => { x with timedOut := x.timedOut.filter (fun (e : Timed) => decide (s.unow < e.tc)) })

/-- DOWNLINK_FRAME: the logic side sends the tile its next frame on a lane, which arrives or not. While FIO's frames are
stopped those of the safety tiles carry Stirrup's part alone (R67, R533). An accepted frame disciplines the tile's timer to the
logic side's TAI, whose rate it runs on at (R182). -/
def execDownlinkFrame (t : Fin 8) (l : Lan) (rx : FrameRx) (s : State) : Out State :=
  if !s.laneUp t l || (s.fioStopped && decide (t.val < 6)) then .next s
  else
    let s := s.dropUnsent t
    let x := s.tile t
    let ln := x.lane l
    let live := s.sendsLive t
    let goSafe := x.goSafe
    let hold := s.flag Reg.FIO_HOLD
    let seq := if rx = .repeated then (ln.dnTx + 65535) % 65536 else ln.dnTx
    let s := if s.fioStopped then s else
      ((s.setFlag (Reg.TILE_LIVE t) live).setBit Reg.FIO_LIVE t live).modTile t (fun x => { x with goSent := x.goSent || goSafe })
    let s := s.send .weltFrame t (match l with | .A => 0 | .B => 1) (s.weltBody t l seq)
    let s := s.modTile t (fun x => x.setLane l { ln with dnTx := if rx = .repeated then ln.dnTx else (ln.dnTx + 1) % 65536 })
    match rx with
    | .lost => .next s
    | .damaged => .next (s.bump (Reg.TILE_LINK_BAD t))
    | .good | .repeated =>
      match seqGap ln.dnRx seq with
      | none => .next (s.bump (Reg.TILE_LINK_BAD t))
      | some gap =>
        let s := s.bumpBy (Reg.TILE_LINK_GAP t) gap
        let levels := s.get (Reg.TILE_OUT t)
        let held := s.fioStopped
        .next (s.modTile t (fun x =>
          let x := x.setLane l { x.lane l with dnRx := some seq, up := true }
          let x := if held then x else { (x.takeFrame s.unow live goSafe hold levels) with rate := s.tb.incr }
          if 6 ≤ t.val then x.takeSafety l else x))

/-! ## Uplink frames (R180 to R183) -/

/-- The fault bits of a channel, bits 15 to 7 of CH_STAT in order (R176). -/
def Tile.faultBits (x : Tile) (n : Nat) : Nat :=
  let c := x.chan n
  [c.extDrv, c.short, c.openLd, c.hot, x.fsFail && c.isOut, c.shed, c.brk, c.tstFail, c.tstDue].foldl (fun a b => 2 * a + b2n b) 0

/-- CH_STAT[n] takes what the tile reports. -/
def State.showChan (t : Nat) (n : Nat) (s : State) : State :=
  let x := s.tile t
  let a := 0x20180 + 0x1000 * t + 4 * n
  let old := getBits (s.word a) 15 7
  let new := x.faultBits n
  let s := s.set ⟨a, 15, 7⟩ new
  let s := s.set ⟨a, 1, 0⟩ (2 * b2n (x.safe && (x.chan n).isOut && !(x.chan n).safety) + b2n (x.terminal n))
  if (new ||| old) = old then s else s.irq (Page.TILE t) Irq.TILE_FAULT

/-- A channel's count increment and latest edge reach the logic side (R170). -/
def State.showCount (t : Nat) (n : Nat) (s : State) : State :=
  let c := (s.tile t).chan n
  if c.cntInc = 0 then s
  else
    let s := (s.setW (tileCount t n) (s.getW (tileCount t n) + c.cntInc)).setW (tileEdge t n) c.edge
    s.modTile t (fun x => x.modChan n (fun c => { c with cntInc := 0 }))

/-- A step timer's fill and steps reach the logic side (R174, R175). -/
def State.showTimer (t : Nat) (k : Nat) (s : State) : State :=
  let m := (s.tile t).timer k
  let was := s.flag (Reg.TILE_STEP_UNDERRUN t k)
  let s := ((s.setFlag (Reg.TILE_STEP_RUN t k) m.run).set (Reg.TILE_STEP_FILL t k) m.fifo.length).setFlag (Reg.TILE_STEP_UNDERRUN t k) m.underrun
  let s := s.setS (Reg.TILE_STEP_POS t k) (s.getS (Reg.TILE_STEP_POS t k) + m.posInc)
  let s := s.modTile t (fun x => x.modTimer k (fun m => { m with posInc := 0 }))
  if m.underrun && !was then s.irq (Page.TILE t) Irq.TILE_UNDERRUN else s

/-- The level that a tile channel gives a point (R382): a filtered input, or the level an output drives. -/
def Tile.pointLevel (x : Tile) (n : Nat) : Bool := if (x.chan n).isOut then x.drives n else (x.chan n).inp

/-- Points bound to the tile's channels take their values (R385): those that wait do so once their channel has been
sampled. -/
def State.deliverTile (s : State) (t : Nat) : State :=
  (s.tilePoints t false).foldl (fun s n =>
    if s.pointWaiting.contains (n, false) then s
    else s.deliverIn n (BitVec.ofNat 32 (b2n ((s.tile t).pointLevel (s.get (Reg.PT_TARGET n) % 32)))) Qual.GOOD) s

/-- The input levels of a tile. -/
def Tile.inWord (x : Tile) : Nat := (List.range 32).foldl (fun a n => a + b2n ((x.chan n).isIn && (x.chan n).inp) * 2 ^ n) 0

/-- Everything an accepted uplink frame carries reaches the registers. -/
def State.takeUplink (s : State) (t : Nat) : State :=
  let x := s.tile t
  let run := min 16 (x.upRun + 1)
  let s := s.modTile t (fun x => { x with upRun := run })
  let s := if run = 16 then s.setLinkUp t true else s
  -- a tile that reports safe state needs GO_SAFE no longer, and a write counts from here on (R186, R533)
  let s := if x.safe then s.modTile t (fun x => { x with unreported := false, goSafe := x.goSafe && !x.goSent }) else s
  let s := s.showSafe t
  let s := if s.get (Reg.TILE_IN t) = x.inWord then s else (s.set (Reg.TILE_IN t) x.inWord).irq (Page.TILE t) Irq.TILE_IN_CHANGE
  let s := foldN 32 (State.showChan t) s
  let s := foldN 32 (State.showCount t) s
  let s := foldN 4 (State.showTimer t) s
  let bitsOf := fun (g : Nat → Bool) => (List.range 32).foldl (fun a n => a + b2n (g n) * 2 ^ n) 0
  let s := (s.set (Reg.TILE_OUT_RB t) (bitsOf x.terminal)).set (Reg.TILE_FAULT_SUM t) (bitsOf (fun n => x.faultBits n != 0))
  let s := ((s.set (Reg.TILE_FS_MV t) x.fsMv).setS (Reg.TILE_TEMP t) x.temp).set (Reg.TILE_CUR_MA t) x.sum
  let s := s.set Reg.FIO_CUR_TOTAL ((List.range 8).foldl (fun a k => a + s.get (Reg.TILE_CUR_MA k)) 0)
  let s := ((s.setFlag (Reg.TILE_FS_FAIL t) x.fsFail).setFlag (Reg.TILE_FS_REV t) x.fsRev).setFlag (Reg.TILE_TBL_BAD t) (x.table.isNone)
  let s := s.set (Reg.TILE_TBL_VER t) (x.table.elim 0 (·.1))
  let s := s.pulsesBack t
  let s := ((s.bumpBy (Reg.TILE_BARRIER_CNT t) x.nBarrier).bumpBy (Reg.TILE_SHED_CNT t) x.nShed).bumpBy (Reg.TILE_TEST_ABORT t) x.nAbort
  let s := if 0 < x.nShed then s.irq (Page.TILE t) Irq.TILE_SHED else s
  let s := if 0 < x.nAbort + x.nFailed then s.irq (Page.TILE t) Irq.TILE_TEST else s
  let s := (x.edges.take 32).foldl (fun (s : State) (e : Nat × Bool × Nat) => s.report ⟨e.2.2, .tile (Fin.ofNat 8 t)⟩) s
  -- edges of door-zone inputs (R286)
  let s := (x.edges.take 32).foldl (fun (s : State) (e : Nat × Bool × Nat) =>
    foldN 8 (fun n s => if s.get (Reg.CAR_DZ_CH n) = 32 * t + e.1 then
      let c := KV.getD s.cars n Car.initial
      { s with cars := KV.put s.cars n { c with dzEdge := c.dzEdge ++ [(e.2.1, e.2.2)] } } else s) s) s
  let s := s.modTile t (fun x => { x with nBarrier := 0, nShed := 0, nAbort := 0, nFailed := 0, edges := x.edges.drop 32 })
  if s.flag (Reg.TILE_LINK_UP t) then s.deliverTile t else s

/-- The levels of safety inputs that a lane's controller reports reach Stirrup's core on that lane (R190, R331). -/
def State.takeSafetyIn (s : State) (t : Nat) (l : Lan) : State :=
  if t < 6 then s
  else
    let x := s.tile t
    let lev := fun (n : Nat) => (x.chan n).safety && (match l with | .A => (x.chan n).inp | .B => (KV.getD x.chB n Chan.initial).inp)
    let w := BitVec.ofNat 32 ((List.range 32).foldl (fun a n => a + b2n (lev n) * 2 ^ n) 0)
    s.setWord ((match l with | .A => Reg.SAF_IN_A.addr | .B => Reg.SAF_IN_B.addr) + 4 * (t - 6)) w

/-- LANE_A_UP and LANE_B_UP follow the controllers of a safety tile (R190). -/
def State.showLane (s : State) (t : Nat) (l : Lan) : State :=
  if t < 6 then s else s.setFlag (match l with | .A => Reg.TILE_LANE_A_UP t | .B => Reg.TILE_LANE_B_UP t) ((s.tile t).lane l).up

/-- What an uplink frame carries (R180), but for KIND, FLAGS and replies, which are not stated (log entry 3): SEQ, ACK, tile status,
the TAI of the sample, input levels, edges with their offsets, count increments and latest edges, channel status, FS_t, current,
temperature, step timers. -/
def Tile.upBody (x : Tile) (l : Lan) (seq : Nat) : List Nat :=
  let es := x.edges.take 32
  [seq, (x.lane l).dnRx.getD 0, 2 * x.cause + b2n x.safe, x.sampleTs, x.inWord, es.length]
    ++ es.flatMap (fun e => [e.1, b2n e.2.1, ((x.sampleTs : Int) - (e.2.2 : Int)).toNat])
    ++ (List.range 32).flatMap (fun n => [(x.chan n).cntInc, (x.chan n).edge])
    ++ (List.range 32).map (fun n => 2 ^ 7 * x.faultBits n + b2n (x.terminal n))
    ++ [x.fsMv, x.sum, (BitVec.ofInt 16 x.temp).toNat]
    ++ (List.range 4).flatMap (fun k => [(x.timer k).fifo.length, (x.timer k).posInc.natAbs])

/-- An uplink frame is sent on a lane, and arrives or not (R181). An accepted one acknowledges the tile's last downlink SEQ. While the SYS domain is held it reaches Stirrup
alone (R67). -/
def uplinkFrame (t : Nat) (l : Lan) (rx : FrameRx) (s : State) : State :=
  if !s.laneUp t l || (s.sysHeld && decide (t < 6)) then s
  else
    let ln := (s.tile t).lane l
    let seq := if rx = .repeated then (ln.upTx + 65535) % 65536 else ln.upTx
    let s := s.modTile t (fun x => x.setLane l { ln with upTx := if rx = .repeated then ln.upTx else (ln.upTx + 1) % 65536 })
    let s := s.send .weltUplink t (match l with | .A => 0 | .B => 1) ((s.tile t).upBody l seq)
    match rx with
    | .lost => (s.modTile t (fun x => { x with upRun := 0 }))
    | .damaged => ((s.bump (Reg.TILE_LINK_BAD t)).modTile t (fun x => { x with upRun := 0 }))
    | .good | .repeated =>
      match seqGap ln.upRx seq with
      | none => ((s.bump (Reg.TILE_LINK_BAD t)).modTile t (fun x => { x with upRun := 0 }))
      | some gap =>
        let s := s.bumpBy (Reg.TILE_LINK_GAP t) gap
        let s := s.modTile t (fun x => { (x.setLane l { x.lane l with upRx := some seq, acked := (x.lane l).dnRx }) with upRun := if gap = 0 then x.upRun else 0 })
        (if s.sysHeld then s else (s.showLane t l).takeUplink t).takeSafetyIn t l

/-! ## Barrier, GO_SAFE and power-up -/

/-- The barrier timeout in force for the present silence, by the settings that the tile holds (R184, R188). -/
def State.barrierUs (s : State) (t : Nat) : Nat :=
  let x := s.tile t
  if x.holdExt then max x.barrier x.holdUs else x.barrier

/-- BARRIER_EXPIRY: a silence of `us` microseconds on the downlink (R184); a tile in safe state counts nothing. -/
def execBarrierExpiry (t : Fin 8) (us : Nat) (s : State) : Out State :=
  .next (if s.barrierUs t ≤ us then
    s.modTile t (fun x =>
      let x := { x with holdExt := false }
      if x.safe || !x.first then x.emptyTimers
      else { (x.enterSafe 1 true) with nBarrier := x.nBarrier + 1 })
  else s)

/-- FIELD_SIDE_POWER_UP: the field side starts with every channel OFF and the newest table copy whose CRC holds
(R185, R189). -/
def execFieldSidePowerUp (t : Fin 8) (crcA crcB : Bool) (s : State) : Out State :=
  let old := s.tile t
  let x := { Tile.initial with
    copyA := { old.copyA with ok := crcA && (old.copyA.ok || old.commit == some true) }
    copyB := { old.copyB with ok := crcB && (old.copyB.ok || old.commit == some false) }
    trainedA := old.trainedA, trainedB := old.trainedB, laneA := ⟨old.laneA.dnTx, none, 1, old.laneA.upRx, false, old.laneA.acked⟩
    laneB := ⟨old.laneB.dnTx, none, 1, old.laneB.upRx, false, old.laneB.acked⟩, qual := false, unreported := true, goSafe := old.goSafe, goSent := old.goSent
    timedOut := old.timedOut, stepOut := old.stepOut, pulseOut := old.pulseOut, commitOut := old.commitOut, cfgSend := List.range 32, ctlSend := true, safA := old.safA
    safB := old.safB, peerOut := old.peerOut }
  .next (s.setTile t { x with table := x.newest.map (fun c => (c.ver, c.actions)) })

def execGoSafeAll (s : State) : Out State := .next s.orderGoSafeAll

def execTileGoSafe (t : Fin 8) (s : State) : Out State := .next (s.orderGoSafe t)

/-- APP_RESET_GO_SAFE: BARRIER_US after the assertion of an APP reset (R187). -/
def execAppResetGoSafe (t : Fin 8) (s : State) : Out State :=
  .next (if s.appGoSafe.contains t.val then
    { (s.orderGoSafe t) with appGoSafe := s.appGoSafe.filter (· != t.val) }
  else s)

/-! ## The safe-state table (R189) -/

def execSafeTableCommit (t : Fin 8) (s : State) : Out State := .next (safeTableCommit t s)

/-- TABLE_COMMIT_DONE: the copy reads back and takes force, or the previous one stays. -/
def execTableCommitDone (t : Fin 8) (ok : Bool) (s : State) : Out State :=
  match (s.tile t).commit with
  | none => .next s
  | some isA =>
    let s := s.modTile t (fun x =>
      let x := { x with commit := none }
      if !ok then x
      else if isA then { x with copyA := { x.copyA with ok := true } }.force { x.copyA with ok := true }
      else { x with copyB := { x.copyB with ok := true } }.force { x.copyB with ok := true })
    let s := if ok then s.set (Reg.TILE_TBL_VER t) ((s.tile t).table.elim 0 (·.1)) else s.err (Page.TILE t) Err.TILE_TBL_FAIL
    .next (s.irq (Page.TILE t) Irq.TILE_TBL_DONE)

/-! ## Safety tiles (R190 to R193) -/

/-- LANE_SILENCE: a controller without a valid frame for 125 µs opens its switches. -/
def execLaneSilence (t : Fin 8) (l : Lan) (s : State) : Out State :=
  .next (if t.val < 6 then s else
    let s := s.modTile t (fun x => let x := foldN 32 (fun n x => x.commandSafety l n false) x; x.setLane l { x.lane l with up := false })
    s.setFlag (match l with | .A => Reg.TILE_LANE_A_UP t | .B => Reg.TILE_LANE_B_UP t) false)

/-- TEST_PULSE_START: a dark test of an energised DOUT with TEST set opens one switch; one at a time (R192). -/
def execTestPulseStart (t : Fin 8) (n : Fin 32) (s : State) : Out State :=
  .next (s.modTile t (fun x =>
    let c := x.chan n
    if 6 ≤ t.val ∧ c.mode = ChMode.DOUT ∧ c.tested = true ∧ x.test = none ∧ x.drives n = true then
      { (x.modChan n (fun c => { c with resched := false })) with test := some (n.val, c.safety && c.testB) }
    else x))

/-- TEST_PULSE_END: the readback at the end of TP_W judges the test. A failed test drives the output to OFF. -/
def execTestPulseEnd (t : Fin 8) (below5V : Bool) (s : State) : Out State :=
  .next (s.modTile t (fun x =>
    match x.test with
    | none => x
    | some (n, _) =>
      let x := { x with test := none }
      if below5V then x.modChan n (fun c => { c with testB := c.safety && !c.testB })
      else
        let y := (x.modChan n (fun c => { c with testB := c.safety && !c.testB, tstFail := true, out := false })).noteOff x n
        { y with nFailed := x.nFailed + 1 }))

/-- TEST_DUE: no test of the channel has passed within 2 × TP_PER (R192). -/
def execTestDue (t : Fin 8) (n : Fin 32) (s : State) : Out State :=
  .next (s.modTile t (fun x =>
    if 6 ≤ t.val ∧ (x.chan n).mode = ChMode.DOUT ∧ (x.chan n).tested = true then x.modChan n (fun c => { c with tstDue := true }) else x))

/-! ## Time -/

/-- 8 ns pass on the field side of every tile. -/
def State.passTiles (s : State) : State := { s with tiles := s.tiles.mapV (fun _ x => x.pass) }

/-- What an empty queue lets happen: 8 ns pass. The calendar and the tiles' timers count always, and the time base once the SYS
domain has left reset (log entry 10). -/
def State.idle (s : State) : State := if s.sysHeld then s.oscillate.passTiles else s.oscillate.passTiles.timeTick

/-! ## Write-one-to-clear of CH_STAT and STEP_STAT (R175, R176, R179, R192) -/

/-- A W1C of CH_STAT[n] reaches the tile: flags that clear so are cleared, and a cleared SHORT (RETRY 0) or CUR_SHED
(AUTO_RESTORE clear) restores the commanded state. `m` holds bits 15 to 7. -/
def clearChStat (t n m : Nat) (s : State) : State :=
  s.modTile t (fun x =>
    let c := x.chan n
    let unshed := c.shed && bitOf m 3 && !x.autoRestore
    let x := if unshed then x.unshed n else x
    x.modChan n (fun c' => { c' with
      short := c.short && !(bitOf m 7 && !c.retry)
      openLd := c.openLd && !bitOf m 6
      shed := c.shed && !unshed
      tstFail := c.tstFail && !bitOf m 1
      tstDue := c.tstDue && !bitOf m 0 }))

/-- A W1C of STEP_STAT.UNDERRUN lets the timer take entries again. -/
def clearUnderrun (t k : Nat) (s : State) : State :=
  s.modTile t (fun x => x.modTimer k (fun m => { m with underrun := false }))

end Sys2Proof.Machine
end

