-- ==== Sys2Proof/Machine/Stirrup.lean ====
section
/-! DEFINITION. Stirrup: safety inputs and outputs, permission to move, trips, restart, the parameter set and Saddle
stitch (R327 to R354, R529). -/

namespace Sys2Proof.Machine

/-! Codes of SAF_STAT.STATE (R330). -/
namespace SafState
abbrev SELFTEST : Nat := 0
abbrev START : Nat := 1
abbrev RUN : Nat := 2
abbrev LOCKED : Nat := 3
abbrev HALT : Nat := 4
end SafState

/-! Trip codes (R339). -/
namespace TripCode
abbrev CHAIN : Nat := 1
abbrev STOP_SW : Nat := 2
abbrev DISC : Nat := 3
abbrev BYPASS : Nat := 4
abbrev UCM : Nat := 5
abbrev BRAKE : Nat := 6
abbrev POS : Nat := 7
abbrev SPEED : Nat := 8
abbrev OUT_TEST : Nat := 9
abbrev CONN : Nat := 10
abbrev CROSS : Nat := 11
end TripCode

/-- Trips that latch. -/
def tripLatches (c : Nat) : Bool := c == 3 || c == 4 || c == 5 || c == 6 || c == 9 || c == 10 || c == 11

/-! Input functions (R331) and output functions (R332). -/
namespace SinFunc
abbrev CD : Nat := 1
abbrev LD : Nat := 2
abbrev LOCK : Nat := 3
abbrev DZ : Nat := 4
abbrev INSP : Nat := 5
abbrev INSP_UP : Nat := 6
abbrev INSP_DOWN : Nat := 7
abbrev INSP_COM : Nat := 8
abbrev STOP : Nat := 9
abbrev BRAKE_FB : Nat := 10
abbrev BYPASS : Nat := 11
abbrev GENERIC : Nat := 12
end SinFunc

/-! ## The parameter set in force (R352) -/

/-- The address of a word of the set. -/
def inParams (a : Nat) : Bool := decide (0x1A400 ≤ a) && decide (a < 0x1A800)

/-- A word of the set in force. -/
def State.safWord (s : State) (a : Nat) : Word := (KV.get? s.saf.force a).getD (resetWord a)

/-- A field of the set in force. -/
def State.par (s : State) (f : Fld) : Nat := getBits (s.safWord f.addr) f.hi f.lo

def State.parFlag (s : State) (f : Fld) : Bool := s.par f == 1

/-- Keys of the copies of ENC_SCALE, ENC_OFS and DIR_INV of a car (R338, R352). -/
def encKey (n k : Nat) : Nat := 0x100000 + 4 * (3 * n + k)

/-- A copy of an encoder setting in force. -/
def State.encCopy (s : State) (n k : Nat) : Word :=
  (KV.get? s.saf.force (encKey n k)).getD (if k = 0 then 0x00010000 else 0)

/-- The encoder settings of the car pages, as PARAM_COMMIT copies them. -/
def State.encNow (s : State) : List (Nat × Word) :=
  (List.range 8).flatMap (fun n => [(encKey n 0, s.word (Reg.CAR_ENC_SCALE n).addr), (encKey n 1, s.word (Reg.CAR_ENC_OFS n).addr),
    (encKey n 2, BitVec.ofNat 32 (s.get (Reg.CAR_DIR_INV n)))])

/-- The CRC of the staged area and of the copies (R352, R532). -/
def State.stagedCrc (s : State) : Nat :=
  crc32c ((List.range 256).map (fun k => s.word (0x1A400 + 4 * k)) ++ (s.encNow).map (·.2))

/-! ## Inputs (R331) -/

def State.safCar (s : State) (n : Nat) : SafCar := KV.getD s.saf.cars n SafCar.initial
def State.modSafCar (s : State) (n : Nat) (g : SafCar → SafCar) : State :=
  { s with saf := { s.saf with cars := KV.put s.saf.cars n (g (s.safCar n)) } }

/-- The value that Stirrup uses for CH_(192 + i): the AND of the two cores' views, and, of a two-channel input, of both
channels. -/
def State.safIn (s : State) (i : Nat) : Bool :=
  let one := fun (k : Nat) => bitOf (s.getW Reg.SAF_IN_A) k && bitOf (s.getW Reg.SAF_IN_B) k
  let pair := if i % 2 = 0 then s.parFlag (Reg.SAF_SIN_PAIR i) else s.parFlag (Reg.SAF_SIN_PAIR (i - 1))
  if pair then one (i - i % 2) && one (i - i % 2 + 1) else one i

/-- Inputs of a car with a function. -/
def State.sinsOf (s : State) (n f : Nat) : List Nat :=
  (List.range 64).filter (fun i => s.par (Reg.SAF_SIN_FUNC i) == f && s.par (Reg.SAF_SIN_CAR i) == n)

/-- The level of a function of a car: the AND of its inputs. A function that no input names reads 1, an inspection button
0 (log entry 22). -/
def State.tap (s : State) (n f : Nat) : Bool :=
  let l := s.sinsOf n f
  if f = 6 ∨ f = 7 ∨ f = 8 then !l.isEmpty && l.all s.safIn else l.all s.safIn

/-- The cars that Stirrup permits (R529). -/
def State.safCars (s : State) : List Nat := (List.range 8).filter (fun n => bitOf s.saf.carMap n)

/-! ## Connections (R344) -/

def State.safConn (s : State) (c : Nat) : SafConn := KV.getD s.saf.conns c SafConn.initial
def State.modConn (s : State) (c : Nat) (g : SafConn → SafConn) : State :=
  { s with saf := { s.saf with conns := KV.put s.saf.conns c (g (s.safConn c)) } }

/-- A connection changes state. -/
def State.setConnState (s : State) (c v : Nat) : State :=
  if s.get (Reg.SAF_CONN_STATE c) = v then s else (s.set (Reg.SAF_CONN_STATE c) v).irq Page.SAF Irq.SAF_CONN

/-- A connection enters SAFE: its received bits read 0. -/
def State.connSafe (s : State) (c : Nat) : State :=
  ((s.setConnState c 2).setW (Reg.SAF_CONN_RX c) 0).modConn c (fun x => { x with run := 0 })

/-- A set in force: a connection that it enables starts in SAFE, another is OFF. -/
def State.startConns (s : State) : State :=
  foldN 16 (fun c s =>
    if s.parFlag (Reg.SAF_CONN_EN c) then (if s.get (Reg.SAF_CONN_STATE c) = 0 then s.connSafe c else s)
    else (s.setConnState c 0).setW (Reg.SAF_CONN_RX c) 0) s

/-! ## Latched trips -/

/-- Whether a latched trip holds a car: its own, or one of global scope. -/
def State.carLatched (s : State) (n : Nat) : Bool :=
  s.saf.latched.any (fun t => t.car == some n || (t.car.isNone && t.code != TripCode.CONN))

/-- Whether a trip of global scope is latched. -/
def State.globalLatched (s : State) : Bool := s.saf.latched.any (fun t => t.car.isNone && t.code != TripCode.CONN)

/-- Show LATCH and TRIP_CAR. -/
def State.showTrips (s : State) : State :=
  let s := s.set Reg.SAF_LATCH ((List.range 8).foldl (fun a n => a + b2n (s.saf.latched.any (fun t => t.car == some n)) * 2 ^ n) 0)
  foldN 8 (fun n s =>
    let bits := fun (l : List Trip) => (List.range 16).foldl (fun a c => a + b2n (l.any (fun t => t.code == c && t.car == some n)) * 2 ^ c) 0
    (s.set (Reg.SAF_TRIP_LATCHED n) (bits s.saf.latched)).set (Reg.SAF_TRIP_ACTIVE n) (bits s.saf.present)) s

/-- SAF_STAT.STATE changes. -/
def State.setSafState (s : State) (v : Nat) : State :=
  if s.get Reg.SAF_STATE = v then s else (s.set Reg.SAF_STATE v).irq Page.SAF Irq.SAF_STATE

/-- Set a trip (R339): a record, TRIP_LAST, whose sequence value is 0 until the record has taken its own (R158, R159), and, where it
latches, the latch and Stirrup's MRAM. In RUN a latched trip of global scope locks. -/
def State.setTrip (s : State) (t : Trip) : State :=
  let s := (s.record sevSafety Page.SAF t.code (t.car.getD 15) [BitVec.ofNat 32 t.src]).irq Page.SAF Irq.SAF_TRIP
  let s := (((s.set Reg.SAF_TRIP_CAR (t.car.getD 15)).set Reg.SAF_TRIP_CODE t.code).set Reg.SAF_TRIP_SRC t.src).setW Reg.SAF_TRIP_SEQ 0
  let s := if tripLatches t.code then
      { s with saf := { s.saf with
        latched := s.saf.latched.filter (fun u => u != t) ++ [t]
        lastTrip := some s.unow
        kept := if t.code = TripCode.UCM ∨ t.code = TripCode.BRAKE then s.saf.kept.filter (fun u => u != t) ++ [t] else s.saf.kept } }
    else s
  let s := if s.globalLatched && s.get Reg.SAF_STATE == SafState.RUN then s.setSafState SafState.LOCKED else s
  s.showTrips

/-- Set the trips whose conditions are now present and were not before; the present list is what the cycle judged. -/
def State.judgeTrips (s : State) (now : List Trip) : State :=
  let new := now.filter (fun t => !s.saf.present.contains t && !(tripLatches t.code && s.saf.latched.contains t))
  let s := { s with saf := { s.saf with present := now } }
  (new.foldl State.setTrip s).showTrips

/-! ## Positions (R338) -/

/-- Stirrup's own velocity in units per second, 8 fraction bits. -/
def SafCar.vel (c : SafCar) : Int :=
  match c.hist, c.hist.getLast? with
  | p :: _, some q => if c.hist.length = 9 then (p - q) * 256000 else 0
  | _, _ => 0

/-- How Stirrup reads a position input: as the car's page says, or last said while the page is reset (R327; DESIGN CHOICE, log entry
70). -/
def State.safPath (s : State) (n : Nat) : EncPath :=
  if s.appUp then s.encPath n else KV.getD s.saf.path n EncPath.initial

/-- A position sample as Stirrup decodes it: its raw value, whether it is bad by its source, and CAR.POS of the same
instant, with which nothing is compared while the lift group is reset (R351). -/
def State.safSample (s : State) (n : Nat) (raw : Int) (srcBad : Bool) : State :=
  let c := s.safCar n
  let p := divRoundEven (raw * (s.encCopy n 0).toNat) 65536
  let p := toSigned 32 (s.encCopy n 1).toNat + (if s.encCopy n 2 = 1 then -p else p)
  let last := c.hist.headD p
  let jump := !c.hist.isEmpty && decide ((s.safPath n).step < (p - last).natAbs)
  let bad := srcBad || jump
  let p := if bad then last + c.vel / 256 / 8000 else p
  let far := decide (20 < (p - s.getS (Reg.CAR_POS n)).natAbs)
  s.modSafCar n (fun c => { c with 
    hist := (p :: c.hist).take 9
    bad := if bad then c.bad + 1 else 0
    apart := if !s.appUp then c.apart else if far then c.apart + 1 else 0 })

/-! ## Permission (R333) -/

/-- Whether the car's axis has a plan in hand, by which the group sets RUN_REQ (R332). -/
def State.runReqNow (s : State) (n : Nat) : Bool :=
  s.get (Reg.AXIS_STATE n) == AxState.MOVING || s.get (Reg.AXIS_STATE n) == AxState.STOPPING || !(s.axis n).plan.isEmpty

/-- v_br of R333, Q24.8. -/
def State.bridgeSpeed (s : State) (n : Nat) : Nat :=
  if (s.safCar n).request = 1 then s.par (Reg.SAF_PRE_V n) else s.par (Reg.SAF_RELEV_V n)

/-- Whether the conditions of the bridge hold. -/
def State.bridgeHolds (s : State) (n : Nat) : Bool :=
  let c := s.safCar n
  ((c.request == 1 && s.parFlag (Reg.SAF_PRE_OK n)) || (c.request == 2 && s.parFlag (Reg.SAF_RELEV_OK n)))
    && s.tap n SinFunc.DZ && decide (c.vel.natAbs ≤ s.bridgeSpeed n) && !s.carLatched n

/-- A valid combination of inspection buttons. -/
def State.inspHeld (s : State) (n : Nat) : Bool :=
  s.tap n SinFunc.INSP_COM && (s.tap n SinFunc.INSP_UP != s.tap n SinFunc.INSP_DOWN)

/-- perm of R333, for a chain and bridge. Withheld in Tack room (R351) and, of every car, under an empty role set. -/
def State.permits (s : State) (n : Nat) (closed bridge : Bool) : Bool :=
  let st := s.get Reg.SAF_STATE
  let insp := s.tap n SinFunc.INSP
  (st == SafState.START || st == SafState.RUN) && !s.getBit Reg.SAF_SUT_PEND n && !s.carLatched n && s.tap n SinFunc.STOP
    && (closed || bridge) && (insp || s.inspHeld n) && (s.tap n SinFunc.BYPASS || !insp)
    && !s.pwr.tack && s.roles != 0

/-- Whether a trip condition that opens DRIVE_EN and BRAKE is present for the car. -/
def State.drivenOff (s : State) (n : Nat) : Bool :=
  s.saf.present.any (fun t => t.car == some n && (t.code != TripCode.POS || (s.safCar n).runReq))

/-- MOVE_PERM of a car. -/
def State.showPerm (s : State) (n : Nat) (perm : Bool) : State :=
  if s.getBit Reg.SAF_MOVE_PERM n = perm then s else (s.setBit Reg.SAF_MOVE_PERM n perm).irq Page.SAF Irq.SAF_PERM

/-- A withdrawal of motion permission (R276, R297, R333): the permission of a car that was `c` fell while RUN_REQ is set. -/
def State.withdraw (s : State) (n : Nat) (c : SafCar) (run : Bool) : State :=
  if c.perm && !(s.safCar n).perm && run then s.faultAxis n 5 else s

/-- One car in a cycle: RUN_REQ, the chain, the bridge, the capture of R336 and the permission. -/
def State.safCarCycle (s : State) (n : Nat) : State :=
  let c := s.safCar n
  let run := if s.appUp then s.runReqNow n else c.runReq
  let s := s.modSafCar n (fun c => { c with runReq := run, moved := c.moved || run })
  let rest := c.moved && !run && decide (c.vel = 0) && s.tap n SinFunc.BRAKE_FB
  let s := if rest ∧ c.request ≠ 0 then s.modSafCar n (fun c => { c with request := 0 }) else s
  let closed := s.tap n SinFunc.CD && s.tap n SinFunc.LD && s.tap n SinFunc.LOCK
  let bridge := s.bridgeHolds n
  let pos := c.hist.headD 0
  let fell := (c.closed && !closed && !bridge) || (c.bridge && !bridge && !closed)
  let cap := if closed then none else if fell then some pos else c.posOpen
  let posBad := decide (4 ≤ c.apart) || decide (2 ≤ c.bad)
  let away := match cap with
    | some p => (!posBad && decide (s.par (Reg.SAF_UCM_DIST n) < (pos - p).natAbs)) || !s.tap n SinFunc.DZ
    | none => false
  let perm := s.permits n closed bridge
  let chain := !closed && run && !bridge && (c.chain || c.closed)
  let s := s.modSafCar n (fun c => { c with
    closed := closed, bridge := bridge, posOpen := cap,
    beyond := if away then c.beyond + 1 else 0, perm := perm, chain := chain })
  let s := (s.showPerm n perm).setBit Reg.SAF_BRIDGE n bridge
  let s := (s.setBit Reg.SAF_INSP_ON n (!s.tap n SinFunc.INSP)).setBit Reg.SAF_INSP_HELD n (s.inspHeld n)
  let s := ((s.setBit Reg.SAF_CD_CLOSED n (s.tap n SinFunc.CD)).setBit Reg.SAF_LD_CLOSED n (s.tap n SinFunc.LD))
  let s := ((s.setBit Reg.SAF_LOCKED n (s.tap n SinFunc.LOCK)).setBit Reg.SAF_DZ n (s.tap n SinFunc.DZ))
  s.withdraw n c run

/-- A car that is not in CAR_MAP: nothing is computed for it, and its bits read 0 (R529). Its positions are still decoded. -/
def State.leaveCar (s : State) (n : Nat) : State :=
  let c := s.safCar n
  let s := if c.runReq || c.perm || c.bridge || c.closed || c.chain || c.posOpen.isSome || c.request != 0 then
      s.modSafCar n (fun c => { SafCar.initial with hist := c.hist, bad := c.bad, apart := c.apart, brake := c.brake, doorEn := c.doorEn })
    else s
  let s := (s.showPerm n false).setBit Reg.SAF_BRIDGE n false
  let s := [Reg.SAF_INSP_ON, Reg.SAF_INSP_HELD, Reg.SAF_CD_CLOSED, Reg.SAF_LD_CLOSED, Reg.SAF_LOCKED, Reg.SAF_DZ].foldl
    (fun (s : State) f => s.setBit f n false) s
  s.withdraw n c c.runReq

/-- The trip conditions of a car that the cycle judges itself. -/
def State.carTrips (s : State) (n : Nat) (was : SafCar) : List Trip :=
  let c := s.safCar n
  let t := fun (b : Bool) (code : Nat) => if b then [Trip.mk code (some n) 0xFF] else []
  let fast := (was.bridge && decide (s.bridgeSpeed n < c.vel.natAbs)) || (!s.tap n SinFunc.INSP && decide (3379200 < c.vel.natAbs))
  t c.chain TripCode.CHAIN ++ t (!s.tap n SinFunc.STOP) TripCode.STOP_SW ++ t (decide (2 ≤ c.beyond)) TripCode.UCM
    ++ t (decide (4 ≤ c.apart) || decide (2 ≤ c.bad)) TripCode.POS ++ t fast TripCode.SPEED

/-- The car that a channel's SIN or SOUT names, where it is in CAR_MAP (R339). -/
def State.chanCar (s : State) (k : Nat) : Option Nat :=
  let n := if s.par (Reg.SAF_SIN_FUNC k) ≠ 0 then s.par (Reg.SAF_SIN_CAR k) else s.par (Reg.SAF_SOUT_CAR k)
  let generic := s.par (Reg.SAF_SIN_FUNC k) == SinFunc.GENERIC || (s.par (Reg.SAF_SIN_FUNC k) == 0 && s.par (Reg.SAF_SOUT_FUNC k) == 6)
  if bitOf s.saf.carMap n && !generic then some n else none

/-- A discrepancy of an input between the cores' views or the channels of a pair (R331). -/
def State.viewsDiffer (s : State) (i : Nat) : Bool :=
  let a := s.getW Reg.SAF_IN_A
  let b := s.getW Reg.SAF_IN_B
  let k := i - i % 2
  bitOf a i != bitOf b i || (s.parFlag (Reg.SAF_SIN_PAIR k) && bitOf a k != bitOf a (k + 1))

/-- A recognised bypass (R335). -/
def State.bypassCase (s : State) (n : Nat) : Bool :=
  let stop := s.tap n SinFunc.STOP
  let cd := s.tap n SinFunc.CD
  let ld := s.tap n SinFunc.LD
  let lock := s.tap n SinFunc.LOCK
  let act := s.getWS (Reg.AXIS_ACT_POS (8 + n)) / 65536
  let byp : Int := s.par (Reg.SAF_BYP_POS n)
  s.tap n SinFunc.BYPASS && ((cd && !stop) || (ld && !(stop && cd)) || (lock && !(stop && cd && ld)) || (cd && decide (byp < act))
    || ((ld || lock) && s.tap n SinFunc.DZ && decide ((s.get (Reg.CAR_COUPLE_POS n) : Int) + byp < act)))

/-- BRAKE_FB has not followed BRAKE: it reads 1, applied, with BRAKE energised, or 0 with BRAKE de-energised (R337). -/
def State.brakeLags (s : State) (n : Nat) : Bool :=
  bitOf s.saf.carMap n && s.tap n SinFunc.BRAKE_FB == (s.safCar n).brake

/-- Outputs whose tile reports TEST_FAIL. -/
def State.testFailed (s : State) (j : Nat) : Bool := ((s.tile (6 + j / 32)).chan (j % 32)).tstFail

/-! ## Outputs (R332) -/

/-- What a safety output is commanded to by its function. -/
def State.safOutput (s : State) (j : Nat) : Bool :=
  let st := s.get Reg.SAF_STATE
  let n := s.par (Reg.SAF_SOUT_CAR j)
  let c := s.safCar n
  let known := bitOf s.saf.carMap n
  let whole := s.saf.latched.any (fun t => (t.code == TripCode.DISC || t.code == TripCode.OUT_TEST) && t.car == some n)
  let global := s.globalLatched
  if s.roles = 0 ∨ s.flag Reg.SAF_PARAM_BAD = true ∨ s.pwr.atH5 = true ∨ (st ≠ SafState.START ∧ st ≠ SafState.RUN) then false
  else match s.par (Reg.SAF_SOUT_FUNC j) with
    | 1 | 2 => known && c.perm && c.runReq && !s.drivenOff n && !whole && !global
    | 3 => known && c.bridge && !whole && !global
    | 4 => known && !whole && !global && !(s.saf.latched.any (fun t => t.code == TripCode.UCM && t.car == some n))
    | 5 => known && !whole && !global && s.tap n SinFunc.DZ && decide (c.vel.natAbs ≤ s.par (Reg.SAF_PRE_V n))
    | 6 =>
      let k := s.par (Reg.SAF_SOUT_SRC_CONN j)
      !global && s.get (Reg.SAF_CONN_STATE k) == 1 && bitOf (s.getW (Reg.SAF_CONN_RX k)) (s.par (Reg.SAF_SOUT_SRC_BIT j))
        && !(s.saf.latched.any (fun t => t.code == TripCode.CONN && t.src == k))
    | _ => false

/-- Whether an output waits for its pre-energise test (R341). -/
def State.awaitsTest (s : State) (j : Nat) : Bool :=
  ((s.tile (6 + j / 32)).chan (j % 32)).tstDue && !s.saf.tested.contains j && !bitOf (s.getW Reg.SAF_OUT) j

/-- Whether an output vector energises an output of a function of a car. -/
def State.energises (s : State) (v f n : Nat) : Bool :=
  (List.range 64).any (fun j => bitOf v j && s.par (Reg.SAF_SOUT_FUNC j) == f && s.par (Reg.SAF_SOUT_CAR j) == n)

/-- What an output vector means for a car: BRAKE and DOOR_EN as they are energised. A DOOR_EN that opens while the door moves is the
withdrawal of motion permission for the door (R276; DEDUCED, log entry 70). -/
def State.takeOutputs (v n : Nat) (s : State) : State :=
  let brake := s.energises v 2 n
  let door := s.energises v 5 n
  let was := s.safCar n
  let s := if was.brake = brake ∧ was.doorEn = door then s else s.modSafCar n (fun c => { c with brake := brake, doorEn := door })
  if was.doorEn && !door && s.canStop (8 + n) then s.faultAxis (8 + n) 5 else s

/-- Both cores command their switches by an output vector (R328). -/
def State.setOutputs (s : State) (v : Nat) : State :=
  let s := s.setW Reg.SAF_OUT v
  let s := s.modTile 6 (fun x => { x with safA := v % 2 ^ 32, safB := v % 2 ^ 32 })
  let s := s.modTile 7 (fun x => { x with safA := v / 2 ^ 32, safB := v / 2 ^ 32 })
  foldN 8 (State.takeOutputs v) s

/-- Each core commands its switch of every output (R328). -/
def State.driveOutputs (s : State) : State :=
  s.setOutputs ((List.range 64).foldl (fun a j => a + b2n (s.safOutput j && !s.awaitsTest j) * 2 ^ j) 0)

/-- All switches open. -/
def State.openAll (s : State) : State := s.setOutputs 0

/-! ## Start-up test (R350) -/

/-- Inputs of the start-up test of a car. -/
def State.sutInputs (s : State) (n : Nat) : List Nat :=
  (List.range 64).filter (fun i => s.parFlag (Reg.SAF_SIN_SUT i) && s.par (Reg.SAF_SIN_FUNC i) != 0 && s.par (Reg.SAF_SIN_CAR i) == n)

/-- SUT_PEND at a start of Stirrup. -/
def State.beginSut (s : State) : State :=
  let m := (List.range 8).foldl (fun a n => a + b2n (!(s.sutInputs n).isEmpty) * 2 ^ n) 0
  { (s.set Reg.SAF_SUT_PEND m) with saf := { s.saf with sutLow := [], sutDone := [] } }

/-- Each start-up input seen at 0, and then at 1 again; a car all of whose inputs are met is released. -/
def State.judgeSut (s : State) : State :=
  if s.get Reg.SAF_SUT_PEND = 0 then s
  else
    let ins := (List.range 64).filter (fun i => s.parFlag (Reg.SAF_SIN_SUT i) && s.par (Reg.SAF_SIN_FUNC i) != 0)
    let low := ins.filter (fun i => !s.safIn i)
    let done := ins.filter (fun i => s.safIn i && s.saf.sutLow.contains i)
    let s := { s with saf := { s.saf with
      sutLow := s.saf.sutLow ++ low.filter (fun i => !s.saf.sutLow.contains i)
      sutDone := s.saf.sutDone ++ done.filter (fun i => !s.saf.sutDone.contains i) } }
    foldN 8 (fun n s =>
      if s.getBit Reg.SAF_SUT_PEND n && (s.sutInputs n).all (fun i => s.saf.sutDone.contains i) then
        (s.setBit Reg.SAF_SUT_PEND n false).irq Page.SAF Irq.SAF_SUT_DONE
      else s) s

/-! ## The cycle (R328) -/

/-- Stirrup resets its own block at reach BLOCK and starts its self-test again (R329); the third self-reset within 10 min halts it.
The registers of a wider reach stay but for the permissions, which fall; latched trips stay, as R349 has it. -/
def State.selfReset (s : State) : State :=
  let recent := s.saf.resets.filter (fun t => decide (s.unow < t + 600000000000)) ++ [s.unow]
  let s := (foldN 8 (fun n s => s.leaveCar n) s.openAll).resetBlock Page.SAF
  let s := { s with saf := { s.saf with
    resets := recent, cross := 0, selfRst := true, cars := [], conns := [], present := [], disc := [], bypass := [], unbraked := [], tested := [] } }
  let s := foldN 16 (fun c s => if s.parFlag (Reg.SAF_CONN_EN c) && s.get (Reg.SAF_CONN_STATE c) != 3 then s.connSafe c else s) s
  let s := (s.set Reg.SAF_STATE (if 3 ≤ recent.length then SafState.HALT else SafState.SELFTEST)).irq Page.SAF Irq.SAF_STATE
  s.showTrips

/-- CROSS is set, and Stirrup resets itself. -/
def State.coreFault (s : State) : State :=
  if s.get Reg.SAF_STATE = SafState.HALT then s else (s.setTrip ⟨TripCode.CROSS, none, 0xFF⟩).selfReset

/-- A pulse of SAFETY_RESET as the cores have read it back (R346): the contact counts as closed once the last two were in phase in
both cores, and as open at every other reading. -/
def State.readContact (s : State) (pulse : Option (Bool × Bool)) : State :=
  match pulse with
  | none => s
  | some (a, b) =>
    let n := if a && b then min 2 (s.saf.rtn + 1) else 0
    let s := s.setFlag Reg.SAF_RESET_IN (n == 2)
    { s with saf := { s.saf with rtn := n, pressed := s.saf.pressed || (n == 2 && s.saf.rtn != 2) } }

/-- Outputs that report TEST_DUE anew: a record at severity warning each (R341). -/
def State.recordDue (s : State) : State :=
  let due := (List.range 64).filter (fun j => s.par (Reg.SAF_SOUT_FUNC j) != 0 && ((s.tile (6 + j / 32)).chan (j % 32)).tstDue)
  let new := due.filter (fun j => !s.saf.dueSaid.contains j)
  let s := new.foldl (fun (s : State) j => s.record sevWarning Page.SAF 23 j []) s
  { s with saf := { s.saf with dueSaid := due } }

/-- SAFETY_CYCLE: one cycle of both cores; it took `ns` nanoseconds; `c` says whether the output vectors differed or a core
missed the end of the cycle, and what the cores read of a pulse of SAFETY_RESET that ended. -/
def safetyCycle (ns : Nat) (c : CycleReads) (s : State) : State :=
  let differ := c.differ
  let st := s.get Reg.SAF_STATE
  let s := (s.raiseTo Reg.SAF_CYCLE_MAX ns).readContact c.pulse
  if st = SafState.HALT ∨ st = SafState.SELFTEST then s.openAll
  else
    let s := { s with saf := { s.saf with
      carMap := if s.appUp then (if bitOf s.roles 1 then s.get Reg.LFT_CAR_MAP else 0) else s.saf.carMap
      cross := if differ then s.saf.cross + 1 else 0 } }
    let s := (s.setFlag Reg.SAF_CORE_A_OK (!differ)).setFlag Reg.SAF_CORE_B_OK (!differ)
    if 2 ≤ s.saf.cross then s.coreFault
    else
      let s := ((List.range 8).filter (fun n => !bitOf s.saf.carMap n)).foldl State.leaveCar s.judgeSut.recordDue
      let was : State := s
      let s : State := s.safCars.foldl State.safCarCycle s
      -- conditions that stand until they are gone
      let disc := s.saf.disc.filter (fun i => s.viewsDiffer i)
      let byp := s.saf.bypass.filter (fun n => s.bypassCase n)
      let brk := s.saf.unbraked.filter (fun n => s.brakeLags n)
      let s := { s with saf := { s.saf with disc := disc, bypass := byp, unbraked := brk, tested := s.saf.tested.filter (fun j => ((s.tile (6 + j / 32)).chan (j % 32)).tstDue) } }
      let now := (s.safCars.flatMap (fun n => s.carTrips n (was.safCar n)))
        ++ disc.map (fun i => Trip.mk TripCode.DISC (s.chanCar i) i)
        ++ byp.map (fun n => Trip.mk TripCode.BYPASS (some n) 0xFF)
        ++ brk.map (fun n => Trip.mk TripCode.BRAKE (some n) 0xFF)
        ++ ((List.range 64).filter (fun j => s.par (Reg.SAF_SOUT_FUNC j) != 0 && s.testFailed j)).map (fun j => Trip.mk TripCode.OUT_TEST (s.chanCar j) j)
      let s : State := (s.judgeTrips now).driveOutputs
      -- in Tack room Stirrup stays in START (R351)
      if s.pwr.tack then (if s.get Reg.SAF_STATE = SafState.RUN then s.setSafState SafState.START else s)
      else if s.get Reg.SAF_STATE = SafState.START ∧ s.get Reg.SAF_SUT_PEND = 0 ∧ s.saf.latched.isEmpty = true then s.setSafState SafState.RUN else s

def execSafetyCycle (ns : Nat) (c : CycleReads) (s : State) : Out State := .next (safetyCycle ns c s)

/-- DISCREPANCY_TRIP: the views of an input, or of its pair, have differed for DISC_MS. -/
def execDiscrepancyTrip (i : Fin 64) (s : State) : Out State :=
  .next (if s.par (Reg.SAF_SIN_FUNC i) != 0 && s.viewsDiffer i && !s.saf.disc.contains i.val then
    let s := { s with saf := { s.saf with disc := s.saf.disc ++ [i.val] } }
    s.judgeTrips (s.saf.present ++ [⟨TripCode.DISC, s.chanCar i, i⟩])
  else s)

/-- BYPASS_TRIP: a case of R335 has stood for 500 ms. -/
def execBypassTrip (n : Fin 8) (s : State) : Out State :=
  .next (if bitOf s.saf.carMap n && s.bypassCase n && !s.saf.bypass.contains n.val then
    let s := { s with saf := { s.saf with bypass := s.saf.bypass ++ [n.val] } }
    s.judgeTrips (s.saf.present ++ [⟨TripCode.BYPASS, some n.val, 0xFF⟩])
  else s)

/-- BRAKE_TRIP: BRAKE_FB has not followed BRAKE within BRK_MS (R337). The condition stands until it has. -/
def execBrakeTrip (n : Fin 8) (s : State) : Out State :=
  let t : Trip := ⟨TripCode.BRAKE, some n.val, 0xFF⟩
  .next (if s.brakeLags n then
    ({ s with saf := { s.saf with
      unbraked := s.saf.unbraked.filter (fun m => m != n.val) ++ [n.val]
      present := s.saf.present.filter (fun u => u != t) ++ [t] } }).setTrip t
  else s)

def execCoreFault (s : State) : Out State := .next s.coreFault

/-- PRE_ENERGISE_TEST (R341): an output with TEST_DUE that its function would energise. A pass clears TEST_DUE, a fail
sets TEST_FAIL. -/
def execPreEnergiseTest (j : Fin 64) (pass : Bool) (s : State) : Out State :=
  .next (if s.safOutput j && s.awaitsTest j then
    if pass then
      let s := s.modTile (6 + j / 32) (fun x => x.modChan (j % 32) (fun c => { c with tstDue := false }))
      { s with saf := { s.saf with tested := s.saf.tested ++ [j.val] } }
    else
      let s := s.modTile (6 + j / 32) (fun x => x.modChan (j % 32) (fun c => { c with tstFail := true }))
      s.judgeTrips (s.saf.present ++ [⟨TripCode.OUT_TEST, s.chanCar j, j⟩])
  else s)

/-- PARAM_CRC: the CRC-32C of the set in force with its copies of the encoder settings (R338, R352). -/
def State.showParamCrc (s : State) : State :=
  let words := (List.range 256).map (fun k => s.safWord (0x1A400 + 4 * k))
  let encs := (List.range 24).map (fun k => s.encCopy (k / 3) (k % 3))
  s.set Reg.SAF_PARAM_CRC (crc32c (words ++ encs))

/-- The stored set that a start puts in force: the first copy that was written and reads back whole. -/
def State.storedSet (s : State) (okA okB : Bool) : Option (KV Word) :=
  (if okA then s.saf.storedA else none).or (if okB then s.saf.storedB else none)

/-- The self-test ends (R330): HALT where it fails, LOCKED after a self-reset, else START; a start puts the stored set in force, or
sets PARAM_BAD where neither copy holds, and brings the start-up tests and the trips kept in MRAM (R339, R350, R352). -/
def safSelfTest (t : SelfTest) (s : State) : State :=
  if s.get Reg.SAF_STATE ≠ SafState.SELFTEST then s
  else if !t.pass then (s.openAll).setSafState SafState.HALT
  else
    let set' := s.storedSet t.copyA t.copyB
    let s := { s with saf := { s.saf with
      force := set'.getD []
      latched := s.saf.latched ++ s.saf.kept.filter (fun t => !s.saf.latched.contains t) } }
    let s := if set'.isSome then s.showParamCrc else s
    let s := ((s.setFlag Reg.SAF_PARAM_BAD set'.isNone).beginSut).startConns
    let s := s.setSafState (if s.saf.selfRst then SafState.LOCKED else SafState.START)
    ({ s with saf := { s.saf with selfRst := false } }).showTrips

/-! ## Restart (R346 to R348) -/

/-- Whether the condition of a latched trip is gone. -/
def State.tripGone (s : State) (t : Trip) : Bool :=
  if t.code = TripCode.BRAKE then (match t.car with | some n => s.tap n SinFunc.BRAKE_FB != (s.safCar n).brake | none => true)
  else if t.code = TripCode.UCM then (match t.car with | some n => (s.safCar n).beyond == 0 | none => true)
  else if t.code = TripCode.CONN then s.get (Reg.SAF_CONN_STATE t.src) != 3
  else !s.saf.present.contains t

/-- A channel as Stirrup configures it (R331, R332): a safety DIN or DOUT, or, of neither, released. -/
def State.configureSafety (k : Nat) (s : State) : State :=
  let t := 6 + k / 32
  let n := k % 32
  let fin := s.par (Reg.SAF_SIN_FUNC k)
  let fout := s.par (Reg.SAF_SOUT_FUNC k)
  let w : Nat := if fin ≠ 0 then ChMode.DIN * 2 ^ 28 + (s.par (Reg.SAF_SIN_FILT k) + 1) * 2 ^ 16 + 2 ^ 9
    else if fout ≠ 0 then ChMode.DOUT * 2 ^ 28 + s.par (Reg.SAF_SOUT_TEST k) * 2 ^ 10 + 2 ^ 9 else 0
  if w = 0 ∧ s.flag (Reg.TILE_SAFETY t n) = false then s
  else
    let s := (s.setWord (chCfgAddr t n) (if w = 0 then resetWord (chCfgAddr t n) else BitVec.ofNat 32 w)).set (Reg.TILE_CH_ACTION t n) 0
    let s := if w = 0 then s else s.setWord (chParamAddr t n) (resetWord (chParamAddr t n))
    s.modTile t (fun x => { x with cfgSend := x.cfgSend.filter (· != n) ++ [n] })

/-- A door page value above the safety limit in force sets CFG_RANGE (R316). -/
def State.judgeDoorV (n : Nat) (s : State) : State :=
  s.errIf (decide (s.par (Reg.SAF_PRE_V n) < s.get (Reg.CAR_PRE_V n)) || decide (s.par (Reg.SAF_RELEV_V n) < s.get (Reg.CAR_RELEVEL_V n)))
    (Page.CAR n) Err.CAR_CFG_RANGE

/-- The waiting set takes force (R352). -/
def State.forceParams (s : State) : State :=
  let p := s.saf.waiting
  let s := { s with saf := { s.saf with force := p, storedA := some p, storedB := some p, waiting := [] } }
  let s := (foldN 64 State.configureSafety s).startConns
  let s := ((s.setFlag Reg.SAF_PARAM_PEND false).setFlag Reg.SAF_PARAM_BAD false).bump Reg.SAF_PARAM_GEN
  s.safCars.foldl (fun (s : State) n => s.judgeDoorV n) s.showParamCrc

/-- Whether every car rests with BRAKE_FB at 1. -/
def State.allRest (s : State) : Bool :=
  s.safCars.all (fun n => !(s.safCar n).runReq && decide ((s.safCar n).vel = 0) && s.tap n SinFunc.BRAKE_FB)

/-- The contact opens. -/
def State.openContact (s : State) : State :=
  { (s.setFlag Reg.SAF_RESET_IN false) with saf := { s.saf with rtn := 0, pressed := false } }

/-- SAFETY_RESET_PRESS: the contact opens after it stood closed for `heldMs`, and had been open for `openMs` before
(R347, R348). A press that is not valid does nothing; a contact that never counted as closed (R346), or stuck, has made none. -/
def safetyResetPress (openMs heldMs : Nat) (s : State) : State :=
  if !s.saf.pressed then s else
  let closedAt := s.unow - (heldMs : Int) * 1000000
  let valid := decide (200 ≤ openMs) && decide (50 ≤ heldMs) && decide (heldMs < 5000)
    && (match s.saf.lastTrip with | some t => decide (t < closedAt) | none => true)
  let s := s.openContact
  if 5000 ≤ heldMs then s
  else if !valid then s.irq Page.SAF Irq.SAF_RESET
  else
    let stay := s.saf.latched.filter (fun t => !s.tripGone t)
    let s := { s with saf := { s.saf with latched := stay, kept := s.saf.kept.filter (fun t => stay.contains t) } }
    let s := (s.bump Reg.SAF_RESET_OK).irq Page.SAF Irq.SAF_RESET
    let s := if stay.isEmpty then s else s.bump Reg.SAF_RESET_BAD
    let s := if s.get Reg.SAF_STATE = SafState.LOCKED ∧ s.globalLatched = false then s.setSafState SafState.START else s
    let s := if s.flag Reg.SAF_PARAM_PEND && s.allRest then s.forceParams else s
    s.showTrips

def execSafetyResetPress (openMs heldMs : Nat) (s : State) : Out State := .next (safetyResetPress openMs heldMs s)

/-- RESET_STUCK: the contact has been closed for 5 s; its later opening is no press. -/
def execResetStuck (s : State) : Out State :=
  .next (if s.flag Reg.SAF_RESET_IN then
    let s := (((s.setFlag Reg.SAF_RESET_STUCK true).bump Reg.SAF_RESET_BAD).irq Page.SAF Irq.SAF_RESET).record sevWarning Page.SAF 20 0 []
    { s with saf := { s.saf with pressed := false } }
  else s)

/-- RESET_STUCK_CLEAR: the contact has been open for 200 ms. -/
def execResetStuckClear (s : State) : Out State := .next (s.openContact.setFlag Reg.SAF_RESET_STUCK false)

/-- RESET_WIRING: RTN has read a static high for 1 s. -/
def execResetWiring (s : State) : Out State :=
  .next (((s.setFlag Reg.SAF_RESET_WIRING true).err Page.SAF Err.SAF_RESET_WIRING).record sevWarning Page.SAF 21 0 [])

/-! ## Parameter set (R352) -/

/-- A field of the staged set within its range (check 5): DISC_MS at most 500, and the ranges and clamps of CAR_P and
WDG_MS. -/
def State.stagedRanges (s : State) : Bool :=
  (List.range 64).all (fun i => decide (s.get (Reg.SAF_SIN_DISC_MS i) ≤ 500) && decide (s.get (Reg.SAF_SIN_FUNC i) ≤ 12))
    && (List.range 64).all (fun j => decide (s.get (Reg.SAF_SOUT_FUNC j) ≤ 6))
    && (List.range 8).all (fun n =>
      decide (200 ≤ s.get (Reg.SAF_UCM_DIST n)) && decide (s.get (Reg.SAF_UCM_DIST n) ≤ 4000) && decide (50 ≤ s.get (Reg.SAF_BRK_MS n))
        && decide (s.get (Reg.SAF_BRK_MS n) ≤ 2000) && decide (s.get (Reg.SAF_PRE_V n) ≤ 0x003E8000) && decide (s.get (Reg.SAF_RELEV_V n) ≤ 0x00177000))
    && (List.range 16).all (fun c => decide (3 ≤ s.get (Reg.SAF_WDG_MS c)) && decide (s.get (Reg.SAF_WDG_MS c) ≤ 1000))

/-- Whether the staged set gives a car an input, or an output, of a function. -/
def State.stagedHas (s : State) (out : Bool) (n f : Nat) : Bool :=
  (List.range 64).any (fun k => if out then s.get (Reg.SAF_SOUT_FUNC k) == f && s.get (Reg.SAF_SOUT_CAR k) == n
    else s.get (Reg.SAF_SIN_FUNC k) == f && s.get (Reg.SAF_SIN_CAR k) == n)

/-- The first check of R352 that the staged set fails, 0 where it passes. -/
def State.paramCheck (s : State) (crc : Word) : Nat :=
  let ids := ((List.range 16).filter (fun c => s.flag (Reg.SAF_CONN_EN c))).map (fun c => s.get (Reg.SAF_CONN_ID c))
  if s.stagedCrc ≠ crc.toNat then 1
  else if (List.range 64).any (fun k => s.get (Reg.SAF_SIN_FUNC k) != 0 && s.get (Reg.SAF_SOUT_FUNC k) != 0) then 2
  else if s.safCars.any (fun n => !(s.stagedHas false n 1 && s.stagedHas false n 2 && s.stagedHas false n 3 && s.stagedHas false n 4
      && s.stagedHas false n 9 && s.stagedHas true n 1 && s.stagedHas true n 2)) then 3
  else if (List.range 64).any (fun i => i % 2 == 1 && s.flag (Reg.SAF_SIN_PAIR i)) then 4
  else if !s.stagedRanges then 5
  else if !decide ids.Nodup || (List.range 16).any (fun c => s.flag (Reg.SAF_CONN_EN c) && (s.get (Reg.SAF_PEER_A c) == 0 || s.get (Reg.SAF_PEER_B c) == 0)) then 6
  else 0

/-- EXEC PARAM_COMMIT. -/
def paramCommit (crc : Word) (s : State) : State :=
  let e := s.paramCheck crc
  let s := s.set Reg.SAF_PARAM_ERR e
  if e ≠ 0 then (s.err Page.SAF Err.SAF_PARAM_INVALID).answer Status.E_STATE []
  else
    let set' : KV Word := (s.mem.filter (fun w => inParams w.1)) ++ (s.encNow.filter (fun w => w.2 != 0))
    ({ (s.setFlag Reg.SAF_PARAM_PEND true) with saf := { s.saf with waiting := set' } }).answer Status.OK []

/-- PARAM_COMMIT; from another than an owner session, E_STATE (R352). -/
def execParamCommit (r : Requester) (crc : Word) (s : State) : Out State :=
  .next (if isSession r && (s.creds r).tag == 0 then s.ownerExec r Page.SAF (paramCommit crc) else s.answer Status.E_STATE [])

/-- EXEC PARAM_DISCARD. -/
def paramDiscard (s : State) : State :=
  ({ (s.setFlag Reg.SAF_PARAM_PEND false) with saf := { s.saf with waiting := [] } }).answer Status.OK []

def execParamDiscard (r : Requester) (s : State) : Out State := .next (s.ownerExec r Page.SAF paramDiscard)

/-! ## Requests of the door control (R334) -/

/-- A start of pre-opening at its firing instant: passed, and the bridge requested, or refused. -/
def State.passPreOpening (s : State) (n : Nat) : Option State :=
  let c := s.safCar n
  if s.parFlag (Reg.SAF_PRE_OK n) && s.tap n SinFunc.DZ && decide (c.vel.natAbs ≤ s.par (Reg.SAF_PRE_V n)) && !s.carLatched n then
    some (s.modSafCar n (fun c => { c with request := 1, moved := false }))
  else none

/-- A request to re-level with open doors: whether it is granted. -/
def State.passReLevel (s : State) (n : Nat) : Bool × State :=
  if s.parFlag (Reg.SAF_RELEV_OK n) then
    let s := s.modSafCar n (fun c => { c with request := 2, moved := false })
    let b := s.bridgeHolds n
    (b, (s.modSafCar n (fun c => { c with bridge := b })).setBit Reg.SAF_BRIDGE n b)
  else (false, s)

/-! ## Saddle stitch (R342 to R344) -/

/-- One bit step of the second check word's CRC, polynomial 0x741B_8CD7 in the form of R532. -/
def crcBitB (c : Nat) : Nat := if c % 2 = 1 then (c / 2) ^^^ 0xEB31D82E else c / 2

/-- CHK_A and CHK_B over bytes (R342). -/
def chkA (conn : Nat) (bs : List Nat) : Nat := bs.foldl crcByte conn ^^^ 0xFFFFFFFF
def chkB (conn : Nat) (bs : List Nat) : Nat :=
  bs.foldl (fun c b => Nat.repeat crcBitB 8 (c ^^^ (b % 256))) (conn ^^^ 0xFFFFFFFF) ^^^ 0xFFFFFFFF

/-- The bytes of a number, most significant first. -/
def bytesBE (n v : Nat) : List Nat := (List.range n).map (fun i => v / 256 ^ (n - 1 - i) % 256)

/-- Bytes 4 to 19 of a telegram. -/
def telegramBody (conn count data : Nat) : List Nat := bytesBE 4 conn ++ bytesBE 4 count ++ bytesBE 8 data

/-- Bit b of DATA: the value used for CH_(192 + b). -/
def State.safData (s : State) : Nat :=
  (List.range 64).foldl (fun a i => a + b2n (s.par (Reg.SAF_SIN_FUNC i) != 0 && s.safIn i) * 2 ^ i) 0

/-- Send one connection's telegram on both ports. -/
def State.sendTelegram (c : Nat) (s : State) : State :=
  if !s.parFlag (Reg.SAF_CONN_EN c) then s
  else
    let st := s.get Reg.SAF_STATE
    let safe := st == SafState.LOCKED || st == SafState.HALT || st == SafState.SELFTEST
    let id := s.par (Reg.SAF_CONN_ID c)
    let n := (s.safConn c).txCount
    let body := telegramBody id n (if safe then 0 else s.safData)
    let tail := body ++ bytesBE 4 (chkA id body) ++ bytesBE 4 (chkB id body)
    let s := s.modConn c (fun x => { x with txCount := if n = 0xFFFFFFFF then 1 else n + 1 })
    let s := s.send .safetyTelegram 0 (s.par (Reg.SAF_PEER_A c)) (bytesBE 2 0x5357 ++ [0, b2n safe] ++ tail)
    s.send .safetyTelegram 1 (s.par (Reg.SAF_PEER_B c)) (bytesBE 2 0x5357 ++ [1, b2n safe] ++ tail)

/-- TELEGRAM_SEND: while the SYS domain is held, telegrams cease (R351). -/
def execTelegramSend (s : State) : Out State := .next (if s.sysHeld then s else foldN 16 State.sendTelegram s)

/-- A copy arrives on a lane: the mark of a lane that is down clears after 16 in a row. -/
def State.laneCopy (s : State) (c : Nat) (l : Lan) : State :=
  let x := s.safConn c
  let got := (match l with | .A => x.gotA | .B => x.gotB) + 1
  let f := match l with | .A => Reg.SAF_A_DOWN c | .B => Reg.SAF_B_DOWN c
  let s := s.modConn c (fun x => match l with | .A => { x with gotA := got, missA := 0 } | .B => { x with gotB := got, missB := 0 })
  if s.flag f && decide (16 ≤ got) then (s.setFlag f false).irq Page.SAF Irq.SAF_CONN else s

/-- A telegram of a new COUNT is used at once (R344). -/
def State.useTelegram (s : State) (c : Nat) (m : Telegram) : State :=
  if m.flags % 2 = 1 then s.connSafe c
  else
    let st := s.get (Reg.SAF_CONN_STATE c)
    let run := (s.safConn c).run + 1
    let s := s.modConn c (fun x => { x with run := run })
    if st = 1 then s.setW (Reg.SAF_CONN_RX c) m.data.toNat
    else if st ≠ 3 ∧ 4 ≤ run then (s.setConnState c 1).setW (Reg.SAF_CONN_RX c) m.data.toNat
    else s

/-- Whether a COUNT lies within 2^31 above the last accepted. -/
def SafConn.isNewer (x : SafConn) (count : Nat) : Bool :=
  match x.last with
  | none => true
  | some n => n != count && decide ((count + 2 ^ 32 - n) % 2 ^ 32 < 2 ^ 31)

/-- Whether a first copy awaits, within 10 ms, a copy of a COUNT that comes on a lane. -/
def LaneCopy.awaits (e : LaneCopy) (now : Int) (count : Nat) (l : Lan) : Bool :=
  e.count == count && e.lane != l && decide (now ≤ e.came + 10000000)

/-- TELEGRAM_RECEIVE on a port. -/
def execTelegramReceive (l : Lan) (m : Telegram) (s : State) : Out State :=
  let id := m.conn.toNat
  let body := telegramBody id m.count m.data.toNat
  match (List.range 16).find? (fun c => s.parFlag (Reg.SAF_CONN_EN c) && s.par (Reg.SAF_CONN_ID c) == id) with
  | none => .next s
  | some c =>
    if s.sysHeld || m.magic != 0x5357 || m.chkA.toNat != chkA id body || m.chkB.toNat != chkB id body then .next s
    else
      let key := bytesBE 4 id ++ body ++ bytesBE 4 m.chkA.toNat ++ bytesBE 4 m.chkB.toNat
      let x := s.safConn c
      if x.isNewer m.count then
        let s := (s.laneCopy c l).modConn c (fun x => { x with last := some m.count, first := x.first ++ [⟨m.count, l, key, s.unow⟩] })
        .next (s.useTelegram c m)
      else match x.first.find? (fun e => e.awaits s.unow m.count l) with
        | none => .next s
        | some e =>
          let s := (s.laneCopy c l).modConn c (fun x => { x with first := x.first.filter (fun u => u != e) })
          .next (if e.bytes = key then (if s.get (Reg.SAF_CONN_STATE c) = 3 then s.connSafe c else s)
            else ((s.setConnState c 3).setW (Reg.SAF_CONN_RX c) 0).setTrip ⟨TripCode.CONN, none, c⟩)

/-- LANE_COPY_MISSING: the other lane's copy has not come within 10 ms. After 16 in a row the lane is marked down. -/
def execLaneCopyMissing (c : Fin 16) (l : Lan) (s : State) : Out State :=
  .next (if s.parFlag (Reg.SAF_CONN_EN c) then
    let x := s.safConn c
    let miss := (match l with | .A => x.missA | .B => x.missB) + 1
    let f := match l with | .A => Reg.SAF_A_DOWN c | .B => Reg.SAF_B_DOWN c
    let s := s.bump (Reg.SAF_LANE_MISS c)
    let first := x.first.eraseP (fun e => e.lane != l)
    let s := s.modConn c (fun x => match l with
      | .A => { x with missA := miss, gotA := 0, first := first }
      | .B => { x with missB := miss, gotB := 0, first := first })
    if 16 ≤ miss ∧ s.flag f = false then
      ((s.setFlag f true).irq Page.SAF Irq.SAF_CONN).record sevWarning Page.SAF 22 c []
    else s
  else s)

/-- CONN_WATCHDOG: no copy for WDG_MS. -/
def execConnWatchdog (c : Fin 16) (s : State) : Out State :=
  .next (if s.parFlag (Reg.SAF_CONN_EN c) then s.connSafe c else s)

end Sys2Proof.Machine
end

