-- ==== Sys2Proof/Machine/Doors.lean ====
section
/-! DEFINITION. Car and landing doors (R307 to R326). -/

namespace Sys2Proof.Machine

/-! ## Cars -/

def State.car (s : State) (n : Nat) : Car := KV.getD s.cars n Car.initial
def State.modCar (s : State) (n : Nat) (g : Car → Car) : State := { s with cars := KV.put s.cars n (g (s.car n)) }
def State.modDoor (s : State) (n : Nat) (g : Door → Door) : State := s.modCar n (fun c => { c with door := g c.door })

/-! Codes of CAR_STAT.MODE (R291). -/
namespace CarMode
abbrev NORMAL : Nat := 0
abbrev INSPECTION : Nat := 1
abbrev INDEPENDENT : Nat := 2
abbrev FIREFIGHTER : Nat := 3
abbrev OUT_OF_SERVICE : Nat := 4
end CarMode

/-! Codes of CAR_STAT.FAULT. -/
namespace CarFault
abbrev POS_LOST : Nat := 1
abbrev DZ_MISMATCH : Nat := 2
abbrev AXIS : Nat := 3
abbrev SAFETY : Nat := 4
abbrev DOOR : Nat := 5
end CarFault

/-- A fault of a car becomes pending; FAULT shows the latest. -/
def State.setCarFault (s : State) (n code : Nat) : State :=
  let c := s.car n
  if c.faults.contains code then s
  else
    let s := s.modCar n (fun c => { c with faults := code :: c.faults })
    let s := s.set (Reg.CAR_FAULT n) code
    if c.faults.isEmpty then s.irq (Page.CAR n) Irq.CAR_FAULT else s

/-- A fault of a car is cleared. -/
def State.clearCarFault (s : State) (n code : Nat) : State :=
  let s := s.modCar n (fun c => { c with faults := c.faults.filter (· != code) })
  s.set (Reg.CAR_FAULT n) ((s.car n).faults.headD 0)

/-- The firefighter phase of a car (R503): 0 none, 1 RECALL, 2 PARKED, 3 PHASE2, 4 BLOCKED. -/
def State.ffPhase (s : State) (n : Nat) : Nat := s.get Reg.FIR_FF_PHASE / 8 ^ n % 8

/-- The car's axis at rest. -/
def State.axisRests (s : State) (n : Nat) : Bool :=
  (s.axis n).plan.isEmpty && s.get (Reg.AXIS_STATE n) != AxState.MOVING && s.get (Reg.AXIS_STATE n) != AxState.STOPPING

/-- The group holds V_MAX of a car axis to a speed, keeping what it was. -/
def State.holdSpeed (s : State) (n v : Nat) : State :=
  let own := (s.car n).vHeld.getD (s.get (Reg.AXIS_V_MAX n))
  (s.modCar n (fun c => { c with vHeld := some own })).set (Reg.AXIS_V_MAX n) (min own v)

/-- V_MAX returns to what it was. -/
def State.releaseSpeed (s : State) (n : Nat) : State :=
  match (s.car n).vHeld with
  | some v => (s.modCar n (fun c => { c with vHeld := none })).set (Reg.AXIS_V_MAX n) v
  | none => s

/-! ## The calls of a stop (R299) -/

/-- Whether a stop would pick a call up. -/
def callBoardsAt (c : Call) (x : Stop) : Bool :=
  c.rear == x.rear && decide (c.state ≤ 2) && c.kind != 2 && c.origin == x.landing && (c.kind != 1 || c.down == x.down)

/-- Whether a call is picked up by its car's arrival at a stop: only one that has committed (R14, R299). -/
def callPickedAt (c : Call) (x : Stop) : Bool := c.state == 2 && callBoardsAt c x

/-- The calls on a car. -/
def State.carCalls (s : State) (n : Nat) : KV Call := s.calls.filter (fun (e : Nat × Call) => e.2.car == n)

/-- The stop that a car is committed to next. -/
def State.nextStop (s : State) (n : Nat) : Option Stop := (s.car n).stops.find? (·.com)

/-- Whether a stop serves the origin of a HALL or DEST call of its car (R313). -/
def State.servesOrigin (s : State) (n : Nat) (x : Stop) : Bool := (s.carCalls n).any (fun (e : Nat × Call) => callPickedAt e.2 x)

/-! ## Door limits (R309 to R311, R314, R316) -/

/-! Codes of DOOR_STAT.STATE (R312). -/
namespace DoorState
abbrev DISABLED : Nat := 0
abbrev CLOSED : Nat := 1
abbrev OPENING : Nat := 2
abbrev OPEN : Nat := 3
abbrev CLOSING : Nat := 4
abbrev NUDGING : Nat := 5
abbrev REVERSING : Nat := 6
abbrev HELD : Nat := 7
abbrev STOPPED : Nat := 8
abbrev FAULT : Nat := 9
end DoorState

/-- A speed limit from energy in mJ and mass in 0.1 kg, Q24.8 units/s, rounded down and at most 2 m/s. -/
def energySpeed (ke mass : Nat) : Nat := min (isqrt (ke * 25600000 ^ 2 / (50 * max 1 mass))) 51200000

/-- The length of a minimum-time profile from rest to rest over a distance, µs, to the nearest (log entry 23). -/
def profileUs (dist v a j : Nat) : Nat :=
  let ph := minTime ((dist : Int) * fine1) 0 0 (max 1 ((v : Int) * fineV)) (max 1 (a : Int) * fine1) (max 1 (j : Int) * fine1)
  let t : Int := ph.foldl (fun a f => a + f.2) 0
  ((t * 1000000 + fine1 / 2) / fine1).toNat

/-- The derived registers of a door page. -/
def State.deriveDoor (n : Nat) (s : State) : State :=
  let mass := s.get (Reg.CAR_MASS n)
  let s := ((s.set (Reg.CAR_V_CLOSE n) (energySpeed (s.get (Reg.CAR_KE_MAX n)) mass)).set (Reg.CAR_V_NUDGE n) (energySpeed (s.get (Reg.CAR_NUDGE_KE n)) mass)).set
    (Reg.CAR_A_CLOSE n) (s.get (Reg.CAR_F_ACC n) * 1000000 / max 1 mass)
  let il := s.get (Reg.CAR_F_STALL n) * 1000 / max 1 (s.get (Reg.CAR_K_F n))
  let s := s.set (Reg.CAR_ILIM_CLOSE n) (min il 65534)
  let s := s.errIf (decide (65534 ≤ il)) (Page.CAR n) Err.CAR_CFG_RANGE
  let d := s.get (Reg.CAR_OPEN_POS n)
  let j := s.get (Reg.CAR_DOOR_J n)
  let tClose := profileUs d (s.get (Reg.CAR_V_CLOSE n)) (s.get (Reg.CAR_A_CLOSE n)) j
  let tOpen := profileUs d (s.get (Reg.CAR_OPEN_V n)) (s.get (Reg.CAR_OPEN_A n)) j
  ((s.set (Reg.CAR_T_CLOSE_US n) tClose).set (Reg.CAR_T_OPEN_US n) tOpen).set (Reg.CAR_CYCLE_MS n)
    ((tOpen + tClose + 999) / 1000 + s.get (Reg.CAR_DWELL_HALL_MS n))

/-- PRE_V_EFF and RELEVEL_V_EFF (R316). -/
def State.preVEff (s : State) (n : Nat) : Nat := min (s.get (Reg.CAR_PRE_V n)) (s.par (Reg.SAF_PRE_V n))
def State.relevelVEff (s : State) (n : Nat) : Nat := min (s.get (Reg.CAR_RELEVEL_V n)) (s.par (Reg.SAF_RELEV_V n))

/-- What the door control writes to the door axis before a move (R307): `k` 0 opening, 1 closing, 2 nudging. -/
def State.doorLimits (s : State) (n k : Nat) : State :=
  let s := s.deriveDoor n
  let a := 8 + n
  let v := min 51200000 (if k = 0 then s.get (Reg.CAR_OPEN_V n) else if k = 1 then s.get (Reg.CAR_V_CLOSE n) else s.get (Reg.CAR_V_NUDGE n))
  let acc := if k = 0 then s.get (Reg.CAR_OPEN_A n) else s.get (Reg.CAR_A_CLOSE n)
  let s := ((s.set (Reg.AXIS_V_MAX a) v).set (Reg.AXIS_A_MAX a) acc).set (Reg.AXIS_STOP_A a) acc
  let s := ((s.set (Reg.AXIS_J_MAX a) (s.get (Reg.CAR_DOOR_J n))).set (Reg.AXIS_QS_A a) (s.get (Reg.CAR_REV_A n))).set (Reg.AXIS_FE_MAX a) (s.get (Reg.CAR_FE_DOOR n))
  ((s.set (Reg.AXIS_FE_MS a) 200).setFlag (Reg.AXIS_IDLE_EN a) true).set (Reg.AXIS_IDLE_PCT a) 50

/-! ## Reports from Stirrup and inputs -/

/-- The car door closed and the landing doors locked, as Stirrup reports. -/
def State.closedLocked (s : State) (n : Nat) : Bool :=
  s.getBit Reg.SAF_CD_CLOSED n && s.getBit Reg.SAF_LOCKED n

/-- ACT_POS of the door axis in units. -/
def State.doorPos (s : State) (n : Nat) : Int := s.getWS (Reg.AXIS_ACT_POS (8 + n)) / 65536

/-- The closed position is reached (R311). -/
def State.nearClosed (s : State) (n : Nat) : Bool := decide ((s.getWS (Reg.AXIS_ACT_POS (8 + n))).natAbs ≤ s.get (Reg.CAR_CLOSED_TOL n) * 65536)

/-- The level of a channel's input register. -/
def State.chanIn (s : State) (k : Nat) : Bool := s.getBit (Reg.TILE_IN (k / 32)) (k % 32)

/-- The reversal input, or a light barrier in its place (R425). -/
def State.revInput (s : State) (n : Nat) : Bool :=
  s.flag (Reg.CAR_REV_EN n) && (s.chanIn (s.get (Reg.CAR_REV_CH n)) || (s.car n).door.barrier)

/-! ## Moves -/

/-- STATE changes. -/
def State.setDoorState (s : State) (n v : Nat) : State :=
  if s.get (Reg.CAR_DOOR_STATE n) = v then s else (s.set (Reg.CAR_DOOR_STATE n) v).irq (Page.CAR n) Irq.CAR_DOOR_STATE

def State.doorTarget (s : State) (n : Nat) (p : Int) : State := targetChange (8 + n) (p * 65536) s

/-- The side of a stop comes into use, while the door is CLOSED (R308). -/
def State.takeSide (s : State) (n : Nat) (rear : Bool) : State :=
  if s.get (Reg.CAR_DOOR_STATE n) = DoorState.CLOSED then s.setFlag (Reg.CAR_SIDE_REAR n) rear else s

/-- Move to OPEN_POS. -/
def State.openDoor (s : State) (n : Nat) : State :=
  let s := (s.doorLimits n 0).modDoor n (fun d => { d with next := .none, lim := 2, waitLock := false, closeFrom := none })
  (s.doorTarget n (s.get (Reg.CAR_OPEN_POS n))).setDoorState n DoorState.OPENING

/-- The nudge output (R321). -/
def State.nudgeOut (s : State) (n : Nat) (v : Bool) : State :=
  if s.flag (Reg.CAR_NUDGE_OUT n) = v then s
  else (writeOutBit (s.get (Reg.CAR_NUDGE_CH n)) v s).setFlag (Reg.CAR_NUDGE_OUT n) v

/-- Move to 0 under the closing or the nudging limits. -/
def State.closeDoor (s : State) (n : Nat) (nudge : Bool) : State :=
  let s := (s.doorLimits n (if nudge then 2 else 1)).modDoor n (fun d => { d with next := .none, lim := 0, waitLock := false, closeFrom := some s.unow })
  let s := s.doorTarget n 0
  if nudge ∧ s.get (Reg.CAR_DOOR_STATE n) = DoorState.NUDGING then s
  else if nudge then
    let s := ((s.setDoorState n DoorState.NUDGING).bump (Reg.CAR_NUDGE_CNT n)).irq (Page.CAR n) Irq.CAR_NUDGE
    if s.flag (Reg.CAR_NUDGE_OUT_EN n) then s.nudgeOut n true else s
  else s.setDoorState n DoorState.CLOSING

/-- Stop the door axis under R274. -/
def State.stopDoor (s : State) (n : Nat) (quick : Bool) : State := s.modAxis (8 + n) (fun x => { x with stop := some quick })

/-- The supervision trip of the car and of its slot is cleared. -/
def State.clearTrip (s : State) (n : Nat) : State :=
  (s.setFlag (Reg.CAR_TRIP n) false).setFlag (Reg.LOOP_TRIP (s.get (Reg.CAR_SUP_SLOT n))) false

/-- The door reverses (R320). -/
def State.reverseDoor (s : State) (n : Nat) : State :=
  let s := ((s.setDoorState n DoorState.REVERSING).bump (Reg.CAR_REV_RUN n)).bump (Reg.CAR_REV_CNT n)
  let s := (s.set (Reg.AXIS_FE_MAX (8 + n)) (s.get (Reg.CAR_FE_DOOR n))).set (Reg.AXIS_FE_MS (8 + n)) 200
  let s := s.modDoor n (fun d => { d with next := .reopen, lim := 1, waitLock := false, closeFrom := none })
  (s.stopDoor n true).irq (Page.CAR n) Irq.CAR_REVERSED

/-- Whether causes of reversal are heeded: not in phase 2 (R504). -/
def State.reversalHeeded (s : State) (n : Nat) : Bool := s.ffPhase n != 3

/-- Whether the door closes because its landing door did not follow: FAULT COUPLE ends that move (R318). -/
def State.coupling (s : State) (n : Nat) : Bool :=
  match (s.car n).door.next with | .coupleClose | .coupleFault => true | _ => false

/-- A cause of reversal while CLOSING (R320). -/
def State.reversalCause (s : State) (n : Nat) : State :=
  if s.get (Reg.CAR_DOOR_STATE n) = DoorState.CLOSING ∧ s.reversalHeeded n = true ∧ s.coupling n = false then s.reverseDoor n else s

/-- The door supervision trip of a car (R255, R320). -/
def State.doorTrip (s : State) (n : Nat) : State :=
  let s := s.setFlag (Reg.CAR_TRIP n) true
  if !s.reversalHeeded n then s
  else if s.get (Reg.CAR_DOOR_STATE n) = DoorState.CLOSING then s.reversalCause n
  else if s.get (Reg.CAR_DOOR_STATE n) = DoorState.OPENING then
    (s.stopDoor n false).modDoor n (fun d => { d with next := .openHere })
  else s

/-- A dwell begins. -/
def State.beginDwell (s : State) (n ms : Nat) : State := s.modDoor n (fun d => { d with dwell := ms, held := s.revInput n })

/-- A fault of the door (R324). -/
def State.doorFault (s : State) (n code : Nat) : State :=
  if s.get (Reg.CAR_DOOR_STATE n) = DoorState.FAULT then s
  else
    let s := if code = 6 then s else s.stopDoor n false
    let s := (s.set (Reg.CAR_DOOR_FAULT n) code).modDoor n (fun d => { d with next := .none, waitLock := false })
    let s := ((s.nudgeOut n false).setDoorState n DoorState.FAULT).irq (Page.CAR n) Irq.CAR_DOOR_FAULT
    (s.record sevFault (Page.CAR n) 10 code []).setCarFault n (if code = 6 then CarFault.AXIS else CarFault.DOOR)

/-- The door has reached its closed position: the time since the decision to close is judged (CLOSE_MAX_US). -/
def State.closeTimed (s : State) (n : Nat) : State :=
  match (s.car n).door.closeFrom with
  | some t => (s.raiseTo (Reg.CAR_CLOSE_MAX_US n) ((s.unow - t) / 1000).toNat).modDoor n (fun d => { d with closeFrom := none })
  | none => s

/-- The door is closed and locked. -/
def State.doorShut (s : State) (n : Nat) : State :=
  let s := s.modDoor n (fun d => { d with next := .none, waitLock := false, closeFrom := none, preFired := false })
  let s := if s.get (Reg.CAR_DOOR_STATE n) = DoorState.NUDGING then s.clearTrip n else s
  ((s.nudgeOut n false).setDoorState n DoorState.CLOSED)

/-! ## Re-levelling (R317) -/

/-- The car moves to a landing's LEVEL at RELEVEL_V_EFF; `shut` says that the door has closed for it. -/
def State.relevelMove (s : State) (n l : Nat) (shut : Bool) : State :=
  let s := (s.holdSpeed n (s.relevelVEff n)).modDoor n (fun d => { d with relevel := if shut then 3 else 2 })
  targetChange n (s.getS (Reg.CAR_LEVEL n l) * 65536) (s.bump (Reg.CAR_RELEVEL_CNT n))

/-- A re-level begins: with the door open where Stirrup grants it, else the door closes first, where it can. A landing door that
does not follow comes first (R318). -/
def State.relevel (s : State) (n l : Nat) : State :=
  let st := s.get (Reg.CAR_DOOR_STATE n)
  if st = DoorState.CLOSED then s.relevelMove n l false
  else if st = DoorState.FAULT ∨ s.coupling n = true then s
  else
    let (ok, s) := s.passReLevel n
    if ok then s.relevelMove n l false
    else if st = DoorState.DISABLED then s
    else (s.modDoor n (fun d => { d with relevel := 1 })).closeDoor n false

/-! ## Pre-opening (R315) -/

/-- The pre-opening chain in the host-area entries from PRE_SEG. -/
def State.writePreChain (s : State) (n : Nat) : State :=
  let d := s.get (Reg.CAR_OPEN_POS n)
  let ph := minTime ((d : Int) * fine1) 0 0 (max 1 ((s.get (Reg.CAR_OPEN_V n) : Int) * fineV)) (max 1 (s.get (Reg.CAR_OPEN_A n) : Int) * fine1)
    (max 1 (s.get (Reg.CAR_DOOR_J n) : Int) * fine1)
  let (gs, s) := s.layKnots 0 ⟨0, 0, 0⟩ (some ((d : Int) * 65536)) 0 (knotsOf (0, 0, 0) 0 ph)
  let e0 := s.get (Reg.CAR_PRE_SEG n)
  ((gs.zip (List.range gs.length)).foldl (fun (s : State) (g : Seg × Nat) =>
    let e := (e0 + g.2) % 4096
    let s := ((((s.set (Reg.SEG_STATE e) 0).setFlag (Reg.SEG_LAST e) (g.2 + 1 == gs.length)).setFlag (Reg.SEG_REL e) false).set (Reg.SEG_NEXT e) ((e + 1) % 4096)).set (Reg.SEG_DT e) (g.1.h / 1000)
    (s.setWS (Reg.SEG_POS e) g.1.p1).setS (Reg.SEG_VEL e) g.1.v1) s)

/-- The coordinate of pre-opening: PRE_DIST is clamped to the smaller of DZ_UP and DZ_DOWN. -/
def State.preCoord (s : State) (n l : Nat) (up : Bool) : Int :=
  let d : Int := min (s.get (Reg.CAR_PRE_DIST n)) (min (s.get (Reg.CAR_DZ_UP n)) (s.get (Reg.CAR_DZ_DOWN n)))
  if up then s.getS (Reg.CAR_LEVEL n l) - d else s.getS (Reg.CAR_LEVEL n l) + d

/-- The set-point speed at the slot's coordinate on the plan of AXIS_n, Q24.8; none where the plan does not reach it. -/
def State.speedAt (s : State) (n : Nat) (up : Bool) (c : Int) : Option Nat :=
  let x := s.axis n
  (planCross (if up then 1 else 2) (c * 65536) x.base x.plan s.unow x.plan).map (fun t => (x.profile t).v.natAbs)

/-- Prepare pre-opening for a stop once the axis has planned it. -/
def State.preOpen (s : State) (n : Nat) : State :=
  match (s.car n).door.prePend with
  | none => s
  | some (l, up) =>
    if (s.axis n).newTarget then s
    else
      let s := s.modDoor n (fun d => { d with prePend := none })
      let k := s.get (Reg.CAR_PRE_SLOT n)
      let c := s.preCoord n l up
      let slow := match s.speedAt n up c with | some v => decide (v ≤ s.preVEff n) | none => false
      let busy := s.get (Reg.SLOT_STATE k) == SlotState.ARMED || s.get (Reg.SLOT_STATE k) == SlotState.COMMITTED
      if !s.flag (Reg.CAR_PRE_EN n) || !slow || busy then s
      else
        -- the move's limits and side, under which its chain is checked (R307, R308)
        let s := if s.get (Reg.CAR_DOOR_STATE n) = DoorState.CLOSED then (s.doorLimits n 0).takeSide n ((s.nextStop n).elim false (·.rear)) else s
        let s := s.writePreChain n
        let s := ((s.set (Reg.SLOT_BASE k) (4 + n)).set (Reg.SLOT_DIR k) (if up then 1 else 2)).setW (Reg.SLOT_COORD k) (ofSigned 32 c)
        let s := ((s.set (Reg.SLOT_ACTION k) SlotAction.START_PROFILE).set (Reg.SLOT_ARG k) (s.get (Reg.CAR_PRE_SEG n) * 32 + 8 + n)).set (Reg.SLOT_HORIZON k) 0
        let s := s.setFlag (Reg.SLOT_LATE_OK k) false
        let s := if s.get (Reg.SLOT_STATE k) = SlotState.DONE then s.set (Reg.SLOT_STATE k) SlotState.FREE else s
        let s := slotArm k s
        s.setFlag (Reg.CAR_PRE_ARMED n) (s.get (Reg.SLOT_STATE k) == SlotState.ARMED)

/-- The slot of pre-opening has ended. -/
def State.preEnded (s : State) (n : Nat) : State :=
  let k := s.get (Reg.CAR_PRE_SLOT n)
  if s.flag (Reg.CAR_PRE_ARMED n) && s.get (Reg.SLOT_STATE k) == SlotState.DONE then
    let s := s.setFlag (Reg.CAR_PRE_ARMED n) false
    let c := s.get (Reg.SLOT_CODE k)
    if c = SlotCode.FIRED then
      let hall := (s.nextStop n).elim false (s.servesOrigin n)
      (s.modDoor n (fun d => { d with preFired := true, next := .none, lim := 2, hall := hall })).setDoorState n DoorState.OPENING
    else if c = SlotCode.REFUSED ∨ c = SlotCode.MISSED ∨ c = SlotCode.NO_TARGET then s.bump (Reg.CAR_PRE_FAIL n)
    else s
  else s

/-- A stop is abandoned before its slot fires: cancelled while ARMED, recalled while COMMITTED. A slot that it is too late to recall
stays, and its end is met as ever. -/
def State.preCancel (s : State) (n : Nat) : State :=
  let s := s.modDoor n (fun d => { d with prePend := none })
  let k := s.get (Reg.CAR_PRE_SLOT n)
  if s.flag (Reg.CAR_PRE_ARMED n) then
    let s := slotCancel k s
    s.setFlag (Reg.CAR_PRE_ARMED n) (s.get (Reg.SLOT_STATE k) == SlotState.COMMITTED)
  else s

/-! ## The door control at a tick -/

/-- What follows when the axis has come to rest. -/
def State.doorNext (s : State) (n : Nat) : State :=
  let st := s.get (Reg.AXIS_STATE (8 + n))
  let stopped := st == AxState.STOPPED
  let there := st == AxState.STANDSTILL && (s.axis (8 + n)).plan.isEmpty && !(s.axis (8 + n)).newTarget
  match (s.car n).door.next with
  | .none => s
  | .reopen =>
    if stopped then
      let s := (s.doorLimits n 0).modDoor n (fun d => { d with next := .none })
      s.doorTarget n (s.get (Reg.CAR_OPEN_POS n))
    else s
  | .openHere =>
    if stopped then
      let s := (s.clearTrip n).modDoor n (fun d => { d with next := .none })
      (s.setDoorState n DoorState.OPEN).beginDwell n (s.get (Reg.CAR_REOPEN_DWELL_MS n))
    else s
  | .coupleClose =>
    if stopped then (s.closeDoor n false).modDoor n (fun d => { d with next := .coupleFault }) else s
  | .coupleFault => if there then s.doorFault n 4 else s
  -- a nudge that is repeated stays one (R321)
  | .lockOpen => if there then s.closeDoor n (s.get (Reg.CAR_DOOR_STATE n) == DoorState.NUDGING) else s

/-- The reversal input is judged: a rise reverses a closing door, and the dwell is held while it stays active (R313,
R320). -/
def State.doorInputs (n : Nat) (s : State) : State :=
  if !s.carPresent n then s
  else
    let v := s.revInput n
    let was := s.flag (Reg.CAR_REV_IN n)
    let s := (s.setFlag (Reg.CAR_REV_IN n) v).modDoor n (fun d => { d with held := v })
    if v && !was then s.reversalCause n else s

/-- The door control at a 125 µs tick (R312, R318, R320, R324). -/
def State.doorTick (n : Nat) (s : State) : State :=
  let st := s.get (Reg.CAR_DOOR_STATE n)
  if !s.carPresent n || decide (s.get (Reg.CAR_OPEN_POS n) < 10000) then
    if st = DoorState.DISABLED then s else s.setDoorState n DoorState.DISABLED
  else
    let s := (s.setFlag (Reg.CAR_CD_CLOSED n) (s.getBit Reg.SAF_CD_CLOSED n)).setFlag (Reg.CAR_LD_LOCKED n) (s.getBit Reg.SAF_LOCKED n)
    let s := (s.preEnded n).preOpen n
    let s := if st = DoorState.DISABLED then
        s.setDoorState n (if s.nearClosed n && s.closedLocked n then DoorState.CLOSED else DoorState.STOPPED)
      else s
    let s := if s.get (Reg.CAR_DOOR_STATE n) = DoorState.STOPPED ∧ st = DoorState.DISABLED ∧ s.get (Reg.CAR_MODE n) = CarMode.NORMAL then s.closeDoor n false else s
    let s := if s.get (Reg.AXIS_STATE (8 + n)) = AxState.FAULT then s.doorFault n 6 else s
    let s := if (s.car n).door.lim = 1 ∧ s.getWS (Reg.AXIS_ACT_POS (8 + n)) ≤ s.getWS (Reg.AXIS_SP_POS (8 + n)) then
        s.modDoor n (fun d => { d with lim := 2 }) else s
    let s := s.doorNext n
    if (s.car n).door.waitLock && s.closedLocked n then s.doorShut n else s

/-! ## Commands that the field asserts -/

/-- The dwell of a stop (R313). -/
def State.stopDwell (s : State) (n : Nat) : Nat :=
  if (s.car n).door.hall then s.get (Reg.CAR_DWELL_HALL_MS n) else s.get (Reg.CAR_DWELL_CAR_MS n)

/-- The door reaches OPEN_POS: OPEN with its dwell. -/
def doorOpened (n : Nat) (s : State) : State :=
  let st := s.get (Reg.CAR_DOOR_STATE n)
  let there := decide (s.getWS (Reg.AXIS_SP_POS (8 + n)) = (s.get (Reg.CAR_OPEN_POS n) : Int) * 65536) && s.axisRests (8 + n)
  if !there then s
  else if st = DoorState.OPENING then (s.setDoorState n DoorState.OPEN).beginDwell n (s.stopDwell n)
  else if st = DoorState.REVERSING then ((s.clearTrip n).setDoorState n DoorState.OPEN).beginDwell n (s.get (Reg.CAR_REOPEN_DWELL_MS n))
  else s

/-- The dwell ends: the door closes, or nudges (R313, R321). -/
def State.dwellEnd (s : State) (n : Nat) : State :=
  let first := (s.car n).door.firstEnd
  let nudge := s.flag (Reg.CAR_NUDGE_EN n) && s.get (Reg.CAR_MODE n) != CarMode.INDEPENDENT
    && (match first with | some t => decide (t + (s.get (Reg.CAR_NUDGE_S n) : Int) * 1000000000 ≤ s.unow) | none => false)
  let s := if first.isNone then s.modDoor n (fun d => { d with firstEnd := some s.unow }) else s
  s.closeDoor n nudge

/-- DWELL_END: not while the reversal input holds the dwell, in INDEPENDENT, or in FIREFIGHTER (R323, R503). -/
def execDwellEnd (n : Fin 8) (s : State) : Out State :=
  let m := s.get (Reg.CAR_MODE n)
  .next (if s.get (Reg.CAR_DOOR_STATE n) = DoorState.OPEN ∧ (s.car n).door.held = false ∧ m ≠ CarMode.INDEPENDENT
      ∧ (m ≠ CarMode.FIREFIGHTER ∨ s.ffPhase n = 1) then s.dwellEnd n else s)

/-- DOOR_CLOSED: ACT_POS lies within CLOSED_TOL of 0; the locks are awaited. -/
def execDoorClosed (n : Fin 8) (s : State) : Out State :=
  let st := s.get (Reg.CAR_DOOR_STATE n)
  .next (if (st = DoorState.CLOSING ∨ st = DoorState.NUDGING) ∧ s.nearClosed n = true ∧ s.coupling n = false then
    let s := s.closeTimed n
    if s.closedLocked n then s.doorShut n else s.modDoor n (fun d => { d with waitLock := true })
  else s)

/-- LOCK_TIMEOUT (R319). -/
def execLockTimeout (n : Fin 8) (s : State) : Out State :=
  .next (if (s.car n).door.waitLock && !s.closedLocked n then
    let s := s.bump (Reg.CAR_RETRY n)
    if s.get (Reg.CAR_CLOSE_RETRY n) < s.get (Reg.CAR_RETRY n) then s.doorFault n 3
    else
      let s := (s.doorLimits n 0).modDoor n (fun d => { d with waitLock := false, next := .lockOpen })
      s.doorTarget n (s.get (Reg.CAR_COUPLE_POS n))
  else s)

/-- OPEN_TIMEOUT and CLOSE_TIMEOUT (R324). -/
def execOpenTimeout (n : Fin 8) (s : State) : Out State :=
  .next (if s.get (Reg.CAR_DOOR_STATE n) = DoorState.OPENING then s.doorFault n 1 else s)

def execCloseTimeout (n : Fin 8) (s : State) : Out State :=
  .next (if s.get (Reg.CAR_DOOR_STATE n) = DoorState.CLOSING ∨ s.get (Reg.CAR_DOOR_STATE n) = DoorState.NUDGING then s.doorFault n 2 else s)

/-- Whether the group moves a car to its stops in its mode: one that is OUT_OF_SERVICE by command still serves those entered before
(R291). -/
def State.groupMoves (s : State) (n : Nat) : Bool :=
  let m := s.get (Reg.CAR_MODE n)
  m != CarMode.INSPECTION && (m != CarMode.OUT_OF_SERVICE || ((s.car n).oos && (s.car n).faults.isEmpty))

/-- RELEVEL_START: the car at a stop has stood more than 400 units off level for 100 ms with the door not closed. -/
def execRelevelStart (n : Fin 8) (s : State) : Out State :=
  .next (match (s.car n).at_ with
  | none => s
  | some l =>
    let off := (s.getS (Reg.CAR_POS n) - s.getS (Reg.CAR_LEVEL n l)).natAbs
    let st := s.get (Reg.CAR_DOOR_STATE n)
    if 400 < off ∧ st ≠ DoorState.CLOSED ∧ s.groupMoves n = true ∧ (s.car n).door.relevel = 0 then s.relevel n l else s)

/-- COUPLE_CHECK (R318): the door opens past COUPLE_POS with the landing door still locked. -/
def State.coupleCheck (s : State) (n : Nat) : State :=
  let st := s.get (Reg.CAR_DOOR_STATE n)
  if (st = DoorState.OPENING ∨ st = DoorState.REVERSING) ∧ (s.get (Reg.CAR_COUPLE_POS n) : Int) ≤ s.doorPos n ∧ s.getBit Reg.SAF_LOCKED n = true then
    ((s.stopDoor n false).modDoor n (fun d => { d with next := .coupleClose, lim := 0 })).setDoorState n DoorState.CLOSING
  else s

/-! ## DOOR_CMD and the door buttons (R323, R504) -/

def State.doorRefuse (s : State) (n : Nat) : State := (s.err (Page.CAR n) Err.CAR_DOOR_REFUSED).answer Status.E_STATE []

/-- The effect of OPEN, the door-open button. -/
def State.doorOpenCmd (s : State) (n : Nat) (may : Bool) : State :=
  let st := s.get (Reg.CAR_DOOR_STATE n)
  if st = DoorState.OPEN then s.beginDwell n (s.stopDwell n)
  else if st = DoorState.CLOSING then s.reversalCause n
  else if st = DoorState.STOPPED ∨ (may = true ∧ st = DoorState.CLOSED) then s.openDoor n
  else s

/-- The effect of CLOSE, the door-close button. -/
def State.doorCloseCmd (s : State) (n : Nat) : State :=
  let st := s.get (Reg.CAR_DOOR_STATE n)
  if st = DoorState.OPEN then s.dwellEnd n else if st = DoorState.STOPPED then s.closeDoor n false else s

/-- A command of DOOR_CMD: 1 OPEN, 2 CLOSE, 3 HOLD, 4 RELEASE, 5 NUDGE, 6 STOP. The table of R323 accepts them by the mode; a door
in FAULT or DISABLED stays so (R312). -/
def doorCmd (n c : Nat) (rear : Bool) (s : State) : State :=
  let m := s.get (Reg.CAR_MODE n)
  let st := s.get (Reg.CAR_DOOR_STATE n)
  let byHand := m == CarMode.OUT_OF_SERVICE || m == CarMode.INSPECTION
  let ok := fun (s : State) => s.answer Status.OK []
  if c = 0 then s.answer Status.OK []
  else if s.activating then s.doorRefuse n
  else if rear && !(byHand && s.flag (Reg.CAR_REAR_FITTED n)) then s.doorRefuse n
  else if m = CarMode.FIREFIGHTER ∧ c ≠ 6 then s.doorRefuse n
  else if m = CarMode.NORMAL ∧ 3 ≤ c then s.doorRefuse n
  else
    let side := fun (s : State) => if byHand then s.takeSide n rear else s
    if c = 1 then
      if byHand && !(s.axisRests n && s.flag (Reg.CAR_IN_DZ n)) then s.doorRefuse n
      else ok ((side s).doorOpenCmd n (m != CarMode.NORMAL))
    else
    let s := side s
    if c = 2 then ok (s.doorCloseCmd n)
    else if c = 3 then ok (if st = DoorState.OPEN then s.setDoorState n DoorState.HELD else s)
    else if c = 4 then ok (if st = DoorState.HELD then (s.setDoorState n DoorState.OPEN).beginDwell n (s.stopDwell n) else s)
    else if c = 5 then ok (if m = CarMode.INDEPENDENT then s else if (st = DoorState.OPEN ∨ st = DoorState.STOPPED ∨ st = DoorState.HELD ∨ st = DoorState.CLOSING) ∧ s.coupling n = false then s.closeDoor n true else s)
    else if c = 6 then
      -- stopped on its way to FAULT COUPLE, the door is there (R318)
      if s.coupling n then ok (s.doorFault n 4)
      else if st = DoorState.FAULT ∨ st = DoorState.DISABLED then ok (s.stopDoor n false)
      else ok ((((s.stopDoor n false).nudgeOut n false).modDoor n (fun d => { d with next := .none, waitLock := false })).setDoorState n DoorState.STOPPED)
    else s.doorRefuse n

def execDoorCmdOpen (n : Fin 8) (rear : Bool) (s : State) : Out State := .next (doorCmd n 1 rear s)
def execDoorCmdClose (n : Fin 8) (rear : Bool) (s : State) : Out State := .next (doorCmd n 2 rear s)
def execDoorCmdHold (n : Fin 8) (rear : Bool) (s : State) : Out State := .next (doorCmd n 3 rear s)
def execDoorCmdRelease (n : Fin 8) (rear : Bool) (s : State) : Out State := .next (doorCmd n 4 rear s)
def execDoorCmdNudge (n : Fin 8) (rear : Bool) (s : State) : Out State := .next (doorCmd n 5 rear s)
def execDoorCmdStop (n : Fin 8) (rear : Bool) (s : State) : Out State := .next (doorCmd n 6 rear s)

/-- A door button of the car panel is pressed or released. In phase 2 the door moves only while one is held (R504). -/
def doorButton (n : Nat) (opens pressed : Bool) (s : State) : State :=
  let s := s.modDoor n (fun d => if opens then { d with btnOpen := pressed } else { d with btnClose := pressed })
  let st := s.get (Reg.CAR_DOOR_STATE n)
  if s.ffPhase n = 3 then
    if opens then
      if pressed then (if (st = DoorState.CLOSED ∨ st = DoorState.CLOSING ∨ st = DoorState.STOPPED) ∧ s.coupling n = false then s.openDoor n else s)
      else if st = DoorState.OPENING then s.closeDoor n false else s
    else
      if pressed then (if st = DoorState.OPEN ∨ st = DoorState.STOPPED then s.closeDoor n false else s)
      else if st = DoorState.CLOSING ∧ s.coupling n = false then s.openDoor n else s
  else if !pressed ∨ s.get (Reg.CAR_MODE n) = CarMode.FIREFIGHTER then s
  else if opens then s.doorOpenCmd n (s.get (Reg.CAR_MODE n) == CarMode.INDEPENDENT)
  else s.doorCloseCmd n

end Sys2Proof.Machine
end

