-- ==== Sys2Proof/Machine/Loop.lean ====
section
/-! DEFINITION. The loop engine (R238 to R257). Q2.30 values are carried as signed integers. -/

namespace Sys2Proof.Machine

/-! ## Slots -/

def State.loop (s : State) (n : Nat) : LoopSlot := KV.getD s.loops n LoopSlot.initial
def State.modLoop (s : State) (n : Nat) (g : LoopSlot → LoopSlot) : State := { s with loops := KV.put s.loops n (g (s.loop n)) }

/-! Modes of a slot (R251). -/
namespace LoopMode
abbrev OFF : Nat := 0
abbrev MAN : Nat := 1
abbrev AUTO : Nat := 2
end LoopMode

/-- A field of a configuration given as words: the field is named by that of slot 0. -/
def cfgGet (c : List Word) (f : Fld) : Nat := getBits (c.getD ((f.addr - 0x04000000) / 4) 0) f.hi f.lo
def cfgS (c : List Word) (f : Fld) : Int := toSigned (f.hi + 1 - f.lo) (cfgGet c f)
def cfgFlag (c : List Word) (f : Fld) : Bool := cfgGet c f == 1
def cfgWord (c : List Word) (f : Fld) : Word := c.getD ((f.addr - 0x04000000) / 4) 0

/-- The words of a slot as the window holds them, 0x00 to 0x58. -/
def State.loopWords (s : State) (n : Nat) : List Word := (List.range 23).map (fun k => s.word (0x04000000 + 128 * n + 4 * k))

def State.loopMode (s : State) (n : Nat) : Nat := s.get (Reg.LOOP_MODE n)

/-- Slots that are not OFF. -/
def State.loopsOn (s : State) : List Nat := (KV.keys s.loops).filter (fun n => s.loopMode n != 0)

/-- A slot changes mode other than by MODE_CMD (R257). -/
def State.loopModeBy (s : State) (n m : Nat) : State :=
  if s.loopMode n = m then s else (s.set (Reg.LOOP_MODE n) m).irq Page.LPE Irq.LPE_MODE

/-- A sticky saturation flag (R247). -/
def State.loopSat (s : State) (f : Fld) (b : Bool) : State :=
  if b && !s.flag f then (s.setFlag f true).irq Page.LPE Irq.LPE_SAT else s

/-- Saturation to a 32-bit word. -/
def sat32 (v : Int) : Int := clampI (-2147483648) 2147483647 v

/-- Write a value into a Q2.30 word, with its stage's flag. -/
def State.loopPut (s : State) (w flag : Fld) (v : Int) : State := (s.setS w (sat32 v)).loopSat flag (sat32 v != v)

/-- Entry to OFF (R251): a point output relinquishes its priority. -/
def State.loopRelinquish (s : State) (n : Nat) : State :=
  let c := (s.loop n).cfg
  let k := cfgGet c (Reg.LOOP_OUT_KIND 0)
  let p := cfgGet c (Reg.LOOP_OUT_INDEX 0)
  let cr : Creds := ⟨s.get (Reg.LOOP_TAG n), 5, cfgGet c (Reg.LOOP_PRIO 0) + 1⟩
  if k ≠ 1 ∧ k ≠ 2 then s
  else if s.mayCommandPoint cr p then (relinquish cr p (cfgGet c (Reg.LOOP_PRIO 0) + 1) s).2
  else s.refuse (.loopSlot (Fin.ofNat 256 n)) (ptAddr p 0)

/-- A slot goes OFF other than by MODE_CMD. -/
def State.loopOff (s : State) (n : Nat) : State :=
  if s.loopMode n = LoopMode.OFF then s else (s.loopRelinquish n).loopModeBy n LoopMode.OFF

/-- The words of a slot that its active copy holds: 0x00 to 0x0C and 0x18 to 0x58 (R241). -/
def loopCopied : List Nat := (List.range 23).filter (fun k => k != 4 && k != 5)

/-- A word of the active copy of a slot that holds an uncorrectable error. -/
def State.loopBroken (s : State) (n : Nat) : Option Nat := (loopCopied.map (loopMark n)).find? s.badWord

/-- The engine finds an uncorrectable error in the active copy of a slot (R240). -/
def State.loopUe (s : State) (n key : Nat) : State := ((s.engineMarked key).loopOff n).record sevFault Page.LPE 1 n []

/-- The active copy takes its words, and with them the errors of those that hold one (log entry 94). -/
def State.loopCopyEcc (s : State) (n : Nat) : State :=
  loopCopied.foldl (fun (s : State) k =>
    let a := 0x04000000 + 128 * n + 4 * k
    let s := (s.correctAt a).eccClean (loopMark n k)
    if s.badWord a then { s with eccNew := s.eccNew ++ [loopMark n k] } else s) s

/-- A live word of a slot, as the engine reads it; one with an uncorrectable error gives a free value (log entry 94). -/
def State.loopLive (s : State) (w : Fld) : Int × State :=
  let s := s.correctAt w.addr
  if s.badWord w.addr then (let (v, s) := (s.engineMarked w.addr).fresh; (toSigned 32 (v % 2 ^ 32), s)) else (s.getS w, s)

/-- The engine writes a live word. -/
def State.setLive (s : State) (w : Fld) (v : Int) : State := (s.setS w v).eccClean w.addr

/-! ## binary32 values as exact fractions -/

/-- A finite binary32 word as mantissa and exponent, subnormals included. -/
def fexact (w : Word) : Option (Int × Int) :=
  let neg := getBits w 31 31 == 1
  let ex := getBits w 30 23
  let m := getBits w 22 0
  if ex = 255 then none
  else if ex = 0 then some (fsigned neg m, -149)
  else some (fsigned neg (m + 2 ^ 23), (ex : Int) - 150)

def fisNan (w : Word) : Bool := getBits w 30 23 == 255 && getBits w 22 0 != 0
def fisInf (w : Word) : Bool := getBits w 30 23 == 255 && getBits w 22 0 == 0

/-- Sum of two values m·2^e. -/
def exactAdd (a b : Int × Int) : Int × Int :=
  let e := min a.2 b.2
  (a.1 * 2 ^ (a.2 - e).toNat + b.1 * 2 ^ (b.2 - e).toNat, e)

def exactMul (a b : Int × Int) : Int × Int := (a.1 * b.1, a.2 + b.2)

/-- m·2^e rounded to a multiple of 2^q, half to even, in those units. -/
def exactRound (a : Int × Int) (q : Int) : Int :=
  if q ≤ a.2 then a.1 * 2 ^ (a.2 - q).toNat else divRoundEven a.1 (2 ^ (q - a.2).toNat)

/-- m·2^e rounded to binary32 as IEEE 754 does, subnormals and infinities included (log entry 24). -/
def exactToF (a : Int × Int) : Word :=
  let neg := decide (a.1 < 0)
  let m := a.1.natAbs
  if m = 0 then 0
  else
    let top : Int := a.2 + (Nat.log2 m : Int)
    let q : Int := max (top - 23) (-149)
    let r := fscale m a.2 q
    let r' := if r = 2 ^ 24 then 2 ^ 23 else r
    let q' : Int := if r = 2 ^ 24 then q + 1 else q
    let s := b2n neg * 2 ^ 31
    if r' < 2 ^ 23 then BitVec.ofNat 32 (s + r')
    else if 255 ≤ q' + 150 then BitVec.ofNat 32 (s + 255 * 2 ^ 23)
    else BitVec.ofNat 32 (s + (q' + 150).toNat * 2 ^ 23 + (r' - 2 ^ 23))

/-- (value + IN_OFS) × IN_SCALE as Q2.30 (R246): the value, whether it saturated, and whether it counts as BAD. -/
def scaleIn (w scale ofs : Word) : Int × Bool × Bool :=
  if fisNan w then (0, false, true)
  else match fexact w, fexact scale, fexact ofs with
    | some v, some k, some o =>
      let r := exactRound (exactMul (exactAdd v o) k) (-30)
      (sat32 r, sat32 r != r, false)
    | none, some k, _ =>
      if k.1 = 0 then (0, false, true)
      else (if (k.1 < 0) = (getBits w 31 31 = 1) then 2147483647 else -2147483648, true, false)
    | _, _, _ => (0, false, true)

/-! ## Inputs (R246) -/

/-- A reading: its Q2.30 value, its quality code, whether the scaling saturated, and whether there is a value at all: the
source may be read and its value is a number. -/
structure Reading where
  val  : Int
  qual : Nat
  sat  : Bool
  valued : Bool

/-- Read a point through the guard; a refused read has quality BAD (R389), and so has a NaN value (R246). -/
def State.loopPoint (s : State) (n p : Nat) (int : Bool) : Reading × State :=
  let c := (s.loop n).cfg
  let cr : Creds := ⟨s.get (Reg.LOOP_TAG n), 5, cfgGet c (Reg.LOOP_PRIO 0) + 1⟩
  if s.mayReadPoint cr p then
    let v := s.word (ptAddr p 0)
    let w := if int then itof v.toInt else v
    let (x, sat, bad) := scaleIn w (cfgWord c (Reg.LOOP_IN_SCALE 0)) (cfgWord c (Reg.LOOP_IN_OFS 0))
    (⟨x, if bad then Qual.BAD else qualCode (s.get (Reg.PT_QUAL p)), sat, !bad⟩, s)
  else (⟨0, Qual.BAD, false, false⟩, s.refuse (.loopSlot (Fin.ofNat 256 n)) (ptAddr p 0))

/-- The current of a door axis; COMM_FAIL where its report is more than 3 ms old. -/
def State.loopCurrent (s : State) (n axis : Nat) : Reading :=
  let c := (s.loop n).cfg
  let car := axis - 8
  let (x, sat, bad) := scaleIn (itof (s.getS (Reg.CAR_CURRENT car))) (cfgWord c (Reg.LOOP_IN_SCALE 0)) (cfgWord c (Reg.LOOP_IN_OFS 0))
  let old := match (s.car car).door.report with | some t => decide (3000000 < s.unow - t) | none => true
  ⟨x, if bad then Qual.BAD else if old then Qual.COMM_FAIL else Qual.GOOD, sat, !bad⟩

/-- The measurement of a slot; none for IN_KIND 0. -/
def State.loopInput (s : State) (n : Nat) : Option Reading × State :=
  let c := (s.loop n).cfg
  let i := cfgGet c (Reg.LOOP_IN_INDEX 0)
  match cfgGet c (Reg.LOOP_IN_KIND 0) with
  | 1 => let (r, s) := s.loopPoint n i false; (some r, s)
  | 2 => let (r, s) := s.loopPoint n i true; (some r, s)
  | 3 => (some (s.loopCurrent n i), s)
  | _ => (none, s)

/-- The reference of a slot. -/
def State.loopRef (s : State) (n : Nat) : Reading × State :=
  let c := (s.loop n).cfg
  let i := cfgGet c (Reg.LOOP_REF_INDEX 0)
  match cfgGet c (Reg.LOOP_REF_KIND 0) with
  | 1 => s.loopPoint n i false
  | 2 => s.loopPoint n i true
  | _ => let (v, s) := s.loopLive (Reg.LOOP_R n); (⟨v, Qual.GOOD, false, true⟩, s)

/-- A 32-bit signed value that the spec does not state. -/
def State.freeQ (s : State) : Int × State := let (f, s) := s.fresh; (toSigned 32 (f % 2 ^ 32), s)

/-- The model input m of a slot (R254). A point whose value is no number, or that may not be read, gives a free
value. -/
def State.loopModelIn (s : State) (n : Nat) (u : Int) : Int × State :=
  let c := (s.loop n).cfg
  let i := cfgGet c (Reg.LOOP_MU_INDEX 0)
  match cfgGet c (Reg.LOOP_MU_KIND 0) with
  | 0 => (u, s)
  | 1 => (s.getS (Reg.CAR_DEMAND (i - 8)), s)
  | _ =>
    let (r, s) := s.loopPoint n i false
    if r.valued then (r.val, s.loopSat (Reg.LOOP_SAT_MDL n) r.sat)
    else s.freeQ

/-! ## Outputs (R250) -/

/-- The address of DUTY of a channel and its field. -/
def dutyFld (k : Nat) : Fld := ⟨chParamAddr (k / 32) (k % 32), 15, 0⟩

/-- Issue u to the destination with a quality. -/
def State.loopIssue (s : State) (n : Nat) (u : Int) (q : Nat) : State :=
  let s := s.modLoop n (fun x => { x with issued := u })
  let c := (s.loop n).cfg
  let i := cfgGet c (Reg.LOOP_OUT_INDEX 0)
  let prio := cfgGet c (Reg.LOOP_PRIO 0) + 1
  let cr : Creds := ⟨s.get (Reg.LOOP_TAG n), 5, prio⟩
  let write := fun (v : Word) (s : State) =>
    if s.mayWritePoint cr i then (writeValue cr i v q s).2 else s.refuse (.loopSlot (Fin.ofNat 256 n)) (ptAddr i 0)
  let scaled : Option (Int × Int) :=
    match fexact (cfgWord c (Reg.LOOP_OUT_SCALE 0)), fexact (cfgWord c (Reg.LOOP_OUT_OFS 0)) with
    | some k, some o => some (exactAdd (exactMul (u, -30) k) o)
    | _, _ => none
  match cfgGet c (Reg.LOOP_OUT_KIND 0) with
  | 1 => (match scaled with | some z => write (exactToF z) s | none => s)
  | 2 => (match scaled with
    | some z =>
      let r := exactRound z 0
      let s := s.loopSat (Reg.LOOP_SAT_OUT n) (sat32 r != r)
      write (BitVec.ofInt 32 (sat32 r)) s
    | none => s)
  | 3 => s.setLive (Reg.LOOP_R i) u
  | 4 =>
    let v := clampI 0 1073741824 u
    let s := s.loopSat (Reg.LOOP_SAT_OUT n) (v != u)
    let (d, s) := s.quot v 16384
    let s := s.set (dutyFld i) (min 65535 d.toNat)
    s.modTile (i / 32) (fun x => { x with cfgSend := x.cfgSend.filter (· != i % 32) ++ [i % 32] })
  | _ => s

/-- (value - offset) / scale as a saturated Q2.30; an infinity saturates by its sign and the scale's. None for a scale of 0 and for
what is no number. -/
def unscale (v : Option (Int × Int)) (inf neg : Bool) (scale ofs : Word) : Option Int :=
  match fexact scale, fexact ofs with
  | some k, some o =>
    if k.1 = 0 then none
    else match v with
      | some v =>
        let d := exactAdd v (-o.1, o.2)
        -- (d.1 · 2^d.2) / (k.1 · 2^k.2) · 2^30
        let e := d.2 - k.2 + 30
        let num := (if k.1 < 0 then -d.1 else d.1) * 2 ^ e.toNat
        some (sat32 (divRoundEven num (k.1.natAbs * 2 ^ (-e).toNat)))
      | none => if inf then some (if decide (k.1 < 0) = neg then 2147483647 else -2147483648) else none
  | _, _ => none

/-- U0 of an initialisation (R252), before limiting. A quotient by 0, a value that is no number, and a point that may not be read
(R389) give a free value. -/
def State.loopU0 (s : State) (n : Nat) : Int × State :=
  let c := (s.loop n).cfg
  let i := cfgGet c (Reg.LOOP_OUT_INDEX 0)
  let cr : Creds := ⟨s.get (Reg.LOOP_TAG n), 5, cfgGet c (Reg.LOOP_PRIO 0) + 1⟩
  let w := s.word (ptAddr i 0)
  let fromPoint := fun (real : Bool) =>
    if !s.mayReadPoint cr i then (s.refuse (.loopSlot (Fin.ofNat 256 n)) (ptAddr i 0)).freeQ
    else
      let v := if real then fexact w else some (w.toInt, 0)
      match unscale v (real && !fisNan w) (getBits w 31 31 == 1) (cfgWord c (Reg.LOOP_OUT_SCALE 0)) (cfgWord c (Reg.LOOP_OUT_OFS 0)) with
      | some x => (x, s)
      | none => s.freeQ
  match cfgGet c (Reg.LOOP_OUT_KIND 0) with
  | 1 => fromPoint true
  | 2 => fromPoint false
  | 3 => (s.getS (Reg.LOOP_R i), s)
  | 4 => (let d := s.get (dutyFld i); (if d = 65535 then 1073741824 else (d : Int) * 16384, s))
  | _ => s.loopLive (Reg.LOOP_U_MAN n)

/-! ## The supervisor (R254, R255) -/

/-- A trip and its further action. -/
def State.loopTrip (s : State) (n : Nat) (u : Int) : State :=
  let c := (s.loop n).cfg
  let s := ((s.setFlag (Reg.LOOP_TRIP n) true).irq Page.LPE Irq.LPE_TRIP).record sevWarning Page.LPE 2 n []
  match cfgGet c (Reg.LOOP_TRIP_ACT 0) with
  | 1 => (s.setLive (Reg.LOOP_U_MAN n) u).loopModeBy n LoopMode.MAN
  | 2 =>
    let axis := if cfgGet c (Reg.LOOP_IN_KIND 0) = 3 then cfgGet c (Reg.LOOP_IN_INDEX 0) else cfgGet c (Reg.LOOP_MU_INDEX 0)
    s.doorTrip (axis - 8)
  | _ => s

/-- The model of a sample: initialised where asked, then computed. One of bad quality leaves the initialisation to the sample at which
the input returns, and has EXC 0 (R253). -/
def State.loopModel (s : State) (n : Nat) (y u : Int) (bad : Bool) : State :=
  let x := s.loop n
  let c := x.cfg
  let (m, s) := s.loopModelIn n u
  let s := if x.minit && !bad then
      ((s.setS (Reg.LOOP_YM n) y).set (Reg.LOOP_EXC n) 0).modLoop n (fun x => { x with minit := false, delay := List.replicate 64 m })
    else s
  let x := s.loop n
  let md := x.delay.getD (cfgGet c (Reg.LOOP_DEAD 0)) 0
  let ym := s.getS (Reg.LOOP_YM n)
  let f := Reg.LOOP_SAT_MDL n
  let g := divRoundEven (cfgS c (Reg.LOOP_MDL_K 0) * md - ym * 1073741824) 1073741824
  let s := s.loopSat f (sat32 g != g)
  let h := divRoundEven (ym * 1073741824 + cfgS c (Reg.LOOP_MDL_ALPHA 0) * sat32 g) 1073741824
  let s := s.loopPut (Reg.LOOP_YM n) f h
  let res := y - sat32 h
  let s := s.loopSat f (sat32 res != res)
  let exc := if bad then 0 else if cfgS c (Reg.LOOP_MDL_BAND 0) < (sat32 res).natAbs then min 127 (s.get (Reg.LOOP_EXC n) + 1) else 0
  let s := s.set (Reg.LOOP_EXC n) exc
  let s := if bad = false ∧ max 1 (cfgGet c (Reg.LOOP_N_TRIP 0)) ≤ exc ∧ s.flag (Reg.LOOP_TRIP n) = false then s.loopTrip n u else s
  s.modLoop n (fun x => { x with delay := (m :: x.delay).take 64 })

/-! ## One sample (R248 to R253) -/

/-- The limited output, with LIM_HI and LIM_LO. -/
def State.loopLimit (s : State) (n : Nat) (v : Int) : Int × State :=
  let c := (s.loop n).cfg
  let lo := cfgS c (Reg.LOOP_U_MIN 0)
  let hi := cfgS c (Reg.LOOP_U_MAX 0)
  (min (max v lo) hi, (s.setFlag (Reg.LOOP_LIM_HI n) (decide (hi < v))).setFlag (Reg.LOOP_LIM_LO n) (decide (v < lo)))

/-- The e histories shift. -/
def State.shiftE (s : State) (n : Nat) (e : Int) : State :=
  ((s.setS (Reg.LOOP_E3 n) (s.getS (Reg.LOOP_E2 n))).setS (Reg.LOOP_E2 n) (s.getS (Reg.LOOP_E1 n))).setS (Reg.LOOP_E1 n) e

/-- The u histories shift. -/
def State.shiftU (s : State) (n : Nat) (h : Int) : State :=
  ((s.setS (Reg.LOOP_U3 n) (s.getS (Reg.LOOP_U2 n))).setS (Reg.LOOP_U2 n) (s.getS (Reg.LOOP_U n))).setS (Reg.LOOP_U n) h

/-- E1 to E3 take an error; HYST keeps ST and CNT in E2 instead. -/
def State.setErrors (s : State) (n : Nat) (e : Int) : State :=
  let s := (s.setS (Reg.LOOP_E1 n) e).setS (Reg.LOOP_E3 n) e
  if cfgGet (s.loop n).cfg (Reg.LOOP_LAW 0) = 3 then s else s.setS (Reg.LOOP_E2 n) e

/-- Initialisation of the outputs (R252): U, U2 and U3 take U0, which stands as the last u issued. HYST starts with ST 0 and
CNT at MIN_OFF (R249). -/
def State.loopInitU (s : State) (n : Nat) : State :=
  let c := (s.loop n).cfg
  let (u0, s) := s.loopU0 n
  let u := min (max u0 (cfgS c (Reg.LOOP_U_MIN 0))) (cfgS c (Reg.LOOP_U_MAX 0))
  let s := ((s.setS (Reg.LOOP_U n) u).setS (Reg.LOOP_U2 n) u).setS (Reg.LOOP_U3 n) u
  let s := if cfgGet c (Reg.LOOP_LAW 0) = 3 then s.set (Reg.LOOP_E2 n) (getBits (cfgWord c (Reg.LOOP_A2 0)) 15 0) else s
  s.modLoop n (fun x => { x with init := false, issued := u })

/-- Initialisation where one is due (R252), in AUTO and in MAN. -/
def State.loopInit (s : State) (n : Nat) (e : Int) : State := if (s.loop n).init then (s.loopInitU n).setErrors n e else s

/-- The law of a slot in AUTO: the output before limiting, and what the law keeps (R248, R249). -/
def State.loopLaw (s : State) (n : Nat) (e : Int) : Int × State :=
  let c := (s.loop n).cfg
  let g := cfgS c
  let law := cfgGet c (Reg.LOOP_LAW 0)
  if law = 3 then
    let w := s.get (Reg.LOOP_E2 n)
    let st := bitOf w 31
    let cnt := w % 65536
    let minOn := getBits (cfgWord c (Reg.LOOP_A1 0)) 15 0
    let minOff := getBits (cfgWord c (Reg.LOOP_A2 0)) 15 0
    let off := st && decide (e ≤ - g (Reg.LOOP_B1 0)) && decide (minOn ≤ cnt)
    let on := !st && decide (g (Reg.LOOP_B0 0) ≤ e) && decide (minOff ≤ cnt)
    let st := if off then false else st || on
    let cnt := min 65535 ((if off || on then 0 else cnt) + 1)
    (if st then g (Reg.LOOP_B2 0) else g (Reg.LOOP_B3 0), s.set (Reg.LOOP_E2 n) (b2n st * 2 ^ 31 + cnt))
  else
    let acc := g (Reg.LOOP_B0 0) * e + g (Reg.LOOP_B1 0) * s.getS (Reg.LOOP_E1 n) + g (Reg.LOOP_B2 0) * s.getS (Reg.LOOP_E2 n)
      + g (Reg.LOOP_A1 0) * s.getS (Reg.LOOP_U n) + g (Reg.LOOP_A2 0) * s.getS (Reg.LOOP_U2 n)
    let acc := if law = 2 then acc + g (Reg.LOOP_B3 0) * s.getS (Reg.LOOP_E3 n) + g (Reg.LOOP_A3 0) * s.getS (Reg.LOOP_U3 n) else acc
    let v := divRoundEven acc 1073741824
    (sat32 v, s.loopSat (Reg.LOOP_SAT_ACC n) (sat32 v != v))

/-- A MODE_CMD is taken at the slot's sample (R251). -/
def State.loopTakeMode (s : State) (n : Nat) : State :=
  match (s.loop n).req with
  | none => s
  | some m =>
    let was := s.loopMode n
    let s := s.modLoop n (fun x => { x with req := none })
    if m = was then s
    else if m = LoopMode.OFF then (s.loopRelinquish n).set (Reg.LOOP_MODE n) m
    else
      let s := s.set (Reg.LOOP_MODE n) m
      if m = LoopMode.AUTO then
        s.modLoop n (fun x => { x with init := x.init || was == LoopMode.OFF, minit := true })
      else if was = LoopMode.AUTO then s.setLive (Reg.LOOP_U_MAN n) (s.loop n).issued else s

/-- The error of a sample, with SAT_ERR (R247). -/
def State.loopError (s : State) (n : Nat) (y r : Int) : Int × State :=
  let e := if cfgFlag (s.loop n).cfg (Reg.LOOP_REVERSE 0) then y - r else r - y
  (sat32 e, s.loopSat (Reg.LOOP_SAT_ERR n) (sat32 e != e))

/-- A sample in MAN issues U_MAN, limited, and both histories shift (R251). -/
def State.loopManual (s : State) (n : Nat) (e : Int) : Int × State :=
  let (m, s) := s.loopLive (Reg.LOOP_U_MAN n)
  let (u, s) := s.loopLimit n m
  let s := s.loopIssue n u Qual.GOOD
  let s := if cfgGet (s.loop n).cfg (Reg.LOOP_LAW 0) = 3 then s.setS (Reg.LOOP_E1 n) e else s.shiftE n e
  (u, s.shiftU n u)

/-- The supervisor of a sample; in MAN its model is not initialised, and a delay line never filled holds 0. -/
def State.loopSupervise (s : State) (n : Nat) (y u : Int) (bad : Bool) : State :=
  if cfgFlag (s.loop n).cfg (Reg.LOOP_SUP_EN 0) then
    (if (bad || s.loopMode n != LoopMode.AUTO) && (s.loop n).delay.isEmpty then s.modLoop n (fun x => { x with delay := List.replicate 64 0 }) else s).loopModel
      n y u bad
  else s

/-- A sample with a measurement or reference of quality COMM_FAIL or BAD (R253). In AUTO the histories hold; MAN goes on as in any
sample, with an error that is free where there is no value. -/
def State.loopBad (s : State) (n : Nat) (y r : Reading) : State :=
  let s := ((s.set (Reg.LOOP_EXC n) 0).setFlag (Reg.LOOP_IN_BAD n) true).irq Page.LPE Irq.LPE_IN_BAD
  let s := s.modLoop n (fun x => { x with wasBad := true })
  let s := if y.valued then s.setS (Reg.LOOP_Y n) y.val else s
  let (u, s) : Int × State :=
    if cfgGet (s.loop n).cfg (Reg.LOOP_LAW 0) = 0 then (s.getS (Reg.LOOP_U n), s)
    else
      let s := if (s.loop n).init then s.loopInitU n else s
      if s.loopMode n = LoopMode.MAN then
        let (e, s) := if y.valued && r.valued then s.loopError n y.val r.val else s.freeQ
        s.loopManual n e
      else ((s.loop n).issued, s.loopIssue n (s.loop n).issued Qual.UNCERTAIN)
  s.loopSupervise n (s.getS (Reg.LOOP_Y n)) u true

/-- A sample with both qualities GOOD or UNCERTAIN. -/
def State.loopGood (s : State) (n : Nat) (y : Int) (r : Int) (q : Nat) : State :=
  let c := (s.loop n).cfg
  let s := s.setS (Reg.LOOP_Y n) y
  let law := cfgGet c (Reg.LOOP_LAW 0)
  let (e, s) := if law = 0 then (0, s) else s.loopError n y r
  let auto := s.loopMode n == LoopMode.AUTO
  let s := if (s.loop n).wasBad then
      (if law = 0 then s else s.setErrors n e).modLoop n (fun x => { x with wasBad := false, minit := x.minit || auto })
    else s
  let s := if (s.loop n).wasTrip && !s.flag (Reg.LOOP_TRIP n) && auto then s.modLoop n (fun x => { x with minit := true }) else s
  let s := if law = 0 then s else s.loopInit n e
  let (u, s) : Int × State :=
    if law = 0 then (s.getS (Reg.LOOP_U n), s)
    else if auto then
      let (v, s) := s.loopLaw n e
      let (u, s) := s.loopLimit n v
      let s := s.loopIssue n u q
      let s := if law = 3 then s.setS (Reg.LOOP_E1 n) e else s.shiftE n e
      (u, s.shiftU n (if cfgFlag c (Reg.LOOP_HIST_RAW 0) && law != 3 then v else u))
    else s.loopManual n e
  let s := s.loopSupervise n y u false
  s.modLoop n (fun x => { x with wasTrip := s.flag (Reg.LOOP_TRIP n) })

/-- Cycles of a slot (R244). -/
def State.loopCost (s : State) (n : Nat) : Nat :=
  let c := (s.loop n).cfg
  let law := cfgGet c (Reg.LOOP_LAW 0)
  12 + (if law = 1 then 10 else if law = 2 then 14 else if law = 3 then 6 else 0) + (if law = 0 then 0 else 10)
    + (if cfgFlag c (Reg.LOOP_SUP_EN 0) then 10 else 0) + 4

/-- One due slot: its sample, and the cycles spent up to its end. -/
def State.loopSample (e : State × Nat) (n : Nat) : State × Nat :=
  let s := e.1.loopTakeMode n
  if s.loopMode n = LoopMode.OFF then (s, e.2)
  else match s.loopBroken n with
  | some key => (s.loopUe n key, e.2)
  | none =>
    let s := (loopCopied.map (loopMark n)).foldl State.correctAt s
    let t := e.2 + s.loopCost n
    let (y, s) := s.loopInput n
    let (r, s) := s.loopRef n
    let ym := y.getD ⟨s.getS (Reg.LOOP_Y n), Qual.GOOD, false, true⟩
    let q := max ym.qual r.qual
    let s := s.loopSat (Reg.LOOP_SAT_IN n) (ym.sat || r.sat)
    let s := if Qual.COMM_FAIL ≤ q then s.loopBad n ym r else s.loopGood n ym.val r.val q
    (s.set (Reg.LOOP_LAT_LAST n) (min 16383 t), t)

/-! ## The tick (R241 to R244) -/

/-- Whether an applied change re-initialises the slot (R242). -/
def reInits (old new : List Word) : Bool :=
  [Reg.LOOP_LAW 0, Reg.LOOP_REVERSE 0, Reg.LOOP_PERIOD 0, Reg.LOOP_IN_KIND 0, Reg.LOOP_IN_INDEX 0, Reg.LOOP_MU_KIND 0, Reg.LOOP_MU_INDEX 0,
    Reg.LOOP_DEAD 0].any (fun f => cfgGet old f != cfgGet new f)

/-- A slot takes an applied configuration (R241, R242, R252). One that leaves AUTO for MAN keeps its output (R251). An APPLY
in AUTO that changes none of the fields of R242 keeps every history (log entry 94). -/
def State.loopTake (s : State) (n : Nat) : State :=
  match (s.loop n).take with
  | none => s
  | some (tag, ws) =>
    let x := s.loop n
    let was := s.loopMode n
    let re := !x.applied || reInits x.cfg ws
    let mode := cfgGet ws (Reg.LOOP_INIT_MODE 0)
    let s := if mode = LoopMode.OFF ∧ was ≠ LoopMode.OFF then s.loopRelinquish n else s
    let s := s.modLoop n (fun x => { x with
      cfg := ws, applied := true, take := none, init := x.init || re || (was != LoopMode.AUTO && mode == LoopMode.AUTO)
      minit := x.minit || cfgFlag ws (Reg.LOOP_SUP_EN 0) || re })
    let s := if was = LoopMode.AUTO ∧ mode = LoopMode.MAN then s.setLive (Reg.LOOP_U_MAN n) x.issued else s
    let s := ((s.loopCopyEcc n).set (Reg.LOOP_TAG n) tag).loopModeBy n mode
    s.irq Page.LPE Irq.LPE_APPLIED

/-- Due slots in order of execution: ascending ORDER, and within it ascending number. -/
def State.loopsDue (s : State) (j : Nat) : List Nat :=
  let due := (KV.keys s.loops).filter (fun n =>
    let c := (s.loop n).cfg
    (s.loop n).applied && (s.loopMode n != 0 || (s.loop n).req.isSome)
      && decide (((j : Int) - cfgGet c (Reg.LOOP_OFFSET 0)) % (max 1 (cfgGet c (Reg.LOOP_PERIOD 0)) : Nat) = 0))
  (List.range 8).flatMap (fun o => due.filter (fun n => cfgGet (s.loop n).cfg (Reg.LOOP_ORDER 0) == o))

/-- The load of the active slots as a fraction: Σ C_s / (PERIOD_s × 20 000), added to another fraction. -/
def State.loopLoadAdd (s : State) (f : Nat × Nat) : Nat × Nat :=
  s.loopsOn.foldl (fun (a : Nat × Nat) n =>
    let d := max 1 (cfgGet (s.loop n).cfg (Reg.LOOP_PERIOD 0)) * 20000
    let num := a.1 * d + s.loopCost n * a.2
    let g := max 1 (Nat.gcd num (a.2 * d))
    (num / g, a.2 * d / g)) f

/-- LOAD.LOAD_PM over the last 20 000 ticks. -/
def State.loopLoadTick (s : State) : State :=
  let f := s.loopLoadAdd s.loopLoad
  if s.loopTicks + 1 < 20000 then { s with loopTicks := s.loopTicks + 1, loopLoad := f }
  else
    let (q, s) := s.quot ((f.1 : Int) * 1000) (f.2 * 20000)
    { (s.set Reg.LPE_LOAD_PM (min 65535 q.toNat)) with loopTicks := 0, loopLoad := (0, 1) }

/-- LOOP_TICK: every due slot runs its sample in order; `extra` cycles are those of snapshot firings and corrected
errors (R244). -/
def loopTick (extra : Nat) (s : State) : State :=
  if !s.flag (Reg.HDR_ENABLE Page.LPE) then s
  else
    let s := (KV.keys s.loops).foldl State.loopTake s
    let j := s.tai / 50000
    let (s, t) := (s.loopsDue j).foldl State.loopSample (s, 40)
    let s := (s.raiseTo Reg.LPE_TICK_MAX (t + extra)).setW Reg.LPE_TICK_CNT (s.getW Reg.LPE_TICK_CNT + 1)
    s.loopLoadTick

def execLoopTick (extra : Nat) (s : State) : Out State := .next (loopTick extra s)

/-! ## APPLY (R241) -/

/-- The destination of a configuration: none, a point, a slot, a channel. -/
def loopDest (c : List Word) : Option (Nat × Nat) :=
  match cfgGet c (Reg.LOOP_OUT_KIND 0) with
  | 1 | 2 => some (1, cfgGet c (Reg.LOOP_OUT_INDEX 0))
  | 3 => some (3, cfgGet c (Reg.LOOP_OUT_INDEX 0))
  | 4 => some (4, cfgGet c (Reg.LOOP_OUT_INDEX 0))
  | _ => none

/-- Whether a point is bound to a channel with SAFETY set. -/
def State.pointSafety (s : State) (p : Nat) : Bool :=
  let k := s.get (Reg.PT_TARGET p) % 256
  s.get (Reg.PT_BIND p) == 1 && s.flag (Reg.TILE_SAFETY (k / 32) (k % 32))

/-- The configuration and mode that a slot has, or will have when the slots of a group take theirs. -/
def State.loopAfter (s : State) (group : List Nat) (n : Nat) : List Word × Nat :=
  if group.contains n then (let w := s.loopWords n; (w, cfgGet w (Reg.LOOP_INIT_MODE 0))) else ((s.loop n).cfg, s.loopMode n)

/-- The first check that a slot fails, 0 where it passes, for the slots applied together and the requester's tag. -/
def State.loopCheck (s : State) (group : List Nat) (tag n : Nat) : Nat :=
  let c := s.loopWords n
  let law := cfgGet c (Reg.LOOP_LAW 0)
  let act := cfgGet c (Reg.LOOP_TRIP_ACT 0)
  let sup := cfgFlag c (Reg.LOOP_SUP_EN 0)
  let ik := cfgGet c (Reg.LOOP_IN_KIND 0)
  let ii := cfgGet c (Reg.LOOP_IN_INDEX 0)
  let rk := cfgGet c (Reg.LOOP_REF_KIND 0)
  let ok := cfgGet c (Reg.LOOP_OUT_KIND 0)
  let oi := cfgGet c (Reg.LOOP_OUT_INDEX 0)
  let mk := cfgGet c (Reg.LOOP_MU_KIND 0)
  let mi := cfgGet c (Reg.LOOP_MU_INDEX 0)
  let per := cfgGet c (Reg.LOOP_PERIOD 0)
  let cr : Creds := ⟨tag, 5, cfgGet c (Reg.LOOP_PRIO 0) + 1⟩
  let axis := fun (i : Nat) => decide (8 ≤ i) && decide (i ≤ 15)
  let src := ([if ik = 1 ∨ ik = 2 then [ii] else [], if rk = 1 ∨ rk = 2 then [cfgGet c (Reg.LOOP_REF_INDEX 0)] else [], if mk = 2 then [mi] else []] : List (List Nat)).flatten
  let others := (List.range 256).filter (fun m => m != n)
  if 4 ≤ law ∨ cfgGet c (Reg.LOOP_INIT_MODE 0) = 3 ∨ (law = 0 ∧ (sup = false ∨ ok ≠ 0 ∨ act = 1)) then 1
  else if per = 0 ∨ 200000 < per ∨ min per 4096 ≤ cfgGet c (Reg.LOOP_OFFSET 0) then 2
  else if 4 ≤ ik ∨ 3 ≤ rk ∨ 5 ≤ ok ∨ 3 ≤ mk ∨ act = 3 ∨ (law ≠ 0 ∧ ik = 0) ∨ (ik = 3 ∧ axis ii = false) ∨ (mk = 1 ∧ axis mi = false)
      ∨ (act = 2 ∧ ik ≠ 3 ∧ mk ≠ 1) then 3
  else if src.any (fun p => !s.mayReadPoint cr p) || ((ok == 1 || ok == 2) && (!s.mayWritePoint cr oi || s.pointSafety oi)) then 4
  else if (loopDest c).isSome && others.any (fun m => let a := s.loopAfter group m; a.2 != 0 && loopDest a.1 == loopDest c) then 5
  else if ok = 3 ∧ (256 ≤ oi ∨ oi = n ∨ cfgGet (s.loopAfter group oi).1 (Reg.LOOP_REF_KIND 0) ≠ 0) then 5
  else if ok = 4 ∧ (256 ≤ oi ∨ getBits (s.word (chCfgAddr (oi / 32) (oi % 32))) 31 28 ≠ ChMode.FAST ∨ getBits (s.word (chCfgAddr (oi / 32) (oi % 32))) 13 12 ≠ 1) then 5
  else if cfgS c (Reg.LOOP_U_MAX 0) < cfgS c (Reg.LOOP_U_MIN 0) ∨ (law = 3 ∧ (cfgS c (Reg.LOOP_B0 0) < 0 ∨ cfgS c (Reg.LOOP_B1 0) < 0))
      ∨ cfgS c (Reg.LOOP_MDL_ALPHA 0) < 0 ∨ 1073741824 < cfgS c (Reg.LOOP_MDL_ALPHA 0) ∨ cfgS c (Reg.LOOP_MDL_BAND 0) < 0
      ∨ ([Reg.LOOP_IN_SCALE 0, Reg.LOOP_IN_OFS 0, Reg.LOOP_OUT_SCALE 0, Reg.LOOP_OUT_OFS 0].any (fun f => (fexact (cfgWord c f)).isNone)) = true then 6
  else 0

/-- A failed check. -/
def State.applyFailed (s : State) (n code : Nat) : State :=
  (((s.set Reg.LPE_CFG_ERR_CODE code).set Reg.LPE_CFG_ERR_SLOT n).err Page.LPE Err.LPE_CFG_INVALID).answer Status.E_STATE []

/-- The slots are checked, and taken at the next tick where every check passes. -/
def State.applySlots (s : State) (tag : Nat) (l : List Nat) : Bool × State :=
  match l.find? (fun n => s.loopCheck l tag n != 0) with
  | some n => (false, s.applyFailed n (s.loopCheck l tag n))
  | none => (true, (l.foldl (fun (s : State) n => let w := s.loopWords n; s.modLoop n (fun x => { x with take := some (tag, w) })) s).answer Status.OK [])

/-- The slots marked in APPLY_MAP. -/
def State.applyMarked (s : State) : List Nat := (List.range 256).filter (fun n => s.getBit (Reg.LPE_APPLY_MAP (n / 32)) (n % 32))

/-- A write of APPLY. -/
def applyWrite (r : Requester) (n : Nat) (mark group : Bool) (s : State) : State :=
  let tag := (s.creds r).tag
  if group then
    let (ok, s) := s.applySlots tag s.applyMarked
    if ok then foldN 8 (fun w s => s.set (Reg.LPE_APPLY_MAP w) 0) s else s
  else if mark then (s.setBit (Reg.LPE_APPLY_MAP (n / 32)) (n % 32) true).answer Status.OK []
  else (s.applySlots tag [n]).2

def execApply (r : Requester) (n : Fin 256) (s : State) : Out State := .next (applyWrite r n false false s)
def execApplyMark (r : Requester) (n : Fin 256) (s : State) : Out State := .next (applyWrite r n true false s)
def execApplyGroup (r : Requester) (s : State) : Out State := .next (applyWrite r 0 false true s)

/-- A write of MODE_CMD (R242): refused for a slot never applied, out of OFF where another active slot has the same
output, for MAN of LAW NONE, and for mode 3. -/
def modeCmd (n m : Nat) (s : State) : State :=
  let x := s.loop n
  let clash := s.loopMode n == 0 && m != 0 && (loopDest x.cfg).isSome
    && s.loopsOn.any (fun k => k != n && loopDest (s.loop k).cfg == loopDest x.cfg)
  if !x.applied || clash || (m == 1 && cfgGet x.cfg (Reg.LOOP_LAW 0) == 0) || m == 3 then s.err Page.LPE Err.LPE_MODE_REFUSED
  else s.modLoop n (fun x => { x with req := some m })

def execModeCmdOff (n : Fin 256) (s : State) : Out State := .next (modeCmd n 0 s)
def execModeCmdMan (n : Fin 256) (s : State) : Out State := .next (modeCmd n 1 s)
def execModeCmdAuto (n : Fin 256) (s : State) : Out State := .next (modeCmd n 2 s)

end Sys2Proof.Machine
end

