-- ==== Sys2Proof/Machine/LiftPos.lean ====
section
/-! DEFINITION. Cars: position, the landing table, door zones and car commands (R282 to R293, R297). -/

namespace Sys2Proof.Machine

/-! ## Landings -/

/-- Landing `l` is served by car `n` (SERVE). -/
def State.serves (s : State) (n l : Nat) : Bool := decide (l < s.get Reg.LFT_N_LAND) && s.getBit (Reg.CAR_SERVE n (l / 32)) (l % 32)

/-- Landing `l` is served by car `n` on a side. -/
def State.servesSide (s : State) (n l : Nat) (rear : Bool) : Bool :=
  s.serves n l && (if rear then s.flag (Reg.CAR_LEVEL_REAR n l) else s.flag (Reg.CAR_LEVEL_FRONT n l))

/-- The landings that a car serves, rising. -/
def State.landings (s : State) (n : Nat) : List Nat := (List.range 160).filter (s.serves n)

/-- LEVEL of a landing. -/
def State.level (s : State) (n l : Nat) : Int := s.getS (Reg.CAR_LEVEL n l)

/-- The computed door zone of a landing, half open (R290). -/
def State.inZone (s : State) (n l : Nat) (p : Int) : Bool :=
  decide (s.level n l - s.get (Reg.CAR_DZ_DOWN n) ≤ p) && decide (p < s.level n l + s.get (Reg.CAR_DZ_UP n))

/-- A car command that is refused (R306). -/
def State.carRefuse (s : State) (n : Nat) : State := (s.err (Page.CAR n) Err.CAR_CMD_REFUSED).answer Status.E_STATE []

/-- Keep a configuration word in the configuration store. -/
def State.storeCfg (s : State) (a : Nat) : State := { s with cfgStore := KV.put s.cfgStore a (s.word a) }

/-- The group moves a car to a position at a speed. -/
def State.moveCar (s : State) (n v : Nat) (p : Int) : State := targetChange n (p * 65536) (s.holdSpeed n v)

/-- The car's axis is stopped under R274, where it moves; a quick stop takes the place of a stop under way. -/
def State.stopCar (s : State) (n : Nat) (quick : Bool) : State :=
  if (s.canStop n && (quick || s.get (Reg.AXIS_STATE n) != AxState.STOPPING)) || (s.axis n).newTarget then
    s.modAxis n (fun x => { x with stop := some quick, newTarget := false }) else s

/-! ## Position (R283 to R285) -/

/-- Gray decoding of a word of 32 bits. -/
def grayDecode (g : Nat) : Nat :=
  let a := g ^^^ (g / 2 ^ 16)
  let a := a ^^^ (a / 2 ^ 8)
  let a := a ^^^ (a / 2 ^ 4)
  let a := a ^^^ (a / 2 ^ 2)
  a ^^^ (a / 2)

/-- The raw count of a reading and whether it is bad by its source; none where the encoder kind does not match. -/
def EncPath.read (k : EncPath) (r : PosRead) : Option (Int × Bool) :=
  match r with
  | .ssi w err idle =>
    if k.kind = 1 then
      let w := w % 2 ^ (k.bits + 1)
      some (((if k.gray then grayDecode w else w : Nat) : Int), (k.err && err) || !idle)
    else none
  | .quad c jump => if k.kind = 2 then some (toSigned 64 c.toNat, jump) else none

/-- A reading of a car's input under the settings of its page. -/
def State.rawRead (s : State) (n : Nat) (r : PosRead) : Option (Int × Bool) := (s.encPath n).read r

/-- position of R283. -/
def State.decodePos (s : State) (n : Nat) (raw : Int) : Int :=
  let p := divRoundEven (raw * s.get (Reg.CAR_ENC_SCALE n)) 65536
  let v := s.getS (Reg.CAR_ENC_OFS n) + (if s.flag (Reg.CAR_DIR_INV n) then -p else p)
  toSigned 32 (ofSigned 32 v)

/-- POS_VALID is lost (R284). -/
def State.posLost (s : State) (n : Nat) : State :=
  let s := (s.setFlag (Reg.CAR_POS_VALID n) false).irq (Page.CAR n) Irq.CAR_POS_LOST
  ((s.setCarFault n CarFault.POS_LOST).stopCar n true).record sevFault (Page.CAR n) 1 0 []

/-- Whether a car whose position is not valid may become so after its last good samples: 64 in a row after a loss, 8
after a release for SSI, at once for quadrature. -/
def State.posBack (s : State) (n : Nat) : Bool :=
  let c := s.car n
  if s.get (Reg.CAR_ENC n) = 2 then decide (0 < c.good)
  else decide ((if c.faults.contains CarFault.POS_LOST then 64 else 8) ≤ c.good)

/-- The registers that follow a new position: POS, IN_DZ, LANDING and ACT_POS of the car's axis. -/
def State.showPos (s : State) (n : Nat) (p : Int) : State :=
  let old := s.getS (Reg.CAR_POS n)
  let s := s.setS (Reg.CAR_POS n) p
  let ls := s.landings n
  let s := s.setFlag (Reg.CAR_IN_DZ n) (ls.any (fun l => s.inZone n l p))
  let passed := ls.filter (fun l => (decide (old < s.level n l) && decide (s.level n l ≤ p)) || (decide (s.level n l < old) && decide (p ≤ s.level n l)))
  let s := if !s.flag (Reg.CAR_LEARNED n) then s.set (Reg.CAR_LANDING n) 0xFF
    else match (if old < p then passed.getLast? else passed.head?) with
    | some l => s.set (Reg.CAR_LANDING n) l
    | none => s
  let tOld := s.unow - 125000
  measureCar n old p tOld (s.setWS (Reg.AXIS_ACT_POS n) (p * 65536))

/-- One sample of one car as the lift group takes it. A twin's own reading goes to the next round (R448). -/
def State.groupSample (s : State) (n : Nat) (raw : Int) (srcBad : Bool) : State :=
  if s.sysHeld || !s.carPresent n then s
  else
    let c := s.car n
    let p := s.decodePos n raw
    let jump := match c.hist.head? with | some q => decide (s.get (Reg.CAR_MAX_STEP n) < (p - q).natAbs) | none => false
    let bad := srcBad || jump
    let last := c.hist.headD p
    let (d, s) := if bad then s.quot (s.getS (Reg.CAR_VEL n)) 2048000 else (0, s)
    let p := if bad then last + d else p
    let s := if bad then s.bump (Reg.CAR_ENC_ERR n) else s
    let s := s.modCar n (fun c => { c with hist := (p :: c.hist).take 9, bad := if bad then c.bad + 1 else 0, good := if bad then 0 else c.good + 1 })
    let h := (s.car n).hist
    let s := s.setS (Reg.CAR_VEL n) (if h.length = 9 then (p - h.getLast?.getD p) * 256000 else 0)
    let s := s.setW (Reg.CAR_POS_TS n) s.tai
    let was := s.flag (Reg.CAR_POS_VALID n)
    let lost := decide (2 ≤ (s.car n).bad)
    let valid := if lost then false else was || s.posBack n
    if s.inPair then
      { s with twin := { s.twin with carOwn := KV.put s.twin.carOwn n (BitVec.ofNat 32 (ofSigned 32 p), valid) } }
    else
      let s := if (s.car n).bad = 2 || (lost && was) then s.posLost n else s
      let s := if valid && !was then
          (s.setFlag (Reg.CAR_POS_VALID n) true).setFlag (Reg.CAR_REF_NEEDED n) (s.flag (Reg.CAR_REF_NEEDED n) || s.get (Reg.CAR_ENC n) == 2)
        else s
      s.showPos n p

/-- One sample of one car, as the lift group and, on its own read path, Stirrup take it. -/
def State.posSample (s : State) (n : Nat) (r : PosRead) : State :=
  let s := match s.rawRead n r with
    | some (raw, srcBad) => s.groupSample n raw srcBad
    | none => s
  match (s.safPath n).read r with
  | some (raw, srcBad) => s.safSample n raw srcBad
  | none => s

/-- POSITION_SAMPLE. -/
def execPositionSample (reads : List (Fin 8 × PosRead)) (s : State) : Out State :=
  .next ((reads.foldl (fun (s : State) (e : Fin 8 × PosRead) => s.posSample e.1 e.2) s).showCarValid)

/-- Positions agreed in a round take effect as a sample does; a quadrature position that returns needs a reference (R284). -/
def State.roundPos (was : List (Int × Bool)) (n : Nat) (s : State) : State :=
  if !s.carPresent n then s
  else
    let o := was.getD n (0, false)
    let p := s.getS (Reg.CAR_POS n)
    let s := (s.setS (Reg.CAR_POS n) o.1).showPos n p
    let v := s.flag (Reg.CAR_POS_VALID n)
    if o.2 && !v then s.posLost n
    else if !o.2 && v && s.get (Reg.CAR_ENC n) == 2 then s.setFlag (Reg.CAR_REF_NEEDED n) true
    else s

/-! ## Shifting a car's coordinate (R287, R288) -/

/-- Positions, plan and origin of a car are shifted by one constant. -/
def State.shiftCar (s : State) (n : Nat) (d : Int) : State :=
  let s := s.setS (Reg.CAR_ENC_OFS n) (s.getS (Reg.CAR_ENC_OFS n) + d)
  let s := s.storeCfg (Reg.CAR_ENC_OFS n).addr
  let s := s.modCar n (fun c => { c with hist := c.hist.map (· + d) })
  let s := s.modAxis n (fun x => { x with
    base := x.base + d * 65536
    plan := x.plan.map (fun (g : Seg) => { g with p0 := g.p0 + d * 65536, p1 := g.p1 + d * 65536 }) })
  let s := s.setWS (Reg.AXIS_SP_POS n) (s.getWS (Reg.AXIS_SP_POS n) + d * 65536)
  let p := s.getS (Reg.CAR_POS n) + d
  (s.setS (Reg.CAR_POS n) p).setWS (Reg.AXIS_ACT_POS n) (p * 65536)

/-! ## Door zones (R286, R288, R290) -/

/-- The position of the car at an instant, interpolated between samples. -/
def State.posAt (s : State) (n : Nat) (t : Int) : Int × State :=
  let h := (s.car n).hist
  let t0 : Int := s.getW (Reg.CAR_POS_TS n)
  if t0 ≤ t then (h.headD 0, s)
  else
    let k := ((t0 - t) / 125000).toNat
    let new := h.getD k (h.getLast?.getD 0)
    let old := h.getD (k + 1) (h.getLast?.getD 0)
    let (d, s) := s.quot ((new - old) * (t - (t0 - ((k : Int) + 1) * 125000))) 125000
    (old + d, s)

/-- An edge of the door-zone input during a learn or reference run: it lies 125 µs before its first new sample. -/
def State.zoneEdge (s : State) (n : Nat) (level : Bool) (ts : Nat) : State :=
  let (p, s) := s.posAt n ((ts : Int) - 125000)
  let c := s.car n
  match c.learn with
  | some r =>
    if level then s.modCar n (fun c => { c with learn := some { r with lower := some p } })
    else
      -- the lowest zone has no lower edge met, as the run begins inside it: a free value (log entry 26)
      let (v, s) := s.fresh
      let lo := r.lower.getD (r.start - (v : Int))
      let zones := r.zones ++ [(lo, p)]
      let s := s.modCar n (fun c => { c with learn := some { r with zones := zones, lower := none } })
      if zones.length = (s.landings n).length then
        let (m, s) := s.quot (lo + p) 2
        s.moveCar n (s.get (Reg.CAR_LEARN_V n)) m
      else s
  | none =>
    match c.refer with
    | some l =>
      let (h, s) := s.quot (s.get (Reg.CAR_DZ_WIDTH n l)) 2
      let want := if level then s.level n l + h else s.level n l - h
      let s := s.shiftCar n (want - p)
      let s := (s.modCar n (fun c => { c with refer := none })).setFlag (Reg.CAR_REF_NEEDED n) false
      s.moveCar n (s.get (Reg.CAR_LEARN_V n)) (s.level n l)
    | none => s

/-- Whether the input disagrees with the learned zones at the present position: each range is half-open (R13, R290). -/
def State.zoneDiffers (s : State) (n : Nat) : Bool :=
  let p := s.getS (Reg.CAR_POS n)
  let near := fun (l : Nat) (m : Int) =>
    let w := (s.get (Reg.CAR_DZ_WIDTH n l) : Int) + 2 * m
    decide (-w ≤ 2 * (p - s.level n l)) && decide (2 * (p - s.level n l) < w)
  if s.flag (Reg.CAR_DZ_IN n) then (s.landings n).all (fun l => !near l 400) else (s.landings n).any (fun l => near l (-400))

/-- A frame from the door-zone input's tile reaches the group: its edges, and its sample where it carries one (R290). -/
def State.zoneSample (sampled : Bool) (n : Nat) (s : State) : State :=
  if !s.carPresent n then s
  else
    let s := s.setFlag (Reg.CAR_DZ_IN n) (s.chanIn (s.get (Reg.CAR_DZ_CH n)))
    let es := (s.car n).dzEdge
    let s := es.foldl (fun (s : State) (e : Bool × Nat) => s.zoneEdge n e.1 e.2) (s.modCar n (fun c => { c with dzEdge := [] }))
    if !sampled || !s.flag (Reg.CAR_LEARNED n) || !s.flag (Reg.CAR_POS_VALID n) || s.flag (Reg.CAR_REF_NEEDED n) then s
    else
      let bad := s.zoneDiffers n
      let s := s.modCar n (fun c => { c with dzRun := if bad then c.dzRun + 1 else 0 })
      if (s.car n).dzRun = 4 then
        let s := s.modCar n (fun c => { c with dzNext := c.at_.isNone && s.get (Reg.CAR_MODE n) == CarMode.NORMAL })
        s.setCarFault n CarFault.DZ_MISMATCH
      else s

/-- UPLINK_FRAME: what it brings also reaches the doors and the group. -/
def execUplinkFrame (t : Fin 8) (l : Lan) (rx : FrameRx) (s : State) : Out State :=
  let s := uplinkFrame t l rx s
  let good := match rx with | .good | .repeated => true | _ => false
  .next (if good && !s.sysHeld then
    let sampled := (s.tile t).sampled
    foldN 8 (fun n s =>
      let s := if s.get (Reg.CAR_REV_CH n) / 32 = t then s.doorInputs n else s
      if s.get (Reg.CAR_DZ_CH n) / 32 = t then s.zoneSample sampled n else s) (s.modTile t (fun x => { x with sampled := false }))
  else s)

/-! ## Learn and reference runs (R286 to R288) -/

/-- CMD LEARN. -/
def carLearn (n : Nat) (s : State) : State :=
  let low := (s.landings n).headD 0
  let inLow := !s.flag (Reg.CAR_LEVEL_VALID n low) || s.inZone n low (s.getS (Reg.CAR_POS n))
  if s.get (Reg.CAR_MODE n) = CarMode.OUT_OF_SERVICE ∧ s.get (Reg.AXIS_STATE n) = AxState.STANDSTILL ∧ s.closedLocked n = true
      ∧ s.flag (Reg.CAR_POS_VALID n) = true ∧ s.flag (Reg.CAR_DZ_IN n) = true ∧ inLow = true ∧ s.get (Reg.CAR_LEARN_ST n) ≠ 1 then
    let p := s.getS (Reg.CAR_POS n)
    let s := (s.set (Reg.CAR_LEARN_ST n) 1).modCar n (fun c => { c with learn := some ⟨p, [], none⟩, dzEdge := [] })
    (s.moveCar n (s.get (Reg.CAR_LEARN_V n)) (p + 20000000)).answer Status.OK []
  else s.carRefuse n

/-- The middle of a sorted list, twice over. -/
def median2 (l : List Nat) : Nat :=
  let l := l.mergeSort (fun a b => decide (a ≤ b))
  l.getD (l.length / 2) 0 + l.getD ((l.length - 1) / 2) 0

/-- The checks of a learned table: zone count, rising levels, widths. -/
def learnHolds (count : Nat) (zones : List (Int × Int)) : Bool :=
  let lv := zones.map (fun z => z.1 + z.2)
  let ws := zones.map (fun z => (z.2 - z.1).toNat)
  let m := median2 ws
  zones.length == count && (lv.zip (lv.drop 1)).all (fun e => decide (e.1 + 40000 ≤ e.2)) && ws.all (fun w => decide (m ≤ 4 * w) && decide (4 * w ≤ 3 * m))

/-- LEARN_RUN_END. -/
def execLearnRunEnd (n : Fin 8) (s : State) : Out State :=
  .next (match (s.car n).learn with
  | none => s
  | some r =>
    let ls := s.landings n
    let s := (s.modCar n (fun c => { c with learn := none })).releaseSpeed n
    if learnHolds ls.length r.zones && s.axisRests n && s.get (Reg.AXIS_STATE n) != AxState.FAULT then
      let old := ls.foldr (fun l a => ((Reg.CAR_LEVEL n l).addr, s.word (Reg.CAR_LEVEL n l).addr) :: ((Reg.CAR_DZ_WIDTH n l).addr, s.word (Reg.CAR_DZ_WIDTH n l).addr) :: a) []
      let s := s.modCar n (fun c => { c with before := old })
      let s := (ls.zip r.zones).foldl (fun (s : State) (e : Nat × Int × Int) =>
        let (m, s) := s.quot (e.2.1 + e.2.2) 2
        ((s.setS (Reg.CAR_LEVEL n e.1) m).set (Reg.CAR_DZ_WIDTH n e.1) (e.2.2 - e.2.1).toNat).setFlag (Reg.CAR_LEVEL_STAGED n e.1) true) s
      (s.set (Reg.CAR_LEARN_ST n) 2).irq (Page.CAR n) Irq.CAR_LEARN_DONE
    else ((s.set (Reg.CAR_LEARN_ST n) 3).stopCar n false).irq (Page.CAR n) Irq.CAR_LEARN_DONE)

/-- CMD LEARN_ACCEPT. -/
def carLearnAccept (n : Nat) (s : State) : State :=
  if s.get (Reg.CAR_LEARN_ST n) ≠ 2 then s.carRefuse n
  else
    let ls := s.landings n
    let s := if s.get (Reg.CAR_ENC n) = 2 then
        let d := -(s.level n (ls.headD 0))
        let s := s.shiftCar n d
        ((List.range 160).foldl (fun (s : State) l => (s.setS (Reg.CAR_LEVEL n l) (s.level n l + d)).storeCfg (Reg.CAR_LEVEL n l).addr) s).setFlag
          (Reg.CAR_REF_NEEDED n) false
      else s
    let s := ls.foldl (fun (s : State) l =>
      ((((s.setFlag (Reg.CAR_LEVEL_VALID n l) true).setFlag (Reg.CAR_LEVEL_STAGED n l) false).storeCfg (Reg.CAR_LEVEL n l).addr).storeCfg (Reg.CAR_DZ_WIDTH n l).addr)) s
    let s := { s with cfgStore := KV.put s.cfgStore (Reg.CAR_LEARNED n).addr 0x01000000 }
    (((s.set (Reg.CAR_LEARN_ST n) 0).setFlag (Reg.CAR_LEARNED n) true).modCar n (fun c => { c with before := [] })).answer Status.OK []

/-- CMD LEARN_ABORT: a run under way ends too. -/
def carLearnAbort (n : Nat) (s : State) : State :=
  let st := s.get (Reg.CAR_LEARN_ST n)
  if st = 1 then
    (((s.modCar n (fun c => { c with learn := none })).stopCar n false).releaseSpeed n |>.set (Reg.CAR_LEARN_ST n) 0).answer Status.OK []
  else if st = 2 then
    let s := (s.car n).before.foldl (fun (s : State) (e : Nat × Word) => s.setWord e.1 e.2) s
    ((s.set (Reg.CAR_LEARN_ST n) 0).modCar n (fun c => { c with before := [] })).answer Status.OK []
  else s.carRefuse n

/-- CMD REFERENCE: towards the nearest landing below, or the lowest. -/
def carReference (n : Nat) (s : State) : State :=
  if s.get (Reg.CAR_ENC n) = 2 ∧ s.get (Reg.CAR_MODE n) = CarMode.OUT_OF_SERVICE ∧ s.closedLocked n = true then
    let p := s.getS (Reg.CAR_POS n)
    let ls := s.landings n
    let l := ((ls.filter (fun l => decide (s.level n l < p))).getLast?).getD (ls.headD 0)
    let s := s.modCar n (fun c => { c with refer := some l, dzEdge := [] })
    (s.moveCar n (s.get (Reg.CAR_LEARN_V n)) (s.level n l - s.get (Reg.CAR_DZ_WIDTH n l))).answer Status.OK []
  else s.carRefuse n

/-! ## Modes by command (R291, R324) -/

/-- Whether the cause of a door fault is gone: an axis fault has been cleared; a door that a reset found open outside its zone
is closed or in it; the others end with the move that raised them (R324). -/
def State.doorCauseGone (s : State) (n : Nat) : Bool :=
  let c := s.get (Reg.CAR_DOOR_FAULT n)
  if c = 6 then s.get (Reg.AXIS_STATE (8 + n)) != AxState.FAULT
  else if c = 5 then (s.nearClosed n && s.closedLocked n) || s.flag (Reg.CAR_IN_DZ n)
  else true

/-- CMD RETURN: OOS_ON is withdrawn, and each fault whose cause is gone is cleared. -/
def carReturn (n : Nat) (s : State) : State :=
  let s := s.modCar n (fun c => { c with oos := false })
  let clr := fun (a : Nat) (s : State) => if s.get (Reg.AXIS_STATE a) = AxState.FAULT ∧ s.causeGone a = true ∧ (s.axis a).stopping = false then axisCmd a 6 s else s
  let s := clr (8 + n) (clr n s)
  let s := if s.flag (Reg.CAR_POS_VALID n) then s.clearCarFault n CarFault.POS_LOST else s
  let s := if (s.car n).dzRun = 0 then (s.clearCarFault n CarFault.DZ_MISMATCH).modCar n (fun c => { c with dzNext := false }) else s
  let free := s.get (Reg.AXIS_STATE n) != AxState.FAULT && s.get (Reg.AXIS_STATE (8 + n)) != AxState.FAULT
  let s := if s.get (Reg.CAR_DOOR_FAULT n) ≠ 0 ∧ s.doorCauseGone n = true then
      let s := if s.get (Reg.CAR_DOOR_STATE n) = DoorState.FAULT then s.setDoorState n DoorState.STOPPED else s
      (s.set (Reg.CAR_DOOR_FAULT n) 0).clearCarFault n CarFault.DOOR
    else s
  let s := if free then (s.clearCarFault n CarFault.SAFETY).clearCarFault n CarFault.AXIS else s
  s.answer Status.OK []

/-- A command of CAR.CMD. -/
def carCmd (n c : Nat) (s : State) : State :=
  if !s.carPresent n then s.answer Status.E_STATE []
  else if c = 0 then s.answer Status.OK []
  else if c = 1 then carLearn n s
  else if c = 2 then carLearnAccept n s
  else if c = 3 then carLearnAbort n s
  else if c = 4 then carReference n s
  else if c = 5 then (s.modCar n (fun c => { c with oos := true })).answer Status.OK []
  else if c = 6 then carReturn n s
  else if c = 7 then (s.modCar n (fun c => { c with ind := true })).answer Status.OK []
  else if c = 8 then (s.modCar n (fun c => { c with ind := false })).answer Status.OK []
  else s.carRefuse n

def execCarCmdLearn (n : Fin 8) (s : State) : Out State := .next (carCmd n 1 s)
def execCarCmdLearnAccept (n : Fin 8) (s : State) : Out State := .next (carCmd n 2 s)
def execCarCmdLearnAbort (n : Fin 8) (s : State) : Out State := .next (carCmd n 3 s)
def execCarCmdReference (n : Fin 8) (s : State) : Out State := .next (carCmd n 4 s)
def execCarCmdOosOn (n : Fin 8) (s : State) : Out State := .next (carCmd n 5 s)
def execCarCmdReturn (n : Fin 8) (s : State) : Out State := .next (carCmd n 6 s)
def execCarCmdIndOn (n : Fin 8) (s : State) : Out State := .next (carCmd n 7 s)
def execCarCmdIndOff (n : Fin 8) (s : State) : Out State := .next (carCmd n 8 s)

/-! ## Host moves (R293) -/

/-- Whether the host may move a car's axis: the car is OUT_OF_SERVICE with HOST_MOVE set. -/
def State.hostMoves (s : State) (n : Nat) : Bool :=
  decide (n < 8) && s.get (Reg.CAR_MODE n) == CarMode.OUT_OF_SERVICE && s.flag (Reg.CAR_HOST_MOVE n)

/-- Whether an axis belongs to a car of the group. -/
def State.carAxis (s : State) (n : Nat) : Bool := decide (n < 16) && s.carPresent (n % 8)

/-- A host's write of TARGET. -/
def hostTarget (n : Nat) (v : Int) (s : State) : State :=
  if !s.carAxis n then (targetChange n v s).answer Status.OK []
  else if s.hostMoves n then (targetChange n v (s.holdSpeed n (s.get (Reg.CAR_INSP_V n)))).answer Status.OK []
  else s.carRefuse (n % 8)

/-- A host's write of CMD. -/
def hostAxisCmd (n c : Nat) (s : State) : State :=
  if s.carAxis n && (c == 1 || c == 5 || (c == 4 && !s.hostMoves n)) then s.carRefuse (n % 8)
  else axisCmd n c (if c = 4 ∧ s.carAxis n = true then s.holdSpeed n (s.get (Reg.CAR_INSP_V n)) else s)

/-- A write of CHAIN_HEAD. -/
def hostChainHead (n : Nat) (w : Word) (s : State) : State :=
  if s.carAxis n then s.carRefuse (n % 8) else (s.set (Reg.AXIS_CHAIN_HEAD n) w.toNat).answer Status.OK []

def execTargetChange (n : Fin 24) (v : BitVec 64) (s : State) : Out State := .next (hostTarget n v.toInt s)
def execAxisCmdStart (n : Fin 24) (s : State) : Out State := .next (hostAxisCmd n 1 s)
def execAxisCmdStop (n : Fin 24) (s : State) : Out State := .next (hostAxisCmd n 2 s)
def execAxisCmdQuickStop (n : Fin 24) (s : State) : Out State := .next (hostAxisCmd n 3 s)
def execAxisCmdResume (n : Fin 24) (s : State) : Out State := .next (hostAxisCmd n 4 s)
def execAxisCmdAbandon (n : Fin 24) (s : State) : Out State := .next (hostAxisCmd n 5 s)
def execAxisCmdClearFault (n : Fin 24) (s : State) : Out State := .next (hostAxisCmd n 6 s)

/-- HOLDUP_RESUME: 1 s after HOLDUP has ended without a reset, cars stopped at H1 are due to resume once Stirrup
permits (R297). -/
def execHoldupResume (s : State) : Out State :=
  .next (foldN 8 (fun n s => s.modCar n (fun c => if c.h1 = 1 then { c with h1 := 2 } else c)) s)

end Sys2Proof.Machine
end

