-- ==== Sys2Proof/Machine/LiftCalls.lean ====
section
/-! DEFINITION. Calls, stops and the dispatcher's passes (R294 to R305). -/

namespace Sys2Proof.Machine

/-! ## Stops -/

/-- A word of the stop list. -/
def stopWord (x : Stop) : Nat := (if x.com then 2 else 1) * 2 ^ 30 + b2n x.down * 2 ^ 29 + b2n x.rear * 2 ^ 28 + x.landing * 2 ^ 16 + x.eta

/-- STOP and NEXT_STOP show the committed stops first, then the tentative ones, each in order of service (R294). -/
def State.showStops (n : Nat) (s : State) : State :=
  let l := (s.car n).stops
  let shown := l.filter (·.com) ++ l.filter (fun x => !x.com)
  let s := foldN 64 (fun i s => s.setWord (Reg.CAR_STOP_STATE n i).addr (BitVec.ofNat 32 ((shown[i]?).elim 0 stopWord))) s
  s.set (Reg.CAR_NEXT_STOP n) (((l.filter (·.com)).head?).elim 0xFF (·.landing))

def State.setStops (s : State) (n : Nat) (l : List Stop) : State := (s.modCar n (fun c => { c with stops := l })).showStops n

/-- Whether a passenger of a call leaves at a stop. -/
def callLeavesAt (c : Call) (x : Stop) : Bool := c.rear == x.rear && (c.state == 3 || c.kind == 2) && c.dest == x.landing

/-- Whether a call needs a stop of its car that comes after the stops `before`. -/
def callNeeds (c : Call) (before : List Stop) (x : Stop) : Bool :=
  callBoardsAt c x || callLeavesAt c x || (c.kind == 0 && c.rear == x.rear && c.dest == x.landing && before.any (callBoardsAt c))

def State.call (s : State) (e : Nat) : Option Call := KV.get? s.calls e
def State.modCall (s : State) (e : Nat) (g : Call → Call) : State :=
  match s.call e with | some c => { s with calls := KV.put s.calls e (g c) } | none => s

/-- Free an entry. -/
def State.freeCall (s : State) (e : Nat) : State :=
  let s := match s.call e with
    | some c => if c.lit then s.send .lanternOff 0 c.origin [b2n c.down, c.car] else s
    | none => s
  { s with calls := KV.del s.calls e }

/-- The stops that are committed or that a call needs, in a sequence that follows the stops `before`. -/
def neededStops (cs : List Call) : List Stop → List Stop → List Stop
  | _, [] => []
  | before, x :: xs =>
    let l := neededStops cs (before ++ [x]) xs
    if x.com || cs.any (fun c => callNeeds c before x) then x :: l else l

/-- Keep the stops of a car that are committed or that a call on it needs. -/
def State.dropStops (s : State) (n : Nat) : State :=
  s.setStops n (neededStops ((s.carCalls n).map (·.2)) (s.car n).atStop.toList (s.car n).stops)

/-! ## Prediction (R300) -/

/-- Braking distance from the present set-point, units with `fineBits` fractional bits (d_stop of R295). -/
def State.dStop (s : State) (n : Nat) : Int :=
  let (_, am, jm) := s.limits n
  let v := s.getS (Reg.AXIS_SP_VEL n) * fineV
  let a := s.getS (Reg.AXIS_SP_ACC n) * fine1
  ((toVel v a 0 am jm).foldl runPhase (0, v, a)).1.natAbs

/-- Times of arrival, seconds with `fineBits` fractional bits from now, along a sequence. -/
def State.arrivals (s : State) (n : Nat) : Int × Int × Int → Int → List Stop → List Int
  | _, _, [] => []
  | (p, v, a), t, x :: xs =>
    let (vm, am, jm) := s.limits n
    let q := s.level n x.landing * fine1
    let t' := (minTime (q - p) v a vm am jm).foldl (fun u (f : Phase) => u + f.2) t
    t' :: s.arrivals n (q, 0, 0) (t' + (s.get (Reg.CAR_CYCLE_MS n) : Int) * fine1 / 1000) xs

/-- Where and when a car's sequence starts: with its door not closed, the rest of the door cycle is not stated, a free
value within the cycle (log entry 27). -/
def State.startOf (s : State) (n : Nat) : (Int × Int × Int) × Int :=
  let p := (s.getWS (Reg.AXIS_SP_POS n) * fineP, s.getS (Reg.AXIS_SP_VEL n) * fineV, s.getS (Reg.AXIS_SP_ACC n) * fine1)
  let d := if s.get (Reg.CAR_DOOR_STATE n) = DoorState.CLOSED ∨ (s.car n).at_.isNone then 0
    else Config.doorRest n s.tai % (s.get (Reg.CAR_CYCLE_MS n) + 1)
  (p, (d : Int) * fine1 / 1000)

def State.carArrivals (s : State) (n : Nat) (l : List Stop) : List Int :=
  let (p, t) := s.startOf n
  s.arrivals n p t l

/-- Arrival of a call at its origin and at its destination along a sequence. -/
def callTimes (c : Call) (l : List Stop) (ts : List Int) : Option Int × Option Int :=
  let z := l.zip ts
  let i := if c.state = 3 ∨ c.kind = 2 then 0 else z.findIdx (fun e => callBoardsAt c e.1)
  let o := if c.state = 3 ∨ c.kind = 2 then none else (z[i]?).map (·.2)
  let d := if c.kind = 1 then none
    else ((z.drop (if c.state = 3 ∨ c.kind = 2 then 0 else i + 1)).find? (fun e => e.1.landing == c.dest && e.1.rear == c.rear)).map (·.2)
  (o, d)

/-- Arrivals of a call on a car: a call that the present stop serves is met already (R299). -/
def State.timesOf (s : State) (n : Nat) (c : Call) (l : List Stop) (ts : List Int) : Option Int × Option Int :=
  match (s.car n).atStop with
  | some x =>
    if callLeavesAt c x then (none, some 0)
    else if callPickedAt c x then (some 0, (callTimes { c with state := 3 } l ts).2)
    else callTimes c l ts
  | none => callTimes c l ts

/-- The cost of a car's sequence with its calls: waits, rides and stops, weights Q8.8, times clamped to the horizon. -/
def State.costOf (s : State) (n : Nat) (l : List Stop) (cs : List Call) : Int :=
  let ts := s.carArrivals n l
  let h : Int := s.get Reg.LFT_HORIZON_S * fine1
  let cl := fun (t : Option Int) => min (t.getD h) h
  let ww : Int := s.get Reg.LFT_W_WAIT
  let wr : Int := s.get Reg.LFT_W_RIDE
  cs.foldl (fun a c =>
    let (o, d) := s.timesOf n c l ts
    if c.kind = 1 then a + ww * cl o
    else if c.state = 3 ∨ c.kind = 2 then a + wr * cl d
    else a + ww * cl o + wr * (cl d - cl o)) ((s.get Reg.LFT_W_STOP : Int) * fine1 * l.length)

def State.carCost (s : State) (n : Nat) : Int := s.costOf n (s.car n).stops ((s.carCalls n).map (·.2))

/-! ## Placement -/

/-- The cars in NORMAL. -/
def State.normalCars (s : State) : List Nat := (List.range 8).filter (fun n => s.carPresent n && s.get (Reg.CAR_MODE n) == CarMode.NORMAL)

/-- Whether a stop may become the next of a car: at rest with nothing ahead always; otherwise it must lie beyond the
braking distance in the direction of travel, and before the committed stop that leads. -/
def State.mayLead (s : State) (n : Nat) (l : List Stop) (x : Stop) : Bool :=
  let p := s.getWS (Reg.AXIS_SP_POS n)
  let q := s.level n x.landing * 65536
  let v := s.getS (Reg.AXIS_SP_VEL n)
  let far := decide (s.dStop n ≤ ((q - p).natAbs : Int) * fineP)
  let ahead := decide (v = 0) || (decide (0 < v) == decide (p < q) && far)
  match l with
  | y :: _ =>
    if y.com then
      let r := s.level n y.landing * 65536
      ahead && ((decide (p < q) && decide (q < r)) || (decide (r < q) && decide (q < p)))
    else ahead
  | [] => ahead

/-- The ways to have a stop in a sequence from an index on: an equal stop that is there, or the stop inserted. -/
def State.stopWays (s : State) (n : Nat) (x : Stop) (l : List Stop) (i0 : Nat) (anyDir : Bool) : List (List Stop × Nat) :=
  let same := (List.range l.length).filter (fun i => decide (i0 ≤ i) && ((l[i]?).elim false (fun y => y.landing == x.landing && y.rear == x.rear && (anyDir || y.down == x.down))))
  let ins := (List.range (l.length + 1)).filter (fun i => decide (i0 ≤ i) && (i != 0 || s.mayLead n l x))
  same.map (fun i => (l, i)) ++ (if l.length < 64 then ins.map (fun i => (l.take i ++ x :: l.drop i, i)) else [])

/-- The sequences by which a car may serve a call. -/
def State.callWays (s : State) (n : Nat) (c : Call) (l : List Stop) : List (List Stop) :=
  let o : Stop := ⟨c.origin, c.rear, c.down, false, 0xFFFF⟩
  let d : Stop := ⟨c.dest, c.rear, c.down, false, 0xFFFF⟩
  if c.kind = 2 then (s.stopWays n d l 0 true).map (·.1)
  else if c.kind = 1 then (s.stopWays n o l 0 false).map (·.1)
  else (s.stopWays n o l 0 true).foldr (fun w a => (s.stopWays n d w.1 (w.2 + 1) true).map (·.1) ++ a) []

/-- Whether a car can serve a call's landings on its side: a CAR call's ORIGIN is the landing of its entry (R298). -/
def State.carServes (s : State) (n : Nat) (c : Call) : Bool :=
  s.servesSide n c.origin c.rear && (c.kind == 1 || s.servesSide n c.dest c.rear)

/-- Every placement of a call: added cost, car, sequence. -/
def State.placements (s : State) (c : Call) (cars : List Nat) : List (Int × Nat × List Stop) :=
  (cars.filter (fun n => s.carServes n c)).foldr (fun n a =>
    let l := (s.car n).stops
    let cs := (s.carCalls n).map (·.2)
    let base := s.costOf n l cs
    (s.callWays n c l).map (fun w => (s.costOf n w (cs ++ [{ c with car := n }]) - base, n, w)) ++ a) []

/-- The least placements. -/
def leastOf (l : List (Int × Nat × List Stop)) : List (Int × Nat × List Stop) :=
  match l with
  | [] => []
  | x :: xs => let m := xs.foldl (fun a y => min a y.1) x.1; l.filter (fun y => y.1 == m)

/-- Put a call on a car with a sequence. -/
def State.putCall (s : State) (e n : Nat) (l : List Stop) : State := (s.setStops n l).modCall e (fun c => { c with car := n })

/-- A least placement; equal costs leave the choice free (log entry 27). -/
def State.pickLeast (s : State) (l : List (Int × Nat × List Stop)) : Option (Nat × List Stop) × State :=
  let best := leastOf l
  let (v, s) := if best.length ≤ 1 then (0, s) else s.fresh
  ((best[v % max 1 best.length]?).map (·.2), s)

/-- Place a call where it adds least cost. -/
def State.placeCall (s : State) (e : Nat) (cars : List Nat) : State :=
  match s.call e with
  | none => s
  | some c =>
    match s.pickLeast (s.placements c cars) with
    | (some w, s) => s.putCall e w.1 w.2
    | (none, s) => s.modCall e (fun c => { c with car := 15 })

/-- A passenger of the car who has no stop gets one at least cost. -/
def State.restop (s : State) (n : Nat) (c : Call) : State :=
  let l := (s.car n).stops
  if l.any (fun x => callLeavesAt c x) then s
  else
    let cs := (s.carCalls n).map (·.2)
    match s.pickLeast ((s.callWays n { c with kind := 2 } l).map (fun w => (s.costOf n w cs, n, w))) with
    | (some w, s) => s.setStops n w.2
    | (none, s) => s

/-- The stops of a car for its passengers in a mode that it enters: in NORMAL at least cost, in INDEPENDENT in order of entry
behind the committed ones, in OUT_OF_SERVICE in order of entry behind those that it has (R291, R303). -/
def State.restops (s : State) (n m : Nat) : State :=
  let cs := ((s.carCalls n).filter (fun (e : Nat × Call) => e.2.state == 3 || e.2.kind == 2)).map (·.2)
  let cs := cs.mergeSort (fun a b => decide (a.entry < b.entry) || (a.entry == b.entry && decide (a.id ≤ b.id)))
  if m = CarMode.NORMAL then cs.foldl (fun (s : State) c => s.restop n c) s
  else
    let l := (s.car n).stops
    s.setStops n (cs.foldl (fun l c => if l.any (fun x => callLeavesAt c x) then l else l ++ [⟨c.dest, c.rear, c.down, false, 0xFFFF⟩])
      (if m = CarMode.INDEPENDENT then l.filter (·.com) else l))

/-- Take an uncommitted call off its car. -/
def State.unplace (s : State) (e : Nat) : State :=
  match s.call e with
  | some c => if c.car < 8 then (s.modCall e (fun c => { c with car := 15 })).dropStops c.car else s
  | none => s

/-- The cost of every car's plan. -/
def State.planCost (s : State) : Int := s.normalCars.foldl (fun a n => a + s.carCost n) 0

/-- The calls in a state, in order of CALL_ID. -/
def State.callsIn (s : State) (st : Nat) : List Nat :=
  ((s.calls.filter (fun (e : Nat × Call) => e.2.state == st)).mergeSort (fun a b => decide (a.2.id ≤ b.2.id))).map (·.1)

/-- The changes that lower the cost: one uncommitted call moved, or two exchanged between their cars. -/
def State.improvements (s : State) : List State :=
  let cost := s.planCost
  let es := (s.callsIn 1).filter (fun e => (s.call e).elim false (fun c => decide (c.car < 8)))
  let moved := es.foldr (fun e a =>
    match s.call e with
    | none => a
    | some c => let s' := s.unplace e; (s'.placements c s.normalCars).map (fun w => s'.putCall e w.2.1 w.2.2) ++ a) []
  let swapped := es.foldr (fun e a => es.foldr (fun f b =>
    match s.call e, s.call f with
    | some x, some y =>
      if e < f ∧ x.car ≠ y.car then
        let s' := (s.unplace e).unplace f
        ((s'.placements x [y.car]).map (fun w => s'.putCall e w.2.1 w.2.2)).foldr (fun s'' b =>
          (s''.placements y [x.car]).map (fun w => s''.putCall f w.2.1 w.2.2) ++ b) b
      else b
    | _, _ => b) a) []
  (moved ++ swapped).filter (fun s' => decide (s'.planCost < cost))

/-- Apply changes while they lower the cost, at most `k`; which one comes first the spec leaves open (log entry 27).
What is left when the deadline ends the search counts in OPT_CUT. -/
def State.improve (s : State) : Nat → State
  | 0 => if s.improvements.isEmpty then s else s.bump Reg.LFT_OPT_CUT
  | k + 1 =>
    let l := s.improvements
    if l.isEmpty then s
    else
      let (v, s') := s.fresh
      (({ l.getD (v % l.length) s with freeCtr := s'.freeCtr } : State)).improve k

/-! ## ETAs -/

/-- A time as ETA_DS: 0xFFFF beyond the horizon; its rounding is not stated. -/
def State.etaDs (s : State) (t : Option Int) : Nat × State :=
  match t with
  | none => (0xFFFF, s)
  | some t =>
    if (s.get Reg.LFT_HORIZON_S : Int) * fine1 < t then (0xFFFF, s)
    else let (q, s) := s.quot (t * 10) (2 ^ fineBits); (q.toNat, s)

/-- ETAs of a car's stops and calls. -/
def State.showEtas (n : Nat) (s : State) : State :=
  let l := (s.car n).stops
  let ts := s.carArrivals n l
  let (l', s) := (l.zip ts).foldl (fun (a : List Stop × State) x =>
    let (e, s) := a.2.etaDs (some x.2); (a.1 ++ [{ x.1 with eta := e }], s)) ([], s)
  let s := s.setStops n l'
  (s.carCalls n).foldl (fun (s : State) (e : Nat × Call) =>
    let (o, d) := s.timesOf n e.2 l ts
    let t := if e.2.state = 3 ∨ e.2.kind = 2 then d else o
    let (ds, s) := s.etaDs t
    s.modCall e.1 (fun c => { c with eta := ds, etaAt := t.map (fun t => s.unow + t * 1000000000 / fine1) })) s

/-! ## Commitment (R295, R296, R302, R303) -/

/-- The lantern of a committed HALL call lights from ETA − LANTERN_MS on. -/
def State.lanternDue (s : State) (c : Call) : Bool :=
  c.kind == 1 && c.etaAt.elim false (fun t => decide (t - (s.get Reg.LFT_LANTERN_MS : Int) * 1000000 ≤ s.unow))

def State.lantern (s : State) (e : Nat) : State :=
  match s.call e with
  | some c => if c.state = 2 ∧ c.lit = false ∧ s.lanternDue c = true then
      (s.modCall e (fun c => { c with lit := true })).send .lanternOn 0 c.origin [b2n c.down, c.car] else s
  | none => s

/-- A passenger is picked up: a HALL or CAR call ends, a DEST call is boarded. -/
def State.boardCall (s : State) (e : Nat) : State :=
  match s.call e with
  | some c => if c.kind = 0 then s.modCall e (fun c => { c with state := 3 }) else s.freeCall e
  | none => s

/-- The door of the stop being served stands OPEN: its passengers board, and those for whom it is the destination leave
(R299). -/
def State.serveStop (n : Nat) (s : State) : State :=
  match (s.car n).atStop with
  | none => s
  | some x =>
    if s.get (Reg.CAR_DOOR_STATE n) ≠ DoorState.OPEN then s
    else
      let cs := (s.carCalls n).filter (fun (e : Nat × Call) => callPickedAt e.2 x || callLeavesAt e.2 x)
      if cs.isEmpty then s
      else (cs.foldl (fun (s : State) (e : Nat × Call) => if callPickedAt e.2 x then s.boardCall e.1 else s.freeCall e.1) s).dropStops n

/-- A call commits: its sequence value, its announcement. At the stop that its car serves it boards at once where the door is
OPEN, and with REOPEN_HALL, in the car's direction of departure, it restarts the dwell or reverses a closing door (R313, R320). -/
def State.commitCall (s : State) (e : Nat) : State :=
  match s.call e with
  | none => s
  | some c =>
    if c.state ≠ 1 ∨ 8 ≤ c.car then s
    else
      let (q, s) := s.takeSeq
      let s := (s.modCall e (fun c => { c with state := 2, seq := q })).irq Page.LFT Irq.LFT_COMMIT
      let s := if c.kind = 0 then s.send .carAssigned 0 c.origin [c.id, c.car] else s
      let s := s.lantern e
      let n := c.car
      if (s.car n).atStop.elim false (fun x => callPickedAt { c with state := 2 } x) then
        let s := if s.flag (Reg.CAR_REOPEN_HALL n) && (s.car n).atStop.elim false (fun x => c.down == x.down) then
            (if s.get (Reg.CAR_DOOR_STATE n) = DoorState.OPEN then s.beginDwell n (s.stopDwell n) else s.reversalCause n)
          else s
        s.serveStop n
      else s

/-- The car's axis is sent to a stop: its LEVEL is the target (R294), and the door may pre-open there. -/
def State.headFor (s : State) (n : Nat) (x : Stop) : State :=
  let up := decide (s.getWS (Reg.AXIS_SP_POS n) ≤ s.level n x.landing * 65536)
  let s := if (s.car n).door.prePend.isNone && !s.flag (Reg.CAR_PRE_ARMED n) then s else s.preCancel n
  let s := (s.releaseSpeed n).modDoor n (fun d => { d with prePend := some (x.landing, up) })
  targetChange n (s.level n x.landing * 65536) s

/-- A stop at the head of a car's sequence commits, with the assignment of every call it serves; the axis takes its
LEVEL as target. -/
def State.commitStop (s : State) (n : Nat) : State :=
  match (s.car n).stops with
  | [] => s
  | x :: xs =>
    let s := (s.setStops n ({ x with com := true } :: xs)).irq (Page.CAR n) Irq.CAR_STOP_COMMIT
    let cs := (s.carCalls n).filter (fun (e : Nat × Call) => e.2.state == 1 && callNeeds e.2 [] x)
    (cs.foldl (fun (s : State) (e : Nat × Call) => s.commitCall e.1) s).headFor n x

/-- A committed call goes back to the group (R303). -/
def State.returnCall (s : State) (e : Nat) : State :=
  match s.call e with
  | none => s
  | some c =>
    let s := if c.lit then s.send .lanternOff 0 c.origin [b2n c.down, c.car] else s
    let s := s.modCall e (fun c => { c with state := 1, reass := true, car := 15, seq := 0, lit := false })
    ((s.bump Reg.LFT_REASSIGN_CNT).irq Page.LFT Irq.LFT_REASSIGN).record sevWarning Page.LFT 1 c.id []

/-- R302 at a pass. -/
def State.commitDue (s : State) (e : Nat) : State :=
  match s.call e with
  | none => s
  | some c =>
    let due := c.reass || (if c.kind = 0 then decide (c.entry + (s.get Reg.LFT_ANN_DELAY_MS : Int) * 1000000 ≤ s.unow) else s.lanternDue c)
    if due then s.commitCall e else s

/-- A car at rest with its door closed and nothing committed commits its first stop; the direction lantern of the landing that it
leaves shows the direction of travel (R296). -/
def State.depart (n : Nat) (s : State) : State :=
  let c := s.car n
  if s.carPresent n && s.groupMoves n && s.get (Reg.CAR_MODE n) != CarMode.FIREFIGHTER && s.axisRests n && !(s.axis n).newTarget && s.get (Reg.CAR_DOOR_STATE n) == DoorState.CLOSED && c.door.relevel == 0
      && !c.stops.isEmpty && !c.stops.any (·.com) then
    let s := s.commitStop n
    let q := s.level n ((c.stops.head?).elim 0 (·.landing)) * 65536
    s.send .lanternOn 0 (s.get (Reg.CAR_LANDING n)) [b2n (decide (q < s.getWS (Reg.AXIS_SP_POS n))), n]
  else s

/-- A car at rest with its door closed goes on to the next committed stop of its list, where one inserted before it has been
served (R294). -/
def State.onwards (n : Nat) (s : State) : State :=
  let c := s.car n
  match s.nextStop n with
  | none => s
  | some x =>
    let away := decide (s.getWS (Reg.AXIS_SP_POS n) ≠ s.level n x.landing * 65536)
    if away && s.get (Reg.AXIS_STATE n) == AxState.STANDSTILL && s.axisRests n && !(s.axis n).newTarget
        && s.get (Reg.CAR_DOOR_STATE n) == DoorState.CLOSED && c.door.relevel == 0 then s.headFor n x
    else s

/-! ## Passes (R300, R301) -/

/-- Stage S1 applies to the dispatcher: the unit's own, or as one of a pair the ACTIVE's (R512). -/
def State.greedy (s : State) : Bool := if s.inPair then s.twinActiveS1 else s.getBit Reg.PWR_SHED 0

/-- Discard every tentative placement. -/
def State.discardTentative (s : State) : State :=
  let s := (s.callsIn 1).foldl (fun (s : State) e => s.modCall e (fun c => { c with car := 15 })) s
  s.normalCars.foldl State.dropStops s

/-- A passenger of a car in NORMAL whose stop was dropped gets another (R295). -/
def State.restopAll (s : State) : State := s.normalCars.foldl (fun (s : State) n => s.restops n CarMode.NORMAL) s

/-- A pass: it makes at most `k` changes before its deadline, and takes `us` microseconds. -/
def optimisationPass (k us : Nat) (s : State) : State :=
  if !s.flag (Reg.HDR_ENABLE Page.LFT) || s.get Reg.TWN_STATE == TwinState.STANDBY then s
  else if s.greedy then foldN 8 State.depart s.discardTentative.restopAll
  else if s.getBit Reg.FIR_SHED 1 then foldN 8 State.depart s
  else
    let back := s.calls.filter (fun (e : Nat × Call) => e.2.state == 2 && e.2.kind != 2 && decide (e.2.car < 8) && !(s.carPresent e.2.car && s.carServes e.2.car e.2))
    let s := back.foldl (fun (s : State) (e : Nat × Call) => s.returnCall e.1) s
    let s := s.discardTentative.restopAll
    let s := (s.callsIn 1).foldl (fun (s : State) e => s.placeCall e s.normalCars) s
    let s := if s.flag Reg.LFT_OPT_EN then s.improve k else s
    let s := foldN 8 State.showEtas s
    let s := (s.callsIn 1).foldl State.commitDue s
    let s := foldN 8 State.depart s
    (s.setW Reg.LFT_OPT_CNT (s.getW Reg.LFT_OPT_CNT + 1)).raiseTo Reg.LFT_OPT_MAX_US us

def execOptimisationPass (k us : Nat) (s : State) : Out State := .next (optimisationPass k us s)

/-! ## Call entry (R298, R299, R305) -/

/-- The fields of a call as it is entered. -/
def newCall (s : State) (c : CallReq) : Call :=
  let car := c.car.val
  ⟨s.nextCall, 1, c.kind.val, if c.kind.val = 0 then decide (c.dest.val < c.origin.val) else c.down, c.rear, false,
    if c.kind.val = 2 then s.get (Reg.CAR_LANDING car) else c.origin.val, if c.kind.val = 1 then 0xFF else c.dest.val,
    clampN 1 15 c.pax.val, if c.kind.val = 2 then car else 15, 0xFFFF, none, 0, s.unow, false⟩

/-- Equal calls, for merging. -/
def callSame (a b : Call) : Bool :=
  b.state != 3 && a.kind == b.kind && a.rear == b.rear && (if a.kind = 2 then a.dest == b.dest && a.car == b.car
    else a.origin == b.origin && (if a.kind = 1 then a.down == b.down else a.dest == b.dest))

/-- Whether a call can be served by a car that takes it. -/
def State.callServed (s : State) (c : Call) : Bool :=
  let n := s.get Reg.LFT_N_LAND
  let inRange := decide (c.origin < n) && (c.kind == 1 || (decide (c.dest < n) && c.origin != c.dest)) && decide (c.kind < 3)
  let cars := if c.kind = 2 then
      (if s.carPresent c.car && (s.get (Reg.CAR_MODE c.car) == CarMode.NORMAL || s.get (Reg.CAR_MODE c.car) == CarMode.INDEPENDENT || s.ffPhase c.car == 3) then [c.car] else [])
    else s.normalCars
  inRange && cars.any (fun k => s.carServes k c)

/-- A CAR call joins its car's sequence: at least cost in NORMAL, in order of entry otherwise. In PHASE2 it waits alone,
in place of one not yet committed (R503). -/
def State.enterCarCall (s : State) (e : Nat) (c : Call) : State :=
  if s.ffPhase c.car = 3 then
    let old := (s.carCalls c.car).filter (fun (f : Nat × Call) => f.1 != e && f.2.kind == 2 && f.2.state == 1)
    old.foldl (fun (s : State) (f : Nat × Call) => s.freeCall f.1) s
  else
    let s := if s.get (Reg.CAR_MODE c.car) = CarMode.NORMAL then s.placeCall e [c.car]
      else s.setStops c.car ((s.car c.car).stops ++ [⟨c.dest, c.rear, decide (c.dest < c.origin), false, 0xFFFF⟩])
    (s.modCall e (fun x => { x with car := c.car })).commitCall e

/-- Enter a call: its entry and its CALL_ID, none where it is refused. -/
def State.enterCall (s : State) (r : CallReq) : Option (Nat × Nat) × State :=
  let c := newCall s r
  let refused := fun (s : State) => s.send .callRefused 0 c.origin [c.kind, c.dest]
  if !s.callServed c then (none, refused ((s.bump Reg.LFT_CALL_REFUSED).err Page.LFT Err.LFT_CALL_INVALID))
  else match s.calls.find? (fun (e : Nat × Call) => callSame c e.2) with
    | some e =>
      let s := s.modCall e.1 (fun x => { x with pax := min 15 (x.pax + c.pax) })
      (some (e.1, e.2.id), if e.2.state = 2 ∧ e.2.kind = 0 then s.send .carAssigned 0 e.2.origin [e.2.id, e.2.car]
        else if e.2.lit then s.send .lanternOn 0 e.2.origin [b2n e.2.down, e.2.car] else s)
    | none =>
      match KV.firstFree s.calls 0 4096 with
      | none => (none, refused ((s.bump Reg.LFT_CALL_FULL).err Page.LFT Err.LFT_CALL_FULL))
      | some e =>
        let s := { s with calls := KV.put s.calls e c, nextCall := if s.nextCall = 0xFFFF then 1 else s.nextCall + 1 }
        let s := (s.irq Page.LFT Irq.LFT_CALL_NEW).send .callAck 0 c.origin [c.kind, c.dest, c.id]
        let s := if c.kind = 2 then s.enterCarCall e c
          else if s.greedy then
            -- placed and committed at once, with its predicted arrival (R301, R302)
            let s := s.placeCall e s.normalCars
            ((((s.call e).map (·.car)).filter (· < 8)).elim s (fun n => s.showEtas n)).commitCall e
          else s
        (some (e, c.id), s)

/-- CALL_ENTRY: from a panel. -/
def execCallEntry (c : CallReq) (s : State) : Out State :=
  .next (if s.flag (Reg.HDR_ENABLE Page.LFT) then (s.enterCall c).2 else s)

/-- EXEC ENTER_CALL: the word as CALL_0 bits 28 to 4; bits 3 to 0 name the car of a CAR call. -/
def enterCallWord (w : Word) (s : State) : State :=
  let v := w.toNat
  let c : CallReq := ⟨Fin.ofNat 4 (v / 2 ^ 27), bitOf v 26, bitOf v 25, Fin.ofNat 256 (v / 2 ^ 16), Fin.ofNat 256 (v / 2 ^ 8), Fin.ofNat 16 (v / 16), Fin.ofNat 8 v⟩
  match s.enterCall c with
  | (some e, s) =>
    -- a call that is served at its entry has left its entry FREE
    let st := (s.call e.1).elim 0 (fun x => if x.id = e.2 then x.state else 0)
    s.answer Status.OK [BitVec.ofNat 32 e.2, BitVec.ofNat 32 st]
  | (none, s) => s.answer Status.E_STATE []

/-- EXEC CANCEL_CALL. -/
def cancelCall (id : Nat) (s : State) : State :=
  match s.calls.find? (fun (e : Nat × Call) => e.2.id == id && e.2.state != 3) with
  | some e =>
    let s := s.freeCall e.1
    (if e.2.car < 8 then s.dropStops e.2.car else s).answer Status.OK []
  | none => s.answer Status.E_STATE []

/-- Free every call and drop every stop that is not committed. -/
def State.clearCalls (s : State) : State :=
  let s := s.calls.foldl (fun (s : State) (e : Nat × Call) => s.freeCall e.1) s
  foldN 8 (fun n s => s.dropStops n) s

/-- A command of the LFT page by EXEC: 1 ENTER_CALL, 2 CANCEL_CALL, 3 CLEAR_CALLS, which owner sessions alone may give (R305). -/
def lftExec (r : Requester) (c : Nat) (w : Word) (s : State) : State :=
  s.ownerExec r Page.LFT (fun (s : State) =>
    if c = 1 then enterCallWord w s else if c = 2 then cancelCall w.toNat s
    else if isSession r then s.clearCalls.answer Status.OK [] else s.guardRefuse r (Page.LFT * 4096))

def execEnterCall (r : Requester) (w : Word) (s : State) : Out State := .next (lftExec r 1 w s)
def execCancelCall (r : Requester) (id : Word) (s : State) : Out State := .next (lftExec r 2 id s)
def execClearCalls (r : Requester) (s : State) : Out State := .next (lftExec r 3 0 s)

/-- The word CALL_0 of a call. -/
def callWord (c : Call) : Nat :=
  c.state * 2 ^ 29 + c.kind * 2 ^ 27 + b2n c.down * 2 ^ 26 + b2n c.rear * 2 ^ 25 + b2n c.reass * 2 ^ 24 + c.origin * 2 ^ 16
    + c.dest * 2 ^ 8 + c.pax * 16 + c.car

/-- A write of CALL_IDX captures an entry. -/
def callIdxWrite (e : Nat) (s : State) : State :=
  let s := s.set Reg.LFT_CALL_IDX e
  let a := Reg.LFT_CALL_STATE.addr
  match s.call e with
  | none => s.setWords a [0, 0, 0, 0]
  | some c => s.setWords a ([callWord c, c.id * 2 ^ 16 + c.eta, c.seq, c.seq / 2 ^ 32].map (BitVec.ofNat 32))

def execCallIdxWrite (e : Fin 4096) (s : State) : Out State := .next ((callIdxWrite e s).answer Status.OK [])

end Sys2Proof.Machine
end

