-- ==== Sys2Proof/Machine/Lift.lean ====
section
/-! DEFINITION. Car modes, arrivals, recall and the lift group at a tick (R291 to R297, R302, R503, R504). -/

namespace Sys2Proof.Machine

/-! ## Firefighter phases (R503, R504) -/

/-- A car changes phase. -/
def State.setPhase (s : State) (n v : Nat) : State :=
  if s.ffPhase n = v then s
  else
    let s := (s.set ⟨Reg.FIR_FF_PHASE.addr, 3 * n + 2, 3 * n⟩ v).irq Page.FIR Irq.FIR_FF_PHASE
    { s with fire := { s.fire with kept := { s.fire.kept with phases := s.get Reg.FIR_FF_PHASE } } }

/-- What blocks a car (R503). -/
def State.ffBlocked (s : State) (n : Nat) : Bool :=
  !(s.car n).faults.isEmpty || !s.flag (Reg.CAR_POS_VALID n) || s.flag (Reg.CAR_REF_NEEDED n)

/-- An input with a function is judged active (R495, R496). -/
def State.finActive (s : State) (f : Nat) : Bool :=
  (List.range 16).any (fun i => s.flag (Reg.FIR_FIN_EN i) && s.get (Reg.FIR_FIN_FUNC i) == f && s.getBit Reg.FIR_IN_ACTIVE i)

/-- The recall landing: ALT_LAND while a RECALL_FIRE input is active. -/
def State.recallLanding (s : State) : Nat := if s.finActive 4 then s.get Reg.FIR_ALT_LAND else s.get Reg.FIR_FF_LAND

/-- The recall plan. -/
def State.recallPlan (s : State) (n : Nat) : State :=
  let s := (s.modCar n (fun c => { c with recallStep := 3, at_ := none, atStop := none })).releaseSpeed n
  targetChange n (s.level n s.recallLanding * 65536) s

/-- The first landing in the direction of travel that lies at least d_stop beyond the set-point. -/
def State.stopAhead (s : State) (n : Nat) : Option Nat :=
  let p := s.getWS (Reg.AXIS_SP_POS n)
  let v := s.getS (Reg.AXIS_SP_VEL n)
  let ok := (s.landings n).filter (fun l =>
    let q := s.level n l * 65536
    (decide (0 < v) == decide (p < q)) && decide (s.dStop n ≤ ((q - p).natAbs : Int) * fineP))
  if 0 < v then ok.head? else ok.getLast?

/-- Begin a recall: on towards the landing, or stop before turning; at rest the door closes at once and the plan
starts. -/
def State.startRecall (s : State) (n : Nat) : State :=
  let com := ((s.car n).stops.filter (·.com)).head?
  let s := (s.preCancel n).setStops n []
  let v := s.getS (Reg.AXIS_SP_VEL n)
  if v = 0 then
    if s.get (Reg.CAR_DOOR_STATE n) = DoorState.CLOSED then s.recallPlan n
    else
      let st := s.get (Reg.CAR_DOOR_STATE n)
      let s := s.modCar n (fun c => { c with recallStep := 4 })
      if st = DoorState.OPEN ∨ st = DoorState.HELD ∨ st = DoorState.OPENING ∨ st = DoorState.STOPPED then s.closeDoor n false else s
  else
    let p := s.getWS (Reg.AXIS_SP_POS n)
    let q := s.level n s.recallLanding * 65536
    if (decide (0 < v) == decide (p < q)) && decide (s.dStop n ≤ ((q - p).natAbs : Int) * fineP) then s.recallPlan n
    else
      let s := s.modCar n (fun c => { c with recallStep := 1 })
      match com.map (·.landing) <|> s.stopAhead n with
      | some l => targetChange n (s.level n l * 65536) s
      | none => s.stopCar n false

/-- RECALL_PLAN_START: FF_TURN_MS after the car came to rest. -/
def execRecallPlanStart (n : Fin 8) (s : State) : Out State :=
  .next (if s.ffPhase n = 1 ∧ (s.car n).recallStep = 2 then s.recallPlan n else s)

/-! ## Modes (R291, R292) -/

/-- OUT_OF_SERVICE by another cause than command. A DZ_MISMATCH that waits for the next stop is none yet (R290). -/
def State.oosCause (s : State) (n : Nat) : Bool :=
  let c := s.car n
  c.faults.any (fun f => !(f == CarFault.DZ_MISMATCH && c.dzNext)) || !s.flag (Reg.CAR_LEARNED n) || !s.flag (Reg.CAR_POS_VALID n)
    || s.flag (Reg.CAR_REF_NEEDED n)

/-- The first mode whose condition holds. A pending start-up test holds a car as OOS_ON would (R350). -/
def State.modeNow (s : State) (n : Nat) : Nat :=
  let c := s.car n
  if s.getBit Reg.SAF_INSP_ON n then CarMode.INSPECTION
  else if s.ffPhase n ≠ 0 then CarMode.FIREFIGHTER
  else if c.oos || s.getBit Reg.SAF_SUT_PEND n || s.oosCause n then CarMode.OUT_OF_SERVICE
  else if c.ind || c.key then CarMode.INDEPENDENT
  else CarMode.NORMAL

/-- Calls committed to a car and not boarded go back to the group (R292); its tentative ones lose their place. -/
def State.returnCalls (s : State) (n : Nat) : State :=
  (s.carCalls n).foldl (fun (s : State) (e : Nat × Call) =>
    if e.2.kind = 2 ∨ e.2.state = 3 then s
    else if e.2.state = 2 then s.returnCall e.1
    else s.modCall e.1 (fun c => { c with car := 15 })) s

/-- CAR calls of a car are cleared. -/
def State.clearCarCalls (s : State) (n : Nat) : State :=
  ((s.carCalls n).filter (fun (e : Nat × Call) => e.2.kind == 2)).foldl (fun (s : State) (e : Nat × Call) => s.freeCall e.1) s

/-- The committed stop is abandoned with the car. -/
def State.abandonStops (s : State) (n : Nat) : State := ((s.preCancel n).setStops n []).stopCar n false

/-- A car changes mode. -/
def State.changeMode (s : State) (n m : Nat) : State :=
  let old := s.get (Reg.CAR_MODE n)
  let s := ((s.set (Reg.CAR_MODE n) m).irq (Page.CAR n) Irq.CAR_MODE).irq Page.LFT Irq.LFT_CAR_MODE
  let s := s.modCar n (fun c => { c with insp := 0 })
  let s := if (s.car n).learn.isSome || (s.car n).refer.isSome then s else s.releaseSpeed n
  let s := if old = CarMode.NORMAL then s.returnCalls n else s
  let byCmd := m == CarMode.OUT_OF_SERVICE && !s.oosCause n
  let kept := m == CarMode.INDEPENDENT || m == CarMode.NORMAL || byCmd
  let s := if kept then s else s.clearCarCalls n
  let s := if kept then (s.dropStops n).restops n m else if m = CarMode.FIREFIGHTER then s else s.abandonStops n
  if m = CarMode.FIREFIGHTER then
    let s := ((s.carCalls n).filter (fun (e : Nat × Call) => e.2.state == 3)).foldl (fun (s : State) (e : Nat × Call) => s.freeCall e.1) s
    if s.ffPhase n = 1 then s.startRecall n else s
  -- a cycle under way completes to CLOSED (R323)
  else if (m = CarMode.OUT_OF_SERVICE ∨ m = CarMode.INSPECTION) ∧ s.get (Reg.CAR_DOOR_STATE n) = DoorState.HELD then s.closeDoor n false
  -- a door left STOPPED closes in NORMAL (R324)
  else if m = CarMode.NORMAL ∧ s.get (Reg.CAR_DOOR_STATE n) = DoorState.STOPPED then s.closeDoor n false
  else s

/-! ## Motion by mode -/

/-- Inspection motion (R291): while Stirrup reports a button held, towards the terminal landing in its direction. -/
def State.inspMotion (s : State) (n : Nat) : State :=
  let up := s.tap n SinFunc.INSP_UP
  let want := if s.getBit Reg.SAF_INSP_HELD n then (if up then 1 else 2) else 0
  let c := s.car n
  if want = c.insp then s
  else
    let s := s.modCar n (fun c => { c with insp := want })
    if want = 0 then s.stopCar n false
    else
      let ls := s.landings n
      let l := if want = 1 then ls.getLast?.getD 0 else ls.headD 0
      s.moveCar n (s.get (Reg.CAR_INSP_V n)) (s.level n l)

/-- The check of R295 for a stop not yet committed. -/
def State.checkStop (s : State) (n : Nat) : State :=
  match (s.car n).stops with
  | [] => s
  | x :: xs =>
    if (x :: xs).all (·.com) then s
    else
    let v := s.getS (Reg.AXIS_SP_VEL n)
    let ds := s.dStop n
    let lead : Int := s.get (Reg.AXIS_SP_LEAD_US n) + 500
    let dc := ds + (v.natAbs : Int) * fineV * lead / 1000000 + (s.get (Reg.CAR_STOP_MARGIN n) : Int) * fine1
    let (r, s) := s.quot dc (2 ^ fineBits)
    let s := s.set (Reg.CAR_D_COMMIT n) r.toNat
    let p := s.getWS (Reg.AXIS_SP_POS n)
    let q := s.level n x.landing * 65536
    let ahead := decide (v ≠ 0) && (decide (0 < v) == decide (p < q))
    let d := ((q - p).natAbs : Int) * fineP
    if x.com || !ahead then s
    else if d < ds then
      let s := s.setStops n ((s.car n).stops.drop 1)
      ((s.carCalls n).filter (fun (e : Nat × Call) => e.2.state == 1 && callNeeds e.2 [] x)).foldl (fun (s : State) (e : Nat × Call) => s.modCall e.1 (fun c => { c with car := 15 })) s
    else if d ≤ dc then s.commitStop n
    else s

/-- A PHASE2 car at rest with its door closed goes to its call (R503). -/
def State.phase2Go (s : State) (n : Nat) : State :=
  if s.axisRests n && !(s.axis n).newTarget && s.get (Reg.CAR_DOOR_STATE n) == DoorState.CLOSED then
    match (s.carCalls n).find? (fun (e : Nat × Call) => e.2.kind == 2 && e.2.state == 1) with
    | some e => (s.setStops n [⟨e.2.dest, e.2.rear, false, false, 0xFFFF⟩]).commitStop n
    | none => s
  else s

/-- Firefighter operation at a tick. -/
def State.ffMotion (s : State) (n : Nat) : State :=
  let s := if s.ffBlocked n then (if s.ffPhase n = 4 then s else ((s.setPhase n 4).stopCar n false).modCar n (fun c => { c with recallStep := 0 }))
    else if s.ffPhase n = 4 then (s.setPhase n 1).startRecall n else s
  let ph := s.ffPhase n
  let c := s.car n
  if ph = 1 then
    if c.recallStep = 0 then s.startRecall n
    else if c.recallStep = 1 ∧ s.axisRests n = true ∧ (s.axis n).newTarget = false then s.modCar n (fun c => { c with recallStep := 2 })
    else if c.recallStep = 4 ∧ s.get (Reg.CAR_DOOR_STATE n) = DoorState.CLOSED then s.recallPlan n
    else if c.recallStep = 3 ∧ s.getWS (Reg.AXIS_TARGET n) ≠ s.level n s.recallLanding * 65536 ∧ c.at_ = none then s.startRecall n
    else s
  else if ph = 3 then s.phase2Go n
  else s

/-- The travel direction: of the set-point, or of the committed stop ahead. -/
def State.showDir (s : State) (n : Nat) : State :=
  let v := s.getS (Reg.AXIS_SP_VEL n)
  let p := s.getWS (Reg.AXIS_SP_POS n)
  let ahead := (((s.car n).stops.filter (·.com)).head?).elim 0 (fun x =>
    let q := s.level n x.landing * 65536
    if p < q then 1 else if q < p then 2 else 0)
  s.set (Reg.CAR_DIR n) (if 0 < v then 1 else if v < 0 then 2 else ahead)

/-- The start-up test of a car's contacts (R350): while it is pending, a car at rest in its door zone runs one door cycle with
DWELL_CAR_MS; once it is met the group gives RETURN. -/
def State.startUpTest (s : State) (n : Nat) : State :=
  let k := (s.car n).sut
  if s.getBit Reg.SAF_SUT_PEND n then
    let s := if k = 0 then s.modCar n (fun c => { c with sut := 1 }) else s
    if k < 2 ∧ s.axisRests n = true ∧ s.flag (Reg.CAR_IN_DZ n) = true ∧ s.get (Reg.CAR_DOOR_STATE n) = DoorState.CLOSED then
      ((s.modCar n (fun c => { c with sut := 2 })).modDoor n (fun d => { d with hall := false })).openDoor n
    else s
  else if k = 0 then s
  else { carReturn n (s.modCar n (fun c => { c with sut := 0 })) with resp := s.resp }

/-- One car at a tick. -/
def State.liftTick (n : Nat) (s : State) : State :=
  if !s.carPresent n then s
  else
    let s := s.startUpTest n
    let s := if s.get (Reg.AXIS_STATE n) = AxState.FAULT then
        s.setCarFault n (if s.get (Reg.AXIS_FAULT n) = 5 then CarFault.SAFETY else CarFault.AXIS) else s
    let s := if s.get (Reg.AXIS_STATE (8 + n)) = AxState.FAULT then s.setCarFault n CarFault.AXIS else s
    let m := s.modeNow n
    let s := if s.get (Reg.CAR_MODE n) = m then
        -- another cause clears what OUT_OF_SERVICE by command had kept
        (if m = CarMode.OUT_OF_SERVICE ∧ s.oosCause n = true ∧ (s.car n).stops ≠ [] then (s.clearCarCalls n).abandonStops n else s)
      else s.changeMode n m
    let s := s.setBit Reg.LFT_AVAIL n (m == CarMode.NORMAL)
    let s := if s.groupMoves n && m != CarMode.FIREFIGHTER then s.onwards n else s
    let s := if m = CarMode.NORMAL then s.checkStop n
      else if m = CarMode.INSPECTION then s.inspMotion n
      else if m = CarMode.FIREFIGHTER then s.ffMotion n
      else s
    -- the door closes first, then the car re-levels (R317)
    let s := match (s.car n).at_ with
      | some l => if (s.car n).door.relevel = 1 ∧ s.get (Reg.CAR_DOOR_STATE n) = DoorState.CLOSED then s.relevelMove n l true
        -- RELEVEL_V_EFF follows its inputs (R316)
        else if 2 ≤ (s.car n).door.relevel then s.holdSpeed n (s.relevelVEff n) else s
      | none => s
    -- resumption after HOLDUP, which INSPECTION does not see (R297, R513)
    let s := if (s.car n).h1 = 2 ∧ m ≠ CarMode.INSPECTION ∧ s.getBit Reg.SAF_MOVE_PERM n = true ∧ s.get (Reg.AXIS_STATE n) = AxState.STOPPED then
        axisCmd n 4 (s.modCar n (fun c => { c with h1 := 0 })) else s
    -- departure
    let s := if (s.car n).at_.isSome && s.get (Reg.AXIS_STATE n) == AxState.MOVING && decide ((s.car n).door.relevel < 2) then
        s.modCar n (fun c => { c with at_ := none, atStop := none }) else s
    s.showDir n

/-- MOTION_TICK: the group decides, the axes move, the doors follow; lanterns light (R302). -/
def execMotionTick (ns : Nat) (s : State) : Out State :=
  if s.sysHeld then .next s
  else
    let s := if s.greedy && !s.flag Reg.LFT_GREEDY then s.discardTentative else s
    let s := s.set Reg.LFT_GREEDY (b2n s.greedy)
    let s := foldN 8 State.liftTick s
    let s := motionTick ns s
    let s := foldN 8 (fun n s => State.serveStop n (State.doorTick n s)) s
    .next (s.calls.foldl (fun (s : State) (e : Nat × Call) => s.lantern e.1) s)

/-! ## Arrival (R294) -/

/-- The door cycle of a stop starts, with the stop's side; pre-opening has opened the door already. -/
def State.startCycle (s : State) (n : Nat) (rear : Bool) : State :=
  if (s.car n).door.preFired then s.modDoor n (fun d => { d with preFired := false })
  else if s.get (Reg.CAR_DOOR_STATE n) = DoorState.CLOSED then (s.takeSide n rear).openDoor n
  else s

/-- The car has come to rest at a landing. -/
def State.arrive (s : State) (n l : Nat) : State :=
  let s := (s.set (Reg.CAR_LANDING n) l).irq (Page.CAR n) Irq.CAR_ARRIVED
  let s := ((s.modCar n (fun c => { c with at_ := some l, dzNext := false })).set (Reg.CAR_REV_RUN n) 0).set (Reg.CAR_RETRY n) 0
  s.modDoor n (fun d => { d with firstEnd := none })

/-- Re-level at arrival where the car is more than 200 units off. -/
def State.arriveLevel (s : State) (n l : Nat) : State :=
  if 200 < (s.getS (Reg.CAR_POS n) - s.level n l).natAbs then s.relevel n l else s

/-- A re-level has ended: a door that closed for it reopens with a new dwell. -/
def State.relevelled (s : State) (n : Nat) : State :=
  let shut := (s.car n).door.relevel == 3
  let s := (s.releaseSpeed n).modDoor n (fun d => { d with relevel := 0 })
  if shut && s.get (Reg.CAR_DOOR_STATE n) == DoorState.CLOSED then s.openDoor n else s

/-- CAR_ARRIVAL: the axis has come to rest at the LEVEL it was sent to; the stop's passengers wait for its door (R299). -/
def execCarArrival (n : Fin 8) (s : State) : Out State :=
  let n := n.val
  let at' := fun (l : Nat) => decide (s.getWS (Reg.AXIS_SP_POS n) = s.level n l * 65536)
  .next (if !s.carPresent n || s.get (Reg.AXIS_STATE n) != AxState.STANDSTILL || !s.axisRests n || (s.axis n).newTarget then s
  else if 2 ≤ (s.car n).door.relevel then s.relevelled n
  else if s.ffPhase n = 1 then
    if (s.car n).recallStep = 3 ∧ at' s.recallLanding = true ∧ (s.car n).at_ = none then
      let l := s.recallLanding
      ((s.arrive n l).startCycle n (!s.servesSide n l false && s.servesSide n l true)).arriveLevel n l
    else s
  else match (s.car n).stops with
    | x :: xs =>
      if x.com && at' x.landing then
        let s := (s.arrive n x.landing).modCar n (fun c => { c with atStop := some x })
        let s := (s.modDoor n (fun d => { d with hall := s.servesOrigin n x })).setStops n xs
        let m := s.get (Reg.CAR_MODE n)
        let s := if m = CarMode.FIREFIGHTER then s.takeSide n x.rear else s.startCycle n x.rear
        (s.arriveLevel n x.landing).serveStop n
      else s
    | [] => s)

/-- DOOR_OPENED: OPEN with its dwell, and the stop's passengers board (R299); a car in RECALL at its landing is PARKED (R503). -/
def execDoorOpened (n : Fin 8) (s : State) : Out State :=
  let s := State.serveStop n (doorOpened n s)
  .next (if s.ffPhase n = 1 ∧ s.get (Reg.CAR_DOOR_STATE n) = DoorState.OPEN ∧ (s.car n).recallStep = 3 ∧ (s.car n).at_ = some s.recallLanding then
    (s.setPhase n 2).modCar n (fun c => { c with recallStep := 0 }) else s)

/-! ## Agreement rounds (R448, R450) -/

/-- The STANDBY takes over the ACTIVE's calls and stops; a stop that committed there commits here. -/
def State.takeCalls (s : State) (m : RoundIn) : State :=
  match m.calls with
  | none => s
  | some (cs, ss) =>
    let s := { s with calls := cs.foldl (fun (k : KV Call) (e : Fin 4096 × Call) => KV.put k e.1.val e.2) [] }
    ss.foldl (fun (s : State) (e : Fin 8 × List Stop) =>
      let was := ((s.car e.1).stops.filter (·.com)).head?.map (·.landing)
      let s := s.setStops e.1 e.2
      match (e.2.filter (·.com)).head? with
      | some x =>
        if was = some x.landing then s
        else
          let up := decide (s.getWS (Reg.AXIS_SP_POS e.1) ≤ s.level e.1 x.landing * 65536)
          targetChange e.1 (s.level e.1 x.landing * 65536) ((s.releaseSpeed e.1).modDoor e.1 (fun d => { d with prePend := some (x.landing, up) }))
      | none => s) s

/-- AGREEMENT_ROUND. -/
def execAgreementRound (m : RoundIn) (s : State) : Out State :=
  let was := (List.range 8).map (fun n => (s.getS (Reg.CAR_POS n), s.flag (Reg.CAR_POS_VALID n)))
  let standby := s.get Reg.TWN_STATE == TwinState.STANDBY
  let greedy := s.greedy
  let s := s.twinned (agreementRound m)
  let s := if s.greedy && !greedy then s.discardTentative else s
  let s := if s.inPair then foldN 8 (State.roundPos was) s else s
  .next (if standby && s.get Reg.TWN_STATE == TwinState.STANDBY then s.takeCalls m else s)

end Sys2Proof.Machine
end

