-- ==== Sys2Proof/Machine/Can.lean ====
section
/-! DEFINITION. The CAN FD channels: transmission, reception, nodes, sleep and bus-off (R414 to R428), set-point frames
(R279, R308, R322) and status reports (R423). -/

namespace Sys2Proof.Machine

/-! Codes of CH_STAT.STATE. -/
namespace CanState
abbrev OFF : Nat := 0
abbrev ACTIVE : Nat := 1
abbrev PASSIVE : Nat := 2
abbrev BUS_OFF : Nat := 3
abbrev RECOVERING : Nat := 4
abbrev ASLEEP : Nat := 5
end CanState

/-- A channel that takes part in the bus. -/
def State.canOn (s : State) (c : Nat) : Bool := s.get (Reg.CANCH_STATE c) == CanState.ACTIVE || s.get (Reg.CANCH_STATE c) == CanState.PASSIVE

/-- Error counters, with ACTIVE or PASSIVE as ISO 11898-1 lays down (log entry 28). -/
def State.canErrors (s : State) (c tec rx : Nat) : State :=
  let s := (s.set (Reg.CANCH_TEC c) (min 255 tec)).set (Reg.CANCH_REC c) (min 255 rx)
  if s.canOn c then s.set (Reg.CANCH_STATE c) (if 128 ≤ tec ∨ 128 ≤ rx then CanState.PASSIVE else CanState.ACTIVE) else s

/-! ## Enable (R415) -/

/-- Whether the bit timing gives admitted rates. Times are in periods of the 80 MHz clock. -/
def State.timingOk (s : State) (c : Nat) : Bool :=
  let n := (s.get (Reg.CANCH_NTSEG1 c) + s.get (Reg.CANCH_NTSEG2 c) + 3) * (s.get (Reg.CANCH_NBRP c) + 1)
  let d := (s.get (Reg.CANCH_DTSEG1 c) + s.get (Reg.CANCH_DTSEG2 c) + 3) * (s.get (Reg.CANCH_DBRP c) + 1)
  decide (80 ≤ n) && decide (n ≤ 640) && decide (16 ≤ d) && decide (d ≤ n) && (decide (80 ≤ d) || s.flag (Reg.CANCH_TDC_EN c))

/-- A write of a channel's ENABLE. -/
def canEnable (c : Nat) (on : Bool) (s : State) : State :=
  if on then
    if s.flag (Reg.HDR_ENABLE (Page.CANCH c)) then s
    else if s.timingOk c then
      (((s.setFlag (Reg.HDR_ENABLE (Page.CANCH c)) true).setFlag (Reg.HDR_ENABLED (Page.CANCH c)) true).set (Reg.CANCH_STATE c) CanState.ACTIVE).canErrors c 0 0
    else s.err (Page.CANCH c) Err.CANCH_CFG_RANGE
  else ((s.setFlag (Reg.HDR_ENABLE (Page.CANCH c)) false).setFlag (Reg.HDR_ENABLED (Page.CANCH c)) false).set (Reg.CANCH_STATE c) CanState.OFF

def execCanEnable (c : Fin 4) (on : Bool) (s : State) : Out State := .next (canEnable c on s)

/-! ## Transmission (R417 to R419) -/

/-- Bytes that a DLC gives. -/
def dlcBytes (fdf : Bool) (d : Nat) : Nat :=
  if d ≤ 8 then d else if !fdf then 8 else [12, 16, 20, 24, 32, 48, 64].getD (d - 9) 64

/-- The frames that software has queued. -/
def CanChan.queued (x : CanChan) : List CanFrame := x.tx.filter (fun f => !f.engine)

/-- CMD TX_PUSH. With FD_EN clear the frame is a classical one (log entry 28). -/
def txPush (c : Nat) (s : State) : State :=
  if 32 ≤ (s.can c).queued.length then s.err (Page.CANCH c) Err.CANCH_TXQ_FULL
  else
    let fdf := s.flag (Reg.CANCH_TX_FDF c) && s.flag (Reg.CANCH_FD_EN c)
    let ide := s.flag (Reg.CANCH_TX_IDE c)
    let dlc := s.get (Reg.CANCH_TX_DLC c)
    let all := (List.range 16).foldr (fun w a => leBytes 4 (s.get (Reg.CANCH_TX_DATA c w)) ++ a) []
    let id := if ide then s.get (Reg.CANCH_TX_ID c) else s.get (Reg.CANCH_TX_ID c) % 2048
    let f : CanFrame := ⟨false, ide, fdf, s.flag (Reg.CANCH_TX_BRS c), dlc, id, all.take (dlcBytes fdf dlc), none, 0, 0⟩
    let s := s.modCan c (fun x => { x with tx := x.tx ++ [f] })
    if s.inPair then { s with twin := { s.twin with roundOut := s.twin.roundOut ++ frameWords f.id f.data } } else s

def execTxPush (c : Fin 4) (s : State) : Out State := .next (txPush c s)

/-- CMD TX_ABORT_ALL: between attempts no frame is in transmission. -/
def txAbortAll (c : Nat) (s : State) : State := s.modCan c (fun x => { x with tx := x.tx.filter (·.engine) })

def execTxAbortAll (c : Fin 4) (s : State) : Out State := .next (txAbortAll c s)

/-- The order of arbitration: a base identifier counts with its 18 low bits 0 and goes before an extended one of equal
value. -/
def CanFrame.key (f : CanFrame) : Nat := if f.ide then 2 * f.id + 1 else 2 * (f.id * 2 ^ 18)

/-- The index of the frame offered: the lowest identifier, the earliest entered among equals. -/
def offered (l : List CanFrame) : Option Nat :=
  match l with
  | [] => none
  | f :: fs => let m := fs.foldl (fun a g => min a g.key) f.key; l.findIdx? (fun g => g.key == m)

/-- A failed attempt: a queue frame is abandoned after RETRY_LIM retries. -/
def State.txFailed (s : State) (c i : Nat) (f : CanFrame) : State :=
  let tries := f.tries + 1
  if !f.engine && decide (s.get (Reg.CANCH_RETRY_LIM c) < tries) then
    ((s.modCan c (fun x => { x with tx := x.tx.eraseIdx i })).bump (Reg.CANCH_TX_ABANDON c)).irq (Page.CANCH c) Irq.CANCH_TX_ABANDON
  else s.modCan c (fun x => { x with tx := x.tx.set i { f with tries := tries } })

/-! ## Set-point frames (R279, R308, R322, R418) -/

/-- Frames of an axis not sent by the next 1 ms instant are dropped. -/
def State.dropLate (s : State) (n : Nat) : State :=
  let c := s.get (Reg.AXIS_CAN_CH n)
  let late := ((s.can c).tx.filter (fun f => f.axis == some n)).length
  (s.modCan c (fun x => { x with tx := x.tx.filter (fun f => f.axis != some n) })).bumpBy (Reg.CANCH_SP_LATE c) late

/-- DEMAND of a door axis (R322), Q2.30. -/
def State.doorDemand (s : State) (n : Nat) : State :=
  let a := s.getS (Reg.AXIS_SP_ACC (8 + n))
  let v := s.getS (Reg.AXIS_SP_VEL (8 + n))
  let num := (-(s.get (Reg.CAR_MASS n) : Int) * a - (s.get (Reg.CAR_F_FRIC n) : Int) * 1000000 * v.sign) * 2 ^ 30
  let (q, s) := s.quot num (max 1 (s.get (Reg.CAR_F_STALL n)) * 1000000)
  s.setS (Reg.CAR_DEMAND n) (clampI (-2 ^ 31) (2 ^ 31 - 1) q)

/-- The frame of one axis. None while it is DISABLED, or from a bus-off until CLEAR_FAULT (R427). A door's operator on
the side not in use is held at 0. -/
def State.setpointOf (n : Nat) (s : State) : State :=
  let s := s.dropLate n
  let st := s.get (Reg.AXIS_STATE n)
  if st = AxState.DISABLED ∨ (st = AxState.FAULT ∧ (s.axis n).offBus = true) then s
  else
    let t := s.unow + s.get (Reg.AXIS_SP_LEAD_US n) * 1000
    let s := if n < 8 then s else s.doorDemand (n - 8)
    let count := (s.axis n).frames
    let s := s.sendSetpoint n t 0
    if 8 ≤ n ∧ s.flag (Reg.CAR_REAR_FITTED (n - 8)) = true then
      let k := n - 8
      let other := if s.flag (Reg.CAR_SIDE_REAR k) then s.get (Reg.AXIS_NODE n) else s.get (Reg.CAR_REAR_NODE k)
      s.canPush (s.get (Reg.AXIS_CAN_CH n)) (setpointFrame n other ⟨0, 0, 0⟩ (s.taiOf t) count 0 (s.get (Reg.CAR_ILIM_CLOSE k) * s.get (Reg.AXIS_IDLE_PCT n) / 100))
    else s

/-- SETPOINT_FRAME. -/
def execSetpointFrame (s : State) : Out State :=
  .next (if s.sysHeld || !s.flag (Reg.HDR_ENABLE Page.MOT) then s else foldN 16 State.setpointOf s)

/-! ## Nodes (R424) -/

/-- NODE_ALIVE of a node changes. -/
def State.nodeAlive (s : State) (c k : Nat) (v : Bool) : State :=
  if s.getBit (Reg.CANCH_NODE_ALIVE c (k / 32)) (k % 32) = v then s
  else (s.setBit (Reg.CANCH_NODE_ALIVE c (k / 32)) (k % 32) v).irq (Page.CANCH c) Irq.CANCH_NODE

/-- A node of the table is marked absent; its inputs go COMM_FAIL (R211), and writes to it that are not confirmed, sent or not, are
undeliverable. -/
def State.nodeGone (s : State) (c k : Nat) : State :=
  let s := (s.nodeAlive c k false).commFail (s.nodeInputs c k)
  let s := s.modCan c (fun x => { x with sdo := x.sdo.filter (fun e => e.1 != k) })
  let lost := s.scan.handed.filter (fun p => s.get (Reg.PT_BIND p) == 2 && s.get (Reg.PT_TARGET p) / 2 ^ 19 == 128 * c + k)
  let s := { s with deliveries := s.deliveries.filter (fun (d : Nat × Word) => !lost.contains d.1) }
  lost.foldl (fun (s : State) p => s.undeliverable p) s

/-- HEARTBEAT_RECEIVE. -/
def heartbeat (c k : Nat) (s : State) : State :=
  if s.getBit (Reg.CANCH_NODE_CFG c (k / 32)) (k % 32) then s.nodeAlive c k true else s

def execHeartbeatReceive (c : Fin 4) (k : Fin 128) (s : State) : Out State :=
  .next (if s.canOn c then heartbeat c k (s.bump (Reg.CANCH_RX_FRAMES c)) else s)

def execNodeAbsent (c : Fin 4) (k : Fin 128) (s : State) : Out State :=
  .next (if s.getBit (Reg.CANCH_NODE_CFG c (k / 32)) (k % 32) then s.nodeGone c k else s)

/-- The link fault of a car or door axis (R276); its node is absent too. -/
def State.linkFault (s : State) (n : Nat) : State := (s.faultAxis n 3).nodeGone (s.get (Reg.AXIS_CAN_CH n)) (s.axisNode n)

/-- DRIVE_LINK_FAULT: no status report for 3 ms. -/
def execDriveLinkFault (n : Fin 16) (s : State) : Out State := .next (s.linkFault n)

/-- The channel goes bus-off, TEC having exceeded 255: its axes take the link fault (R427). -/
def State.goBusOff (s : State) (c : Nat) : State :=
  let s := ((s.set (Reg.CANCH_STATE c) CanState.BUS_OFF).bump (Reg.CANCH_BUSOFF_CNT c)).irq (Page.CANCH c) Irq.CANCH_BUSOFF
  let s := s.set (Reg.CANCH_TEC c) 255
  foldN 16 (fun n s =>
    let st := s.get (Reg.AXIS_STATE n)
    if s.get (Reg.AXIS_CAN_CH n) = c ∧ st ≠ AxState.DISABLED then
      (s.linkFault n).modAxis n (fun x => { x with offBus := x.offBus || st != AxState.FAULT || s.get (Reg.AXIS_FAULT n) == 3 })
    else s) s

/-! ## Attempts (R417 to R419, R427) -/

/-- A transmit error: TEC rises by 8, and above 255 the channel goes bus-off. -/
def State.txError (s : State) (c tec rx : Nat) : State :=
  let s := s.canErrors c (tec + 8) rx
  if 255 < tec + 8 then s.goBusOff c else s

/-- The transmitter delay that the compensation measures on a frame with bit rate switch; the spec gives it no value (log
entry 28). -/
def State.measureDelay (s : State) (c : Nat) (f : CanFrame) : State :=
  if f.brs && s.flag (Reg.CANCH_TDC_EN c) then
    let (v, s) := s.fresh
    s.set (Reg.CANCH_TDCV c) v
  else s

/-- CAN_TX_ATTEMPT. -/
def canTxAttempt (c : Nat) (o : TxOutcome) (s : State) : State :=
  if !s.canOn c || s.get Reg.TWN_STATE == TwinState.RESYNC then s
  else match offered (s.can c).tx with
    | none => s
    | some i =>
      match (s.can c).tx[i]? with
      | none => s
      | some f =>
        let tec := s.get (Reg.CANCH_TEC c)
        let rx := s.get (Reg.CANCH_REC c)
        match o with
        | .sent =>
          let s := (s.modCan c (fun x => { x with tx := x.tx.eraseIdx i })).send .canFrame c f.id f.data
          ((s.bump (Reg.CANCH_TX_FRAMES c)).measureDelay c f).canErrors c (tec - 1) rx
        | .lost => s.txFailed c i { f with clashes := 0 }
        | .error => (s.txFailed c i { f with clashes := 0 }).txError c tec rx
        | .clash =>
          let f := { f with clashes := f.clashes + 1 }
          let s := if s.inPair then { s with twin := { s.twin with roundOut := s.twin.roundOut ++ [BitVec.ofNat 32 (2 ^ 31 + f.id)] } } else s
          let s := if f.clashes = 2 then
              let s := if s.getBit (Reg.HDR_ERR_STAT (Page.CANCH c)) Err.CANCH_ID_CLASH then s
                else s.set (Reg.CANCH_CLASH_ID c) (b2n f.ide * 2 ^ 31 + f.id)
              (s.err (Page.CANCH c) Err.CANCH_ID_CLASH).record sevWarning (Page.CANCH c) 1 f.id []
            else s
          (s.txFailed c i f).txError c tec rx

def execCanTxAttempt (c : Fin 4) (o : TxOutcome) (s : State) : Out State := .next (canTxAttempt c o s)

/-! ## SDO downloads (R211, R424); the frame follows CiA 301 (log entry 28) -/

/-- SDO_DOWNLOAD: a value that waits for a point of BIND 2 is sent. -/
def execSdoDownload (n : Fin 8192) (s : State) : Out State :=
  .next (match s.deliveries.find? (fun (d : Nat × Word) => d.1 == n.val) with
  | none => s
  | some d =>
    if s.get (Reg.PT_BIND n) ≠ 2 then s
    else
      let tg := s.get (Reg.PT_TARGET n)
      let c := tg / 2 ^ 26 % 4
      let k := tg / 2 ^ 19 % 128
      let s := { s with deliveries := s.deliveries.filter (fun (d : Nat × Word) => d.1 != n.val) }
      if s.nodeAbsent c k then (if s.scan.handed.contains n.val then s.undeliverable n else s)
      else
        let f : CanFrame := ⟨true, false, false, false, 8, 0x600 + k, [0x23] ++ leBytes 2 (tg % 65536) ++ [0] ++ leBytes 4 d.2.toNat, none, 0, 0⟩
        (s.canPush c f).modCan c (fun x => { x with sdo := x.sdo ++ [(k, n.val, d.2)] }))

/-- The download that a node's response or silence ends: the oldest. One that fails finds its write undeliverable, and the node's
inputs go COMM_FAIL with it (R211). -/
def State.sdoEnd (s : State) (c k : Nat) (ok : Bool) : State :=
  match (s.can c).sdo.find? (fun (e : Nat × Nat × Word) => e.1 == k) with
  | none => s
  | some e =>
    let s := s.modCan c (fun x => { x with sdo := x.sdo.erase e })
    if !s.scan.handed.contains e.2.1 then s else if ok then s.confirmed e.2.1 else (s.undeliverable e.2.1).commFail (s.nodeInputs c k)

def execSdoResponse (c : Fin 4) (k : Fin 128) (ok : Bool) (s : State) : Out State :=
  .next (if s.canOn c then (s.bump (Reg.CANCH_RX_FRAMES c)).sdoEnd c k ok else s)

def execSdoTimeout (c : Fin 4) (k : Fin 128) (s : State) : Out State := .next (s.sdoEnd c k false)

/-! ## Status reports (R423) -/

/-- A report reaches the axes whose operator the node is. -/
def statusReport (c k : Nat) (r : DriveReport) (s : State) : State :=
  foldN 16 (fun n s =>
    if s.get (Reg.AXIS_CAN_CH n) = c ∧ s.axisNode n = k ∧ s.get (Reg.AXIS_STATE n) ≠ AxState.DISABLED then
      let s := if 8 ≤ n then
          let s := (s.setWS (Reg.AXIS_ACT_POS n) r.act.toInt).setS (Reg.CAR_CURRENT (n - 8)) r.cur.toInt
          (s.modDoor (n - 8) (fun d => { d with report := some s.unow })).coupleCheck (n - 8)
        else s
      if r.status.getLsbD 2 then s.faultAxis n 2 [BitVec.ofNat 32 r.code.toNat]
      else s.modAxis n (fun x => { x with causeLive := x.causeLive && !(s.get (Reg.AXIS_FAULT n) == 2 || s.get (Reg.AXIS_FAULT n) == 3) })
    else s) s

/-- DRIVE_STATUS_REPORT. -/
def execDriveStatusReport (c : Fin 4) (k : Fin 128) (r : DriveReport) (s : State) : Out State :=
  .next (if s.canOn c && !s.sysHeld then statusReport c k r (s.bump (Reg.CANCH_RX_FRAMES c)) else s)

/-! ## Reception (R420, R421, R425) -/

/-- Whether an identifier belongs to a node of the channel's table: its node. -/
def State.engineNode (s : State) (c id : Nat) : Option (Nat × Nat) :=
  ([0x180, 0x280, 0x380, 0x480, 0x580, 0x700].map (fun b => (b, id - b))).find? (fun (e : Nat × Nat) =>
    decide (e.1 ≤ id) && decide (e.2 < 128) && decide (0 < e.2) && s.getBit (Reg.CANCH_NODE_CFG c (e.2 / 32)) (e.2 % 32))

/-- What a fixture's message does (R425, R298, R313, R291, R504). -/
def fixture (m : FixMsg) (s : State) : State :=
  match m with
  | .call c => if s.flag (Reg.HDR_ENABLE Page.LFT) then (s.enterCall c).2 else s
  | .doorButton n opens pressed => if s.carPresent n then doorButton n opens pressed s else s
  | .lightBarrier n on => (s.modDoor n (fun d => { d with barrier := on })).doorInputs n
  | .keySwitch n on => s.modCar n (fun x => { x with key := on })
  | .load n kg => s.modCar n (fun x => { x with load := kg })

/-- A number from bytes, least significant first. -/
def ofBytes : List Nat → Nat
  | [] => 0
  | b :: bs => b % 256 + 256 * ofBytes bs

/-- The status report of 16 bytes. -/
def reportOf (d : List Nat) : DriveReport :=
  ⟨BitVec.ofNat 64 (ofBytes (d.take 8)), BitVec.ofNat 16 (ofBytes ((d.drop 8).take 2)), BitVec.ofNat 16 (ofBytes ((d.drop 10).take 2)),
    BitVec.ofNat 16 (ofBytes ((d.drop 12).take 2)), BitVec.ofNat 8 (d.getD 14 0)⟩

/-- A frame of a node of the table, to its engine. -/
def State.engineFrame (s : State) (c base k : Nat) (f : CanRx) (m : Option FixMsg) : State :=
  let s := if base = 0x180 ∧ f.data.length = 16 then statusReport c k (reportOf f.data) s
    else if base = 0x580 then s.sdoEnd c k (f.data.headD 0 != 0x80)
    else if base = 0x700 then heartbeat c k s
    else s
  match m with | some m => fixture m s | none => s

/-- CAN_FRAME_RECEIVE. With FD_EN clear the channel takes classical frames only (log entry 28). An entry of the receive queue
reads 0 as its sequence value until the sequencer gives it one (R158, DESIGN CHOICE, log entry 93). -/
def canFrameReceive (c : Nat) (f : CanRx) (m : Option FixMsg) (s : State) : State :=
  if !s.canOn c || (f.fdf && !s.flag (Reg.CANCH_FD_EN c)) then s
  else
    let s := (s.bump (Reg.CANCH_RX_FRAMES c)).canErrors c (s.get (Reg.CANCH_TEC c)) (s.get (Reg.CANCH_REC c) - 1)
    match (if f.ide then none else s.engineNode c f.id) with
    | some e => s.engineFrame c e.1 e.2 f m
    | none =>
      let hit := (List.range 32).find? (fun i => s.flag (Reg.CANCH_FLT_EN c i) && s.flag (Reg.CANCH_FLT_IDE c i) == f.ide
        && (f.id ^^^ s.get (Reg.CANCH_FLT_ID c i)) &&& s.get (Reg.CANCH_FLT_MASK c i) == 0)
      match hit with
      | none => s.bump (Reg.CANCH_RX_FILTERED c)
      | some i =>
        if 64 ≤ (s.can c).rx.length then s.bump (Reg.CANCH_RX_OVF c)
        else
          let was := (s.can c).rx.isEmpty
          let s := s.modCan c (fun x => { x with rx := x.rx ++ [⟨f.ide, f.fdf, f.brs, f.esi, f.rtr, i, f.dlc, f.id, f.ts, 0, f.data⟩] })
          let s := s.report ⟨f.ts, .can (Fin.ofNat 4 c)⟩
          if was then s.irq (Page.CANCH c) Irq.CANCH_RX else s

def execCanFrameReceive (c : Fin 4) (f : CanRx) (m : Option FixMsg) (s : State) : Out State :=
  .next (if s.sysHeld then s else canFrameReceive c f m s)

/-- A write of RX_ACK. -/
def rxAck (c n : Nat) (s : State) : State :=
  if (s.can c).rx.length < n then s.err (Page.CANCH c) Err.CANCH_ACK_RANGE
  else (s.modCan c (fun x => { x with rx := x.rx.drop n })).set (Reg.CANCH_RX_HEAD c) ((s.get (Reg.CANCH_RX_HEAD c) + n) % 64)

def execRxAck (c : Fin 4) (n : Fin 128) (s : State) : Out State := .next (rxAck c n s)

/-! ## Sleep and wake (R426, R514) -/

/-- Whether an axis that is not DISABLED names the channel, or a node of its table is present. -/
def State.canInUse (s : State) (c : Nat) : Bool :=
  (List.range 16).any (fun n => s.get (Reg.AXIS_STATE n) != AxState.DISABLED && s.get (Reg.AXIS_CAN_CH n) == c)
    || (List.range 128).any (fun k => s.getBit (Reg.CANCH_NODE_CFG c (k / 32)) (k % 32) && s.getBit (Reg.CANCH_NODE_ALIVE c (k / 32)) (k % 32))

/-- CMD SLEEP. -/
def canSleep (c : Nat) (s : State) : State :=
  if s.get Reg.FIR_MODE ≠ 0 ∨ s.canInUse c = true then (s.err (Page.CANCH c) Err.CANCH_NOT_READY).answer Status.E_STATE []
  else if s.canOn c then (s.set (Reg.CANCH_STATE c) CanState.ASLEEP).answer Status.OK []
  else s.answer Status.OK []

/-- A channel returns to operation. -/
def canWake (c : Nat) (s : State) : State :=
  if s.get (Reg.CANCH_STATE c) = CanState.ASLEEP then
    ((((s.set (Reg.CANCH_STATE c) CanState.ACTIVE).canErrors c (s.get (Reg.CANCH_TEC c)) (s.get (Reg.CANCH_REC c))).bump (Reg.CANCH_WAKE_CNT c)).irq (Page.CANCH c) Irq.CANCH_WAKE)
  else s

def execCanSleep (c : Fin 4) (s : State) : Out State := .next (canSleep c s)
def execCanWake (c : Fin 4) (s : State) : Out State := .next ((canWake c s).answer Status.OK [])

/-- Whether a bus event wakes the channel under WAKE_MODE. -/
def State.wakes (s : State) (c : Nat) (e : WakeEvent) : Bool :=
  match e with
  | .pattern => !s.flag (Reg.CANCH_WAKE_MODE c)
  | .frame fd ide id dlc data =>
    s.flag (Reg.CANCH_WAKE_MODE c) && !fd && ide == bitOf (s.get (Reg.CANCH_WUF_ID c)) 31
      && (id ^^^ (s.get (Reg.CANCH_WUF_ID c) % 2 ^ 29)) &&& (s.get (Reg.CANCH_WUF_MASK c) % 2 ^ 29) == 0
      && dlc == s.get (Reg.CANCH_WUF_DLC c) && decide (data.toNat &&& s.getW (Reg.CANCH_WUF_DATA c) ≠ 0)

/-- CAN_WAKE_EVENT. -/
def execCanWakeEvent (c : Fin 4) (e : WakeEvent) (s : State) : Out State := .next (if s.wakes c e then canWake c s else s)

/-! ## Bus-off (R427) -/

/-- BUS_OFF. -/
def execBusOff (c : Fin 4) (s : State) : Out State := .next (if s.canOn c then s.goBusOff c else s)

/-- Recovery starts. -/
def State.canRecover (s : State) (c : Nat) : State :=
  if s.get (Reg.CANCH_STATE c) = CanState.BUS_OFF then s.set (Reg.CANCH_STATE c) CanState.RECOVERING else s

/-- CMD RECOVER. -/
def execCanRecover (c : Fin 4) (s : State) : Out State := .next ((s.canRecover c).answer Status.OK [])

/-- BUS_OFF_RECOVERY_START: BO_DELAY_MS after bus-off, with AUTO_RECOVER. -/
def execBusOffRecoveryStart (c : Fin 4) (s : State) : Out State := .next (if s.flag (Reg.CANCH_AUTO_RECOVER c) then s.canRecover c else s)

/-- BUS_OFF_RECOVERED. -/
def execBusOffRecovered (c : Fin 4) (s : State) : Out State :=
  .next (if s.get (Reg.CANCH_STATE c) = CanState.RECOVERING then (s.set (Reg.CANCH_STATE c) CanState.ACTIVE).canErrors c 0 0 else s)

/-- A command of CAN CMD. -/
def canCmd (c k : Nat) (s : State) : State :=
  if k = 1 then canSleep c s
  else if k = 2 then (canWake c s).answer Status.OK []
  else if k = 3 then (s.canRecover c).answer Status.OK []
  else if k = 4 then (txPush c s).answer Status.OK []
  else if k = 5 then (txAbortAll c s).answer Status.OK []
  else s.answer Status.OK []

end Sys2Proof.Machine
end

