-- ==== Sys2Proof/Machine/Fundamental.lean ====
section
/-! DEFINITION. The single-bin transform of R361: the fundamental of a series over one period, and the reactive power of two
series. Angles, cosines and sines are fixed-point numbers in 2^-128, which leaves the power exact to far less than its unit. -/

namespace Sys2Proof.Machine

/-- One in fixed point, and a whole turn in radians. -/
abbrev fixOne : Int := 2 ^ 128
abbrev fixTurn : Int := 2138057168129933495719360746323741566601

/-- Cosine and sine of an angle, by the first `k` terms of their series from term `n`, of value `t`, on. -/
def trigSum (th : Int) : Nat → Nat → Int → Int × Int
  | 0, _, _ => (0, 0)
  | k + 1, n, t =>
    let (c, s) := trigSum th k (n + 1) (t * th / fixOne / ((n : Int) + 1))
    match n % 4 with
    | 0 => (c + t, s)
    | 1 => (c, s + t)
    | 2 => (c - t, s)
    | _ => (c, s - t)

/-- The turn from one sample to the next at `f` mHz. -/
def sampleTurn (f : Nat) : Int × Int := trigSum (fixTurn * f / 16000000) 24 0 fixOne

/-- The transform of a series, newest first, over one period of `f` mHz, times `f` and in fixed point; the end sample is
weighted by its fraction. -/
def phasor (f : Nat) (xs : List Int) : Int × Int :=
  let n := 16000000 / f
  let (c, s) := sampleTurn f
  let ws : List Int := (xs.take n).map (fun (x : Int) => x * f) ++ [xs.getD n 0 * (16000000 % f : Nat)]
  ws.foldr (fun (w : Int) (acc : Int × Int) => (w * fixOne + (acc.1 * c - acc.2 * s) / fixOne, (acc.1 * s + acc.2 * c) / fixOne)) (0, 0)

/-- The reactive power of the fundamental of a voltage and a current series, times 16 000 000, in whole units. -/
def reactive (f : Nat) (vs is : List Int) : Int :=
  let v := phasor f vs
  let i := phasor f is
  2 * (v.2 * i.1 - v.1 * i.2) / (16000000 * fixOne * fixOne)

end Sys2Proof.Machine
end

