-- ==== Sys2Proof/Machine/Metering.lean ====
section
/-! DEFINITION. Metering (R355 to R381): samples, circuits, aggregates, demand, checkpoints, restored intervals and
pulse generators. Powers are exact numerators over `powerDen`; a rounding the spec does not state takes a free value
(log entry 7). -/

namespace Sys2Proof.Machine

def State.modMeter (s : State) (g : Meter → Meter) : State := { s with meter := g s.meter }

/-! ## Ratings and checks (R358, R359, R364, R377) -/

/-- The current inputs a circuit of a kind uses, in order. -/
def State.circInputs (s : State) (n : Nat) : List Nat :=
  let i := [s.get (Reg.CIRC_I_0 n), s.get (Reg.CIRC_I_1 n), s.get (Reg.CIRC_I_2 n)]
  i.take (match s.get (Reg.CIRC_KIND n) with | 1 => 1 | 2 => 3 | 3 => 2 | _ => 0)

/-- S_MAX in hundredths of VA (R358). -/
def State.sMax100 (s : State) (n : Nat) : Nat :=
  let per := if s.get (Reg.CIRC_KIND n) = 3 then 69084 else 39888
  ((s.circInputs n).map (fun k => per * s.get (Reg.MTR_I_RATED k))).foldl (· + ·) 0

/-- CIRC.S_MAX reports the rating. -/
def State.showSMax (s : State) (n : Nat) : State :=
  let (v, s) := s.quot (s.sMax100 n) 100
  s.set (Reg.CIRC_S_MAX n) v.toNat

/-- Whether circuit `b` is a member of aggregate `g`, and whether it is subtracted. -/
def State.aggHas (s : State) (g b : Nat) : Bool :=
  if b < 32 then s.getBit (Reg.MTR_AGG_MEM_LO g) b else s.getBit (Reg.MTR_AGG_MEM_HI g) (b - 32)

def State.aggSub (s : State) (g b : Nat) : Bool :=
  if b < 32 then s.getBit (Reg.MTR_AGG_SUB_LO g) b else s.getBit (Reg.MTR_AGG_SUB_HI g) (b - 32)

/-- The sum of the members' ratings, in hundredths of VA. -/
def State.aggSMax (s : State) (g : Nat) : Nat :=
  ((List.range 48).map (fun b => if s.aggHas g b then s.sMax100 b else 0)).foldl (· + ·) 0

/-- 40 MVA in hundredths of VA. -/
abbrev smaxLimit : Nat := 4000000000

def State.circOn (s : State) (n : Nat) : Bool := s.flag (Reg.HDR_ENABLE (Page.CIRC n))

/-- An input used by an enabled circuit. -/
def State.inputUsed (s : State) (k : Nat) : Bool :=
  (List.range 48).any (fun m => s.circOn m && (s.circInputs m).any (· == k))

/-- The code of the first check that fails (R359); 0 where all hold. -/
def State.circCheck (s : State) (n : Nat) : Nat :=
  let ins := s.circInputs n
  if s.get (Reg.CIRC_KIND n) = 0 then 1
  else if ins.any (fun k => decide (48 ≤ k) || s.get (Reg.MTR_SENSOR k) == 0 || ins.count k != 1
      || (List.range 48).any (fun m => m != n && s.circOn m && (s.circInputs m).any (· == k))) then 2
  else if (List.range 8).any (fun g => s.flag (Reg.MTR_AGG_EN g) && s.aggHas g n && decide (smaxLimit < s.aggSMax g)) then 3
  else 0

/-- A write of 1 to ENABLE of a CIRC page (R359). -/
def circEnable (n : Nat) (s : State) : State :=
  let c := s.circCheck n
  if c = 0 then ((((s.set (Reg.CIRC_CFG_ERR n) 0).setFlag (Reg.HDR_ENABLE (Page.CIRC n)) true).setFlag (Reg.HDR_ENABLED (Page.CIRC n)) true).showSMax n).answer Status.OK []
  else ((s.set (Reg.CIRC_CFG_ERR n) c).err (Page.CIRC n) Err.CIRC_CFG_INVALID).answer Status.E_STATE []

def execCircEnable (n : Fin 48) (s : State) : Out State := .next (circEnable n s)

/-- A write of 1 to EN of an aggregate (R364). -/
def aggEnable (g : Nat) (s : State) : State :=
  if smaxLimit < s.aggSMax g then (s.err Page.MTR Err.MTR_CFG_INVALID).answer Status.E_STATE []
  else (s.setFlag (Reg.MTR_AGG_EN g) true).answer Status.OK []

def execAggEnable (g : Fin 8) (s : State) : Out State := .next (s.unlocked Page.MTR (aggEnable g))

def State.pulseOn (s : State) (p : Nat) : Bool := s.flag (Reg.HDR_ENABLE (Page.PULSE p))

/-- The channel of a generator is in mode PULSE with SUB 1. -/
def State.pulseCh (s : State) (p : Nat) : Bool :=
  let k := s.get (Reg.PULSE_CH p)
  let w := s.word (chCfgAddr (k / 32) (k % 32))
  getBits w 31 28 == ChMode.PULSE && getBits w 13 12 == 1

/-- The rating of a generator's source, in hundredths of VA. -/
def State.pulseSMax (s : State) (p : Nat) : Nat :=
  if s.get (Reg.PULSE_SRC p) = 1 then s.aggSMax (s.get (Reg.PULSE_IDX p)) else s.sMax100 (s.get (Reg.PULSE_IDX p))

/-- The checks of R377. -/
def State.pulseCheck (s : State) (p : Nat) : Bool :=
  let k := s.get (Reg.PULSE_CH p)
  let w := s.word (chParamAddr (k / 32) (k % 32))
  s.pulseCh p && (List.range 16).all (fun o => o == p || !s.pulseOn o || s.get (Reg.PULSE_CH o) != k)
    && decide (s.pulseSMax p * (getBits w 15 0 + getBits w 31 16) ≤ 360 * s.getW (Reg.PULSE_WEIGHT p))

/-- A write of 1 to ENABLE of a PULSE page (R377). -/
def pulseEnable (p : Nat) (s : State) : State :=
  if s.pulseCheck p then ((s.setFlag (Reg.HDR_ENABLE (Page.PULSE p)) true).setFlag (Reg.HDR_ENABLED (Page.PULSE p)) true).answer Status.OK []
  else (s.err (Page.PULSE p) Err.PULSE_CFG_INVALID).answer Status.E_STATE []

def execPulseEnable (n : Fin 16) (s : State) : Out State := .next (pulseEnable n s)

/-! ## Samples (R355 to R357, R368) -/

/-- The bus of a circuit. -/
def State.circBus (s : State) (n : Nat) : Bus := if s.flag (Reg.CIRC_BUS n) then .B else .A

/-- The frequency in mHz by which a bus's window is measured (R361): of its PLL, or 50 Hz while that is not locked. -/
def State.busHz (s : State) (b : Bus) : Nat :=
  if s.flag (pllLock b) then clampN 40000 70000 (s.pll b).freq else 50000

/-- The bus an input belongs to: a voltage input's own, a current input's by the circuit that uses it. -/
def State.inputBus (s : State) (i : Nat) : Bus :=
  if i < 3 then .A else if i < 6 then .B
  else match (List.range 48).find? (fun m => s.circOn m && (s.circInputs m).any (· == i - 6)) with
    | some m => s.circBus m
    | none => .A

/-- A calibration value of an input at the island's temperature, interpolated between the points of the set (R368):
the gain (`j` 0, Q2.30) or the phase (`j` 1, ps, signed), in units of 1/100. -/
def State.calAt (s : State) (i j : Nat) : Int :=
  if s.diag.calBad then (if j = 0 then 107374182400 else 0)
  else
    let t := clampI 0 1500 (s.getS Reg.MTR_ISL_TEMP + 400)
    let m := t.toNat / 100
    let at_ := fun (k : Nat) =>
      let w := (calWord s.diag.calForce (16 + 32 * i + 2 * k + j)).toNat
      if j = 0 then (w : Int) else toSigned 32 w
    if 15 ≤ m then at_ 15 * 100 else at_ m * 100 + (at_ (m + 1) - at_ m) * (t - 100 * m)

/-- Round a quotient down or up by one bit of a free value, where it is not exact. -/
def roundBy (v i : Nat) (n : Int) (d : Nat) : Int :=
  if n % (d : Int) = 0 then n / (d : Int) else n / (d : Int) + ((b2n (bitOf v i) : Nat) : Int)

/-- The series of an input in the window, newest first, at least `m` long: as read with its gain, or as corrected. -/
def Meter.series (m : Meter) (corr : Bool) (i len : Nat) : List Int :=
  let xs := (m.win.take len).map (fun (w : MeterSample) => (if corr then w.corr else w.base).getD i 0)
  xs ++ (List.range (len - xs.length)).map (fun (k : Nat) => Config.meterBefore i k)

/-- Correct the sample of one input (R357, R368): calibration phase, sensor, sensor correction. `xs` is its series with
the calibration gain applied, newest first. A Rogowski coil gives ROGO_SENS × 0.1 µV/A at 50 Hz, and its integral is scaled by
50 Hz / f. -/
def State.correctSample (s : State) (v i : Nat) (xs : List Int) : Int :=
  let ps := roundBy v (2 * i) (s.calAt i 1) 100
  if i < 6 then (if ps = 0 then xs.headD 0 else Config.delayed ps xs)
  else
    let k := i - 6
    let f := s.busHz (s.inputBus i)
    let ps := ps + roundBy v (2 * i + 1) (s.getS (Reg.MTR_PHASE_MDEG k) * 10 ^ 15) (360000 * f)
    let g := (1000000 + s.getS (Reg.MTR_GAIN_PPM k)) * (if s.flag (Reg.MTR_INV k) then -1 else 1)
    match s.get (Reg.MTR_SENSOR k) with
    | 1 =>
      let x := if ps = 0 then xs.headD 0 else Config.delayed ps xs
      roundBy v (200 + i) (x * g * s.get (Reg.MTR_I_RATED k)) 333000
    | 2 => roundBy v (200 + i) (Config.integral ps xs * g * 50000 * 10) (f * max 1 (s.get (Reg.MTR_ROGO_SENS k)))
    | _ => 0

/-- Take a sample of all inputs into the window. -/
def State.takeSample (s : State) (raw : List Int) : State :=
  let (v, s) := s.fresh
  let base := (List.range 54).map (fun i => roundBy v (400 + i) (raw.getD i 0 * s.calAt i 0) (100 * 2 ^ 30))
  let hist := fun (i : Nat) => s.meter.series false i 511
  let corr := (List.range 54).map (fun i => s.correctSample v i (base.getD i 0 :: hist i))
  s.modMeter (fun m => { m with win := (⟨base, corr⟩ :: m.win).take 512 })

/-- The magnitude of a current input in the `j`-th sample back, in nV. -/
def State.magnitude (s : State) (i j : Nat) : Int := ((s.meter.win[j]?).elim 0 (fun (w : MeterSample) => w.base.getD (6 + i) 0)).natAbs

/-- Two per cent of a current input's full scale, the 0.6 V at which it is over its range (R357), in nV (DEDUCED, log
entry 93). -/
abbrev contactLevel : Int := 12000000

/-- The contact instants that the samples of a current input show (R156): the latest two lie above the level and the one before
does not, for closing, and the other way round for opening. The instant is interpolated between the samples to 10 µs. -/
def State.noteContacts (ts : Nat) (s : State) : State :=
  s.coilLearn.foldl (fun (s : State) (e : Nat × CoilLearn) =>
    let i := s.get (Reg.ANG_I_IN e.1)
    let a := s.magnitude i
    let rose := decide (a 2 ≤ contactLevel) && decide (contactLevel < a 1) && decide (contactLevel < a 0)
    let fell := decide (contactLevel ≤ a 2) && decide (a 1 < contactLevel) && decide (a 0 < contactLevel)
    if s.get (Reg.ANG_SRC e.1) = 2 ∧ 3 ≤ s.meter.win.length ∧ (rose || fell) = true then
      let (d, s) := s.quot (62500 * (contactLevel - a 2) * (if rose then 1 else -1)) (a 1 - a 2).natAbs
      let (c, s) := s.quot ((ts : Int) - 125000 + d) 10000
      { s with coilLearn := KV.put s.coilLearn e.1 (e.2.contact (c * 10000 - s.tb.stepSum) rose fell) }
    else s) s

/-- A sample at the limit of its range (R357): 700 V and 0.6 V peak. -/
def atLimit (raw : List Int) (i : Nat) : Bool :=
  let x := raw.getD i 0
  decide ((if i < 6 then 700000000 else 600000000) ≤ x.natAbs)

/-- OVR of every circuit that uses an input at its limit. -/
def State.judgeOvr (s : State) (raw : List Int) (n : Nat) : State :=
  let b := if s.flag (Reg.CIRC_BUS n) then 3 else 0
  let volts := match s.get (Reg.CIRC_KIND n) with | 0 => [] | 1 => [b + s.get (Reg.CIRC_PHASE n)] | _ => [b, b + 1, b + 2]
  if (volts ++ (s.circInputs n).map (· + 6)).any (atLimit raw) && !s.flag (Reg.CIRC_OVR n) then
    ((s.setFlag (Reg.CIRC_OVR n) true).irq (Page.CIRC n) Irq.CIRC_OVR).irq Page.MTR Irq.MTR_OVR
  else s

/-! ## Windows (R361) -/

/-- The sum of a series over one period of `f` mHz, the end sample weighted by its fraction, times `f`: a mean over the
window times 16 000 000. -/
def winSum (f : Nat) (xs : List Int) : Int :=
  let n := 16000000 / f
  (f : Int) * (xs.take n).foldl (· + ·) 0 + (16000000 % f : Nat) * xs.getD n 0

/-- The samples a window takes. -/
def winLen (f : Nat) : Nat := 16000000 / f + 1

/-- The mean square of a series over the window, times 16 000 000. -/
def winSq (f : Nat) (xs : List Int) : Nat := (winSum f (xs.map (fun x => x * x))).toNat

/-- The root of `n / d`, rounded by a free value where it is not exact. -/
def State.root (s : State) (n d : Nat) : Nat × State :=
  let r := isqrt (n / d)
  if r * r * d = n then (r, s) else let (v, s) := s.fresh; (r + v % 2, s)

/-- VRMS of an input, in mV. -/
def State.showVrms (s : State) (i : Nat) : State :=
  let f := s.busHz (s.inputBus i)
  let (r, s) := s.root (winSq f (s.meter.series true i (winLen f))) (16000000 * 10 ^ 6)
  s.set (Reg.MTR_VRMS i) r

/-- Whether a bus is present (R357): 40 V rms on a phase. -/
def State.busSeen (s : State) (b : Bus) : Bool :=
  let f := s.busHz b
  (match b with | .A => [0, 1, 2] | .B => [3, 4, 5]).any (fun i =>
    decide (16000000 * 40000000 ^ 2 ≤ winSq f (s.meter.series true i (winLen f))))

def vpresFld (b : Bus) : Fld := match b with | .A => Reg.MTR_VPRES_A | .B => Reg.MTR_VPRES_B

def State.judgeBus (s : State) (b : Bus) : State :=
  let v := s.busSeen b
  if s.flag (vpresFld b) = v then s else (s.setFlag (vpresFld b) v).irq Page.MTR Irq.MTR_VPRES

/-! ## Four-quadrant integration (R361 to R364) -/

/-- p, q and s of a circuit or aggregate as numerators over `powerDen`. -/
structure Power where
  p : Int
  q : Int
  s : Int
deriving DecidableEq, Repr

/-- µV times nA, times 16 000 000, in 1 W. -/
abbrev powerDen : Nat := 16000000 * 10 ^ 15

/-- The elements of a circuit: its voltage and current series. -/
def State.elements (s : State) (n len : Nat) : List (List Int × List Int) :=
  let b := if s.flag (Reg.CIRC_BUS n) then 3 else 0
  let v := fun (ph : Nat) => s.meter.series true (b + ph) len
  let i := fun (k : Nat) => s.meter.series true (6 + (s.circInputs n).getD k 0) len
  let sub := fun (x y : List Int) => List.zipWith (fun a c => a - c) x y
  match s.get (Reg.CIRC_KIND n) with
  | 1 => [(v (s.get (Reg.CIRC_PHASE n)), i 0)]
  | 2 => [(v 0, i 0), (v 1, i 1), (v 2, i 2)]
  | 3 => [(sub (v 0) (v 1), i 0), (sub (v 2) (v 1), i 1)]
  | _ => []

/-- Below the starting current on every input (R361). -/
def State.noLoad (s : State) (n f : Nat) : Bool :=
  (s.circInputs n).all (fun k =>
    decide (winSq f (s.meter.series true (6 + k) (winLen f)) < 16000000 * (s.get (Reg.MTR_I_RATED k) * 1000000) ^ 2))

/-- The active power of a circuit over its window, and the reactive power of the fundamental, in whole units. -/
def State.circP (s : State) (n : Nat) : Int :=
  let f := s.busHz (s.circBus n)
  ((s.elements n (winLen f)).map (fun e => winSum f (List.zipWith (fun a c => a * c) e.1 e.2))).foldl (· + ·) 0
def State.circQ (s : State) (n : Nat) : Int :=
  let f := s.busHz (s.circBus n)
  ((s.elements n (winLen f)).map (fun e => reactive f e.1 e.2)).foldl (· + ·) 0

/-- p, q and s of an enabled circuit over the window (R361). The transform of the fundamental is no rational number: its last
unit is free (log entry 29). -/
def State.circPower (s : State) (n : Nat) : Power × State :=
  let f := s.busHz (s.circBus n)
  let es := s.elements n (winLen f)
  if s.noLoad n f then (⟨0, 0, 0⟩, s.setFlag (Reg.CIRC_NOLOAD n) true)
  else
    let s := s.setFlag (Reg.CIRC_NOLOAD n) false
    let p := s.circP n
    let (v, s) := s.fresh
    let q := s.circQ n + ((v % 3 : Nat) : Int) - 1
    let (a, s) := if s.get (Reg.CIRC_KIND n) = 3 then s.root (p.natAbs ^ 2 + q.natAbs ^ 2) 1
      else es.foldl (fun (acc : Nat × State) e =>
        let (r, s) := acc.2.root (winSq f e.1 * winSq f e.2) 1
        (acc.1 + r, s)) (0, s)
    (⟨p, q, a⟩, s)

/-- Set a signed or unsigned field to a value; a value outside its format is free. -/
def State.fit (s : State) (f : Fld) (signed : Bool) (v : Int) : State :=
  let lim : Int := if signed then 2 ^ 31 else 2 ^ 32
  if (if signed then -lim else 0) ≤ v ∧ v < lim then s.setS f v else let (x, s) := s.fresh; s.set f x

/-- The registers that show the last sample of a circuit. -/
def State.showPower (s : State) (n : Nat) (w : Power) : State :=
  let (p, s) := s.quot (w.p * 256) powerDen
  let s := s.fit (Reg.CIRC_P n) true p
  let (q, s) := s.quot (w.q * 256) powerDen
  let s := s.fit (Reg.CIRC_Q n) true q
  let (a, s) := s.quot (w.s * 256) powerDen
  let s := s.fit (Reg.CIRC_S n) false a
  let (pf, s) := if w.s = 0 then (0, s) else s.quot (w.p * 2 ^ 30) w.s.toNat
  let s := s.fit (Reg.CIRC_PF n) true pf
  let neg := decide (w.p < 0)
  let s := if s.flag (Reg.CIRC_EXPORTING n) = neg then s else (s.setFlag (Reg.CIRC_EXPORTING n) neg).irq (Page.CIRC n) Irq.CIRC_REVERSE
  let quad := if 0 ≤ w.q then (if neg then 1 else 0) else (if neg then 2 else 3)
  let s := (s.set (Reg.CIRC_QUAD n) quad).setFlag (Reg.CIRC_VLOW n) (!s.flag (vpresFld (s.circBus n)))
  let f := s.busHz (s.circBus n)
  foldN 3 (fun k (s : State) =>
    match (s.circInputs n)[k]? with
    | some i =>
      let (r, s) := s.root (winSq f (s.meter.series true (6 + i) (winLen f))) (16000000 * 10 ^ 12)
      s.set (Reg.CIRC_IRMS n k) r
    | none => s.set (Reg.CIRC_IRMS n k) 0) s

/-- The energy of one sample in 2^-32 µWh, half to even (R362, R363). -/
def energyOf (w : Int) (clk : Nat) : Int := divRoundEven (w * 10 ^ 6 * clk * 2 ^ 32) (powerDen * 3600 * 4096000)

/-- The increments of the eight registers, IMP, EXP, RQ1 to RQ4, AIMP, AEXP, of one sample (R362). -/
def increments (w : Power) (clk : Nat) : List Int :=
  let e := fun (x : Int) => energyOf x clk
  let imp := decide (0 ≤ w.p)
  let up := decide (0 ≤ w.q)
  let on := fun (c : Bool) (x : Int) => if c then e x else 0
  [on imp w.p, on (!imp) (-w.p), on (up && imp) w.q, on (up && !imp) w.q, on (!up && !imp) (-w.q), on (!up && imp) (-w.q),
    on imp w.s, on (!imp) w.s]

/-- The greatest value of an energy register (R363). -/
abbrev energyMax : Int := (2 ^ 63 - 1) * 2 ^ 32

/-- Add to an energy register; whether it was to pass its greatest value. -/
def State.addEnergy (s : State) (w : Wide) (d : Int) : Bool × State :=
  let v := s.getWS w + d
  if energyMax < v then (true, s.setWS w energyMax) else (false, if d = 0 then s else s.setWS w v)

/-- Energy register `r` of a circuit: IMP, EXP, RQ1 to RQ4, AIMP, AEXP. -/
def circReg (n r : Nat) : Wide := ⟨0x60080 + 0x1000 * n + 0xC * r, 3⟩

/-- Add to an energy register of a circuit: one that would pass its greatest value sets SAT (R363). -/
def State.addCirc (s : State) (n : Nat) (w : Wide) (d : Int) : State :=
  let (full, s) := s.addEnergy w d
  if full then s.setFlag (Reg.CIRC_SAT n) true else s

/-- Integrate a circuit over the sample; its increments and power. -/
def State.integrate (s : State) (clk n : Nat) : (Power × List Int) × State :=
  let (w, s) := s.circPower n
  let s := s.showPower n w
  let inc := increments w clk
  let s := foldN 8 (fun r (s : State) => s.addCirc n (circReg n r) (inc.getD r 0)) s
  ((w, inc), (s.addCirc n (Reg.CIRC_IV_IMP n) (inc.getD 0 0)).addCirc n (Reg.CIRC_IV_EXP n) (inc.getD 1 0))

/-- The increments of an enabled aggregate from those of its members (R364). -/
def State.aggIncrements (s : State) (clk g : Nat) (ms : List (Nat × Power × List Int)) : List Int :=
  let mem := ms.filter (fun e => s.aggHas g e.1)
  let sign := fun (b : Nat) => if s.aggSub g b then (-1 : Int) else 1
  if s.flag (Reg.MTR_AGG_MODE g) then
    increments ⟨(mem.map (fun e => sign e.1 * e.2.1.p)).foldl (· + ·) 0, (mem.map (fun e => sign e.1 * e.2.1.q)).foldl (· + ·) 0,
      (mem.map (fun e => e.2.1.s)).foldl (· + ·) 0⟩ clk
  else (List.range 8).map (fun r => (mem.map (fun e => sign e.1 * e.2.2.getD r 0)).foldl (· + ·) 0)

/-! ## Pulse generators (R378) -/

/-- NO_CH of an enabled generator. -/
def State.judgeCh (s : State) (p : Nat) : State :=
  let v := s.pulseOn p && !s.pulseCh p
  if s.flag (Reg.PULSE_NO_CH p) = v then s
  else
    let s := s.setFlag (Reg.PULSE_NO_CH p) v
    if v then s.irq (Page.PULSE p) Irq.PULSE_NO_CH else s

/-- A sample adds the source's increment to ACC, and whole weights to OWED. -/
def State.pulseAdd (s : State) (p : Nat) (inc : Int) : State :=
  let w := (s.getW (Reg.PULSE_WEIGHT p) : Int) * 2 ^ 32
  let acc := s.getWS (Reg.PULSE_ACC p) + inc
  if acc < w ∨ w ≤ 0 then (if inc = 0 then s else s.setWS (Reg.PULSE_ACC p) acc)
  else
    let k := (acc / w).toNat
    let s := s.setWS (Reg.PULSE_ACC p) (acc % w)
    let s := if 2 ^ 32 ≤ s.get (Reg.PULSE_OWED p) + k then s.setFlag (Reg.PULSE_OWED_SAT p) true else s
    s.bumpBy (Reg.PULSE_OWED p) k

/-- A generator hands pulses to its tile while fewer than 16 of its pulses wait there (R378). -/
def pulseHandover (p : Nat) (s : State) : State :=
  let ch := s.get (Reg.PULSE_CH p)
  let t := ch / 32
  let k := min (s.get (Reg.PULSE_OWED p)) (16 - s.get (Reg.PULSE_AT_TILE p))
  if s.meter.on && s.pulseOn p && s.pulseCh p && s.flag (Reg.TILE_LINK_UP t) && !s.flag (Reg.TILE_SAFE t) && !(s.tile t).safe && decide (0 < k) then
    let s := addPulses t (ch % 32) k s
    let s := s.modMeter (fun m => { m with atTile := KV.put m.atTile (256 * p + ch) (KV.getD m.atTile (256 * p + ch) 0 + k) })
    let s := (s.set (Reg.PULSE_OWED p) (s.get (Reg.PULSE_OWED p) - k)).set (Reg.PULSE_AT_TILE p) (s.get (Reg.PULSE_AT_TILE p) + k)
    s.setW (Reg.PULSE_SENT p) (s.getW (Reg.PULSE_SENT p) + k)
  else s

def execPulseHandover (n : Fin 16) (s : State) : Out State := .next (pulseHandover n s)

/-! ## Demand intervals (R365 to R367) -/

/-- The settings of R365: base, DEM_MIN, DEM_CYCLES, ZONE, U, ZONE_ALIGN. -/
def State.demSettings (s : State) : List Int :=
  [s.get Reg.MTR_DEM_BASE, s.get Reg.MTR_DEM_MIN, s.get Reg.MTR_DEM_CYCLES, s.getS Reg.RTC_ZONE, s.utcOffset, s.get Reg.MTR_ZONE_ALIGN]

/-- The bus of a mains base. -/
def State.demBus (s : State) : Option Bus :=
  match s.get Reg.MTR_DEM_BASE with | 1 => some .A | 2 => some .B | _ => none

/-- The cycle the base's mains is in. -/
def State.demCycle (s : State) : Nat := match s.demBus with | some b => s.getW (pllPh b) / 65536 | none => 0

/-- The crossings of phase 0 since the cycle last seen; a PLL that a reset restarted counts from 0 (R144, R376). -/
def State.demCrossed (s : State) : Nat :=
  let c := s.demCycle
  if c < s.meter.ivSeen then c else c - s.meter.ivSeen

/-- The settings of R365 are seen. A change marks the running interval; a newly selected mains base waits for its first crossing. -/
def State.ivNote (s : State) : State :=
  let set := s.demSettings
  let cyc := s.demCycle
  let mains := s.demBus.isSome
  s.modMeter (fun m =>
    let base := set.head? != m.ivSet.head?
    { m with
      ivSet := set
      ivChg := m.ivChg || (set != m.ivSet && (m.last.isSome || mains))
      ivWait := if base then mains else m.ivWait
      ivSeen := if base then cyc else m.ivSeen
      ivCyc := if base then 0 else m.ivCyc })

/-- Cycles are counted. -/
def State.ivCount (s : State) : State :=
  let k := s.demCrossed
  let cyc := s.demCycle
  s.modMeter (fun m => { m with ivCyc := m.ivCyc + k, ivSeen := cyc })

/-- The state of the running interval at a sample: its start, length and flags (R367, R376). -/
def State.ivSample (clk ts : Nat) (s : State) : State :=
  let held := match s.demBus with | some b => s.flag (pllHeld b) || !s.flag (pllLock b) | none => false
  let stepped := s.timeStepped
  let unsync := !s.flag Reg.TBS_VALID
  let s := { s with timeStepped := false }
  s.modMeter (fun m => { m with
    ivStart := if m.last.isNone then ts else m.ivStart
    last := some ts
    ivClk := m.ivClk + clk
    ivHeld := m.ivHeld || held
    ivStep := m.ivStep || stepped
    ivUnsync := m.ivUnsync || unsync })

/-- The end of the running interval where a boundary of R365 lies after the last sample and not after `now`; none otherwise. -/
def State.demBoundary (s : State) (now : Nat) : Option Nat :=
  match s.meter.last with
  | none => none
  | some last =>
    match s.demBus with
    | some _ =>
      if 0 < s.demCrossed ∧ (s.meter.ivWait = true ∨ s.get Reg.MTR_DEM_CYCLES ≤ s.meter.ivCyc + s.demCrossed) then some now else none
    | none =>
      let len : Int := s.get Reg.MTR_DEM_MIN * 60000000000
      let b := (now : Int) - ((now : Int) + (60 * s.getS Reg.RTC_ZONE * s.get Reg.MTR_ZONE_ALIGN - s.utcOffset) * 1000000000) % len
      if 0 < len ∧ (last : Int) < b then some b.toNat else none

/-- The nominal length of the interval in modulator clocks; none on a mains base, whose cycles are its length. -/
def State.demNominal (s : State) : Option Nat :=
  if s.demBus.isSome then none else some (s.get Reg.MTR_DEM_MIN * 60 * 4096000)

/-- The demand values of a circuit from an interval's energies and clocks (R366). -/
def State.demOf (s : State) (n : Nat) (imp exp : Int) (clk stop : Nat) (short : Bool) : State :=
  let dem := fun (s : State) (e : Int) => s.quot (e * 3600 * 4096000 * 256) (2 ^ 32 * 10 ^ 6 * clk)
  let (i, s) := dem s imp
  let s := s.fit (Reg.CIRC_DEM_IMP n) true i
  let (x, s) := dem s exp
  let s := s.fit (Reg.CIRC_DEM_EXP n) true x
  let (d, s) := dem s (imp - exp)
  let s := s.fit (Reg.CIRC_DEM_NET n) true d
  if short then s
  else
    let s := if s.getW (Reg.CIRC_MAX_IMP_TS n) = 0 ∨ s.getS (Reg.CIRC_MAX_IMP n) < s.getS (Reg.CIRC_DEM_IMP n) then
      (s.set (Reg.CIRC_MAX_IMP n) (s.get (Reg.CIRC_DEM_IMP n))).setW (Reg.CIRC_MAX_IMP_TS n) stop else s
    if s.getW (Reg.CIRC_MAX_NET_TS n) = 0 ∨ s.getS (Reg.CIRC_MAX_NET n) < s.getS (Reg.CIRC_DEM_NET n) then
      (s.set (Reg.CIRC_MAX_NET n) (s.get (Reg.CIRC_DEM_NET n))).setW (Reg.CIRC_MAX_NET_TS n) stop else s

/-- The metering points take their registers at an interval's end (R382). -/
def State.meterPoints (s : State) : State :=
  (s.pointsWith 3 (fun n => s.get (Reg.PT_BIND n) == 4 && !s.flag (Reg.PT_OUT n))).foldl (fun (s : State) n =>
    let g := s.get (Reg.PT_TARGET n)
    let idx := g / 256 % 64
    let r := g / 32 % 8
    let w : Wide := if g % 2 = 1 then Reg.MTR_AGG (idx % 8) r else circReg (idx % 48) r
    let v := s.getWS w / 2 ^ 32
    s.deliverIn n (BitVec.ofNat 32 (clampI 0 0xFFFFFFFF v).toNat) Qual.GOOD) s

/-- An interval has ended: its flags, DEM_END, DEM_CNT, the metering points. -/
def State.demEnded (s : State) (stop : Nat) (short held step unsync : Bool) : State :=
  let s := s.set Reg.MTR_DEM_FLAGS (8 * b2n short + 4 * b2n held + 2 * b2n step + b2n unsync)
  let s := (s.setW Reg.MTR_DEM_END stop).set Reg.MTR_DEM_CNT (s.get Reg.MTR_DEM_CNT + 1)
  (s.irq Page.MTR Irq.MTR_DEM_END).meterPoints

/-- Close the interval of a restored copy as SHORT, ending at T_S: DEM and MAX of the enabled circuits take it (R373, where R366
updates MAX from no other interval with SHORT). -/
def State.closeOld (s : State) : State :=
  match s.meter.old with
  | some o =>
    if o.closed then s
    else
      let s := s.modMeter (fun m => { m with old := some { o with closed := true } })
      let s := o.rows.foldl (fun (s : State) (e : Nat × Nat × Nat × Int × Int) =>
        if s.circOn e.1 then s.demOf e.1 e.2.2.2.1 e.2.2.2.2 o.clk o.ts false else s) s
      s.demEnded o.ts true o.held o.step o.unsync
  | none => s

/-- Whether the running interval ends as SHORT (R367). -/
def State.ivShort (s : State) : Bool :=
  s.meter.ivChg || (match s.demNominal with | some k => decide (256 < ((s.meter.ivClk : Int) - k).natAbs) | none => false)

/-- The running interval ends at `stop` and the next begins (R366). A disabled circuit keeps its registers (R359). -/
def State.endInterval (stop : Nat) (s : State) : State :=
  let s := s.closeOld
  let m := s.meter
  let short := s.ivShort
  let s := foldN 48 (fun n (s : State) =>
    if s.circOn n then
      ((s.demOf n (s.getWS (Reg.CIRC_IV_IMP n)) (s.getWS (Reg.CIRC_IV_EXP n)) m.ivClk stop short).setW (Reg.CIRC_IV_IMP n) 0).setW (Reg.CIRC_IV_EXP n) 0
    else s) s
  let cyc := s.demCycle
  let s := s.modMeter (fun m => { m with
    ivStart := stop, last := some stop, ivClk := 0, ivSeen := cyc, ivCyc := 0, ivWait := false, ivChg := false,
    ivHeld := false, ivStep := false, ivUnsync := false })
  s.demEnded stop short m.ivHeld m.ivStep m.ivUnsync

/-- DEMAND_INTERVAL_END (R366): at a boundary of R365. -/
def demandIntervalEnd (s : State) : State :=
  if !s.meter.on then s
  else match s.ivNote.demBoundary s.tai with
    | none => s
    | some stop => s.ivNote.endInterval stop

/-- A boundary at or before a sample's timestamp is met before the sample counts (R365, R13). -/
def State.demandDue (ts : Nat) (s : State) : State :=
  let s := s.ivNote
  match s.demBoundary ts with
  | none => s.ivCount
  | some stop => s.endInterval stop

def execDemandIntervalEnd (s : State) : Out State := .next (demandIntervalEnd s)

/-! ## The end of an unmetered interval (R375) -/

/-- The first sample after B6, of timestamp `ts`, ends the unmetered interval (R375). While VALID is 0 its time is the
calendar's, from which the time base was loaded (R114); with OSF set the time base began at 0 s, and the end is unknown. -/
def State.gapEnd (ts : Nat) (s : State) : State :=
  if !s.meter.first then s
  else
    let s := s.modMeter (fun m => { m with first := false })
    let valid := s.flag Reg.TBS_VALID
    let unknown := !valid && s.flag Reg.RTC_OSF
    let stop := if valid || unknown then ts else s.calTai / 2 ^ 16
    let s := (s.setFlag Reg.MTR_END_RTC (!valid)).setFlag Reg.MTR_END_UNKNOWN unknown
    let start := s.getW Reg.MTR_UNM_START
    let s := (s.setW Reg.MTR_UNM_END stop).bump Reg.MTR_UNM_CNT
    let (sec, s) := s.quot ((stop - start : Nat) : Int) 1000000000
    s.bumpBy Reg.MTR_UNM_TOTAL_S sec.toNat

/-! ## The sample grid (R355, R356) -/

/-- The timestamp of a sample taken now: the nearest multiple of 62.5 µs. -/
def State.sampleTs (s : State) : Nat := (s.tai + 31250) / 62500 * 62500

/-- An offset, in 2^-6 ns, brought to within half a sample of the grid. -/
def onGrid (o : Int) : Int := (o + 2000000) % 4000000 - 2000000

/-- The offset of the present sample from its grid, in 2^-6 ns: what was held, the steps of the time base since, and the drift (ns)
of the modulator clock against TAI. -/
def State.gridOffset (s : State) (drift : Int) : Int := onGrid (s.meter.ofs + 64 * (drift + (s.tb.stepSum - s.meter.stepSum)))

/-- The modulator clocks of a sample at an offset of `ns`: one fewer or one more until it lies within 244 ns. -/
def gridClocks (ns : Int) : Nat := if ns.natAbs ≤ 244 then 256 else if 0 < ns then 255 else 257

/-- The sample meets its grid: GRID_OFS, SLEW, and the shift that the next sample gains. The sample's clocks. -/
def State.gridSample (drift : Int) (s : State) : Nat × State :=
  let o := s.gridOffset drift
  let (ns, s) := s.quot o 64
  let clk := gridClocks ns
  let s := (s.setS Reg.MTR_GRID_OFS ns).setFlag Reg.MTR_SLEW (clk != 256)
  let sum := s.tb.stepSum
  (clk, s.modMeter (fun m => { m with ofs := o + ((clk : Int) - 256) * 15625, stepSum := sum }))

/-- The first 200 ms of samples after B6 are counted, by the squares of the voltage inputs (R375). -/
def State.countPresence (s : State) : State :=
  s.modMeter (fun m =>
    if 3200 ≤ m.seen then m
    else
      let x := (m.win.headD ⟨[], []⟩).corr
      { m with seen := m.seen + 1, seenSq := (List.range 6).map (fun i => m.seenSq.getD i 0 + (x.getD i 0).natAbs ^ 2) })

/-! ## Checkpoints (R371, R372) -/

namespace CkptKind
abbrev PERIODIC : Nat := 1
abbrev FINAL : Nat := 2
abbrev COMMANDED : Nat := 3
end CkptKind

/-- The words a checkpoint keeps (R371). -/
def ckptKeeps (a : Nat) : Bool :=
  (decide (0x60000 ≤ a ∧ a < 0x90000) && decide (0x80 ≤ a % 4096 ∧ a % 4096 < 0x140))
    || decide (0x18400 ≤ a ∧ a < 0x18700) || a == 0x18068 || decide (0x18070 ≤ a ∧ a < 0x1808C)
    || (decide (0x90000 ≤ a ∧ a < 0xA0000) && decide (0x4C ≤ a % 4096 ∧ a % 4096 < 0x64))

/-- The words of a copy, in the order in which R371 names its parts; the registers that are not 0, each behind its address. -/
def MeterCopy.words (c : MeterCopy) : List Word :=
  ([c.gen, c.kind, c.ts, c.ts / 2 ^ 32].map (BitVec.ofNat 32)) ++ c.regs.flatMap (fun e => [BitVec.ofNat 32 e.1, e.2])
    ++ ([c.ivStart, c.ivStart / 2 ^ 32, c.ivClk, c.ivClk / 2 ^ 32,
      16 * b2n c.presA + 8 * b2n c.presB + 4 * b2n c.ivHeld + 2 * b2n c.ivStep + b2n c.ivUnsync].map (BitVec.ofNat 32))

/-- The CRC-32C over a copy (R371, R532), and whether the one it carries holds. -/
def MeterCopy.sum (c : MeterCopy) : Word := BitVec.ofNat 32 (crc32c c.words)
def MeterCopy.holds (c : MeterCopy) : Bool := c.crc == c.sum

/-- A copy whose write is under way: its CRC does not hold. -/
def MeterCopy.torn (c : MeterCopy) : MeterCopy := { c with crc := ~~~ c.sum }

/-- The valid copy with the highest generation, and whether it is copy A. -/
def Meter.newest (m : Meter) : Option (Bool × MeterCopy) :=
  if m.copyA.holds && (!m.copyB.holds || decide (m.copyB.gen < m.copyA.gen)) then some (true, m.copyA)
  else if m.copyB.holds then some (false, m.copyB) else none

/-- The instant of the sample at which the registers stand: the last one since B6, or that of the copy they were restored from. -/
def State.sampleStood (s : State) : Nat := s.meter.last.getD (s.getW Reg.MTR_CKPT_TS)

/-- A copy of the registers as the last sample left them. -/
def State.meterCopy (s : State) (kind : Nat) : MeterCopy :=
  let m := s.meter
  let c : MeterCopy := ⟨0, kind, s.sampleStood, s.mem.filter (fun e => ckptKeeps e.1), s.flag Reg.MTR_VPRES_A, s.flag Reg.MTR_VPRES_B,
    m.ivStart, m.ivClk, m.ivHeld, m.ivStep, m.ivUnsync, 0⟩
  c

/-- A copy begins to be written, under the next generation, into the slot that does not hold the newest valid one. -/
def State.writeCopy (c : MeterCopy) (s : State) : State :=
  let m := s.meter
  let useA := match m.newest with | some (a, _) => !a | none => true
  let c := { c with gen := max m.copyA.gen m.copyB.gen + 1 }
  s.modMeter (fun m =>
    let m := { m with writing := some (useA, { c with crc := c.sum }) }
    if useA then { m with copyA := m.copyA.torn } else { m with copyB := m.copyB.torn })

/-- A copy of the last sample begins to be written. -/
def startCkpt (kind : Nat) (s : State) : State := s.writeCopy (s.meterCopy kind)

/-- The kind of the copy being written; 0 where none is. -/
def Meter.writes (m : Meter) : Nat := m.writing.elim 0 (fun w => w.2.kind)

/-- The FINAL copy is taken. It takes the slot of a PERIODIC write, which it abandons; a COMMANDED write goes on first (R372). -/
def finalCkpt (s : State) : State :=
  let c := s.meterCopy CkptKind.FINAL
  let s := s.modMeter (fun m => { m with finalDue := false, perDue := false, final := true })
  if s.meter.writes = CkptKind.COMMANDED then s.modMeter (fun m => { m with queued := some c })
  else (s.modMeter (fun m => { m with writing := none })).writeCopy c

/-- Copies that awaited a sample are taken at it. -/
def State.sampleCkpt (s : State) : State :=
  if s.meter.finalDue then finalCkpt s
  else if s.meter.perDue && s.meter.writing.isNone && !s.meter.final then
    startCkpt CkptKind.PERIODIC (s.modMeter (fun m => { m with perDue := false }))
  else s

/-- The modulator clocks of the sample count for the circuits, aggregates and generators (R362, R364, R378). -/
def State.sampleEnergy (clk : Nat) (s : State) : State :=
  let (ms, s) := (List.range 48).foldl (fun (acc : List (Nat × Power × List Int) × State) n =>
    if acc.2.circOn n then
      let (x, s) := acc.2.integrate clk n
      (acc.1 ++ [(n, x)], s)
    else (acc.1, acc.2)) ([], s)
  let aggs := (List.range 8).map (fun g => if s.flag (Reg.MTR_AGG_EN g) then s.aggIncrements clk g ms else [])
  let s := foldN 8 (fun g (s : State) => foldN 8 (fun r (s : State) => (s.addEnergy (Reg.MTR_AGG g r) ((aggs.getD g []).getD r 0)).2) s) s
  foldN 16 (fun p (s : State) =>
    let s := s.judgeCh p
    if !s.pulseOn p then s
    else
      let idx := s.get (Reg.PULSE_IDX p)
      let incs := if s.get (Reg.PULSE_SRC p) = 1 then aggs.getD idx [] else ((ms.find? (fun e => e.1 == idx)).map (fun e => e.2.2)).getD []
      s.pulseAdd p (incs.getD (s.get (Reg.PULSE_QTY p)) 0)) s

/-- METERING_SAMPLE: the readings of the 54 inputs, and the drift of the modulator clock against TAI over the sample, ns (R355,
R356, R361 to R365, R371, R372, R375, R378). -/
def meteringSample (raw : List Int) (drift : Int) (s : State) : State :=
  if !s.meter.on then s
  else
    let ts := s.sampleTs
    let (clk, s) := s.gridSample drift
    let s := (s.takeSample raw).noteContacts ts
    let s := ((s.gapEnd ts).demandDue ts).ivSample clk ts
    let s := foldN 6 (fun i s => State.showVrms s i) s
    let s := ((s.judgeBus .A).judgeBus .B).countPresence
    let s := foldN 48 (fun n s => State.judgeOvr s raw n) s
    (s.sampleEnergy clk).sampleCkpt

def execMeteringSample (raw : List Int) (drift : Int) (s : State) : Out State := .next (meteringSample raw drift s)

/-- ISL_TEMP_READ: the island's temperature in 0.1 °C (R368). -/
def execIslTempRead (t : Int) (s : State) : Out State := .next (if s.meter.on then s.setS Reg.MTR_ISL_TEMP t else s)

/-! ## The ends and the causes of copies (R371, R372) -/

/-- The copy under way has been written, or its readback fails; a FINAL copy that waited is written, or a command that waited is
taken. -/
def ckptDone (ok : Bool) (us : Nat) (s : State) : State :=
  match s.meter.writing with
  | none => s
  | some (useA, c) =>
    let s := s.modMeter (fun m => { m with writing := none })
    let s := s.raiseTo Reg.MTR_CKPT_MAX_US us
    let s := if ok then
        let s := s.modMeter (fun m => if useA then { m with copyA := c } else { m with copyB := c })
        ((s.set Reg.MTR_CKPT_KIND c.kind).setW Reg.MTR_CKPT_TS c.ts).set Reg.MTR_CKPT_GEN c.gen
      else s.err Page.MTR Err.MTR_CKPT_FAIL
    match s.meter.queued with
    | some c => (s.modMeter (fun m => { m with queued := none })).writeCopy c
    | none =>
      if s.meter.cmdWait then startCkpt CkptKind.COMMANDED (s.modMeter (fun m => { m with cmdWait := false })) else s

/-- The last sample is at or after the latest TAI multiple of 250 ms. -/
def State.periodicSampled (s : State) : Bool := s.meter.last.elim false (fun t => decide (s.tai / 250000000 * 250000000 ≤ t))

/-- PERIODIC_CHECKPOINT: the copy is taken at the first sample at or after the multiple of 250 ms, which may be still to come; none
is from H3 to the end of HOLDUP (R372). -/
def execPeriodicCheckpoint (s : State) : Out State :=
  .next (if !s.meter.on || s.meter.final || s.meter.finalDue then s
  else if s.meter.writing.isNone && s.periodicSampled then startCkpt CkptKind.PERIODIC s
  else s.modMeter (fun m => { m with perDue := true }))

def execCheckpointWriteDone (ok : Bool) (us : Nat) (s : State) : Out State := .next (ckptDone ok us s)

/-- EXEC CHECKPOINT: a COMMANDED copy, after a write under way. -/
def checkpoint (s : State) : State :=
  (if !s.meter.on then s
  else if s.meter.writing.isSome then s.modMeter (fun m => { m with cmdWait := true })
  else startCkpt CkptKind.COMMANDED s).answer Status.OK []

def execCheckpoint (s : State) : Out State := .next (checkpoint s)

/-- H3: the FINAL copy is taken at the first sample at or after it. While Skiver has restored and does not yet integrate, no sample
comes, and the copy is of the restored registers (DESIGN CHOICE, log entry 72). -/
def State.finalAtH3 (s : State) : State :=
  if !s.meter.on || s.meter.last.elim false (fun t => decide (s.tai ≤ t)) then finalCkpt s
  else s.modMeter (fun m => { m with finalDue := true })

/-- The FINAL copy is still to be taken, or to begin to be written. -/
def State.finalAwaited (s : State) : Bool := s.meter.finalDue || s.meter.queued.isSome

/-- The island loses its supply: integration stops and a write under way is lost. -/
def State.meterOff (s : State) : State :=
  s.modMeter (fun m => { m with
    on := false, win := [], last := none, writing := none, cmdWait := false, final := false, perDue := false, finalDue := false, queued := none })

/-! ## Restore (R373 to R375) -/

/-- B5: restore from the valid copy with the highest generation (R373, R374); the calibration set is loaded (R368). -/
def State.meterRestore (s : State) : State :=
  let s := s.loadCal
  let bad := s.diag.calBad
  let s := s.setFlag Reg.MTR_CAL_BAD bad
  let s := if bad then s.record sevFault Page.MTR 0 0 [] else s
  let copy := s.meter.newest
  let s := s.modMeter (fun m => { m with
    ivSet := [], ivClk := 0, ivCyc := 0, ivWait := false, ivChg := false, ivHeld := false, ivStep := false, ivUnsync := false,
    old := none, first := false, atTile := [] })
  let s := s.setFlag Reg.MTR_RESTORE_DONE false
  match copy with
  | none =>
    let s := { s with mem := s.mem.filter (fun e => !ckptKeeps e.1) }
    ((s.setFlag Reg.MTR_CKPT_LOST true).err Page.MTR Err.MTR_CKPT_LOST).record sevFault Page.MTR 1 0 []
  | some (_, c) =>
    let s := { s with mem := c.regs.foldl (fun (m : Memory) (e : Nat × Word) => m.write e.1 e.2) (s.mem.filter (fun e => !ckptKeeps e.1)) }
    let s := (s.set Reg.MTR_CKPT_KIND c.kind).setW Reg.MTR_CKPT_TS c.ts |>.set Reg.MTR_CKPT_GEN c.gen
    let rows := (List.range 48).map (fun n => (n, s.get (Reg.CIRC_DEM_IMP n), s.get (Reg.CIRC_DEM_EXP n), s.getWS (Reg.CIRC_IV_IMP n), s.getWS (Reg.CIRC_IV_EXP n)))
    let s := foldN 48 (fun n (s : State) => if s.circOn n then (s.setW (Reg.CIRC_IV_IMP n) 0).setW (Reg.CIRC_IV_EXP n) 0 else s) s
    let s := s.modMeter (fun m => { m with
      old := some ⟨c.ts, c.ivClk, c.ivHeld, c.ivStep, c.ivUnsync, c.presA, c.presB, rows, false⟩
      first := true })
    let s := ((s.setW Reg.MTR_UNM_START c.ts).setFlag Reg.MTR_END_UNKNOWN false).setFlag Reg.MTR_END_RTC false
    let s := (s.setFlag Reg.MTR_EST_MADE false).setFlag Reg.MTR_NOT_FINAL (c.kind != CkptKind.FINAL)
    if c.kind = CkptKind.FINAL then s
    else
      let s := s.record sevWarning Page.MTR 2 0 ([c.ts, c.ts / 2 ^ 32, s.get Reg.RST_RST_CAUSE].map (BitVec.ofNat 32))
      (s.bump Reg.MTR_UNSAVED_CNT).irq Page.MTR Irq.MTR_UNSAVED

/-- B6: Skiver integrates. Its sample instants begin on the grid, and no step counts that the time base made before (R114). -/
def State.meterStart (s : State) : State :=
  let sum := s.tb.stepSum
  ({ s with timeStepped := false }).modMeter (fun m => { m with
    on := true, win := [], last := none, ofs := 0, stepSum := sum, seen := 0, seenSq := [] })

/-- The estimate of one circuit for an unmetered interval of `ns` (R375). -/
def State.estimate (s : State) (n impD expD ns : Nat) : State :=
  let e := fun (d : Nat) => divRoundEven (toSigned 32 d * ns * 2 ^ 32) (256 * 3600 * 1000)
  ((s.addCirc n (Reg.CIRC_EST_IMP n) (e impD)).addCirc n (Reg.CIRC_EST_EXP n) (e expD)).setFlag Reg.MTR_EST_MADE true

/-- Whether a bus was present over the first 200 ms after B6: 40 V rms on a phase, over the samples counted (R375). -/
def Meter.presentAtStart (m : Meter) (b : Bus) : Bool :=
  (match b with | .A => [0, 1, 2] | .B => [3, 4, 5]).any (fun i => decide (0 < m.seen) && decide (m.seen * 40000000 ^ 2 ≤ m.seenSq.getD i 0))

/-- RECOVERY ends when every stage is restored and the restore of metering is complete (R45). -/
def State.leaveRecovery (s : State) : State :=
  if s.get Reg.PWR_MODE = 3 ∧ s.get Reg.PWR_SHED = 0 ∧ s.flag Reg.MTR_RESTORE_DONE = true then s.set Reg.PWR_MODE 0 else s

/-- PRESENCE_JUDGED: 200 ms after B6 (R373, R375). -/
def presenceJudged (s : State) : State :=
  if !s.meter.on || s.flag Reg.MTR_RESTORE_DONE || s.meter.first then s
  else match s.meter.old with
    | none => s.setFlag Reg.MTR_RESTORE_DONE true
    | some o =>
      let start := s.getW Reg.MTR_UNM_START
      let stop := s.getW Reg.MTR_UNM_END
      let s := if s.flag Reg.MTR_END_UNKNOWN then s
        else o.rows.foldl (fun (s : State) (e : Nat × Nat × Nat × Int × Int) =>
          let seen := match s.circBus e.1 with
            | .A => o.presA && s.meter.presentAtStart .A
            | .B => o.presB && s.meter.presentAtStart .B
          if s.circOn e.1 && seen then s.estimate e.1 e.2.1 e.2.2.1 (stop - start) else s) s
      let s := s.closeOld
      let s := s.modMeter (fun m => { m with old := none })
      let s := s.record sevWarning Page.MTR 3 0 (([start, start / 2 ^ 32, stop, stop / 2 ^ 32].map (BitVec.ofNat 32)) ++ [s.word 0x18080])
      (s.irq Page.MTR Irq.MTR_UNMETERED).setFlag Reg.MTR_RESTORE_DONE true

def execPresenceJudged (s : State) : Out State := .next (presenceJudged s).leaveRecovery

/-! ## EXEC commands (R379) -/

/-- MAX_RESET of one circuit. -/
def State.maxClear (s : State) (n : Nat) : State :=
  (((s.set (Reg.CIRC_MAX_IMP n) 0).setW (Reg.CIRC_MAX_IMP_TS n) 0).set (Reg.CIRC_MAX_NET n) 0).setW (Reg.CIRC_MAX_NET_TS n) 0

/-- EXEC MAX_RESET: a circuit, or 0xFF for all. -/
def maxReset (c : Nat) (s : State) : State :=
  if c = 0xFF then (foldN 48 (fun n s => State.maxClear s n) s).answer Status.OK []
  else if c < 48 then (s.maxClear c).answer Status.OK []
  else s.answer Status.E_OP []

def execMaxReset (c : BitVec 8) (s : State) : Out State := .next (maxReset c.toNat s)

/-- A command that only owner sessions may give: any other requester of tag 0 receives E_STATE (R379). -/
def State.ownerSession (s : State) (r : Requester) (page : Nat) (g : State → State) : State :=
  match r with
  | .session _ => s.ownerExec r page g
  | _ => if (s.creds r).tag = 0 then s.answer Status.E_STATE [] else s.ownerExec r page g

/-- EXEC EST_CLEAR. -/
def estClear (c : Nat) (s : State) : State :=
  (((s.setW (Reg.CIRC_EST_IMP c) 0).setW (Reg.CIRC_EST_EXP c) 0).record sevWarning Page.MTR 4 c []).answer Status.OK []

def execEstClear (r : Requester) (c : Fin 48) (s : State) : Out State := .next (s.ownerSession r Page.MTR (estClear c))

/-- EXEC REG_CLEAR: the eight energy registers of a disabled circuit. -/
def regClear (c : Nat) (s : State) : State :=
  if s.circOn c then s.answer Status.E_STATE []
  else ((foldN 8 (fun r (s : State) => s.setW (circReg c r) 0) s).record sevWarning Page.MTR 5 c []).answer Status.OK []

def execRegClear (r : Requester) (c : Fin 48) (s : State) : Out State := .next (s.ownerSession r Page.MTR (regClear c))

end Sys2Proof.Machine
end

