-- ==== Sys2Proof/Machine/Power.lean ====
section
/-! DEFINITION. Power (R24 to R51): PoE grants, pass-through fuses, the bus thresholds as they reach the block, the power
modes with their shed stages, and the hold-up sequence. -/

namespace Sys2Proof.Machine

namespace PowerMode
abbrev NORMAL : Nat := 0
abbrev SHED : Nat := 1
abbrev HOLDUP : Nat := 2
abbrev RECOVERY : Nat := 3
end PowerMode

/-! ## Ports and fuses (R24 to R32) -/

/-- A port carries load. -/
def State.anyLoad (s : State) : Bool := s.flag Reg.PWR_A_LOAD || s.flag Reg.PWR_B_LOAD

/-- The total grant of loaded ports, mW (R45). -/
def State.totalGrant (s : State) : Nat :=
  (if s.flag Reg.PWR_A_LOAD then s.get Reg.PWR_A_GRANT else 0) + (if s.flag Reg.PWR_B_LOAD then s.get Reg.PWR_B_GRANT else 0)

/-- Whether a port carries load (R25, R46): it starts at 40 W and keeps to 21 W. -/
def loads (was detected : Bool) (mW : Nat) : Bool := detected && decide ((if was then 21000 else 40000) ≤ mW)

/-- PORT_GRANT_CHANGE: whether the port is powered, and its grant in mW. BUS_OK counts only while a port carries load
(R42). -/
def execPortGrantChange (port : Lan) (detected : Bool) (mW : Nat) (s : State) : Out State :=
  let s := match port with
    | .A => ((s.setFlag Reg.PWR_A_DET detected).setFlag Reg.PWR_A_LOAD (loads (s.flag Reg.PWR_A_LOAD) detected mW)).set Reg.PWR_A_GRANT
        (if detected then mW else 0)
    | .B => ((s.setFlag Reg.PWR_B_DET detected).setFlag Reg.PWR_B_LOAD (loads (s.flag Reg.PWR_B_LOAD) detected mW)).set Reg.PWR_B_GRANT
        (if detected then mW else 0)
  .next (if s.anyLoad then s else s.setFlag Reg.PWR_BUS_OK false)

/-- A pass-through fuse is enabled. -/
def State.fuseEnabled (s : State) (f : Nat) : Bool := if f < 4 then s.getBit Reg.CAN_FIX_EN f else s.getBit Reg.CAN_ENC_EN (f - 4)

/-- The trip bit of a fuse. -/
def State.fuseTripped (s : State) (f : Nat) : Bool := if f < 4 then s.getBit Reg.CAN_FIX_TRIP f else s.getBit Reg.CAN_ENC_TRIP (f - 4)

def State.setTripped (s : State) (f : Nat) (v : Bool) : State :=
  if f < 4 then s.setBit Reg.CAN_FIX_TRIP f v else s.setBit Reg.CAN_ENC_TRIP (f - 4) v

def State.openFuse (s : State) (f : Nat) : State := s.modPwr (fun p => { p with fuses := p.fuses.filter (fun x => x != f) })
def State.closeFuse (s : State) (f : Nat) : State := (s.openFuse f).modPwr (fun p => { p with fuses := f :: p.fuses })

/-- Every fuse that the configuration disables opens (R32). -/
def State.openDisabled (s : State) : State := foldN 12 (fun f (s : State) => if s.fuseEnabled f then s else s.openFuse f) s

/-- FUSE_CLOSE. -/
def execFuseClose (f : Fin 12) (s : State) : Out State :=
  .next (if s.pwr.powered && s.fuseEnabled f && !s.pwr.tripped.contains f.val && decide (17500 < (s.tile 7).fsMv) then s.closeFuse f else s)

/-- Whether the electronic fuse itself holds a trip that it is to retry. -/
def State.holdTrip (s : State) (f : Nat) (v : Bool) : State :=
  s.modPwr (fun p => { p with tripped := (if v then [f] else []) ++ p.tripped.filter (fun x => x != f) })

/-- A fuse trips. -/
def State.tripFuse (s : State) (f : Nat) : State := (((s.openFuse f).holdTrip f true).setTripped f true).irq Page.CAN f

/-- FUSE_TRIP. -/
def execFuseTrip (f : Fin 12) (s : State) : Out State := .next (if s.pwr.fuses.contains f.val then s.tripFuse f else s)

/-- FUSE_RETRY: a fuse open by a trip closes; where the fault is still there it trips again. The fuse retries by itself, so
a reset of the register that shows its trip does not end the retries. -/
def execFuseRetry (f : Fin 12) (holds : Bool) (s : State) : Out State :=
  .next (if s.pwr.powered && s.fuseEnabled f && s.pwr.tripped.contains f.val then
    (if holds then ((s.closeFuse f).holdTrip f false).setTripped f false else s.tripFuse f) else s)

/-- BACKUP_LOW_CHANGE: the voltages at which BKP_LOW or COIN_PRES changes (R36). -/
def execBackupLowChange (scap coin : Nat) (s : State) : Out State := execScapMvUpdate scap coin s

/-- BUS_MV_UPDATE. -/
def execBusMvUpdate (mv : Nat) (s : State) : Out State :=
  .next (if s.pwr.powered && !s.pwr.fullHeld then s.set Reg.PWR_BUS_MV mv else s)

/-- BUS_OK_LOST. -/
def execBusOkLost (s : State) : Out State := .next (s.setFlag Reg.PWR_BUS_OK false)

/-! ## Shed stages (R47) -/

/-- Applying S1 discards the dispatcher's tentative placements, and restoring S2 lets the pending notes go; as one of a pair the
ACTIVE's stages count (R110, R301, R512). -/
def State.setStages (s : State) (v : Nat) : State :=
  let new := bitOf v 0 && !s.getBit Reg.PWR_SHED 0
  let t := s.set Reg.PWR_SHED v
  let t := if new && !t.inPair then t.discardTentative else t
  t.resumeNotes s

/-- The power page judges: it has power and is not held. -/
def State.pwrLive (s : State) : Bool := s.pwr.powered && !s.pwr.fullHeld

/-- SHED_ENTRY: the total grant of loaded ports lies below BUDGET_MW, which a total of 0 does too (R45). -/
def execShedEntry (s : State) : Out State :=
  let m := s.get Reg.PWR_MODE
  .next (if s.pwrLive && (m == PowerMode.NORMAL || m == PowerMode.RECOVERY) && decide (s.totalGrant < s.get Reg.PWR_BUDGET_MW)
    then s.set Reg.PWR_MODE PowerMode.SHED else s)

/-- The lowest stage not applied. -/
def nextStage (v : Nat) : Nat := if bitOf v 0 then (if bitOf v 1 then 4 else 2) else 1

/-- SHED_STAGE_APPLY, at a measured draw in mW. ENDURANCE has an order of its own. -/
def execShedStageApply (mW : Nat) (s : State) : Out State :=
  let v := s.get Reg.PWR_SHED
  .next (if s.pwrLive && s.get Reg.PWR_MODE == PowerMode.SHED && s.get Reg.FIR_MODE != 4 && decide (v ≠ 7) && decide (s.totalGrant < mW + 2000)
    then s.setStages (v ||| nextStage v) else s)

/-- SHED_RECOVERY_ENTRY. -/
def execShedRecoveryEntry (s : State) : Out State :=
  .next (if s.pwrLive && s.get Reg.PWR_MODE == PowerMode.SHED && decide (s.get Reg.PWR_BUDGET_MW ≤ s.totalGrant)
    then (s.set Reg.PWR_MODE PowerMode.RECOVERY).leaveRecovery else s)

/-- The stages left when the last is restored. -/
def restoreStage (v : Nat) : Nat := if bitOf v 2 then v % 4 else if bitOf v 1 then v % 2 else 0

/-- SHED_STAGE_RESTORE. -/
def execShedStageRestore (s : State) : Out State :=
  .next (if s.pwrLive && s.get Reg.PWR_MODE == PowerMode.RECOVERY && s.get Reg.FIR_MODE != 4
    then (s.setStages (restoreStage (s.get Reg.PWR_SHED))).leaveRecovery else s)

/-! ## Hold-up (R43, R48 to R51) -/

/-- H1: a moving car axis starts its stop profile. -/
def State.stopAtH1 (n : Nat) (s : State) : State :=
  if s.canStop n && s.get (Reg.AXIS_STATE n) != AxState.STOPPING then
    (s.modAxis n (fun x => { x with stop := some false })).modCar n (fun c => { c with h1 := 1 })
  else s

/-- Skiver has restored since the last reset of reach FULL (R50). -/
def State.skiverRestored (s : State) : Bool := s.meter.on || !(s.pwr.episode && decide (3 ≤ s.pwr.reach) && decide (s.pwr.point < 5))

/-- H0 and H1 (R48). One of a pair first gives up control (R512). While PWR_WARN is raised a further PWR_WARN changes nothing:
one that comes while a WARN_TEST runs is dropped, and the test still ends in NORMAL after H4. R43 does not say what becomes of
it (DESIGN CHOICE, log entry 88). -/
def State.powerWarn (s : State) (test : Bool) : State :=
  if !s.pwrLive || s.flag Reg.PWR_PWR_WARN then s
  else
    let s := s.giveUp 4
    let due := b2n s.skiverRestored
    let s := ((s.setFlag Reg.PWR_PWR_WARN true).set Reg.PWR_MODE PowerMode.HOLDUP).setFlag Reg.PWR_FINAL_OK false
    let s := s.modPwr (fun p => { p with warnTest := test, final := due })
    let s := s.record sevWarning Page.PWR 0 0 []
    if s.flag Reg.PWR_CAR_STOP && s.appUp then foldN 8 State.stopAtH1 s else s

def execPwrWarn (s : State) : Out State := .next (s.powerWarn false)

/-- WARN_TEST: a write of 1. -/
def execWarnTest (s : State) : Out State := .next (s.powerWarn true)

/-- HOLDUP_STAGES_APPLY (H2). -/
def execHoldupStagesApply (s : State) : Out State :=
  .next (if s.pwrLive && s.get Reg.PWR_MODE == PowerMode.HOLDUP then s.setStages 7 else s)

/-- The backup counters mirrored to MRAM (R63). -/
def State.mirrorCounters (s : State) : State :=
  s.modPwr (fun p => { p with mirror := (s.get Reg.RST_RST_TOTAL, s.get Reg.RST_POWER_CYCLES, s.get Reg.RST_FAIL_RUN) })

/-- FINAL_CHECKPOINT_START (H3): the metering part is void while the island is off (R513). -/
def execFinalCheckpointStart (s : State) : Out State :=
  .next (if s.pwrLive && s.get Reg.PWR_MODE == PowerMode.HOLDUP && s.pwr.final == 1 then
    let s := s.modPwr (fun p => { p with final := 2 })
    let s := if s.meter.on || (s.pwr.episode && s.pwr.point == 5) then s.finalAtH3 else s
    let s := s.startRetCopy 1
    ({ s with scan := { s.scan with frozen := true } }).mirrorCounters
  else s)

/-- HOLDUP has ended without a reset: PWR_WARN clears and the copies are released. -/
def State.leaveHoldup (s : State) (mode ms : Nat) : State :=
  let s := ((s.setFlag Reg.PWR_PWR_WARN false).set Reg.PWR_MODE mode).set Reg.PWR_HOLD_MS (min 0xFFFF ms)
  let s := s.modMeter (fun m => { m with final := false, finalDue := false })
  { s with scan := { s.scan with frozen := false }, pwr := { s.pwr with warnTest := false, final := 0, atH5 := false } }

/-- FINAL_CHECKPOINT_DONE (H4), `us` microseconds after H3; a write that fails leaves FINAL_OK clear. After a WARN_TEST
the stages are restored together and the mode returns to NORMAL. -/
def execFinalCheckpointDone (ok : Bool) (us : Nat) (s : State) : Out State :=
  if !s.pwrLive || s.get Reg.PWR_MODE != PowerMode.HOLDUP || s.pwr.final == 1 || (s.pwr.final == 2 && s.finalAwaited) then .next s
  else
    let s := if s.pwr.final = 2 then
        let s := (ckptDone ok us s).modPwr (fun p => { p with final := 0 })
        let s := if ok then s.endRetCopy else { s with scan := { s.scan with writing := none } }
        if ok then (s.setFlag Reg.PWR_FINAL_OK true).record sevInfo Page.PWR 1 0 [] else s
      else s
    .next (if s.pwr.warnTest then (s.setStages 0).leaveHoldup PowerMode.NORMAL ((2000 + us) / 1000) else s)

/-- GO_SAFE_THRESHOLD (H5): every tile goes to safe state, and Stirrup opens the safety outputs, until HOLDUP ends (R351). -/
def execGoSafeThreshold (s : State) : Out State :=
  let s := if s.get Reg.PWR_MODE = PowerMode.HOLDUP then (s.modPwr (fun p => { p with atH5 := true })).openAll else s
  .next (if s.sysHeld then s else s.orderGoSafeAll)

end Sys2Proof.Machine
end

