-- ==== Sys2Proof/Machine/Fire.lean ====
section
/-! DEFINITION. Fire and evacuation operation (R495 to R507, R510, R511, R534). -/

namespace Sys2Proof.Machine

/-! FIRE_STAT.MODE (R497). -/
namespace FireMode
abbrev NORMAL : Nat := 0
abbrev ALERT : Nat := 1
abbrev EVACUATE : Nat := 2
abbrev FIREFIGHTER : Nat := 3
abbrev ENDURANCE : Nat := 4
end FireMode

/-! FUNC of an input (R495). -/
namespace FinFunc
abbrev ALARM : Nat := 1
abbrev EVAC : Nat := 2
abbrev FF_KEY : Nat := 3
abbrev RECALL_FIRE : Nat := 4
abbrev ENDURE : Nat := 5
abbrev PANEL_RESET : Nat := 6
abbrev FF_CAR : Nat := 7
end FinFunc

def State.modFire (s : State) (g : Fire → Fire) : State := { s with fire := g s.fire }

/-! ## Inputs (R496, R497) -/

/-- The judgement of an input. -/
def State.judgeInput (i : Nat) (s : State) : State :=
  let p := s.get (Reg.FIR_FIN_POINT i)
  let was := s.getBit Reg.FIR_IN_ACTIVE i
  let v :=
    if !s.flag (Reg.FIR_FIN_EN i) then false
    else if s.get (Reg.PT_QUAL p) % 16 ≤ Qual.UNCERTAIN then
      decide (s.get (Reg.PT_VALUE p) % 2 = 1) != s.flag (Reg.FIR_FIN_INV i)
    else s.flag (Reg.FIR_FIN_FAILSAFE i) || was
  s.setBit Reg.FIR_IN_ACTIVE i v

/-- Sensor 0, the higher of both units' on a twin (R497), in 0.1 °C. -/
def State.sensor0 (s : State) : Int :=
  let t := s.getS (Reg.ATB_TEMP 0)
  if s.inPair then max t s.twin.peerTemp else t

/-- Whether the module hosts cars. -/
def State.hosts (s : State) : Bool := bitOf s.roles 1

/-- The mode that the inputs and commands ask for (R497). -/
def State.fireWanted (s : State) : Nat :=
  if s.finActive FinFunc.ENDURE then FireMode.ENDURANCE
  else if s.finActive FinFunc.FF_KEY && s.hosts then max s.fire.cmd FireMode.FIREFIGHTER
  else if s.finActive FinFunc.EVAC || s.finActive FinFunc.FF_KEY then max s.fire.cmd FireMode.EVACUATE
  else if s.finActive FinFunc.ALARM then max s.fire.cmd FireMode.ALERT
  else s.fire.cmd

/-! ## Actions (R500 to R502, R511) -/

/-- The bits of MODES whose entries apply: ENDURANCE keeps the actions of EVACUATE, and those of FIREFIGHTER while a
firefighter switch is active (R497, R501). -/
def State.actionMask (s : State) : Nat :=
  match s.get Reg.FIR_MODE with
  | 0 => 0
  | 1 => 1
  | 2 => 2
  | 3 => 4
  | _ => 10 + (if s.finActive FinFunc.FF_KEY then 4 else 0)

/-- The entries that apply, in order: entry, point, value. -/
def State.actionsDue (s : State) : List (Nat × Nat × Word) :=
  ((List.range 64).filter (fun e => s.flag (Reg.FIR_FACT_EN e) && s.get (Reg.FIR_FACT_MODES e) &&& s.actionMask != 0)).map
    (fun e => (e, s.get (Reg.FIR_FACT_POINT e), s.word (Reg.FIR_FACT_VALUE e).addr))

/-- The channel an OUT point drives. -/
def State.outChannel (s : State) (p : Nat) : Option Nat :=
  if s.flag (Reg.PT_OUT p) && s.get (Reg.PT_BIND p) == 1 then some (s.get (Reg.PT_TARGET p) % 256) else none

/-- The voice-alarm outputs, channel and level (R501); none while the interface is not used. -/
def State.vaOutputs (s : State) : List (Nat × Bool) :=
  if !s.flag Reg.FIR_VA_EN then []
  else [(s.get Reg.FIR_VA_ALERT_CH, s.get Reg.FIR_MODE == 1), (s.get Reg.FIR_VA_EVAC_CH, decide (2 ≤ s.get Reg.FIR_MODE))]

/-- TILE_t.OUT of a tile in safe state before a fire action reaches it: every bit at its channel's safe action, HOLD at
the level the tile holds (R511). -/
def State.fireBase (t : Nat) (s : State) : State :=
  let x := s.tile t
  let w := (List.range 32).foldl (fun w n =>
    let a := x.action n
    setBits w n n (b2n (a == 1 || (a == 2 && x.commanded n)))) (0 : Word)
  writeOut t w s

/-- Write every action that applies and the voice-alarm outputs. Tiles in safe state that they reach first take the
base of R511. -/
def State.writeActions (s : State) : State :=
  let due := s.actionsDue
  let chans := due.filterMap (fun e => s.outChannel e.2.1) ++ s.vaOutputs.map (·.1)
  let tiles := (List.range 8).filter (fun t => s.flag (Reg.TILE_SAFE t) && chans.any (fun k => k / 32 == t))
  let s := if s.get Reg.FIR_MODE = 0 then s else tiles.foldl (fun (s : State) t => s.fireBase t) s
  let s := due.foldl (fun (s : State) e => s.writeSlot (s.get (Reg.PT_PA e.2.1)) 1 e.2.2 Qual.GOOD) s
  s.vaOutputs.foldl (fun (s : State) e => writeOutBit e.1 e.2 s) s

/-- Bring the slots held into line with the table: slots that no entry holds any more are relinquished, and where
anything has changed every entry is written, in entry order. -/
def State.applyActions (s : State) (entered : Bool) : State :=
  let due := s.actionsDue
  if !entered && decide (due = s.fire.holds) then s
  else
    let gone := s.fire.holds.filter (fun e => due.all (fun d => d.2.1 != e.2.1))
    let s := gone.foldl (fun (s : State) e => s.relinquishSlot (s.get (Reg.PT_PA e.2.1)) 1) s
    (s.modFire (fun f => { f with holds := due })).writeActions

/-! ## Mode changes (R497 to R501, R514) -/

/-- What MRAM keeps (R499). -/
def State.keepFire (s : State) : State :=
  s.modFire (fun f => { f with kept := ⟨s.get Reg.FIR_MODE, s.getW Reg.FIR_MODE_TS, s.get Reg.FIR_FF_PHASE, s.get Reg.FIR_ENDUR_S⟩ })

/-- ENDUR_S counts from this instant on. -/
def State.startEndur (s : State) : State :=
  s.modFire (fun f => { f with entered := some (s.unow - (s.get Reg.FIR_ENDUR_S : Int) * 1000000000) })

/-- ENDUR_S at the present instant. -/
def State.showEndur (s : State) : State :=
  match s.fire.entered with
  | some t => if s.get Reg.FIR_MODE = FireMode.ENDURANCE then (s.set Reg.FIR_ENDUR_S (min 0xFFFFFFFF ((s.unow - t) / 1000000000).toNat)).keepFire else s
  | none => s

/-- Change the mode. Channels that sleep are woken; from EVACUATE on pending calls are cleared and the panels told. -/
def State.setFireMode (s : State) (m : Nat) : State :=
  let old := s.get Reg.FIR_MODE
  if old = m then s
  else
    let s := s.showEndur
    let s := (((s.set Reg.FIR_MODE m).setW Reg.FIR_MODE_TS s.tai).bump Reg.FIR_FIRE_CNT).irq Page.FIR Irq.FIR_MODE
    let s := (s.record sevSafety Page.FIR 0 m []).keepFire
    let s := if old = 0 then foldN 4 canWake s else s
    let s := if old < 2 ∧ 2 ≤ m then s.clearCalls.send .panelClear 0 0 [] else s
    let s := if m = FireMode.ENDURANCE then s.startEndur else s
    s.applyActions true

/-! ## Cars (R503) -/

/-- A firefighter switch in the car is active. -/
def State.ffCar (s : State) (n : Nat) : Bool :=
  (List.range 16).any (fun i => s.flag (Reg.FIR_FIN_EN i) && s.get (Reg.FIR_FIN_FUNC i) == FinFunc.FF_CAR && s.getBit Reg.FIR_IN_ACTIVE i
    && s.get (Reg.FIR_FIN_CAR i) == n)

/-- Phase of a car at a judgement: recall in EVACUATE and above, for FF_MAP cars only in ENDURANCE; PHASE2 while its
switch is active. -/
def State.judgePhase (n : Nat) (s : State) : State :=
  let m := s.get Reg.FIR_MODE
  let map := s.getBit Reg.FIR_FF_MAP n
  if m < 2 || !s.carPresent n then s
  else
    let ph := s.ffPhase n
    let phase2 := map && (m == 3 || (m == 4 && s.finActive FinFunc.FF_KEY)) && s.ffCar n
    if ph = 0 then (if s.get (Reg.CAR_MODE n) != CarMode.INSPECTION && (m != 4 || map) then s.setPhase n 1 else s)
    else if ph = 2 ∧ phase2 = true then s.setPhase n 3
    else if ph = 3 ∧ s.ffCar n = false then (s.setPhase n 1).modCar n (fun c => { c with recallStep := 0 })
    else s

/-! ## Fire reset (R498) -/

/-- A fire reset is accepted. -/
def State.mayReset (s : State) : Bool :=
  !(s.finActive FinFunc.ALARM || s.finActive FinFunc.EVAC || s.finActive FinFunc.FF_KEY || s.finActive FinFunc.ENDURE)
    && (List.range 8).all (fun n => s.ffPhase n != 3)
    && decide (s.sensor0 < (s.get Reg.FIR_ENDUR_TEMP : Int) * 10 - 100)

/-- The fire reset. After ENDURANCE the shed stages are judged again from all three applied (R513). -/
def fireReset (s : State) : State :=
  if !s.mayReset then (s.err Page.FIR Err.FIR_RESET_REFUSED).answer Status.E_STATE []
  else
    let was := s.get Reg.FIR_MODE
    let s := (s.modFire (fun f => { f with cmd := 0 })).setFireMode FireMode.NORMAL
    let s := foldN 8 (fun n s => (s.setPhase n 0).modCar n (fun c => { c with recallStep := 0 })) s
    let shed := s.get Reg.FIR_SHED ||| s.fire.left
    let s := (s.set Reg.FIR_SHED shed).modFire (fun f => { f with restore := shed != 0, entered := none })
    let s := if was = FireMode.ENDURANCE then
        let s := s.setStages 7
        if s.get Reg.PWR_MODE = PowerMode.NORMAL then s.set Reg.PWR_MODE PowerMode.RECOVERY else s
      else s
    s.answer Status.OK []

/-! ## The judgement (R496, R497) -/

/-- FIRE_JUDGEMENT. -/
def fireJudgement (s : State) : State :=
  if !s.appUp || !s.flag (Reg.HDR_ENABLE Page.FIR) then s
  else
    let was := s.get Reg.FIR_IN_ACTIVE
    let s := (foldN 16 State.judgeInput s).showEndur
    let want := s.fireWanted
    let s := s.modFire (fun f => { f with cmd := 0 })
    let s := if s.get Reg.FIR_MODE < want then s.setFireMode want else s
    let s := if s.get Reg.FIR_MODE = FireMode.FIREFIGHTER ∧ s.finActive FinFunc.FF_KEY = false
        ∧ (List.range 8).all (fun n => !s.getBit Reg.FIR_FF_MAP n || s.ffPhase n == 2) = true then s.setFireMode FireMode.EVACUATE else s
    let s := foldN 8 State.judgePhase s
    let s := s.applyActions false
    let edge := (List.range 16).any (fun i => s.flag (Reg.FIR_FIN_EN i) && s.get (Reg.FIR_FIN_FUNC i) == FinFunc.PANEL_RESET
      && s.getBit Reg.FIR_IN_ACTIVE i && !bitOf was i)
    if edge then fireReset s else s

def execFireJudgement (s : State) : Out State := .next (fireJudgement s)

/-! ## Commands -/

/-- A keyed command of a page of tag 0 that needs the rights named (R387). -/
def State.keyed (s : State) (r : Requester) (a : Nat) (rights : List Nat) (key want : Nat) (g : State → State) : State :=
  let c := s.creds r
  if c.tag = 0 ∧ rights.all c.may = true then
    (if key = want then g s else (s.err (a / 4096) Err.KEY_ERR).answer Status.W_IGNORED [])
  else s.guardRefuse r a

/-- FIRE_CMD: 1 ALERT, 2 EVACUATE, 3 ENDURANCE, 4 FIRE_RESET; the next judgement takes a mode asked for (R497). -/
def fireCmd (r : Requester) (key c : Nat) (s : State) : State :=
  let ask := fun (m : Nat) (s : State) => (s.modFire (fun f => { f with cmd := max f.cmd m })).answer Status.OK []
  match c with
  | 1 => s.keyed r 0x1C04C [Right.WRITE, Right.COMMAND] key 0xF17E (ask FireMode.ALERT)
  | 2 => s.keyed r 0x1C04C [Right.WRITE, Right.COMMAND] key 0xF17E (ask FireMode.EVACUATE)
  | 3 => s.keyed r 0x1C04C [Right.WRITE, Right.COMMAND] key 0xF17E (ask FireMode.ENDURANCE)
  | 4 => s.keyed r 0x1C04C [Right.WRITE, Right.RESET] key 0xF17E (fun s =>
      if isSession r then fireReset s else s.guardRefuse r 0x1C04C)
  | _ => s.keyed r 0x1C04C [Right.WRITE, Right.COMMAND] key 0xF17E (fun s => s.answer Status.OK [])

def execFireCmdAlert (r : Requester) (key : BitVec 16) (s : State) : Out State := .next (fireCmd r key.toNat 1 s)
def execFireCmdEvacuate (r : Requester) (key : BitVec 16) (s : State) : Out State := .next (fireCmd r key.toNat 2 s)
def execFireCmdEndurance (r : Requester) (key : BitVec 16) (s : State) : Out State := .next (fireCmd r key.toNat 3 s)
def execFireReset (r : Requester) (key : BitVec 16) (s : State) : Out State := .next (fireCmd r key.toNat 4 s)

/-- ENDURANCE_TEMP: sensor 0 has been at or above ENDUR_TEMP for 10 s. -/
def execEnduranceTemp (s : State) : Out State :=
  let m := s.get Reg.FIR_MODE
  .next (if (m = FireMode.EVACUATE ∨ m = FireMode.FIREFIGHTER) ∧ (s.get Reg.FIR_ENDUR_TEMP : Int) * 10 ≤ s.sensor0 then
    s.modFire (fun f => { f with cmd := FireMode.ENDURANCE }) else s)

/-! ## Endurance (R505, R506, R534) -/

/-- A channel that ENDURANCE keeps. -/
def State.fireKeeps (s : State) (k : Nat) : Bool :=
  (List.range 64).any (fun e => s.flag (Reg.FIR_FACT_EN e) && bitOf (s.get (Reg.FIR_FACT_MODES e)) 3
      && s.outChannel (s.get (Reg.FIR_FACT_POINT e)) == some k)
    || s.vaOutputs.any (fun e => e.1 == k) || s.flag (Reg.TILE_SAFETY (k / 32) (k % 32))

/-- The channels of a tile that step N5 sheds. -/
def State.shedChannels (s : State) (t : Nat) : List Nat :=
  (List.range 32).filter (fun n => ((s.tile t).chan n).isOut && !s.fireKeeps (32 * t + n))

/-- N5 on a tile: each channel takes its safe action, HOLD keeping its level, and ignores later frames. -/
def State.shedTile (t : Nat) (s : State) : State :=
  let ns := s.shedChannels t
  let s := s.modTile t (fun x => ns.foldl (fun (x : Tile) n => { Tile.applySafe true n x with fireHold := x.fireHold ||| 2 ^ n }) x)
  { s with fireShed := s.fireShed ++ (ns.map (fun n => 32 * t + n)).filter (fun k => !s.fireShed.contains k) }

/-- N3: loop slots that are not kept go OFF; their modes are remembered for the restore. -/
def State.shedLoops (s : State) : State :=
  let ns := s.loopsOn.filter (fun n => !s.getBit (Reg.FIR_LOOP_KEEP (n / 32)) (n % 32))
  let s := s.modFire (fun f => { f with loops := ns.map (fun n => (n, s.loopMode n)) })
  ns.foldl (fun (s : State) n => s.loopOff n) s

/-- The effect of step N(k + 1). -/
def State.enduranceStep (k : Nat) (s : State) : State :=
  match k with
  | 0 => if s.meter.on then (ckptDone true 0 (startCkpt CkptKind.COMMANDED (s.modMeter (fun m => { m with writing := none, cmdWait := false })))).meterOff else s
  | 1 => s
  | 2 => stopAll 0x00FF0000 s.shedLoops
  | 3 => s.setStages (s.get Reg.PWR_SHED ||| 3)
  | 4 => foldN 8 State.shedTile s
  | _ => (s.setStages 7).setWord Reg.ATB_NODE_0.addr 0

/-- ENDURANCE_STEP: steps N1 to N6 in order. -/
def execEnduranceStep (k : Fin 6) (s : State) : Out State :=
  .next (if s.appUp && s.get Reg.FIR_MODE == FireMode.ENDURANCE && s.get Reg.FIR_SHED == 2 ^ k.val - 1 then
    (s.enduranceStep k).setBit Reg.FIR_SHED k true else s)

/-- Undo step N(k + 1): the tiles' channels take the level of the latest frame, loop slots are asked for the mode they
had, and Skiver restores as at a release of reach FULL. -/
def State.enduranceUndo (k : Nat) (s : State) : State :=
  match k with
  | 0 => if s.meter.on then s else s.meterRestore.meterStart
  | 2 => s.fire.loops.foldl (fun (s : State) e => s.modLoop e.1 (fun x => { x with req := some e.2 })) s
  | 4 =>
    { foldN 8 (fun t s => s.modTile t (fun x =>
        let x := { x with fireHold := 0 }
        if x.safe then x else x.takeLevels x.lastLevels)) s with fireShed := [] }
  | _ => s

/-- FIRE_RESET_RESTORE_STEP: the last step applied is undone first. -/
def execFireResetRestoreStep (s : State) : Out State :=
  match ((List.range 6).filter (fun k => s.getBit Reg.FIR_SHED k)).getLast? with
  | none => .next s
  | some k =>
    if !s.fire.restore || !s.appUp then .next s
    else
      let s := (s.enduranceUndo k).setBit Reg.FIR_SHED k false
      .next (s.modFire (fun f => { f with left := f.left &&& (2 ^ k - 1), restore := k != 0 && s.get Reg.FIR_SHED != 0, loops := if k = 2 then [] else f.loops }))

/-- ENDURANCE_LIMIT. -/
def execEnduranceLimit (s : State) : Out State :=
  let s := s.showEndur
  .next (if s.get Reg.FIR_MODE = FireMode.ENDURANCE ∧ 7200 ≤ s.get Reg.FIR_ENDUR_S then s.record sevFault Page.FIR 1 0 [] else s)

/-! ## Voice alarm (R502) -/

/-- VA_LIVE_PT has not changed for VA_WDG_S, or its quality is COMM_FAIL or BAD. -/
def State.vaSilent (s : State) : Bool :=
  let p := s.get Reg.FIR_VA_LIVE_PT
  decide (Qual.UNCERTAIN < s.get (Reg.PT_QUAL p) % 16) || decide (s.getW (Reg.PT_TS p) + s.get Reg.FIR_VA_WDG_S * 1000000000 ≤ s.tai)

/-- VA_WATCHDOG. -/
def execVaWatchdog (s : State) : Out State :=
  .next (if s.appUp && s.flag Reg.FIR_VA_EN && !s.flag Reg.FIR_VA_FAULT && s.vaSilent then
    ((s.setFlag Reg.FIR_VA_FAULT true).irq Page.FIR Irq.FIR_VA_FAULT).record sevFault Page.FIR 2 0 [] else s)

/-! ## Restore at B9 (R499) -/

/-- The mode is restored and its actions applied again; steps that a reset left applied are restored where the mode is
NORMAL. -/
def State.fireRestore (s : State) : State :=
  let k := s.fire.kept
  let s := (((s.set Reg.FIR_MODE k.mode).setW Reg.FIR_MODE_TS k.ts).set Reg.FIR_FF_PHASE k.phases).set Reg.FIR_ENDUR_S k.endurS
  let s := s.modFire (fun f => { f with holds := [], cmd := 0, entered := none, loops := [] })
  if k.mode = 0 then (s.set Reg.FIR_SHED s.fire.left).modFire (fun f => { f with restore := f.left != 0 })
  else (if k.mode = FireMode.ENDURANCE then s.startEndur else s).applyActions true

end Sys2Proof.Machine
end

