-- ==== Sys2Proof/Machine/Mac.lean ====
section
/-! DEFINITION. The frame MACs and PRP (R395 to R413). A frame is a list of bytes from its destination address on; DRAM
holds descriptors and buffers. -/

namespace Sys2Proof.Machine

/-! ## Access -/

def lanNum (l : Lan) : Nat := match l with | .A => 0 | .B => 1
def lanOf (n : Nat) : Lan := if n = 0 then .A else .B

def State.port (s : State) (n : Nat) : MacPort := if n = 0 then s.mac.portA else s.mac.portB

def State.modPort (s : State) (n : Nat) (g : MacPort → MacPort) : State :=
  if n = 0 then { s with mac := { s.mac with portA := g s.mac.portA } } else { s with mac := { s.mac with portB := g s.mac.portB } }

/-- A word of DRAM; words nothing has written read 0 (log entry 1). -/
def State.dram (s : State) (a : Nat) : Word := KV.getD s.mac.dram a 0

def State.setDram (s : State) (a : Nat) (w : Word) : State :=
  { s with mac := { s.mac with dram := if w = 0 then KV.del s.mac.dram a else KV.put s.mac.dram a w } }

/-- A byte of DRAM: byte `a % 4` of its word, the least significant first (log entry 30). -/
def State.dramByte (s : State) (a : Nat) : Nat := getBits (s.dram (a / 4 * 4)) (8 * (a % 4) + 7) (8 * (a % 4))

def State.setDramByte (s : State) (a b : Nat) : State :=
  s.setDram (a / 4 * 4) (setBits (s.dram (a / 4 * 4)) (8 * (a % 4) + 7) (8 * (a % 4)) b)

/-- Write bytes of a buffer. -/
def State.setBytes (s : State) (a : Nat) : List Nat → State
  | [] => s
  | b :: t => State.setBytes (s.setDramByte a b) (a + 1) t

/-! ## Frame fields -/

/-- A number from bytes, the first the most significant. -/
def beNum (bs : List Nat) : Nat := bs.foldl (fun a b => a * 256 + b) 0

/-- `n` bytes of a number, the most significant first. -/
def beBytes (v : Nat) : Nat → List Nat
  | 0 => []
  | n + 1 => v / 256 ^ n % 256 :: beBytes v n

def byteAt (bs : List Nat) (i : Nat) : Nat := bs.getD i 0
def halfAt (bs : List Nat) (i : Nat) : Nat := byteAt bs i * 256 + byteAt bs (i + 1)

def frameDst (bs : List Nat) : Nat := beNum (bs.take 6)
def frameSrc (bs : List Nat) : Nat := beNum ((bs.drop 6).take 6)

/-- One IEEE 802.1Q tag is present, and no second. -/
def tagged (bs : List Nat) : Bool := halfAt bs 12 == 0x8100 && halfAt bs 16 != 0x8100

/-- Where the EtherType stands. -/
def typeAt (bs : List Nat) : Nat := if tagged bs then 16 else 12

/-- CRC-32 of bytes as IEEE 802.3 computes the FCS (R401). -/
def fcsBit (c : Nat) : Nat := if c % 2 = 1 then (c / 2) ^^^ 0xEDB88320 else c / 2
def crc32 (bs : List Nat) : Nat := bs.foldl (fun c b => Nat.repeat fcsBit 8 (c ^^^ b)) 0xFFFFFFFF ^^^ 0xFFFFFFFF

/-- MAC_ADDR, 48 bits (R396). The register's low word holds the low 32 bits. -/
def State.macAddr (s : State) (n : Nat) : Nat := s.getW (Reg.MAC_MAC_ADDR n) % 2 ^ 48

def State.prpActive (s : State) : Bool := s.flag (Reg.MAC_PRP_ACTIVE 0)

/-! ## Checksums (R402, R403) -/

/-- The ones' complement sum of bytes as 16-bit words. -/
def onesSum (bs : List Nat) : Nat :=
  let rec go : List Nat → Nat → Nat
    | a :: b :: t, acc => go t (acc + a * 256 + b)
    | [a], acc => acc + a * 256
    | [], acc => acc
  let x := go bs 0
  let x := x % 65536 + x / 65536
  let x := x % 65536 + x / 65536
  x % 65536 + x / 65536

/-- Where a frame's IP header and its UDP or TCP segment stand, and the sum of its pseudo-header: none in the cases of
R402. -/
structure IpView where
  v4    : Bool
  ip    : Nat
  hlen  : Nat
  seg   : Nat
  len   : Nat
  proto : Nat
  frag  : Bool
deriving DecidableEq, Repr

def ipView (bs : List Nat) : Option IpView :=
  let t := typeAt bs
  let ip := t + 2
  if halfAt bs t = 0x0800 ∧ byteAt bs ip / 16 = 4 then
    let h := byteAt bs ip % 16 * 4
    some ⟨true, ip, h, ip + h, halfAt bs (ip + 2) - h, byteAt bs (ip + 9), halfAt bs (ip + 6) % 0x4000 != 0⟩
  else if halfAt bs t = 0x86DD ∧ byteAt bs ip / 16 = 6 then
    some ⟨false, ip, 40, ip + 40, halfAt bs (ip + 4), byteAt bs (ip + 6), false⟩
  else none

/-- The place of the checksum in a UDP or TCP segment. -/
def l4Place (proto : Nat) : Option Nat := if proto = 17 then some 6 else if proto = 6 then some 16 else none

/-- The sum of the pseudo-header and the segment, whose own checksum field counts as it stands. -/
def l4Sum (bs : List Nat) (v : IpView) : Nat :=
  let addrs := if v.v4 then (bs.drop (v.ip + 12)).take 8 else (bs.drop (v.ip + 8)).take 32
  let len := if v.v4 then beBytes v.len 2 else beBytes v.len 4
  onesSum (addrs ++ len ++ [0, v.proto] ++ (bs.drop v.seg).take v.len)

/-- Whether the checksums of a frame can be judged or inserted: of IPv4, and of UDP or TCP. -/
def canIp (bs : List Nat) : Bool := match ipView bs with | some v => v.v4 && !v.frag | none => false
def canL4 (bs : List Nat) : Bool := match ipView bs with | some v => !v.frag && (l4Place v.proto).isSome | none => false

/-- IPCS and L4CS of a received frame: 0 not checked, 1 good, 2 bad. -/
def ipcs (bs : List Nat) : Nat :=
  match ipView bs with
  | some v => if canIp bs then (if onesSum ((bs.drop v.ip).take v.hlen) = 0xFFFF then 1 else 2) else 0
  | none => 0

def l4cs (bs : List Nat) : Nat :=
  match ipView bs with
  | some v =>
    if !canL4 bs then 0
    -- a UDP checksum of 0 over IPv4 says that none was computed (PRESUMED, log entry 30)
    else if v.proto = 17 ∧ v.v4 = true ∧ halfAt bs (v.seg + 6) = 0 then 0
    else if l4Sum bs v = 0xFFFF then 1 else 2
  | none => 0

/-- Put two bytes into a frame. -/
def putHalf (bs : List Nat) (i v : Nat) : List Nat := (bs.set i (v / 256 % 256)).set (i + 1) (v % 256)

/-- Insert the IPv4 header checksum. -/
def insertIp (bs : List Nat) : List Nat :=
  match ipView bs with
  | some v => let b := putHalf bs (v.ip + 10) 0; putHalf b (v.ip + 10) (0xFFFF - onesSum ((b.drop v.ip).take v.hlen))
  | none => bs

/-- Insert the UDP or TCP checksum; a UDP checksum that computes as 0 is sent as 0xFFFF. -/
def insertL4 (bs : List Nat) : List Nat :=
  match ipView bs with
  | some v =>
    match l4Place v.proto with
    | some k =>
      let b := putHalf bs (v.seg + k) 0
      let c := 0xFFFF - l4Sum b v
      putHalf b (v.seg + k) (if v.proto = 17 ∧ c = 0 then 0xFFFF else c)
    | none => bs
  | none => bs

/-! ## Rings (R397 to R399) -/

/-- BASE, LEN, TAIL and HEAD of a ring: of queue `q`, or the receive ring where `q` is 7. -/
def ringBase (n q : Nat) : Fld := if q = 7 then Reg.MAC_RX_BASE n else Reg.MAC_TX_BASE n q
def ringEn (n q : Nat) : Fld := if q = 7 then Reg.MAC_RX_EN n else Reg.MAC_TX_EN n q
def ringLen (n q : Nat) : Fld := if q = 7 then Reg.MAC_RX_LEN n else Reg.MAC_TX_LEN n q
def ringTail (n q : Nat) : Fld := if q = 7 then Reg.MAC_RX_TAIL n else Reg.MAC_TX_TAIL n q
def ringHead (n q : Nat) : Fld := if q = 7 then Reg.MAC_RX_HEAD n else Reg.MAC_TX_HEAD n q

/-- The address of a descriptor. -/
def State.descAt (s : State) (n q i : Nat) : Nat := s.get (ringBase n q) + 16 * (i % max 1 (s.get (ringLen n q)))

/-- Descriptors from index `i` up to TAIL − 1. -/
def State.ringHeld (s : State) (n q i : Nat) : Nat :=
  let len := s.get (ringLen n q)
  if len = 0 ∨ s.flag (ringEn n q) = false then 0 else (s.get (ringTail n q) % len + len - i % len) % len

/-- A descriptor holds an uncorrectable error: the ring stops (R412). -/
def State.descBad (s : State) (a : Nat) : Bool := s.diag.dramMarked.any (fun w => decide (a / 4 ≤ w ∧ w < a / 4 + 4))

def State.stopRing (s : State) (n q : Nat) : State := (s.setFlag (ringEn n q) false).err (Page.MAC n) Err.ECC_UE

/-- The bytes of a transmit frame from its descriptors. -/
def State.frameBytes (s : State) (n q first count : Nat) : List Nat :=
  (List.range count).flatMap (fun i =>
    let d := s.descAt n q (first + i)
    (List.range (getBits (s.dram d) 15 0)).map (fun k => s.dramByte ((s.dram (d + 4)).toNat + k)))

/-- How many descriptors a frame takes from index `i` on, of `k` held; none where its last one is not held. -/
def State.frameSpan (s : State) (n q i : Nat) : Nat → Option Nat
  | 0 => none
  | k + 1 => if getBits (s.dram (s.descAt n q i)) 29 29 = 1 then some 1 else (State.frameSpan s n q (i + 1) k).map (· + 1)

/-- Advance a transmit ring's HEAD past the descriptors returned. -/
def State.advanceHead (s : State) (n q : Nat) : Nat → State
  | 0 => s
  | k + 1 =>
    let h := s.get (ringHead n q)
    let nx := KV.getD (s.port n).next q 0
    if h = nx ∨ getBits (s.dram (s.descAt n q h)) 31 31 = 1 then s
    else State.advanceHead (s.set (ringHead n q) ((h + 1) % max 1 (s.get (ringLen n q)))) n q k

/-- Return a frame's descriptors with the bits of word 3 (R397, R409). -/
def State.returnJob (s : State) (j : TxJob) : State :=
  let s := foldN j.count (fun i (s : State) =>
    let d := s.descAt j.mac j.q (j.first + i)
    s.setDram d (setBits (s.dram d) 31 31 0)) s
  let s := s.setDram (s.descAt j.mac j.q (j.first + j.count - 1) + 12) (BitVec.ofNat 32 (2 ^ 31 + j.bits))
  let s := { s with mac := { s.mac with jobs := s.mac.jobs.filter (fun x => !(x.mac == j.mac && x.q == j.q && x.first == j.first)) } }
  (s.advanceHead j.mac j.q 4096).irq (Page.MAC j.mac) Irq.MAC_TX_DONE

/-- A copy of a frame is done: its bits join the others', and with the last copy the descriptors return. -/
def State.copyDone (s : State) (c : TxCopy) (bits : Nat) : State :=
  match s.mac.jobs.find? (fun x => x.mac == c.mac && x.q == c.q && x.first == c.first) with
  | none => s
  | some j =>
    let j := { j with left := j.left - 1, bits := j.bits ||| bits }
    if j.left = 0 then s.returnJob j
    else { s with mac := { s.mac with jobs := s.mac.jobs.map (fun x => if x.mac = c.mac ∧ x.q = c.q ∧ x.first = c.first then j else x) } }

/-- The bits of word 3 (R397). -/
def sentBit (n : Nat) : Nat := if n = 0 then 2 ^ 30 else 2 ^ 29
abbrev nofitBit : Nat := 2 ^ 28
abbrev oversizeBit : Nat := 2 ^ 27
abbrev csumSkipBit : Nat := 2 ^ 26

/-- A copy enters a port's queue; a copy of a pair whose port has no link is discarded (R409). -/
def State.queueCopy (s : State) (n : Nat) (c : TxCopy) : State :=
  if c.prp && !s.flag (Reg.MAC_LINK_UP n) then (s.bump (Reg.MAC_TX_LINK_DROP n)).copyDone c 0
  else s.modPort n (fun p => { p with queues := KV.put p.queues c.q (KV.getD p.queues c.q [] ++ [c]) })

/-- The RCT of a copy (R409): sequence number, LanId, LSDUsize, suffix. LSDUsize counts from the EtherType's end to the
RCT's (PRESUMED, IEC 62439-3; log entry 30). -/
def withRct (bs : List Nat) (seq n : Nat) : List Nat :=
  let lsdu := bs.length + 6 - (typeAt bs + 2)
  bs ++ beBytes seq 2 ++ beBytes ((10 + n) * 4096 + lsdu % 4096) 2 ++ [0x88, 0xFB]

/-- The sequence number of a pair of copies: of the node's counter, or for a frame from PAIR_MAC of a twin the pair's
(R409, R452). -/
def State.prpSeq (s : State) (pair : Bool) : Nat × State :=
  if pair then
    let k := s.twin.pairSeq % 65536
    (k, { s with twin := { s.twin with pairSeq := (s.twin.pairSeq + 1) % 65536 } })
  else
    let k := s.mac.seq
    (k, { s with mac := { s.mac with seq := (k + 1) % 65536 } })

/-- A frame from PAIR_MAC, which a unit in RESYNC does not send (R455). -/
def State.pairGone (s : State) (bs : List Nat) : Bool :=
  s.get Reg.TWN_STATE == TwinState.RESYNC && frameSrc bs == s.getW Reg.TWN_PAIR_MAC % 2 ^ 48

/-- Take a whole frame from a ring to its queue or queues (R397, R402, R409). -/
def State.takeFrame (s : State) (n q first count : Nat) : State :=
  let d0 := s.dram (s.descAt n q first)
  let bs := s.frameBytes n q first count
  let s := s.modPort n (fun p => { p with next := KV.put p.next q ((first + count) % max 1 (s.get (ringLen n q))) })
  let wantIp := getBits d0 27 27 == 1
  let wantL4 := getBits d0 26 26 == 1
  let skip := (wantIp && !canIp bs) || (wantL4 && !canL4 bs)
  let bits := if skip then csumSkipBit else 0
  let pairMac := s.inPair && frameSrc bs == s.getW Reg.TWN_PAIR_MAC % 2 ^ 48
  let both := s.prpActive && n == 0 && getBits d0 25 25 == 0
  let job := fun (k b : Nat) => TxJob.mk n q first count k (bits ||| b)
  if 9216 < bs.length then (s.bump (Reg.MAC_TX_OVERSIZE n)).returnJob (job 0 oversizeBit)
  else if s.pairGone bs then s.returnJob (job 0 0)
  else
    let bs := if wantL4 && canL4 bs then insertL4 bs else bs
    let bs := if wantIp && canIp bs then insertIp bs else bs
    let bs := bs ++ List.replicate (60 - bs.length) 0
    let ts := if getBits d0 28 28 = 1 then some (getBits (s.dram (s.descAt n q first + 8)) 31 16) else none
    if both then
      let (k, s) := s.prpSeq pairMac
      let s := if pairMac then { s with twin := { s.twin with roundOut := s.twin.roundOut ++ (k :: bs).map (BitVec.ofNat 32) } } else s
      let s := { s with mac := { s.mac with jobs := s.mac.jobs ++ [job 2 0] } }
      (s.queueCopy 0 ⟨withRct bs k 0, n, q, first, true, ts⟩).queueCopy 1 ⟨withRct bs k 1, n, q, first, true, ts⟩
    else
      let s := { s with mac := { s.mac with jobs := s.mac.jobs ++ [job 1 0] } }
      s.queueCopy n ⟨bs, n, q, first, false, ts⟩

/-- Take every whole frame that software has handed over. -/
def State.loadRing (s : State) (n q : Nat) : Nat → State
  | 0 => s
  | k + 1 =>
    let i := KV.getD (s.port n).next q 0
    let held := s.ringHeld n q i
    if held = 0 then s
    else if (List.range held).any (fun d => s.descBad (s.descAt n q (i + d))) then s.stopRing n q
    else match s.frameSpan n q i held with
      | none => s
      | some c => State.loadRing (s.takeFrame n q i c) n q k

/-- A ring's TAIL is written (R399): descriptors are handed over. -/
def tailWritten (n q : Nat) (s : State) : State := if q = 7 then s else s.loadRing n q 4096

/-- TAIL_WRITE: firmware, having written descriptors and buffers in DRAM, advances a ring's TAIL. -/
def execTailWrite (l : Lan) (ring : Option (Fin 7)) (tail : BitVec 12) (writes : List (Nat × Word)) (s : State) : Out State :=
  .next (if s.sysHeld then s else
    let n := lanNum l
    let q := match ring with | some k => k.val | none => 7
    let s := writes.foldl (fun (s : State) (e : Nat × Word) => s.setDram (e.1 / 4 * 4) e.2) s
    tailWritten n q (s.set (ringTail n q) tail.toNat))

/-! ## Receive (R399 to R403, R410) -/

/-- Destinations of the PTP and PRP engines, whose frames never reach a ring (PRESUMED, IEEE 1588 and IEC 62439-3). -/
def engineAddr (d : Nat) : Bool := d == 0x011B19000000 || d == 0x0180C200000E || d == 0x01154E000100

/-- The hash bin of an address (R401). -/
def hashBin (d : Nat) : Nat := crc32 (beBytes d 6) % 512

def State.hashHit (s : State) (n d : Nat) : Bool := s.getBit (Reg.MAC_HASH n (hashBin d / 32)) (hashBin d % 32)

/-- Whether a destination is accepted (R401). Frames to PAIR_MAC of a pair reach both units (R452). -/
def State.accepts (s : State) (n d : Nat) : Bool :=
  if d = 2 ^ 48 - 1 then s.flag (Reg.MAC_BCAST_EN n)
  else if d / 2 ^ 40 % 2 = 1 then s.flag (Reg.MAC_ALL_MULTI n) || s.hashHit n d
  else d == s.macAddr (if s.prpActive then 0 else n) || (s.inPair && d == s.getW Reg.TWN_PAIR_MAC % 2 ^ 48)

/-- The RCT of a received frame, where it is valid: sequence number and LanId. -/
def rctOf (bs : List Nat) : Option (Nat × Nat) :=
  let k := bs.length - 6
  let lan := halfAt bs (k + 2) / 4096
  if 20 ≤ bs.length ∧ halfAt bs (k + 4) = 0x88FB ∧ (lan = 10 ∨ lan = 11) ∧ halfAt bs (k + 2) % 4096 = (bs.length - (typeAt bs + 2)) % 4096
  then some (halfAt bs k, lan) else none

/-- The duplicate judgement of R410: whether the frame is delivered. -/
def State.prpJudge (s : State) (n : Nat) (bs : List Nat) : Bool × State :=
  match rctOf bs with
  | none => (true, s)
  | some (seq, lan) =>
    if lan ≠ 10 + n then (true, s.bump (Reg.MAC_PRP_WRONG_LAN 0))
    else
      let now := s.unow
      let src := frameSrc bs
      let old := now - (s.get (Reg.MAC_ENTRY_FORGET_MS 0) : Int) * 1000000
      match s.mac.nodes.find? (fun e => e.src == src) with
      | some e =>
        let seen := e.seen.filter (fun x => decide (old < x.2))
        let dup := seen.any (fun x => x.1 == seq)
        let e' : PrpNode := ⟨src, if dup then seen else (seq, now) :: seen, now⟩
        let s := { s with mac := { s.mac with nodes := s.mac.nodes.map (fun x => if x.src = src then e' else x) } }
        if dup then (false, s.bump (Reg.MAC_PRP_DUP 0)) else (true, s)
      | none =>
        if 512 ≤ s.mac.nodes.length then (true, (s.bump (Reg.MAC_PRP_NT_FULL 0)).err (Page.MAC 0) Err.MAC_NT_FULL)
        else
          let s : State := { s with mac := { s.mac with nodes := s.mac.nodes ++ [PrpNode.mk src [(seq, now)] now] } }
          (true, s.set (Reg.MAC_NT_COUNT 0) s.mac.nodes.length)

/-- A receive time of a port corrected under R124, in whole nanoseconds. -/
def State.rxStamp (s : State) (port ts : Nat) : Nat := (ts * 2 ^ 16 + (s.latency (if port = 0 then .A else .B)).1.toNat) / 2 ^ 16

/-- The descriptors that a frame of `len` delivered bytes needs, and whether a ring's MAC holds fewer (R399). -/
def State.rxCount (s : State) (n len : Nat) : Nat := (len + max 64 (s.get (Reg.MAC_RX_BUF_SIZE n)) - 1) / max 64 (s.get (Reg.MAC_RX_BUF_SIZE n))
def State.rxShort (s : State) (n len : Nat) : Bool := decide (s.ringHeld n 7 (s.get (ringHead n 7)) < s.rxCount n len)

/-- A frame dropped for want of a descriptor (R399). -/
def State.noDesc (s : State) (n : Nat) : State := (s.bump (Reg.MAC_RX_NO_DESC n)).irq (Page.MAC n) Irq.MAC_NO_DESC

/-- Deliver a frame into a receive ring (R398 to R400). `port` is the port of the copy; `bs` the frame as judged, `out`
the bytes delivered. -/
def State.deliverFrame (s : State) (n port : Nat) (bs out : List Nat) (trunc : Bool) (ts : Nat) : State :=
  let size := max 64 (s.get (Reg.MAC_RX_BUF_SIZE n))
  let count := s.rxCount n out.length
  let h := s.get (ringHead n 7)
  if s.rxShort n out.length then s.noDesc n
  else if (List.range count).any (fun i => s.descBad (s.descAt n 7 (h + i))) then s.stopRing n 7
  else
    let dst := frameDst bs
    let group := dst / 2 ^ 40 % 2 == 1 && dst != 2 ^ 48 - 1
    let status := b2n trunc * 2 ^ 28 + port * 2 ^ 27 + b2n (group && s.hashHit port dst) * 2 ^ 26 + b2n (dst == 2 ^ 48 - 1) * 2 ^ 25
      + ipcs bs * 2 ^ 23 + l4cs bs * 2 ^ 21 + b2n (tagged bs) * 2 ^ 20
    let s := foldN count (fun i (s : State) =>
      let d := s.descAt n 7 (h + i)
      let part := (out.drop (i * size)).take size
      let s := s.setBytes (s.dram (d + 4)).toNat part
      let w := b2n (i == 0) * 2 ^ 30 + (if i + 1 = count then 2 ^ 29 + status else 0) + part.length
      let s := s.setDram d (BitVec.ofNat 32 w)
      (s.setDram (d + 8) (if i = 0 then BitVec.ofNat 32 ts else 0)).setDram (d + 12) (if i = 0 then BitVec.ofNat 32 (ts / 2 ^ 32) else 0)) s
    let s := s.set (ringHead n 7) ((h + count) % max 1 (s.get (ringLen n 7)))
    let s := (s.bump (Reg.MAC_RX_FRAMES n)).setW (Reg.MAC_RX_BYTES n) (satTo (2 ^ 64 - 1) (s.getW (Reg.MAC_RX_BYTES n) + out.length))
    let s := if trunc then s.bump (Reg.MAC_RX_TRUNC n) else s
    (s.report ⟨ts, .mac (lanOf port)⟩).irq (Page.MAC n) Irq.MAC_RX_DONE

/-- FRAME_RECEIVE: a frame has arrived at a port. A frame with a bad FCS that finds no descriptor is dropped for that before
its end (R399). -/
def frameReceive (n : Nat) (f : RxFrame) (s : State) : State :=
  let bs := f.bytes.map (fun b => b.toNat)
  let dst := frameDst bs
  if s.sysHeld || !s.flag (Reg.MAC_LINK_UP n) then s
  else if bs.length < 60 then s.bump (Reg.MAC_RX_RUNT n)
  else
    let rct := if s.prpActive then (rctOf bs).isSome else false
    let body := if rct then bs.take (bs.length - 6) else bs
    let trunc := decide (9216 < body.length)
    let pause := dst == 0x0180C2000001 && halfAt bs 12 == 0x8808
    let ring := if s.prpActive then 0 else n
    if !trunc && !f.fcsOk then
      (if !pause && !engineAddr dst && s.accepts n dst && s.rxShort ring body.length then s.noDesc ring else s.bump (Reg.MAC_RX_CRC_ERR n))
    else if pause then s.bump (Reg.MAC_RX_PAUSE n)
    else if engineAddr dst then s
    else if !s.accepts n dst then s.bump (Reg.MAC_RX_FILTERED n)
    else
      let (take, s) := if s.prpActive then s.prpJudge n bs else (true, s)
      if take then s.deliverFrame ring n bs (body.take 9216) trunc (s.rxStamp n f.ts) else s

def execFrameReceive (l : Lan) (f : RxFrame) (s : State) : Out State := .next (frameReceive (lanNum l) f s)

/-! ## Gates (R405 to R407) -/

/-- The gate list of words: gates and intervals rounded down to 8 ns, up to the first entry with INTERVAL 0. -/
def gateList (ws : List Word) : List (Nat × Nat) :=
  (ws.map (fun w => (getBits w 31 24, getBits w 19 0 / 8 * 8))).takeWhile (fun e => e.2 != 0)

def State.operList (s : State) (n : Nat) : List (Nat × Nat) := gateList ((List.range 16).map (fun e => s.word (Reg.MAC_OPER n e).addr))

/-- The list with the last entry's length up to the end of the 1 ms cycle. -/
def fullCycle (l : List (Nat × Nat)) : List (Nat × Nat) :=
  let used := (l.dropLast.map (fun e => e.2)).foldl (· + ·) 0
  match l.getLast? with | some e => l.dropLast ++ [(e.1, 1000000 - used)] | none => []

/-- The longest run, over two cycles on end, of entries that a test admits. -/
def longestRun (sel : Nat → Bool) (l : List (Nat × Nat)) : Nat :=
  ((l ++ l).foldl (fun (acc : Nat × Nat) e => if sel e.1 then (acc.1 + e.2, max acc.2 (acc.1 + e.2)) else (0, acc.2)) (0, 0)).2

/-- The checks of COMMIT. -/
def gclOk (ws : List Word) : Bool :=
  let raw := (ws.map (fun w => getBits w 19 0)).takeWhile (· != 0)
  raw != [] && raw.all (fun i => decide (1000 ≤ i)) && decide (raw.foldl (· + ·) 0 ≤ 1000000)
    && decide (longestRun (fun g => !bitOf g 7) (fullCycle (gateList ws)) ≤ 125000)

/-- A write of GCL_CTL.COMMIT (R405). -/
def gclCommit (n : Nat) (s : State) : State :=
  let ws := (List.range 16).map (fun e => s.word (Reg.MAC_GCL_GATES n e).addr)
  if gclOk ws then
    ((s.modPort n (fun p => { p with staged := some (ws, s.cycles) })).setFlag (Reg.MAC_GCL_PEND n) true).answer Status.OK []
  else (s.err (Page.MAC n) Err.MAC_GCL_INVALID).answer Status.E_STATE []

def execGclCommit (l : Lan) (s : State) : Out State := .next (if s.sysHeld then s else gclCommit (lanNum l) s)

/-- The gates of the present entry; with QBV_EN clear, or before any list, every gate is open. -/
def State.showGates (s : State) (n : Nat) : State :=
  match s.flag (Reg.MAC_QBV_EN n), (s.operList n)[(s.port n).entry]? with
  | true, some e => s.set (Reg.MAC_GATES n) e.1
  | _, _ => s.set (Reg.MAC_GATES n) 0xFF

/-- GATE_CYCLE_START: after a step, not within 500 µs of the previous cycle start on the counter (R407). A list
committed at least 10 µs before becomes the operating list. -/
def gateCycleStart (n : Nat) (s : State) : State :=
  let p := s.port n
  if p.hold && decide (s.cycles < p.cycleAt + 62500) then s
  else
    let now := s.cycles
    let s := s.modPort n (fun p => { p with entry := 0, entryAt := now, cycleAt := now, hold := false })
    let s := match p.staged with
      | some (ws, c) =>
        if c + 1250 ≤ now then
          let s := (s.modPort n (fun p => { p with staged := none })).setFlag (Reg.MAC_GCL_PEND n) false
          (s.setWords (Reg.MAC_OPER n 0).addr ws).irq (Page.MAC n) Irq.MAC_GCL_SWAP
        else s
      | none => s
    s.showGates n

def execGateCycleStart (l : Lan) (s : State) : Out State := .next (if s.sysHeld then s else gateCycleStart (lanNum l) s)

/-- GATE_INTERVAL_END: the next entry, where there is one; the last one holds. -/
def gateIntervalEnd (n : Nat) (s : State) : State :=
  let p := s.port n
  if p.hold || decide ((s.operList n).length ≤ p.entry + 1) then s
  else (s.modPort n (fun p => { p with entry := p.entry + 1, entryAt := s.cycles })).showGates n

def execGateIntervalEnd (l : Lan) (s : State) : Out State := .next (if s.sysHeld then s else gateIntervalEnd (lanNum l) s)

/-! ## Transmit (R404, R406, R409) -/

/-- The time a frame takes with preamble, FCS and interframe gap, ns. -/
def State.wireTime (s : State) (n : Nat) (c : TxCopy) : Nat :=
  (c.bytes.length + 4 + 8 + 12) * (if s.get (Reg.MAC_SPEED n) = 1 then 80 else 8)

/-- For how long queue `q`'s gate stays open from now, ns; none without limit. -/
def State.openFor (s : State) (n q : Nat) : Option Nat :=
  let l := fullCycle (s.operList n)
  let p := s.port n
  if !s.flag (Reg.MAC_QBV_EN n) || l.all (fun e => bitOf e.1 q) then none
  else
    let here := (l.getD p.entry (0, 0)).2 - (s.cycles - p.entryAt) * 8
    let rest := (l.drop (p.entry + 1) ++ l).takeWhile (fun e => bitOf e.1 q)
    some (here + (rest.map (fun e => e.2)).foldl (· + ·) 0)

/-- A frame longer than the longest window of its gate (R406). -/
def State.neverFits (s : State) (n q : Nat) (c : TxCopy) : Bool :=
  let l := fullCycle (s.operList n)
  s.flag (Reg.MAC_QBV_EN n) && l != [] && !l.all (fun e => bitOf e.1 q) && decide (longestRun (fun g => bitOf g q) l < s.wireTime n c)

/-- Discard the heads of a queue that fit no window, and those that a unit in RESYNC does not send. -/
def State.dropNofit (s : State) (n q : Nat) : Nat → State
  | 0 => s
  | k + 1 =>
    match KV.getD (s.port n).queues q [] with
    | [] => s
    | c :: t =>
      let rest := fun (s : State) => s.modPort n (fun p => { p with queues := KV.put p.queues q t })
      if s.pairGone c.bytes then State.dropNofit ((rest s).copyDone c 0) n q k
      else if s.neverFits n q c then
        let s := rest s
        State.dropNofit (((s.bump (Reg.MAC_TX_NOFIT n)).err (Page.MAC n) Err.MAC_TX_NOFIT).copyDone c nofitBit) n q k
      else s

/-- The head frame of a queue, where its gate is open and it fits. -/
def State.eligible (s : State) (n q : Nat) : Option TxCopy :=
  match KV.getD (s.port n).queues q [] with
  | [] => none
  | c :: _ =>
    let fits := match s.openFor n q with | some t => decide (s.wireTime n c ≤ t) | none => true
    if s.getBit (Reg.MAC_GATES n) q && fits then some c else none

/-- FRAME_TRANSMIT: at a frame boundary the port starts the head frame of the highest eligible queue. -/
def frameTransmit (n : Nat) (s : State) : State :=
  if s.sysHeld || (s.port n).sending.isSome || !s.flag (Reg.MAC_LINK_UP n) then s
  else
    let s := foldN 7 (fun q (s : State) => s.dropNofit n q (KV.getD (s.port n).queues q []).length) s
    match ([6, 5, 4, 3, 2, 1, 0].filterMap (fun q => s.eligible n q)).head? with
    | none => s
    | some c =>
      let s := s.modPort n (fun p => { p with sending := some c, queues := KV.put p.queues c.q (KV.getD p.queues c.q []).tail })
      let s := s.send .ethFrame n (frameDst c.bytes) c.bytes
      let s := (s.bump (Reg.MAC_TX_FRAMES n)).setW (Reg.MAC_TX_BYTES n) (satTo (2 ^ 64 - 1) (s.getW (Reg.MAC_TX_BYTES n) + c.bytes.length))
      match c.tsId with | some id => s.pushTxTs (lanOf n) id | none => s

def execFrameTransmit (l : Lan) (s : State) : Out State := .next (frameTransmit (lanNum l) s)

/-- TX_DONE: the frame in transmission on a port has been sent. -/
def txDone (n : Nat) (s : State) : State :=
  match (s.port n).sending with
  | some c => (s.modPort n (fun p => { p with sending := none })).copyDone c (sentBit n)
  | none => s

def execTxDone (l : Lan) (s : State) : Out State := .next (txDone (lanNum l) s)

/-! ## Supervision, node table, link -/

/-- SUPERVISION_FRAME: on both ports while PRP is active. -/
def execSupervisionFrame (s : State) : Out State :=
  .next (if s.sysHeld || !s.prpActive then s
  else foldN 2 (fun n (s : State) => if s.flag (Reg.MAC_LINK_UP n) then s.send .prpSupervision n 0x01154E000100 [s.macAddr 0] else s) s)

/-- NODE_FORGET: a source silent for NODE_FORGET_S leaves the table. -/
def execNodeForget (src : BitVec 48) (s : State) : Out State :=
  let lim := s.unow - (s.get (Reg.MAC_NODE_FORGET_S 0) : Int) * 1000000000
  let s := { s with mac := { s.mac with nodes := s.mac.nodes.filter (fun e => !(e.src == src.toNat && decide (e.last ≤ lim))) } }
  .next (s.set (Reg.MAC_NT_COUNT 0) s.mac.nodes.length)

/-- Copies of pairs that wait on a port without link are discarded (R409). -/
def State.dropUnlinked (s : State) (n : Nat) : State :=
  let drop := (s.port n).queues.flatMap (fun e => e.2.filter (fun c => c.prp))
  let s := s.modPort n (fun p => { p with queues := KV.mapV p.queues (fun _ cs => cs.filter (fun c => !c.prp)) })
  drop.foldl (fun (s : State) c => (s.bump (Reg.MAC_TX_LINK_DROP n)).copyDone c 0) s

/-- PHY_LINK_CHANGE: auto-negotiation ends at 1000 Mb/s (`fast`) or 100 Mb/s among the speeds advertised, or the link
goes down (R395). -/
def phyLinkChange (l : Lan) (up fast : Bool) (s : State) : State :=
  let n := lanNum l
  let cap := s.get (Reg.MAC_SPEED_CAP n)
  let allowed := if fast then cap != 2 else cap != 1
  let up := up && allowed
  if s.sysHeld then s
  else
    let was := s.flag (Reg.MAC_LINK_UP n)
    let s := (s.setFlag (Reg.MAC_LINK_UP n) up).set (Reg.MAC_SPEED n) (if up then (if fast then 2 else 1) else 0)
    let s := if up then s else s.dropUnlinked n
    let s := if was = up then s else s.irq (Page.MAC n) Irq.MAC_LINK
    s.ptpLink l up

def execPhyLinkChange (l : Lan) (up fast : Bool) (s : State) : Out State := .next (phyLinkChange l up fast s)

end Sys2Proof.Machine
end

