-- ==== Sys2Proof/Machine/Views.lean ====
section
/-! DEFINITION. What a word of the address space reads as: the stored word, with the fields that show other state put
over it, and, while the page is frozen, the words of the instant FREEZE was set (R79). -/

namespace Sys2Proof.Machine

/-- A word from fields: high bit, low bit, value. -/
def fieldsOver (w : Word) (fs : List (Nat × Nat × Nat)) : Word := fs.foldl (fun w f => setBits w f.1 f.2.1 f.2.2) w

/-- A word with bit `b` set where `g b` holds. -/
def bitWord (n : Nat) (g : Nat → Bool) : Nat := (List.range n).foldl (fun a b => a + b2n (g b) * 2 ^ b) 0

/-- The pages that request an interrupt (R81), as IRQ_PEND word `w`. -/
def State.irqPend (s : State) (w : Nat) : Nat :=
  bitWord 32 (fun b =>
    let p := 32 * w + b
    (pageKind p).isSome && (s.word (Reg.HDR_IRQ_STAT p).addr &&& s.word (Reg.HDR_IRQ_EN p).addr) != 0)

/-- The words of the head entry of a transmit timestamp queue (R127). -/
def txtsWord (q : List TxTs) (k : Nat) : Nat :=
  match q.head? with
  | none => 0
  | some e => match k with
    | 0 => e.id * 2 ^ 16 + e.frac
    | 1 => e.ns
    | 2 => e.sec % 2 ^ 32
    | _ => e.sec / 2 ^ 32

/-- The words of the head entry of the DONE queue (R162). -/
def doneWord (q : List DoneEntry) (k : Nat) : Nat :=
  match q.head? with
  | none => 0
  | some e => match k with
    | 0 => e.code * 2 ^ 12 + e.slot
    | 1 => e.seq % 2 ^ 32
    | 2 => e.seq / 2 ^ 32
    | 3 => e.ts % 2 ^ 32
    | _ => e.ts / 2 ^ 32

/-- The words of a received CAN frame as the view shows them (R421). -/
def rxViewWord (e : CanEntry) (k : Nat) : Nat :=
  match k with
  | 0 => b2n e.ide * 2 ^ 31 + b2n e.fdf * 2 ^ 30 + b2n e.brs * 2 ^ 29 + b2n e.esi * 2 ^ 28 + b2n e.rtr * 2 ^ 27 + e.filter * 2 ^ 22 + e.dlc
  | 1 => e.id
  | 2 => e.ts % 2 ^ 32
  | 3 => e.ts / 2 ^ 32
  | 4 => e.seq % 2 ^ 32
  | 5 => e.seq / 2 ^ 32
  | _ => (List.range 4).foldl (fun a j => a + e.data.getD (4 * (k - 6) + j) 0 * 256 ^ j) 0

/-- A saturation flag of a loop slot stands. -/
def State.loopSats (s : State) (n : Nat) : Bool :=
  s.flag (Reg.LOOP_SAT_IN n) || s.flag (Reg.LOOP_SAT_ERR n) || s.flag (Reg.LOOP_SAT_ACC n) || s.flag (Reg.LOOP_SAT_OUT n) || s.flag (Reg.LOOP_SAT_MDL n)

/-- Records stored. -/
def State.recordFill (s : State) : Nat := s.recOrder.length

/-- Handles in a state. -/
def State.handlesIn (s : State) (st : HandleState) : Nat := (s.handles.filter (fun (e : Nat × Handle) => e.2.state == st)).length

/-- The word `k` of a 48-byte digest, the first four bytes in word 0. -/
def digestWord (d k : Nat) : Nat := d / 2 ^ (32 * (11 - k)) % 2 ^ 32

/-- Fields of a register page, other than its header, that show other state, over the stored word `w`. -/
def State.overPage (s : State) (k : PageKind) (p off : Nat) (w : Word) : Word :=
  let put := fun (v : Nat) => BitVec.ofNat 32 v
  match k with
  | .SYS =>
    if 0x5C ≤ off ∧ off ≤ 0x6C then put (s.irqPend ((off - 0x5C) / 4))
    else if off = 0x88 then fieldsOver w [(15, 10, s.halfOpen.length), (9, 0, s.sessions.length)]
    else w
  | .PWR => if off = 0x40 then setBits w 11 11 (b2n s.bkpLow) else w
  | .BKP => if off = 0x40 then setBits w 3 3 (b2n s.bkpLow) else w
  | .RTC => if off = 0x5C then setBits w 2 2 (b2n s.disciplined) else w
  | .TBS =>
    if off = 0x40 then fieldsOver w [(2, 2, b2n (s.flag Reg.TBS_VALID)), (1, 0, s.get Reg.TBS_SERVO)]
    else if 0xD0 ≤ off ∧ off ≤ 0xDC then put (txtsWord s.tb.txtsA ((off - 0xD0) / 4))
    else if off = 0xE0 then setBits w 4 0 s.tb.txtsA.length
    else if 0xF0 ≤ off ∧ off ≤ 0xFC then put (txtsWord s.tb.txtsB ((off - 0xF0) / 4))
    else if off = 0x100 then setBits w 4 0 s.tb.txtsB.length
    else w
  | .EVR => if off = 0x48 then fieldsOver w [(22, 16, s.sideBuf.length), (12, 0, s.recordFill)] else w
  | .KEY =>
    if off = 0x44 then setBits w 11 0 (s.handlesIn .live)
    else if off = 0x48 then setBits w 11 0 (s.handlesIn .orphan)
    else if off = 0x4C then put ((KV.get? s.handles 2).elim ((KV.get? s.handleGens 2).getD 0) (·.gen))
    else if 0x80 ≤ off ∧ off ≤ 0xAC then put (digestWord s.measDigest ((off - 0x80) / 4))
    else w
  | .PGD =>
    let a := s.paSlots (s.get Reg.PGD_PA_IDX)
    let slot := fun (n : Nat) => (KV.get? a n).getD ⟨0, 0, false⟩
    if off = 0x84 then put (bitWord 16 (fun b => (slot (b + 1)).active))
    else if 0x88 ≤ off ∧ off < 0x108 ∧ off % 8 = 0 then (slot ((off - 0x88) / 8 + 1)).value
    else if 0x8C ≤ off ∧ off < 0x10C ∧ off % 8 = 4 then put (slot ((off - 0x8C) / 8 + 1)).qual
    else w
  | .TWN =>
    if off = 0x5C then setBits w 26 26 (b2n s.netPeer)
    else if 0x90 ≤ off ∧ off ≤ 0xBC then put (digestWord s.cfgDigest ((off - 0x90) / 4))
    else w
  | .CAN =>
    if off = 0x48 then fieldsOver w [
      (11, 8, bitWord 4 (fun c => s.getBit (Reg.HDR_ERR_STAT (Page.CANCH c)) (Err.CANCH_ID_CLASH))),
      (7, 4, bitWord 4 (fun c => s.get (Reg.CANCH_STATE c) == CanState.BUS_OFF)),
      (3, 0, bitWord 4 (fun c => s.get (Reg.CANCH_STATE c) == CanState.ASLEEP))]
    else w
  | .CANCH =>
    let c := p - 0x10
    let x := s.can c
    if off = 0x5C then setBits w 6 0 x.rx.length
    else if off = 0x68 then setBits w 5 0 x.tx.length
    else if 0x200 ≤ off ∧ off ≤ 0x254 then put ((x.rx[s.get (Reg.CANCH_RX_SEL c)]?).elim 0 (fun e => rxViewWord e ((off - 0x200) / 4)))
    else w
  | .LPE =>
    if off = 0x5C then setBits w 8 0 s.loopsOn.length
    else if 0x80 ≤ off ∧ off ≤ 0x9C then put (bitWord 32 (fun b => s.loopSats (32 * ((off - 0x80) / 4) + b)))
    else if 0xA0 ≤ off ∧ off ≤ 0xBC then put (bitWord 32 (fun b => s.flag (Reg.LOOP_TRIP (32 * ((off - 0xA0) / 4) + b))))
    else w
  | .MOT =>
    if off = 0x44 then setBits w 12 0 s.poolFree
    else if off = 0x48 then setBits w 23 0 (bitWord 24 (fun n => s.get (Reg.AXIS_STATE n) == AxState.MOVING || s.get (Reg.AXIS_STATE n) == AxState.STOPPING))
    else if off = 0x4C then setBits w 23 0 (bitWord 24 (fun n => s.get (Reg.AXIS_STATE n) == AxState.FAULT))
    else if off = 0x50 then setBits w 23 0 (bitWord 24 (fun n => s.flag (Reg.AXIS_TENT n)))
    else w
  | .ANG =>
    if off = 0x68 then fieldsOver w [(26, 16, (s.slotsIn SlotState.COMMITTED).length), (10, 0, (s.slotsIn SlotState.ARMED).length)]
    else if 0x80 ≤ off ∧ off ≤ 0x90 then put (doneWord s.doneQ ((off - 0x80) / 4))
    else if off = 0x94 then setBits w 6 0 s.doneQ.length
    else w
  | .FIO =>
    if 0x80 ≤ off ∧ off ≤ 0x9C then s.word (Reg.TILE_IN ((off - 0x80) / 4)).addr
    else if 0xA0 ≤ off ∧ off ≤ 0xBC then s.word (Reg.TILE_OUT ((off - 0xA0) / 4)).addr
    else w
  | .LFT => if off = 0x58 then setBits w 12 0 s.calls.length else w
  | .CAL =>
    if off = 0x40 then fieldsOver w [(1, 1, b2n (s.diag.calForce == [])), (0, 0, b2n (s.diag.calAOk || s.diag.calBOk))]
    else if off = 0x44 then calWord s.diag.calForce 1
    else if off = 0x48 then calWord s.diag.calForce 1807
    else w
  | .ECC => if off = 0x44 then setBits w 31 31 (b2n (s.getBit Reg.PWR_SHED 0)) else w
  | .AXIS => if off = 0x40 then setBits (if 0x50 ≤ p then setBits w 29 29 0 else if p < 0x48 then setBits w 28 28 0 else w) 31 30 (capBlk p) else w
  | .MAC =>
    -- fields of MAC_A only read 0 on MAC_B
    if p = 0xC then
      (if off = 0x40 then setBits w 31 31 0 else if 0x500 ≤ off ∧ off ≤ 0x518 then 0 else w)
    else w
  | _ => w

/-- The live word at an address. -/
def State.live (s : State) (a : Nat) : Word :=
  let w := s.word a
  if a < 0xA0000 then
    let p := a / 4096
    let off := a % 4096
    match pageKind p with
    | none => w
    | some k =>
      if off = 0x010 then
        let w := fieldsOver w [(3, 3, b2n (s.flag (Reg.HDR_LOCK p))), (2, 2, b2n (s.flag (Reg.HDR_FREEZE p)))]
        setBits w 0 0 (b2n (s.flag (Reg.HDR_ENABLE p)))
      else if off < 0x040 then w
      else s.overPage k p off w
  else w

/-- A word that FREEZE of its page holds (R79): STAT_BLK, the block-specific registers and the window; on EVR FREEZE means
something else (R469). -/
def freezes (a : Nat) : Bool :=
  match ownerPage a with
  | none => false
  | some p => p != Page.EVR && (decide (0xA0000 ≤ a) || a % 4096 == 0x010 || decide (0x040 ≤ a % 4096))

/-- Circuits and pulse inputs freeze with MTR too. -/
def withMtr (p : Nat) : Bool := pageKind p == some .CIRC || pageKind p == some .PULSE

/-- The page whose FREEZE holds a word: its own, or MTR for the circuits and pulse inputs. -/
def State.freezer (s : State) (a : Nat) : Option Nat :=
  if !freezes a then none
  else match ownerPage a with
    | none => none
    | some p => if s.flag (Reg.HDR_FREEZE p) then some p else if withMtr p && s.flag (Reg.HDR_FREEZE Page.MTR) then some Page.MTR else none

/-- The word as a read returns it: of a frozen page the word of the instant FREEZE was set; of word 0x010 STAT_BLK
alone is frozen. -/
def State.shown (s : State) (a : Nat) : Word :=
  match s.freezer a with
  | none => s.live a
  | some p =>
    let f := Memory.read (KV.getD s.frozen p []) a
    if a < 0xA0000 ∧ a % 4096 = 0x010 then setBits (s.live a) 31 8 (getBits f 31 8) else f

/-- What FREEZE of a page holds: the words it covers, those that show other state as they read now. -/
def State.freezeWords (s : State) (p : Nat) : Memory :=
  let m : Memory := s.mem.filter (fun e => match ownerPage e.1 with | some q => q == p || (p == Page.MTR && withMtr q) | none => false)
  (List.range 1024).foldl (fun (m : Memory) k => m.write (4096 * p + 4 * k) (s.live (4096 * p + 4 * k))) m

end Sys2Proof.Machine
end

