-- ==== Sys2Proof/Machine/Recorder.lean ====
section
/-! DEFINITION. Cantle, the event recorder, beside the writing of records (R462 to R472): captures, triggers, clears,
FREEZE and the merge, operating seconds. -/

namespace Sys2Proof.Machine

/-! ## Captures (R462 to R465) -/

/-- RECORD_CAPTURE: an event that a block reports, with its event code. One that the sequencer received late is marked
so, is counted and is written at once (R159). Any other waits for its value, and while the SYS domain is held in its block until B1. -/
def execRecordCapture (sev : Fin 4) (page code : BitVec 8) (arg : Word) (late : Bool) (data : List Word) (s : State) : Out State :=
  let s := if late && !s.sysHeld then (s.bump Reg.ANG_SEQ_LATE).err Page.ANG Err.ANG_SEQ_LATE else s
  .next (s.captureEvent sev page.toNat code.toNat arg.toNat late data)

/-! ## Reads by the recorder and the angle scheduler (R161, R466) -/

/-- The word at an address, without any effect of a read: an absent or unaligned address gives 0 and is an error of the
reader's page; a word marked uncorrectable returns no data, so the value is free (log entry 32). -/
def State.quietRead (s : State) (page range a : Nat) : Word × State :=
  if a % 4 ≠ 0 ∨ ownerPage a = none then (0, s.err page range)
  else if s.badWord a then let (v, s) := s.fresh; (BitVec.ofNat 32 v, s)
  else (s.shown a, s)

/-- The words at addresses, in order. -/
def State.quietReads (s : State) (page range : Nat) : List Nat → List Word × State
  | [] => ([], s)
  | a :: l =>
    let (w, s) := s.quietRead page range a
    let (ws, s) := s.quietReads page range l
    (w :: ws, s)

/-! ## Triggers (R466) -/

/-- A trigger fires: its snapshot, its sequence value and its record. -/
def State.fireTrigger (t : Nat) (s : State) : State :=
  let n := min 16 (s.get (Reg.EVR_TRIG_N_REG t))
  let (ws, s) := s.quietReads Page.EVR Err.EVR_CFG_RANGE ((List.range n).map (fun i => s.get (Reg.EVR_TRIG_ADDR t i)))
  let (q, s) := s.takeSeq
  s.writeRecord (s.recordWords (s.get (Reg.EVR_TRIG_SEV t)) Page.EVR t 0 q n false true ws)

/-- Firings that wait are served in order of arrival. -/
def State.serveTriggers (s : State) : State :=
  s.trigPend.foldl (fun (s : State) t => s.fireTrigger t) { s with trigPend := [] }

/-- TRIGGER_IRQ: the firing that has waited longest is served. -/
def execTriggerIrq (s : State) : Out State :=
  .next (if s.sysHeld then s else match s.trigPend with
    | [] => s
    | t :: l => ({ s with trigPend := l }).fireTrigger t)

/-- EXEC TRIGGER. -/
def triggerCmd (t : Nat) (s : State) : State :=
  if 16 ≤ t then s.answer Status.E_OP []
  else if !s.flag (Reg.EVR_TRIG_EN t) then s.answer Status.E_STATE []
  else (s.serveTriggers.fireTrigger t).answer Status.OK []

def execTrigger (r : Requester) (t : Nat) (s : State) : Out State := .next (s.ownerExec r Page.EVR (triggerCmd t))

/-! ## Clear (R468) -/

/-- Free the slot of a record. -/
def State.freeRecord (s : State) (i : Nat) : State :=
  { s.setWords (0x07000000 + 128 * i) (List.replicate 32 0) with recOrder := s.recOrder.filter (fun x => x != i) }

/-- EXEC CLEAR. -/
def clearRecords (r : Requester) (level : Nat) (s : State) : State :=
  if 3 < level then s.answer Status.E_OP []
  else if level = 3 ∧ (s.creds r).may Right.RESET = false then s.guardRefuse r (Page.EVR * 4096)
  else if s.flag (Reg.HDR_FREEZE Page.EVR) then s.answer Status.E_STATE []
  else
    let l := s.recOrder.filter (fun i => decide (getBits (s.word (0x07000000 + 128 * i)) 31 30 ≤ level))
    (l.foldl State.freeRecord s).answer Status.OK []

def execEvrClear (r : Requester) (level : Nat) (s : State) : Out State := .next (s.ownerExec r Page.EVR (clearRecords r level))

/-! ## FREEZE and the merge (R469, R471) -/

/-- A record with SIDE set. -/
def sideWords (r : RecordWords) : RecordWords :=
  let w0 := setBits (r.headD 0) 27 27 1
  let head := w0 :: (r.drop 1).take 14
  let body := r.drop 16
  head ++ [BitVec.ofNat 32 (crc32c (head ++ body))] ++ body

/-- Merge the side buffer into the store, then write the records made meanwhile. -/
def State.mergeSide (s : State) : State :=
  let side := s.sideBuf
  let late := s.mergeWait
  let s := side.foldl (fun (s : State) r => s.storeRecord (sideWords r)) { s with sideBuf := [], mergeWait := [] }
  let s := late.foldl (fun (s : State) r => (s.storeRecord r).notifyRecord r) s
  (s.setFlag Reg.EVR_MERGING false).irq Page.EVR Irq.EVR_MERGED

/-- SIDE_BUFFER_MERGE: the merge that a clear of FREEZE started. -/
def execSideBufferMerge (s : State) : Out State := .next (if s.flag Reg.EVR_MERGING then s.mergeSide else s)

/-- KIND and WHO of FRZ_WHO. -/
def frzWho (r : Requester) : Nat × Nat :=
  match r with
  | .session n => (0, n.val)
  | .core n => (1, n.val)
  | _ => (1, 0)

/-- FREEZE clears and the merge starts. -/
def State.unfreezeEvr (s : State) : State :=
  let s := (s.setFlag (Reg.HDR_FREEZE Page.EVR) false).setFlag Reg.EVR_MERGING true
  { (s.set Reg.EVR_FRZ_KIND 3).set Reg.EVR_FRZ_WHO 0 with frzSetter := none }

/-- A write of FREEZE on EVR: only its setter or a tag-0 session clears it. -/
def evrFreeze (r : Requester) (v : Bool) (s : State) : Nat × State :=
  let on := s.flag (Reg.HDR_FREEZE Page.EVR)
  if v = on then (Status.OK, s)
  else if v then
    -- a merge that runs ends before the store is frozen again
    let s := if s.flag Reg.EVR_MERGING then s.mergeSide else s
    let (k, w) := frzWho r
    (Status.OK, { ((s.setFlag (Reg.HDR_FREEZE Page.EVR) true).set Reg.EVR_FRZ_KIND k).set Reg.EVR_FRZ_WHO w with frzSetter := some r })
  else if s.frzSetter = some r ∨ (isSession r = true ∧ (s.creds r).tag = 0) then (Status.OK, s.unfreezeEvr)
  else (Status.W_IGNORED, s.err Page.EVR Err.NO_RIGHT)

def execEvrFreezeWrite (r : Requester) (v : Bool) (s : State) : Out State :=
  let c := s.creds r
  .next (if c.tag = 0 ∧ c.may Right.WRITE = true then State.answered (evrFreeze r v s) else s.guardRefuse r 0x700C)

/-- EVR_FREEZE_TIMEOUT. -/
def execEvrFreezeTimeout (s : State) : Out State :=
  .next (if s.flag (Reg.HDR_FREEZE Page.EVR) then s.unfreezeEvr.err Page.EVR Err.FRZ_TMO else s)

/-! ## Operating seconds (R464) -/

/-- OP_S_TICK. -/
def execOpSTick (s : State) : Out State :=
  .next (if !s.pwr.powered then s
  else
    let n := min 0xFFFFFFFF (s.opSMram + 1)
    let s := { s with opSMram := n }
    if s.pwr.fullHeld then s else s.set Reg.EVR_OP_S n)

end Sys2Proof.Machine
end

