-- ==== Sys2Proof/Machine/SlotFire.lean ====
section
/-! DEFINITION. What a committed slot does at its command instant t_c (R147, R152, R161), but for the timed commands of
a tile, which the tile executes itself. -/

namespace Sys2Proof.Machine

/-- A SNAPSHOT firing (R161): eight words, TAI at t_c, the count and OVERWRITTEN; the sequence value follows at its
assignment. An address of 0 stores 0. -/
def State.takeSnapshot (k : Nat) (tc : Int) (s : State) : State :=
  let s := (List.range 8).foldl (fun (s : State) w =>
    let a := s.get (Reg.ANG_SNAP_ADDR k w)
    let (v, s) := if a = 0 then (0, s) else s.quietRead Page.ANG Err.ANG_CFG_RANGE a
    s.set (Reg.ANG_SNAP_DATA k w) v.toNat) s
  let s := (s.setWideFrom (Reg.ANG_SNAP_TS k).addr (s.taiOf tc) 2).bump (Reg.ANG_SNAP_CNT k)
  let s := if s.snapUnread.contains k then s.setFlag (Reg.ANG_SNAP_OVERWRITTEN k) true else { s with snapUnread := k :: s.snapUnread }
  s.irq Page.ANG Irq.ANG_SNAP

/-- A START_PROFILE firing: the chain handed over at the commit is spliced (R268), unless it failed its checks there or fails
check 6 now (R263), or Stirrup refuses a car door's start (R334). A disabled axis gives NO_TARGET; one in FAULT or STOPPING
refuses, as it takes no CMD START. -/
def State.fireProfile (n : Nat) (tc : Int) (s : State) : State :=
  let ax := s.get (Reg.SLOT_ARG n) % 32
  let st := s.get (Reg.AXIS_STATE ax)
  let start := (s.axis ax).starts.find? (fun c => c.slot == some n)
  let s := s.slotWithdraw n
  if st = AxState.DISABLED then s.slotFired' n SlotCode.NO_TARGET
  else if st = AxState.FAULT ∨ st = AxState.STOPPING then s.slotFired' n SlotCode.REFUSED
  else match start with
    | none => s.slotFired' n SlotCode.REFUSED
    | some c => match c.bad with
      | some e => (s.chainFailed ax e).slotFired' n SlotCode.REFUSED
      | none =>
        -- the limits of the door's move (R307)
        let s := if 8 ≤ ax ∧ ax < 16 ∧ s.flag (Reg.CAR_PRE_ARMED (ax - 8)) = true then s.doorLimits (ax - 8) 0 else s
        let r := s.spliceChain ax c.head tc c.noSooner true
        if !r.2 then r.1.slotFired' n SlotCode.REFUSED
        else if 8 ≤ ax ∧ ax < 16 then
          match r.1.passPreOpening (ax - 8) with
          | some s => s.slotFired' n (s.firedCode n)
          | none => s.slotFired' n SlotCode.REFUSED
        else r.1.slotFired' n (r.1.firedCode n)

/-- A timed command that its tile does not hold at t_c is discarded, whether the tile dropped it or no frame has brought it there
(R152). -/
def State.discardTimed (n : Nat) (s : State) : State :=
  s.modTile (s.get (Reg.SLOT_ARG n) % 256 / 32) (fun x => { x with timedOut := x.timedOut.filter (fun (e : Timed) => e.slot != n) })

/-- Whether a slot's timed command is held at its tile. -/
def State.timedHeld (s : State) (n : Nat) : Bool :=
  (s.tile (s.get (Reg.SLOT_ARG n) % 256 / 32)).timed.any (fun (e : Timed) => e.slot == n)

/-- The action of a slot at t_c. A timed command that is not at its tile by then finds no target. -/
def State.fireSlot (n : Nat) (tc : Int) (s : State) : State :=
  let arg := s.get (Reg.SLOT_ARG n)
  match s.get (Reg.SLOT_ACTION n) with
  | 1 => if s.timedHeld n then s else (s.discardTimed n).slotFired' n SlotCode.NO_TARGET
  | 2 => s.fireProfile n tc
  | 3 => (s.takeSnapshot (arg % 4) tc).slotFired' n (s.firedCode n)
  | 4 => (s.irq Page.ANG (Irq.ANG_EVT + arg % 8)).slotFired' n (s.firedCode n)
  | 5 => if s.flag (Reg.EVR_TRIG_EN (arg % 16)) then (s.serveTriggers.fireTrigger (arg % 16)).slotFired' n (s.firedCode n)
    else s.slotFired' n SlotCode.NO_TARGET
  | _ => s

/-- SLOT_FIRE: a committed slot's command instant. A SET_CH slot fires at its tile (TIMED_COMMAND_EXECUTE). -/
def execSlotFire (n : Fin 1024) (s : State) : Out State :=
  .next (if s.get (Reg.SLOT_STATE n) = SlotState.COMMITTED then
    match KV.get? s.slotCommit n with
    | some c => s.fireSlot n c.tc
    | none => s
  else s)

end Sys2Proof.Machine
end

