-- ==== Sys2Proof/Machine/Reset.lean ====
section
/-! DEFINITION. Resets: reach, domains, episodes, sources and RESET_N (R11, R52 to R57, R63 to R65). Bring-up stands in
BringUp. -/

namespace Sys2Proof.Machine

/-! ## The registers at a reset -/

/-- Status bits that follow their inputs, whatever the reset: the supply's and those of EXT_REF. -/
def liveFields : List Fld := [Reg.PWR_BUS_OK, Reg.PWR_A_LOAD, Reg.PWR_B_LOAD, Reg.PWR_A_DET, Reg.PWR_B_DET, Reg.PWR_A_GRANT, Reg.PWR_B_GRANT,
  Reg.PWR_BKP_LOW, Reg.CLK_EXT_PRES, Reg.BKP_COIN_PRES, Reg.BKP_SOURCE, Reg.BKP_SCAP_MV, Reg.BKP_COIN_MV]

/-- A safety channel's configuration, which Stirrup owns, outlasts a reset of reach SYS (R190). -/
def State.keepsSafety (s : State) (reach a : Nat) : Bool :=
  decide (reach < 3) && (List.range 64).any (fun k => s.flag (Reg.TILE_SAFETY (6 + k / 32) (k % 32))
    && (a == chCfgAddr (6 + k / 32) (k % 32) || a == chParamAddr (6 + k / 32) (k % 32)))

/-- The registers after a reset. The scan engine's windows stay: a release gives the program window, WORK and RET their contents (R208,
R215). -/
def State.resetRegs (s : State) (reach : Nat) : State :=
  let live := liveFields.map (fun f => (f, s.get f))
  let s := { s with
    mem := s.mem.reset reach (s.keepsSafety reach)
    eccMarked := s.eccMarked.filter (fun a => resetMask reach (eccAddr a) == 0)
    eccSingle := s.eccSingle.filter (fun a => resetMask reach (eccAddr a) == 0)
    eccNew := s.eccNew.filter (fun a => resetMask reach (eccAddr a) == 0) }
  live.foldl (fun (s : State) (e : Fld × Nat) => s.set e.1 e.2) s

/-! ## Domains: the state beside the registers (R52) -/

/-- What is left of the steps of R505 after a reset of a reach. -/
def fireLeft (reach : Nat) (f : Fire) (shed : Nat) : Nat :=
  (f.left ||| shed) &&& (if reach < 3 then 0b111001 else 0b010000)

/-- Reach APP: the application cluster, SCN, LPE, MOT, ANG, LFT, the cars, FIR and the session table. `pair` says that the
unit was one of a twin pair, which has ordered GO_SAFE already (R187, R455). -/
def State.resetApp (s : State) (reach : Nat) (pair : Bool) : State :=
  let s := if s.flag (Reg.HDR_FREEZE Page.EVR) then s.unfreezeEvr else s
  let s := { s with handles := s.handles.keep (fun _ (h : Handle) => h.kind != 9) }
  { s with
    saf := { s.saf with path := if s.appUp then (List.range 8).map (fun n => (n, s.encPath n)) else s.saf.path }
    appUp := false
    latches := []
    staged := []
    sessions := []
    halfOpen := []
    openTimes := []
    subs := []
    slotCommit := []
    doneQ := []
    snapUnread := []
    slotUnresolved := []
    slotFired := []
    slotDev := []
    pllA := ⟨false, 0, 0⟩
    pllB := ⟨false, 0, 0⟩
    scan := { ScanEngine.initial with
      store := s.scan.store, shadow := s.scan.shadow, shadowOk := s.scan.shadowOk, copyA := s.scan.copyA, copyB := s.scan.copyB
      frozen := s.scan.frozen, writing := if reach < 3 then s.scan.writing else none, retWait := decide (reach < 3) && s.scan.retWait }
    loops := []
    loopTicks := 0
    loopLoad := (0, 1)
    axes := []
    lines := []
    grpPend := []
    cars := []
    calls := []
    nextCall := 1
    coilLearn := []
    prioArrays := []
    refUnread := false
    pointWaiting := []
    deliveries := []
    covSubs := []
    covInc := []
    bacnetOn := true
    appGoSafe := if pair || decide (1 < reach) then [] else List.range 8
    fire := { s.fire with left := fireLeft reach s.fire (s.get Reg.FIR_SHED), holds := [], cmd := 0, restore := false, entered := none, loops := [] } }

/-- The logic side of a tile at reach SYS. The tile's field side runs on, and Stirrup's lanes to TILE_6 and TILE_7 with
it, unless the reach is FULL. After an activation the frames carry HOLD in place of GO_SAFE (R533). -/
def Tile.resetSys (x : Tile) (t : Nat) (full hold : Bool) (safety : List Nat) : Tile :=
  let up := !full && decide (6 ≤ t)
  { x.dropPulses with
    qual := false
    goSafe := !hold
    goSent := false
    timedOut := []
    stepOut := []
    commitOut := none
    cfgSend := if full then [] else x.cfgSend.filter (fun n => safety.contains n)
    ctlSend := false
    upRun := 0
    peerOut := 0
    peerOff := []
    trainedA := x.trainedA && up
    trainedB := x.trainedB && up
    safA := if full then 0 else x.safA
    safB := if full then 0 else x.safB }

/-- The twin at a release; TWIN_PRES is a pin (R18). -/
def Twin.atReset (present : Bool) : Twin where
  epoch := 0
  paired := false
  starting := false
  own := []
  peer := []
  fresh := []
  carOwn := []
  gotGive := false
  switchIn := none
  peerState := 0
  peerRuns := false
  ownRan := false
  peerParts := []
  peerStaged := []
  hbAt := none
  lostAt := none
  roundOut := []
  pairSeq := 0
  updated := false
  peerTemp := 0
  present := present

/-- Stirrup at a release: what its MRAM keeps. -/
def Stirrup.atReset (x : Stirrup) : Stirrup where
  carMap := 0
  cars := []
  conns := []
  latched := []
  kept := x.kept
  present := []
  cross := 0
  resets := []
  disc := []
  bypass := []
  unbraked := []
  force := []
  waiting := []
  storedA := x.storedA
  storedB := x.storedB
  sutLow := []
  sutDone := []
  tested := []
  dueSaid := []
  selfRst := false
  lastTrip := none
  rtn := 0
  pressed := false
  path := []

/-- Reach SYS: Tree, DRAM, TBS, EVR, UPD, the MACs, CAN, TWN, the logic side of FIO and Welt, CAL, ATB, ECC and session
keys. Instants held as TAI less steps stay in place, the time under reset left out. -/
def State.resetSys (s : State) (reach : Nat) : State :=
  let full := decide (3 ≤ reach)
  let safety := fun (t : Nat) => (List.range 32).filter (fun n => s.flag (Reg.TILE_SAFETY t n))
  { s with
    sysHeld := true
    roles := if full then 0 else s.roles
    tb := { TimeBase.initial with stepSum := -s.unow }
    timeStepped := false
    seqr := { s.seqr with given := [] }
    tiles := (List.range 8).map (fun t => (t, (s.tile t).resetSys t full s.upd.holding (safety t)))
    cycles := 0
    twin := Twin.atReset s.twin.present
    twinActiveS1 := false
    twinActiveS2 := false
    frzSetter := none
    trigPend := []
    sideBuf := s.sideBuf ++ s.mergeWait
    mergeWait := []
    upd := { s.upd with image := [], staged := none, erasing := false, verifying := false, waiting := none }
    diag := { s.diag with scrubPos := 0, dramMarked := [], tempHigh := 0, calStage := [], atb0 := (0, 0), atb1 := (0, 0) }
    mac := Mac.initial
    cans := [] }

/-- Reach FULL: Stirrup, Keeper's key store but the fused device root, Skiver with its path to MRAM, PWR and CLK. -/
def State.resetFull (s : State) : State :=
  let m := s.meter
  { s with
    meter := { Meter.initial with copyA := m.copyA, copyB := m.copyB }
    saf := Stirrup.atReset s.saf
    handles := s.handles.keep (fun k _ => k == 0)
    scan := { s.scan with frozen := false, shadow := ScanEngine.initial.shadow, shadowOk := false }
    pwr := { s.pwr with fullHeld := true, warnTest := false, final := 0, clkOut := [], atH5 := false } }

/-- Reach BKP: the backup domain. The calendar starts at 2000-01-01 with OSF set. IRQ_STAT.OSF stays 0: R75 restores IRQ_STAT at
this reset, though R141 sets that bit where OSF is set (DESIGN CHOICE, log entry 90). -/
def State.resetBkp (s : State) : State :=
  { s with cal := Calendar.initial, pwr := { s.pwr with restoreCnt := true } }

/-- A reset of a reach, over every domain it covers. -/
def State.applyReset (s : State) (reach : Nat) (pair : Bool) : State :=
  let s := s.resetApp reach pair
  let s := if 2 ≤ reach then s.resetSys reach else s
  let s := if 3 ≤ reach then s.resetFull else s
  let s := if 4 ≤ reach then s.resetBkp else s
  let s := { s with frozen := [] }
  let s := s.resetRegs reach
  if reach < 2 then s
  else
    let s := if s.upd.holding then s.setFlag Reg.FIO_HOLD true else s
    if s.upd.acting then s.set Reg.UPD_STATE 2 else s

/-! ## Sources and episodes (R53, R55) -/

/-- The bit of RST_CAUSE of a source; a lost crystal counts as the system watchdog (R62). -/
def causeBit (id : Nat) : Nat := if id = 12 then 4 else id

/-- Whether the end of a run by this source counts as a failed start (R64): not by RESET_N, BROWNOUT or POR. -/
def countsAsFailed (id : Nat) : Bool := !([3, 8, 9].contains id)

/-- A source asserts its reach: an episode opens, or the source joins the one that is open and bring-up starts again from
the first point of the widest reach seen. Leaving Tack room clears FAIL_RUN (R65); a run in Tack room without START_OK that
the leaving reset ends is not counted after that, which R64 and R65 leave open (DESIGN CHOICE, log entry 88). -/
def State.assertReset (s : State) (id reach : Nat) : State :=
  if !s.pwr.powered then s
  else
    let pair := s.inPair
    let s := if reach = 1 then s.giveUp 3 else s
    let p := s.pwr
    let fail := p.running && !s.flag Reg.RST_START_OK && countsAsFailed id
    let old := if p.episode then s.get Reg.RST_RST_CAUSE else 0
    let causes := old ||| 2 ^ causeBit id
    let wide := if p.episode then max p.reach reach else reach
    let leave := p.tackExit && decide (2 ≤ reach)
    -- a reset other than the activation's own ends its hold on the tiles (R533)
    let s := if 2 ≤ reach ∧ id ≠ 6 ∧ id ≠ 7 then { s with upd := { s.upd with holding := false, acting := false } } else s
    let s := s.dropStaging.applyReset reach pair
    let s := { s with pwr := { s.pwr with
      episode := true
      sources := id :: p.sources.filter (fun x => x != id)
      reach := wide
      point := 0
      running := false
      failPend := !leave && (p.failPend || fail)
      tack := p.tack && !leave
      tackExit := p.tackExit && !leave } }
    let s := (s.set Reg.RST_RST_CAUSE causes).set Reg.RST_RST_REACH wide
    let s := if leave then s.set Reg.RST_FAIL_RUN 0 else s
    if p.episode then s else s.bump Reg.RST_RST_TOTAL

/-! ## Failed starts and Tack room (R64, R65) -/

/-- A failed start counts at a release, and a failed trial returns to the previous bank (R482). -/
def State.countFailed (s : State) : State :=
  if s.pwr.failPend then
    (({ s with pwr := { s.pwr with failPend := false } }).bump Reg.RST_FAIL_RUN).trialFailed
  else s

/-- The APP domains are released: a run begins, in Tack room where it has not ended, FAIL_RUN has reached 3 or the boot straps
ask for it (R65), the counters are mirrored (R63), and the program is loaded. -/
def State.releaseApp (s : State) : State :=
  let s := s.countFailed
  let s := if s.pwr.restoreCnt then s else s.mirrorCounters
  let tack := s.pwr.tack || decide (3 ≤ s.get Reg.RST_FAIL_RUN) || s.get Reg.RST_STRAP_BOOT == 1
  let s := (s.setFlag Reg.RST_TACK tack).loadProgram (decide (3 ≤ s.pwr.reach))
  { s with pwr := { s.pwr with running := true, point := 8, tack := tack, appAt := s.tai } }

/-- An APP reset releases 0.1 ms after its last source, from the images in DRAM (R66). -/
def State.tryReleaseApp (s : State) : State :=
  let p := s.pwr
  if p.powered && p.episode && p.reach == 1 && p.point == 0 && p.sources.isEmpty && s.flag Reg.PWR_BUS_OK then s.releaseApp else s

/-- A source releases its reach. -/
def State.releaseSource (s : State) (id : Nat) : State :=
  if s.pwr.sources.contains id then
    ({ s with pwr := { s.pwr with sources := s.pwr.sources.filter (fun x => x != id) } }).tryReleaseApp
  else s

/-! ## The rows -/

/-- RESET_PULSE_END: sources that hold a level are not pulses. -/
def execResetPulseEnd (id : Fin 12) (s : State) : Out State :=
  .next (if id.val = 3 ∨ id.val = 8 ∨ id.val = 9 then s else s.releaseSource id)

/-- BUS_OK_MET: HOLDUP, here of `ms` milliseconds, ends without reset (R51), and the sources that stood for the missing
supply release (R56). -/
def execBusOkMet (ms : Nat) (s : State) : Out State :=
  if !s.anyLoad then .next s
  else
    let s := s.setFlag Reg.PWR_BUS_OK true
    let s := { s with pwr := { s.pwr with sources := s.pwr.sources.filter (fun x => x != 8 && x != 9) } }
    let s := s.tryReleaseApp
    .next (if s.get Reg.PWR_MODE = PowerMode.HOLDUP then (s.leaveHoldup PowerMode.RECOVERY ms).leaveRecovery else s)

/-- BROWNOUT, `ms` milliseconds after PWR_WARN: reach FULL; the next start enters RECOVERY where HOLDUP led to it
(R45). -/
def execBrownout (ms : Nat) (s : State) : Out State :=
  .next (if !s.pwr.powered then s
  else
    let hold := s.get Reg.PWR_MODE == PowerMode.HOLDUP
    let s := if hold then s.set Reg.PWR_HOLD_MS (min 0xFFFF ms) else s
    let s := s.setFlag Reg.PWR_BUS_OK false
    ({ s with pwr := { s.pwr with recover := s.pwr.recover || hold } }).assertReset 8 3)

/-- The field side of a tile powers up: its table copies are what it keeps. `crc` says whether the CRC of a copy holds that was
being written. -/
def Tile.powerUp (crc : Bool) (x : Tile) : Tile :=
  let y := { Tile.initial with
    copyA := if x.commit = some true then { x.copyA with ok := crc } else x.copyA
    copyB := if x.commit = some false then { x.copyB with ok := crc } else x.copyB }
  { y with table := y.newest.map (fun c => (c.ver, c.actions)) }

/-- The field side of every tile powers up. Whether a copy that was being written is whole is free (R189). -/
def State.powerTiles (s : State) : State :=
  foldN 8 (fun t (s : State) => let (v, s) := s.fresh; s.setTile t ((s.tile t).powerUp (v % 2 == 1))) s

/-- POWER_ON_RESET: a cold start of reach FULL. A backup domain that restarted meanwhile counts as a source, and is not
reset again (R53). It runs from the logic supply again (R34). The run that logic power ended is not counted, but one that
another source had ended before still is (R64). A stuck RESET_N is masked no longer, though the pin has not been seen high:
R57 states no end of the mask at a cold start (DESIGN CHOICE, log entry 88). What the windows' SRAM holds is not stated: 0 (log
entry 1). -/
def execPowerOnReset (s : State) : Out State :=
  let p := s.pwr
  let s := (s.powerTiles.wipe 0x02000000 0x02100000).wipe 0x03000000 0x03080000
  let s := { s with
    fireShed := []
    fire := { s.fire with left := 0 }
    pwr := { p with powered := true, nMask := false, fuses := [], tripped := [], running := false } }
  let s := (s.setFlag Reg.PWR_BUS_OK false).set Reg.BKP_SOURCE 0
  let s := (s.assertReset 9 3).bump Reg.RST_POWER_CYCLES
  let s := { s with fire := { s.fire with left := 0 } }
  .next (if p.bkpLoss then
    let s := (s.set Reg.RST_RST_CAUSE (s.get Reg.RST_RST_CAUSE ||| 2 ^ 10)).set Reg.RST_RST_REACH 4
    { s with pwr := { s.pwr with bkpLoss := false, reach := 4 } }
  else s)

/-- BKP_POWER_ON: the backup domain is reset as its supply returns. While the logic side runs this is a source of reach
BKP; without logic power, or after BROWNOUT, the next cold start counts it (R53). -/
def execBkpPowerOn (s : State) : Out State :=
  .next (if s.pwr.powered && !s.pwr.sources.contains 8 then s.assertReset 10 4
  else
    let s := s.resetBkp.resetRegs 4
    { s with pwr := { s.pwr with bkpLoss := true, episode := false } })

/-! ## RST_CMD (R53, R70) -/

/-- RST_CMD with a REACH that the key and the rights admit; other values are ignored. -/
def resetCmd (reach : Nat) (s : State) : State :=
  let s := s.answer Status.OK []
  match reach with
  | 1 => s.assertReset 0 1
  | 2 => s.assertReset 2 2
  | 3 => s.assertReset 7 3
  | 4 => s.assertReset 11 4
  | _ => s

/-- A write of RST_CMD: a wrong key is ignored and sets KEY_ERR; the requester needs RESET on tag 0 (R387). BKP
from any but an owner session is ignored, sets ERR_STAT and is refused (R70). -/
def rstCmdWrite (r : Requester) (key reach : Nat) (s : State) : State :=
  if reach = 4 ∧ ¬ (isSession r = true ∧ (s.creds r).tag = 0) then
    (s.err Page.RST Err.NO_RIGHT).guardRefuse r 0x1048
  else s.keyed r 0x1048 [Right.RESET] key 0xA5C3 (resetCmd reach)

def execRstCmdApp (r : Requester) (key : BitVec 16) (s : State) : Out State := .next (rstCmdWrite r key.toNat 1 s)
def execRstCmdSys (r : Requester) (key : BitVec 16) (s : State) : Out State := .next (rstCmdWrite r key.toNat 2 s)
def execRstCmdFull (r : Requester) (key : BitVec 16) (s : State) : Out State := .next (rstCmdWrite r key.toNat 3 s)
def execRstCmdBkp (r : Requester) (key : BitVec 16) (s : State) : Out State := .next (rstCmdWrite r key.toNat 4 s)

/-! ## Watchdogs and RESET_N (R53, R57, R64, R88) -/

/-- APPLICATION_WATCHDOG. -/
def execApplicationWatchdog (s : State) : Out State := .next (s.assertReset 1 1)

/-- SYSTEM_WATCHDOG. -/
def execSystemWatchdog (s : State) : Out State := .next (s.assertReset 4 2)

/-- ECC_FATAL: an uncorrectable error in a firmware region of DRAM. -/
def execEccFatal (s : State) : Out State := .next (s.assertReset 5 2)

/-- RESET_N_ASSERT: low for 10 ms, and not masked. -/
def execResetNAssert (s : State) : Out State := .next (if s.pwr.nMask then s else s.assertReset 3 2)

/-- RESET_N_RELEASE. -/
def execResetNRelease (s : State) : Out State := .next (s.releaseSource 3)

/-- RESET_N_STUCK: held for 5 s; the pin is masked and the reset releases. The record waits for the event recorder. -/
def execResetNStuck (s : State) : Out State :=
  .next (if s.pwr.sources.contains 3 then
    let s := s.setFlag Reg.RST_RST_N_STUCK true
    let s := { s with pwr := { s.pwr with nMask := true } }
    (s.record sevFault Page.RST 0 0 []).releaseSource 3
  else s)

/-- RESET_N_UNMASK: high for 100 ms. -/
def execResetNUnmask (s : State) : Out State := .next { s with pwr := { s.pwr with nMask := false } }

/-- START_OK: a write of 1, while the start runs. -/
def startOk (s : State) : State :=
  if !s.pwr.running || s.flag Reg.RST_START_OK then s
  else ((s.setFlag Reg.RST_START_OK true).set Reg.RST_FAIL_RUN 0).trialPassed

/-- START_TIMEOUT: START_TMO seconds after APP release without START_OK. -/
def execStartTimeout (s : State) : Out State :=
  .next (if s.pwr.running && !s.flag Reg.RST_START_OK then s.assertReset 4 2 else s)

/-- TACK_EXIT: a write of 1 in Tack room; the next reset of reach SYS or wider leaves it. -/
def tackExit (s : State) : State :=
  if s.flag Reg.RST_TACK then { s with pwr := { s.pwr with tackExit := true } } else s

/-! ## Clock monitors and references (R59, R61, R62) -/

/-- The nominal frequency of clock `c` in kHz (R60): of the application cores, that of the cores that run. -/
def State.nominalKHz (s : State) (c : Nat) : Nat :=
  [1000 * s.coreMhz 0, 600000, 400000, 250000, 125000, 80000, 200000, 4096].getD c 0

/-- A count lies outside 1 % of the nominal frequency. -/
def offNominal (nominal kHz : Nat) : Bool := decide (100 * kHz < 99 * nominal) || decide (101 * nominal < 100 * kHz)

/-- The metering island has power: the logic side has (R38), and step N1 of ENDURANCE is not applied (R505). -/
def State.islandOn (s : State) : Bool := s.pwr.powered && !bitOf (s.get Reg.FIR_SHED ||| s.fire.left) 0

/-- Clock `c` is judged: clock 7 only while the metering island has power. -/
def State.clockJudged (s : State) (c : Nat) : Bool := s.pwr.powered && !s.pwr.fullHeld && !(c == 7 && !s.islandOn)

/-- Clock `c` fails its monitor (R61): its PLL loses lock, or has none, or two windows in a row counted outside 1 %. -/
def State.clockFails (s : State) (c : Nat) (lost : Bool) : Bool :=
  s.clockJudged c && (lost || !s.getBit Reg.CLK_LOCK c || decide (2 ≤ KV.getD s.pwr.clkOut c 0))

/-- CLOCK_MONITOR_FAIL of clock `c`, by its count or by its PLL, which then is not locked. Its windows are judged afresh. -/
def execClockMonitorFail (c : Fin 8) (lost : Bool) (s : State) : Out State :=
  .next (if !s.clockFails c lost then s
  else
    let s := s.modPwr (fun p => { p with clkOut := KV.del p.clkOut c })
    let s := ((if lost then s.setBit Reg.CLK_LOCK c false else s).bump Reg.CLK_MON_CNT).err Page.CLK (Err.CLK_MON + c)
    let s := s.assertReset 4 2
    s.record sevFault Page.CLK 0 c [])

/-- The count of one clock over a window: held in FREQ_c, and judged against its nominal frequency (R61). -/
def windowOne (kHz : List Word) (c : Nat) (s : State) : State :=
  let f := (kHz.getD c 0).toNat
  let s := s.set (Reg.CLK_FREQ c) f
  let n := if s.clockJudged c && offNominal (s.nominalKHz c) f then min 2 (KV.getD s.pwr.clkOut c 0 + 1) else 0
  s.modPwr (fun p => { p with clkOut := KV.put p.clkOut c n })

/-- FREQ_WINDOW: the counts of a 1 ms window, in kHz, and the locks. -/
def execFreqWindow (kHz : List Word) (lock : BitVec 8) (s : State) : Out State :=
  .next (if !s.pwr.powered || s.pwr.fullHeld then s
  else foldN 8 (windowOne kHz) (s.set Reg.CLK_LOCK lock.toNat))

/-- Change over to the crystal (R59). -/
def State.fallBack (s : State) : State :=
  let was := s.flag Reg.CLK_REF_FALLBACK
  let s := ((s.setFlag Reg.RST_REF_FALLBACK true).setFlag Reg.CLK_REF_FALLBACK true).set Reg.CLK_REF_SRC 0
  let s := s.set Reg.RST_CLK_ACTIVE 3
  if was then s else s.irq Page.CLK Irq.CLK_FALLBACK

/-- EXT_REF_FALLBACK. MON_CNT counts the clocks of R61 and the crystal of R62; R62 names EXT_REF's loss beside them and does not
say that it counts, and the model does not count it (DESIGN CHOICE, log entry 88). -/
def execExtRefFallback (s : State) : Out State :=
  .next (if s.pwr.powered && !s.pwr.fullHeld && s.get Reg.CLK_REF_SRC != 0 then s.fallBack else s)

/-- REF_LOST: the crystal in use gives no edge for 2 µs. -/
def execRefLost (s : State) : Out State :=
  .next (if s.pwr.powered && s.get Reg.CLK_REF_SRC == 0 && !s.pwr.sources.contains 12 then
    ((s.bump Reg.CLK_MON_CNT).err Page.CLK Err.CLK_REF_LOST).assertReset 12 2 else s)

/-- CRYSTAL_RESTORED. -/
def execCrystalRestored (s : State) : Out State := .next (s.releaseSource 12)

/-- EXT_PRES_CHANGE. -/
def execExtPresChange (present : Bool) (s : State) : Out State :=
  .next (if s.flag Reg.CLK_EXT_PRES = present then s
  else
    let s := s.setFlag Reg.CLK_EXT_PRES present
    if s.pwr.powered && !s.pwr.fullHeld then s.irq Page.CLK Irq.CLK_EXT_CHANGE else s)

end Sys2Proof.Machine
end

