-- ==== Sys2Proof/Machine/BringUp.lean ====
section
/-! DEFINITION. Bring-up, points B1 to B9 of R66, with the straps (R58), the mirrors of MRAM (R63, R373, R435) and the
configuration that the supervisory firmware applies before B9. -/

namespace Sys2Proof.Machine

/-! ## The order of bring-up -/

/-- The points through which a reach goes. -/
def pointsOf (reach : Nat) : List Nat := if reach = 1 then [8, 9] else if reach = 2 then [1, 3, 4, 8, 9] else [1, 2, 3, 4, 5, 6, 7, 8, 9]

/-- Whether bring-up may pass a point now: no source is asserted, BUS_OK holds (R56), and it is the next of its reach. Bring-up
waits for every source of the episode, one whose reach is narrower than the domains that the point releases among them: R55
holds a domain for the sources that cover it, and does not say that bring-up of the wider ones goes on meanwhile (DESIGN
CHOICE, log entry 88). -/
def State.mayPass (s : State) (p : Nat) : Bool :=
  let x := s.pwr
  x.powered && x.episode && x.sources.isEmpty && s.flag Reg.PWR_BUS_OK && ((pointsOf x.reach).find? (fun q => decide (x.point < q)) == some p)

def State.pass (s : State) (p : Nat) : State := { s with pwr := { s.pwr with point := p } }

/-! ## The configuration store (R66) -/

/-- The bits of a word that the configuration store keeps and a release of a reach gives back: RWL fields that the reset
has restored, and a learned landing table's marks. Forces, a host-set time and Stirrup's page are no configuration of the
store; the point table has an order of its own (R383), and so have programs. -/
def configMask (reach a : Nat) : Word :=
  let k := (ownerPage a).bind pageKind
  let car := decide (0x30000 ≤ a) && decide (a < 0x38000)
  if (0x14000 ≤ a ∧ a < 0x15000 ∧ 0x800 ≤ a % 4096) ∨ (0x6050 ≤ a ∧ a < 0x6060) ∨ (0x1A000 ≤ a ∧ a < 0x1B000) ∨ (0x01000000 ≤ a ∧ a < 0x04000000) then 0
  else
    let m := (rowsAt a).foldl (fun (m : Word) f => match f.acc, reachNum k f.reach with
      | .rwl, some n => if n ≤ reach then setBits m f.hi f.lo (2 ^ (f.hi + 1 - f.lo) - 1) else m
      | _, _ => m) 0
    if car && decide (0x400 ≤ a % 4096) && decide (a % 8 = 4) && decide (a % 4096 < 0x900) then m ||| 0x8000FFFF
    else if car && a % 4096 == 0x060 then m ||| 0x01000000 else m

/-- Words of a safety channel, which Stirrup configures whatever the store holds (R190). -/
def State.safetyWord (s : State) (a : Nat) : Bool :=
  (List.range 64).any (fun k => s.flag (Reg.TILE_SAFETY (6 + k / 32) (k % 32)) && (a == chCfgAddr (6 + k / 32) (k % 32)
    || a == chParamAddr (6 + k / 32) (k % 32) || a == (Reg.TILE_CH_ACTION (6 + k / 32) (k % 32)).addr))

/-- Give words of the store back, for the pages that `sel` admits. A pass-through fuse that they disable opens (R32). -/
def State.replay (s : State) (reach : Nat) (sel : Nat → Bool) : State :=
  let s := s.cfgStore.foldl (fun (s : State) (e : Nat × Word) =>
    if sel e.1 && !s.safetyWord e.1 then
      let m := configMask reach e.1
      s.setWord e.1 ((s.word e.1 &&& ~~~ m) ||| (e.2 &&& m))
    else s) s
  s.openDisabled

/-- Whether a metering page holds an address. -/
def isMetering (a : Nat) : Bool := a / 4096 == 0x18 || (decide (0x60 ≤ a / 4096) && decide (a / 4096 ≤ 0x9F))

/-- The stored ENABLE of a page. -/
def State.storedEnable (s : State) (p : Nat) : Option Bool := (KV.get? s.cfgStore (4096 * p + 0xC)).map (fun w => w.getLsbD 0)

/-- Set ENABLE and ENABLED. -/
def State.showEnable (s : State) (p : Nat) (on : Bool) : State := (s.setFlag (Reg.HDR_ENABLE p) on).setFlag (Reg.HDR_ENABLED p) on

/-- Whether the role set runs a page (R2; log entry 4). -/
def State.roleRuns (s : State) (p : Nat) : Bool :=
  let floor := bitOf s.roles 0
  let car := bitOf s.roles 1
  let plant := bitOf s.roles 2
  match pageKind p with
  | some .SCN => floor || plant
  | some .LPE => s.roles != 0
  | some .MOT => s.roles != 0
  | some .AXIS => if p < 0x50 then car else floor || plant
  | some .LFT => car
  | some .CAR => car && s.getBit Reg.LFT_CAR_MAP (p - 0x30)
  | _ => true

/-- ENABLE of a page at B9. -/
def State.enableAt (reach : Nat) (s : State) (p : Nat) : State :=
  match pageKind p with
  | none => s
  | some k =>
    let covered := match reachNum (some k) .dom with | some n => decide (n ≤ reach) | none => false
    if !covered then s
    else if roleGated k then s.showEnable p (s.roleRuns p && (s.storedEnable p).getD true)
    else if k == .CANCH then (if s.storedEnable p = some true then canEnable (p - 0x10) true s else s)
    else if k == .PULSE then (if s.storedEnable p = some true then pulseEnable (p - 0x90) s else s)
    else if k == .CIRC then s
    else s.showEnable p ((s.storedEnable p).getD true)

/-! ## B1 to B7 -/

/-- The straps are latched; at a release of reach FULL the clock straps choose the reference (R58, R59). -/
def State.latchStraps (s : State) (clk boot : Nat) : State :=
  let s := ((s.set Reg.RST_STRAP_CLK clk).set Reg.RST_STRAP_BOOT boot).setFlag Reg.RST_STRAP_ERR (clk == 0)
  if !s.pwr.fullHeld then s
  else
    let ext := clk == 1 || clk == 2
    if ext && s.flag Reg.CLK_EXT_PRES then (s.set Reg.RST_CLK_ACTIVE clk).set Reg.CLK_REF_SRC (if clk = 2 then 1 else 2)
    else
      let s := (s.set Reg.RST_CLK_ACTIVE 3).set Reg.CLK_REF_SRC 0
      if ext then s.fallBack else s

/-- Events that blocks held are written, with the values they were given, once the event recorder runs (R463). -/
def State.flushEvents (s : State) : State :=
  s.heldEvents.foldl (fun (t : State) (e : HeldEvent) => t.writeRecord e.words) { s with heldEvents := [] }

/-- The SYS domains are released: the time base is loaded (R114), the sequence counter resumes (R159), the side buffer is
merged (R469), held events are recorded, PRP takes effect (R408), a failed start counts (R64), and the backup counters
are mirrored (R63). The load counts as a step for the blocks that ran on. -/
def State.releaseSys (s : State) : State :=
  let u := s.unow
  let s := { s with sysHeld := false }
  let s := s.loadTime (if s.flag Reg.RTC_OSF then 0 else s.calTai)
  let s := { s with tb := { s.tb with stepSum := (s.tai : Int) - u }, timeStepped := true }
  let s := s.resumeSeq
  let s := match s.recOrder.getLast? with | some i => s.set Reg.EVR_NEWEST_IDX i | none => s
  let s := if s.sideBuf.isEmpty then s else s.mergeSide
  let s := s.flushEvents.countFailed
  let s := s.setFlag (Reg.MAC_PRP_ACTIVE 0) (match KV.get? s.cfgStore (Reg.MAC_PRP_EN 0).addr with
    | some w => getBits w (Reg.MAC_PRP_EN 0).hi (Reg.MAC_PRP_EN 0).lo == 1 | none => false)
  let s := (s.showGates 0).showGates 1
  let s := s.set Reg.UPD_RUN_VER s.runManifest.version
  if s.pwr.restoreCnt then s else s.mirrorCounters

/-- SYS_DOMAIN_RELEASE: B1, with the straps, STRAP_CLK in bits 3:2 and STRAP_BOOT in bits 1:0. -/
def execSysDomainRelease (straps : BitVec 4) (s : State) : Out State :=
  .next (if s.mayPass 1 then
    let s := if s.sysHeld then
        let s := s.latchStraps (straps.toNat / 4) (straps.toNat % 4)
        (s.set Reg.CLK_LOCK 0xFF).releaseSys
      else s
    s.pass 1
  else s)

/-- STIRRUP_RELEASE: B2. The FULL domains run; after a BROWNOUT the mode is RECOVERY (R45). -/
def execStirrupRelease (s : State) : Out State :=
  .next (if s.mayPass 2 then
    let s := if s.pwr.fullHeld then
        let s := { s with pwr := { s.pwr with fullHeld := false } }
        let s := if s.pwr.recover then { (s.set Reg.PWR_MODE PowerMode.RECOVERY) with pwr := { s.pwr with recover := false } } else s
        s.openAll.setSafState SafState.SELFTEST
      else s
    s.pass 2
  else s)

/-- A start fails in bring-up: reach SYS, cause SYS_WDT, and it counts (R487). -/
def State.startFails (s : State) (n : Nat) : State :=
  let s := s.testFails n
  ({ s with pwr := { s.pwr with failPend := true } }).assertReset 4 2

/-- WELT_LANES_TRAINED: B3, with the loopback test of every lane. -/
def execWeltLanesTrained (loopback : Bool) (s : State) : Out State :=
  .next (if s.mayPass 3 then
    if loopback then
      (foldN 8 (fun t (s : State) => s.modTile t (fun x =>
        let x := if x.trainedA then x else { x with trainedA := true, laneA := ⟨1, none, 1, none, false, none⟩ }
        if x.trainedB || t < 6 then x else { x with trainedB := true, laneB := ⟨1, none, 1, none, false, none⟩ })) s).pass 3
    else s.startFails 2
  else s)

/-- FIRST_VALID_FRAME: B4. The safe tables are read (R189). -/
def execFirstValidFrame (s : State) : Out State :=
  .next (if s.mayPass 4 then (foldN 8 State.readSafeTable s).pass 4 else s)

/-- The counters of R63 after a loss in the backup domain. -/
def State.restoreCounters (s : State) : State :=
  let s := if s.pwr.restoreCnt then
      let (a, b, c) := s.pwr.mirror
      let s := ((s.bumpBy Reg.RST_RST_TOTAL a).bumpBy Reg.RST_POWER_CYCLES b).bumpBy Reg.RST_FAIL_RUN c
      { s with pwr := { s.pwr with restoreCnt := false } }
    else s
  s.mirrorCounters

/-- MRAM_RESTORE: B5. Counters, record and bank words, Keeper's handles, the metering configuration with its circuits, and
Skiver's checkpoint. -/
def execMramRestore (s : State) : Out State :=
  .next (if s.mayPass 5 then
    let s := if s.meter.on then s
      else
        let s := s.restoreCounters.reloadHandles
        let s := (s.setW Reg.EVR_REC_TOTAL s.recTotalMram).set Reg.EVR_OP_S s.opSMram
        let s := (s.set Reg.UPD_ROLL_FLOOR s.upd.floor).setFlag Reg.UPD_ACTIVE_BANK s.upd.bank
        let r := s.resp
        let s := s.replay 3 isMetering
        let s := foldN 48 (fun n s => State.showSMax s n) s
        let s := foldN 48 (fun n (s : State) => if s.storedEnable (Page.CIRC n) = some true then circEnable n s else s) s
        ({ s with resp := r }).meterRestore
    s.pass 5
  else s)

/-- SKIVER_INTEGRATING: B6. -/
def execSkiverIntegrating (s : State) : Out State :=
  .next (if s.mayPass 6 then (if s.meter.on then s else s.meterStart).pass 6 else s)

/-- STIRRUP_SELFTEST_COMPLETE: B7, or the end of the test after a self-reset. Stirrup configures its channels. -/
def execStirrupSelftestComplete (t : SelfTest) (s : State) : Out State :=
  .next (if s.pwr.fullHeld || !s.pwr.powered then s
  else
    let run := s.get Reg.SAF_STATE == SafState.SELFTEST
    let s := safSelfTest t s
    let s := if run && t.pass then foldN 64 State.configureSafety s else s
    if s.mayPass 7 then s.pass 7 else s)

/-! ## B8 and B9 -/

/-- MANIFEST_VERIFIED: B8, with a bit for each failed test of R487 (0 march, 1 ECC logic, 3 Keeper). An activation's pause
of `pauseMs` ends (R478). -/
def execManifestVerified (fails : BitVec 4) (pauseMs : Nat) (s : State) : Out State :=
  .next (if s.mayPass 8 then
    match [0, 1, 3].find? (fun n => fails.getLsbD n) with
    | some n => s.startFails n
    | none =>
      let s := if s.upd.acting then
          { (s.set Reg.UPD_PAUSE_MS pauseMs) with upd := { s.upd with acting := false } } else s
      s.releaseApp
  else s)

/-- The coil table comes from MRAM (R156). -/
def State.restoreCoils (s : State) : State :=
  let s := { s with mem := s.coilMram.foldl (fun (m : Memory) (e : Nat × Word) => m.write e.1 e.2) s.mem }
  foldN 256 (fun k (s : State) =>
    let on := s.get (Reg.ANG_ON_US k)
    let off := s.get (Reg.ANG_OFF_US k)
    if on = 0 ∧ off = 0 then s else { s with coilLearn := KV.put s.coilLearn k { CoilLearn.initial with onSaved := on, offSaved := off } }) s

/-- A car at B9 (R285, R325): a quadrature encoder needs a reference, and the door stands as it is found; the door page's
speeds are judged against Stirrup's limits (R316). -/
def State.startCar (n : Nat) (s : State) : State :=
  if !s.carPresent n then s
  else
    let s := if s.get (Reg.CAR_ENC n) = 2 then s.setFlag (Reg.CAR_REF_NEEDED n) true else s
    let s := (s.deriveDoor n).judgeDoorV n
    if s.get (Reg.CAR_OPEN_POS n) < 10000 then s.setDoorState n DoorState.DISABLED
    else if s.closedLocked n then s.setDoorState n DoorState.CLOSED
    else if s.chanIn (s.get (Reg.CAR_DZ_CH n)) then (s.setDoorState n DoorState.OPEN).beginDwell n (s.get (Reg.CAR_DWELL_CAR_MS n))
    else s.doorFault n 5

/-- The stored loop slots are applied (R256). -/
def State.startLoops (s : State) : State :=
  let l := (s.cfgStore.filter (fun (e : Nat × Word) => decide (0x04000000 ≤ e.1) && decide (e.1 < 0x04008000))).map (fun e => (e.1 - 0x04000000) / 128)
  l.eraseDups.foldl (fun (s : State) n => (s.applySlots 0 [n]).2) s

/-- Channel configuration given back goes to the tiles (R164), and their settings with it. -/
def State.sendChannels (s : State) : State :=
  foldN 8 (fun t (s : State) =>
    let l := (List.range 32).filter (fun n => !s.flag (Reg.TILE_SAFETY t n)
      && (s.word (chCfgAddr t n) != resetWord (chCfgAddr t n) || s.word (chParamAddr t n) != resetWord (chParamAddr t n)))
    s.modTile t (fun x => { x with cfgSend := x.cfgSend ++ l, ctlSend := true })) s

/-- The role set, empty in Tack room (R65) and with the boot straps at 0, 0 (R58). With the empty role set every field output
is held in safe state (R1). -/
def State.takeRoles (s : State) (roles : Nat) : State :=
  let r := if s.pwr.tack || s.get Reg.RST_STRAP_BOOT == 0 then 0 else roles
  let s := { s with roles := r }
  if r = 0 then s.orderGoSafeAll else s

/-- The configuration of registers, roles, channels and blocks. -/
def State.applyConfig (s : State) (reach roles : Nat) : State :=
  let s := (s.replay reach (fun a => !isMetering a)).takeRoles roles
  let s := if 2 ≤ reach then s.sendChannels.bmca else s
  let s := (List.range 160).foldl (State.enableAt reach) s
  ((s.showGates 0).showGates 1).restorePoints.recheckProg

/-- The engines take their configuration; the panels are cleared (R304); a unit with EN looks for its partner (R446). One with no
cable fitted (R18) looks for none, so it does not hold its first output write for JOIN_MS; R446 names no cable (DESIGN CHOICE,
log entry 88). -/
def State.startEngines (s : State) : State :=
  let s := (foldN 8 State.startCar s).startLoops.restoreCoils
  let s := if bitOf s.roles 1 then (s.send .panelClear 0 0 []).record sevWarning Page.LFT 0 0 [] else s
  if s.flag Reg.TWN_EN && s.twin.present && !s.inPair then { s with twin := { s.twin with starting := true } } else s

/-- The episode closes, and with it an activation (R55, R478). -/
def State.closeEpisode (s : State) : State :=
  let s := { s with appUp := true, pwr := { s.pwr with episode := false, point := 9 } }
  let s := if s.get Reg.UPD_STATE = 2 then s.set Reg.UPD_STATE 0 else s
  if s.upd.holding then { (s.setFlag Reg.FIO_HOLD false) with upd := { s.upd with holding := false } } else s

/-- Every tile has been sent the GO_SAFE ordered for it (R66). -/
def State.goSafeSent (s : State) : Bool := (List.range 8).all (fun t => !(s.tile t).goSafe || (s.tile t).goSent)

/-- CONFIGURATION_APPLIED: B9, with the role set of the configuration (bit 0 FLOOR, bit 1 CAR_HOST, bit 2 PLANT), which is
held empty in Tack room (R65) and with the boot straps at 0, 0 (R58). After an APP reset every tile has had its GO_SAFE
(R66). The first scan ends here. -/
def execConfigurationApplied (roles : BitVec 3) (s : State) : Out State :=
  .next (if s.mayPass 9 && s.appGoSafe.isEmpty && (decide (1 < s.pwr.reach) || s.goSafeSent) then
    { ((s.applyConfig s.pwr.reach roles.toNat).startEngines.closeEpisode.fireRestore.autoStart) with resp := s.resp }
  else s)

end Sys2Proof.Machine
end

