-- ==== Sys2Proof/Machine/Activation.lean ====
section
/-! DEFINITION. Activation of a staged manifest and rollback (R478 to R483). -/

namespace Sys2Proof.Machine

/-- The manifest that an activation would run: the staged one, or for a rollback the previous. -/
def State.nextManifest (s : State) (rollback : Bool) : Option Manifest := if rollback then s.upd.prev else s.upd.staged

/-- Whether it needs reach FULL. -/
def State.activatesFull (s : State) (rollback : Bool) : Bool := (s.nextManifest rollback).elim false (needsFull s.upd.running)

/-- Whether the command fits the state (code 6 of R476): ACTIVATE in STAGED, ROLLBACK while PREV_VALID is set. -/
def State.fitsState (s : State) (rollback : Bool) : Bool :=
  !s.flag Reg.UPD_STAGE_BUSY && s.upd.waiting.isNone
    && (if rollback then s.flag Reg.UPD_PREV_VALID && s.get Reg.UPD_STATE != 2 else s.get Reg.UPD_STATE == 1)

/-- The first condition of R476 that fails, in its order; 0 for none. -/
def State.activationBarred (s : State) (fits : Bool) : Nat :=
  if s.updBarred ≠ 0 then s.updBarred else if !fits then 6 else if s.updTwinBarred then 7 else 0

/-- ACTIVATE and ROLLBACK: accepted, the activation waits for its tick; for reach FULL Skiver first takes a COMMANDED
checkpoint. -/
def activate (rollback : Bool) (s : State) : State :=
  let code := s.activationBarred (s.fitsState rollback)
  if code ≠ 0 then s.updRefused code
  else
    let full := s.activatesFull rollback
    let s := { (s.set Reg.UPD_REFUSE 0) with upd := { s.upd with waiting := some rollback } }
    (if full then checkpoint s else s).answer Status.OK []

def execActivate (r : Requester) (s : State) : Out State := .next (s.updExec r (activate false))
def execRollback (r : Requester) (s : State) : Out State := .next (s.updExec r (activate true))

/-- V0 and V1: HOLD to every tile, the bank selector, and the reset. One of a pair gives up control instead, and its tiles
follow that (R483). -/
def State.runActivation (s : State) (rollback : Bool) (m : Manifest) : State :=
  let full := s.activatesFull rollback
  let standby := s.get Reg.TWN_STATE == TwinState.STANDBY
  let pair := s.inPair
  let s := if pair then s.giveUp 1
    else (foldN 8 (fun t (s : State) => s.modTile t (fun x => { x with holdExt := x.holdExt || (x.trainedA && x.first) })) s).setFlag Reg.FIO_HOLD true
  let s := (s.set Reg.UPD_STATE 2).setFlag Reg.UPD_TRIAL true
  let s := { s with upd := { s.upd with
    running := m
    prev := some s.upd.running
    bank := !s.upd.bank
    waiting := none
    holding := !pair
    acting := true } }
  let s := (s.setFlag Reg.UPD_ACTIVE_BANK s.upd.bank).setFlag Reg.UPD_PREV_VALID false
  let s := if s.flag Reg.RST_TACK then { s with pwr := { s.pwr with tackExit := true } } else s
  let s := s.assertReset 6 2
  let s := if full then s.assertReset 7 3 else s
  { s with twin := { s.twin with updated := standby } }

/-- ACTIVATION_INSTANT: the first 125 µs tick after acceptance, or after the checkpoint. Every condition is judged again;
where one fails the activation is refused with a record at severity warning. -/
def execActivationInstant (s : State) : Out State :=
  .next (match s.upd.waiting with
    | none => s
    | some rollback =>
      if s.activatesFull rollback && (s.meter.writing.isSome || s.meter.cmdWait) then s
      else
        let s' := { s with upd := { s.upd with waiting := none } }
        let code := s'.activationBarred (s'.fitsState rollback)
        match s.nextManifest rollback with
        | some m =>
          if code ≠ 0 then { (((s'.set Reg.UPD_REFUSE code).err Page.UPD Err.UPD_REFUSED).record sevWarning Page.UPD 3 code []) with resp := s.resp }
          else s.runActivation rollback m
        | none => s')

/-- AUTO_PAIR_ACTIVATE: the partner runs the manifest that this unit, now STANDBY, has staged (R483). -/
def execAutoPairActivate (s : State) : Out State :=
  let parts := (s.upd.staged.elim [] (fun (m : Manifest) => m.parts)).map (fun (p : Nat × Nat) => p.2)
  .next (if s.flag Reg.UPD_AUTO_PAIR && s.get Reg.TWN_STATE == TwinState.STANDBY && s.get Reg.UPD_STATE == 1 && parts == s.twin.peerParts
    then { (activate false s) with resp := s.resp } else s)

end Sys2Proof.Machine
end

