-- ==== Sys2Proof/Machine/Access.lean ====
section
/-! DEFINITION. Accesses to register pages and windows: the guard (R386 to R389), alignment and addresses (R84, R85), wide
values (R12, R86, R87), ECC marks (R88), and what every read and every field write does (R10, R80, R531). -/

namespace Sys2Proof.Machine

/-! ## Wide values -/

/-- Wide values whose rows stand word by word: offset and words. -/
def wideGroups (k : PageKind) : List (Nat × Nat) :=
  match k with
  | .SYS => [(0x40, 2)]
  | .TBS => [(0x40, 4), (0x50, 4), (0xD0, 4), (0xF0, 4)]
  | .RTC => [(0x40, 2), (0x60, 2)]
  | .ANG => [(0x80, 5)]
  | .CAR => [(0x64, 4)]
  | .PGD => [(0x48, 2)]
  | _ => []

/-- The offset of an address in its page, or in its entry of a window. -/
def entryOffset (a : Nat) : Nat :=
  if a < 0xA0000 then a % 4096
  else match windowOf a with
    | some (w, off) => off % (windowRows w).1
    | none => 0

/-- The wide value that holds a word: the address of its low word, and its words. -/
def wideAt (a : Nat) : Option (Nat × Nat) :=
  let off := entryOffset a
  let group := if a < 0xA0000 then
      (match pageKind (a / 4096) with
        | some k => (wideGroups k).find? (fun g => decide (g.1 ≤ off) && decide (off < g.1 + 4 * g.2))
        | none => none)
    else none
  match group with
  | some g => some (a - (off - g.1), g.2)
  | none => match (rowsAt a).find? (fun f => decide (1 < f.words)) with
    | some f => some (a - 4 * wordIndex f.dims (off - f.off), f.words)
    | none => none

/-! ## The guard (R387, R388) -/

/-- The bits of a word whose fields have an access code. -/
def accMask (p : Access → Bool) (a : Nat) : Word :=
  (rowsAt a).foldl (fun (m : Word) f => if p f.acc then setBits m f.hi f.lo (2 ^ (f.hi + 1 - f.lo) - 1) else m) 0

def isRwl (x : Access) : Bool := x == .rwl
def isPlain (x : Access) : Bool := x == .rw || x == .wo || x == .w1c

/-- Whether a requester may read the word at an address. -/
def State.mayRead (s : State) (r : Requester) (a : Nat) : Bool :=
  let c := s.creds r
  if c.tag = 0 then c.may Right.READ
  else match windowOf a with
    | some (.point, off) => s.mayReadPoint c (off / 32)
    | _ => false

/-- Whether a write of BLK_CTL changes LOCK. -/
def State.changesLock (s : State) (a : Nat) (w : Word) : Bool :=
  decide (a < 0xA0000) && a % 4096 == 0x00C && getBits (s.word a) 3 3 != getBits w 3 3

/-- Whether a requester may write `w` to the word at an address. RST_CMD needs RESET and FIRE_CMD the right of its
command; ATB, ECC and CAL need CONFIG throughout. -/
def State.mayWrite (s : State) (r : Requester) (a : Nat) (w : Word) : Bool :=
  let c := s.creds r
  match windowOf a with
  | some (.point, off) =>
    if off % 32 = 0 then s.mayWritePoint c (off / 32) else c.tag == 0 && c.may Right.WRITE && c.may Right.CONFIG
  | _ =>
    if c.tag ≠ 0 then false
    else if a = 0x1048 then c.may Right.RESET && (getBits w 2 0 != 4 || isSession r)
    else if a = 0x1C04C then c.may Right.WRITE && c.may (if getBits w 2 0 = 4 then Right.RESET else Right.COMMAND)
    else
      let p := a / 4096
      let config := accMask isRwl a != 0 || s.changesLock a w || (decide (a < 0xA0000) && decide (0x1D ≤ p) && decide (p ≤ 0x1F))
      c.may Right.WRITE && (!config || c.may Right.CONFIG)

/-- A refusal by the guard; a BKP reset asked for by any but an owner session sets RST.ERR_STAT as well (R70). -/
def State.refuseWrite (s : State) (r : Requester) (a : Nat) (w : Word) : State :=
  let s := if a = 0x1048 ∧ getBits w 2 0 = 4 then s.err Page.RST Err.NO_RIGHT else s
  s.refuse r a

/-! ## Checks of one word (R84, R85, R104) -/

/-- An absent address is counted in SYS.ERR_CNT (R85). -/
def State.absent (s : State) : State := s.bump (Reg.HDR_ERR_CNT Page.SYS)

/-- Whether a session has pinned the block of an address at a level that is not served (R97). -/
def State.pinRefused (s : State) (r : Requester) (a : Nat) : Bool :=
  match r, ownerPage a with
  | .session n, some p =>
    (KV.get? s.sessions n.val).elim false (fun e => e.pins.any (fun q => q.type == pageType p && !q.served))
  | _, _ => false

/-- A unit that is STANDBY or in RESYNC takes over MNT reads only, and writes to TWN (R460). -/
def State.mntBars (s : State) (r : Requester) (page : Option Nat) : Bool :=
  match r with
  | .session n =>
    (KV.get? s.sessions n.val).elim false (fun e => e.port == .MNT)
      && (s.get Reg.TWN_STATE == TwinState.STANDBY || s.get Reg.TWN_STATE == TwinState.RESYNC) && page != some Page.TWN
  | _ => false

/-- The checks of a one-word access up to step 7 of R104, in its order: the state with the refusal's answer, where one is due. `w` is the
word a write gives; `ecc` says that the access needs the old word: one already marked refuses a Billet request. -/
def State.bar (s : State) (r : Requester) (a : Nat) (w : Option Word) (ecc : Bool) : Option State :=
  if s.pinRefused r a then some (s.failAt r Status.E_VERSION 0xFFFFFFFF)
  else if isNarrow r ∨ a % 4 ≠ 0 then some (s.refuseSize r a)
  else if ownerPage a = none then some (s.absent.failAt r Status.E_ADDR 0)
  else
    let may := match w with | none => s.mayRead r a | some v => s.mayWrite r a v
    if !may then some ((match w with | none => s.refuse r a | some v => s.refuseWrite r a v).failAt r (s.creds r).refusal 0)
    else if ecc && isSession r && s.eccMarked.contains a then some (s.failAt r Status.E_ECC 0)
    else none

/-! ## Reading a word -/

/-- The word as a requester reads it: BLK_VER at the level its session has pinned (R97). -/
def State.readAs (s : State) (r : Requester) (a : Nat) : Word :=
  let pin := match r with
    | .session n => if a < 0xA0000 ∧ a % 4096 = 0x004 then
        (KV.get? s.sessions n.val).bind (fun (e : Session) => e.pins.find? (fun (q : Pin) => q.type == pageType (a / 4096) && q.served)) else none
    | _ => none
  match pin with
  | some q => BitVec.ofNat 32 (0x00010000 + q.minor)
  | none => s.shown a

/-- Clear the RC fields of a word; a 64-bit counter clears as a whole with its low word (R412). -/
def State.clearRc (s : State) (a : Nat) : State :=
  (rowsAt a).foldl (fun (s : State) f =>
    if f.acc = .rc then
      (if f.words = 1 then s.setWord a (setBits (s.word a) f.hi f.lo 0)
       else if (wideAt a).elim false (fun g => g.1 == a) then s.setWideFrom a 0 f.words else s)
    else s) s

/-- What a read does beside returning its word: queues give up their head (R127, R162), captures clear (R161, R389), and RC
fields clear. -/
def readEffect (a : Nat) (s : State) : State :=
  if a = 0x17090 then donePop s
  else if a = 0x60DC then popTxTs .A s
  else if a = 0x60FC then popTxTs .B s
  else if a = Reg.PGD_REF_WHO.addr then lastRefuseRead s
  else if 0x1714C ≤ a ∧ a < 0x1734C ∧ a % 128 = 0x4C then snapshotSeqRead ((a - 0x1714C) / 128) s
  else s.clearRc a

/-- Read a word (R86). The low word of a wide value fills the requester's latch, and its highest word ends it. -/
def readWord (r : Requester) (a : Nat) (s : State) : Word × State :=
  let s := s.correctAt a
  match wideAt a with
  | none => (s.readAs r a, readEffect a s)
  | some (b, n) =>
    if a = b then
      let ws := (List.range n).map (fun i => s.readAs r (b + 4 * i))
      (s.readAs r a, readEffect a { s with latches := (r, ⟨b, ws⟩) :: s.latches.filter (fun (e : Requester × Latch) => e.1 != r) })
    else
      match s.latches.find? (fun (e : Requester × Latch) => e.1 == r && e.2.addr == b) with
      | some (_, l) =>
        let i := (a - b) / 4
        let s := if i + 1 = n then { s with latches := s.latches.filter (fun (e : Requester × Latch) => e.1 != r) } else s
        (l.words.getD i 0, readEffect a s)
      | none => (s.readAs r a, readEffect a (s.ownerErr a Err.WIDE_TORN))

/-- A read that finds its word uncorrectable returns no data (R88). -/
def State.eccFail (s : State) (r : Requester) (a : Nat) : State := (s.marked a).failAt r Status.E_ECC 0

/-- A one-word read with its checks and its answer. -/
def busRead (r : Requester) (a : Nat) (s : State) : State :=
  match s.bar r a none true with
  | some t => t
  | none =>
    if s.badWord a then s.eccFail r a
    else let (w, t) := readWord r a s; t.answer Status.OK [w]

/-! ## Field writes -/

/-- The CFG_RANGE bit of a page, where it defines one (R531). -/
def rangeBit (p : Nat) : Option Nat :=
  match pageKind p with
  | some .TBS => some Err.TBS_CFG_RANGE | some .RTC => some Err.RTC_CFG_RANGE | some .ANG => some Err.ANG_CFG_RANGE
  | some .TILE => some Err.TILE_CFG_RANGE | some .SCN => some Err.SCN_CFG_RANGE | some .MOT => some Err.MOT_CFG_RANGE
  | some .AXIS => some Err.AXIS_CFG_RANGE | some .LFT => some Err.LFT_CFG_RANGE | some .CAR => some Err.CAR_CFG_RANGE
  | some .MTR => some Err.MTR_CFG_RANGE | some .PULSE => some Err.PULSE_CFG_RANGE | some .MAC => some Err.MAC_CFG_RANGE
  | some .CANCH => some Err.CANCH_CFG_RANGE | some .KEY => some Err.KEY_CFG_RANGE | some .TWN => some Err.TWN_CFG_RANGE
  | some .EVR => some Err.EVR_CFG_RANGE
  | _ => none

/-- A value of the page that owns an address was clamped, rounded or ignored. -/
def State.rangeErr (s : State) (a : Nat) : State :=
  match ownerPage a with
  | some p => (match rangeBit p with | some b => s.err p b | none => s)
  | none => s

/-- One field of a written word over the stored word: RW and RWL fields take the value, clamped to their range; a W1C field
loses the bits written 1; every other field stays (R10, R80). The Boolean says that a value was clamped. -/
def fieldWrite (w : Word) (x : Word × Bool) (f : FieldSpec) : Word × Bool :=
  match f.acc with
  | .rw | .rwl =>
    let v := getBits w f.hi f.lo
    let v' := match f.range with | some (lo, hi) => clampN lo hi v | none => v
    (setBits x.1 f.hi f.lo v', x.2 || v' != v)
  | .w1c => (setBits x.1 f.hi f.lo (getBits (x.1 &&& ~~~ w) f.hi f.lo), x.2)
  | _ => x

/-- The configuration store keeps the RWL bits of a written word (R66). -/
def State.storeConfig (s : State) (a : Nat) : State :=
  let m := configMask 4 a
  if m = 0 then s
  else { s with cfgStore := KV.put s.cfgStore a ((KV.getD s.cfgStore a 0 &&& ~~~ m) ||| (s.word a &&& m)) }

/-- Write the fields of a word. A 32-bit write ends an ECC mark (R88). -/
def plainWrite (a : Nat) (w : Word) (s : State) : State :=
  let (new, out) := (rowsAt a).foldl (fieldWrite w) (s.word a, false)
  let s := s.setWord a new
  let s := s.eccClean a
  (if out then s.rangeErr a else s).storeConfig a

/-- A field of the word to be written that is ignored keeps its value, and an error is set. -/
def ignoreField (bad : Bool) (p b a hi lo : Nat) (x : Word × State) : Word × State :=
  if bad then (setBits x.1 hi lo (getBits (x.2.word a) hi lo), x.2.err p b) else x

/-- A field of the word to be written that takes another value than written: CFG_RANGE where the page has it. -/
def forceField (v a hi lo : Nat) (x : Word × State) : Word × State :=
  if getBits x.1 hi lo = v then x else (setBits x.1 hi lo v, x.2.rangeErr a)

/-- The status of an operation that answers by itself. -/
def viaAnswer (g : State → State) (s : State) : Nat × State :=
  let s := g (s.answer Status.OK [])
  (s.resp.status, s)

end Sys2Proof.Machine
end

