-- ==== Sys2Proof/Machine/SoftReset.lean ====
section
/-! DEFINITION. SOFT_RESET: the reset of one block's engine (R78). The spec resets "the block's engine" and does not say what
of it; here it is what the engine has taken and not finished: what waits, what runs, and what it remembers between its steps.
Registers whose Reset column does not read BLOCK stay, but for those that say what the engine is doing (DESIGN CHOICE, log
entry 91). -/

namespace Sys2Proof.Machine

/-- ANG: slots end, nothing waits, and the PLLs start anew. -/
def State.resetAng (s : State) : State :=
  let s := foldN 1024 (fun n (s : State) =>
    let st := s.get (Reg.SLOT_STATE n)
    if st = SlotState.FREE then s
    else
      let s := if st = SlotState.COMMITTED then s.slotWithdraw n else s
      s.set (Reg.SLOT_STATE n) SlotState.FREE) s
  { s with
    slotCommit := []
    doneQ := []
    snapUnread := []
    slotUnresolved := []
    slotFired := []
    slotDev := []
    pllA := ⟨false, 0, 0⟩
    pllB := ⟨false, 0, 0⟩ }

/-- SCN: the program stops, and the engine holds no command, force record or write that waits. Programs, the retentive
shadow and its copies stay. -/
def State.resetScn (s : State) : State :=
  let s := if s.get Reg.SCN_MODE = ScanMode.STOP then s else s.enterStop 1 0
  s.modScan (fun e => { ScanEngine.initial with
    bank := e.bank
    store := e.store
    saving := e.saving
    forceSym := e.forceSym
    bacDown := e.bacDown
    outFail := e.outFail
    shadow := e.shadow
    shadowOk := e.shadowOk
    copyA := e.copyA
    copyB := e.copyB
    writing := e.writing
    retWait := e.retWait
    frozen := e.frozen })

/-- LPE: every slot is to be initialised again, and what waits for its tick is dropped. -/
def State.resetLpe (s : State) : State :=
  { s with loops := KV.mapV s.loops (fun _ x => { x with take := none, req := none, init := true, minit := true, delay := [] }) }

/-- MOT: group commands that wait are dropped, and the groups' lines with them; a member's own plan stays its axis's. -/
def State.resetMot (s : State) : State :=
  foldN 8 (fun g (s : State) => if s.get Reg.MOT_GRP_STATE / 2 ^ (3 * g) % 8 = 0 then s
      else s.set ⟨Reg.MOT_GRP_STATE.addr, 3 * g + 2, 3 * g⟩ 0) { s with grpPend := [], lines := [] }

/-- An axis rests where it is, its plan given up and its gear term disengaged. -/
def State.resetAxis (s : State) (n : Nat) : State :=
  let s := s.restAxis n
  let s := s.modAxis n (fun x => { Axis.initial with base := x.base, frames := x.frames, current := x.current })
  ((s.set (Reg.AXIS_STATE n) AxState.DISABLED).setFlag (Reg.AXIS_GEARED n) false).showPlan n

/-- A car drops its stops, and with them what it was about to do; its axis, its calls and what its units report stay. -/
def State.resetCar (s : State) (n : Nat) : State :=
  let s := (s.preCancel n).setStops n []
  s.modCar n (fun c => { Car.initial with
    oos := c.oos
    ind := c.ind
    key := c.key
    faults := c.faults
    before := c.before
    vHeld := c.vHeld
    load := c.load
    door := { Door.initial with btnOpen := c.door.btnOpen, btnClose := c.door.btnClose, barrier := c.door.barrier } })

/-- A MAC: frames that wait and the one in transmission are dropped, and what its jobs still await. -/
def State.resetMac (s : State) (n : Nat) : State :=
  let m := s.mac
  let rest := fun (x : MacPort) => { MacPort.initial with next := x.next, entryAt := x.entryAt, cycleAt := x.cycleAt }
  { s with mac := { m with
    portA := if n = 0 then rest m.portA else m.portA
    portB := if n = 1 then rest m.portB else m.portB
    jobs := m.jobs.filter (fun j => j.mac != n) } }

/-- Skiver: the samples of its windows, and a checkpoint that waits. The energies and the running interval stay. -/
def State.resetMtr (s : State) : State := { s with meter := { s.meter with win := [], cmdWait := false } }

/-- A tile's logic side: what waits for its frames. The field side runs on. -/
def State.resetTile (s : State) (t : Nat) : State :=
  s.modTile t (fun x => { x.dropPulses with timedOut := [], stepOut := [], commitOut := none, cfgSend := [], ctlSend := false, upRun := 0 })

/-- UPD: staging under way is dropped, as at a reset (R475). -/
def State.resetUpd (s : State) : State :=
  let s := s.dropStaging.setFlag Reg.UPD_STAGE_BUSY false
  { s with upd := { s.upd with erasing := false, verifying := false, waiting := none } }

/-- The time base: the servo's measurements, with which it acquires anew; the time value and its rate stay, and so do the transmit
timestamps, which a reset of reach SYS clears (R127). -/
def State.resetTbs (s : State) : State :=
  { s with tb := { s.tb with
    lastOfs := 0
    lockCount := 0
    lockMin := 0
    lockMax := 0
    rejected := 0
    mpdKnown := false } }

/-- The engine of a page. Pages without an engine beside their registers have nothing more to reset. -/
def State.resetEngine (s : State) (p : Nat) : State :=
  match pageKind p with
  | some .TBS => s.resetTbs
  | some .EVR => { s with trigPend := [] }
  | some .UPD => s.resetUpd
  | some .KEY => { s with attSignSec := (0, 0), attMacSec := (0, 0) }
  | some .PGD => { s with refUnread := false, deliveries := [] }
  | some .MAC => s.resetMac (p - 0xB)
  | some .TWN => { s with twin := { s.twin with own := [], peer := [], fresh := [], gotGive := false, switchIn := none, roundOut := [] } }
  | some .CANCH => s.modCan (p - 0x10) (fun x => { x with tx := [], rx := [], sdo := [] })
  | some .SCN => s.resetScn
  | some .LPE => s.resetLpe
  | some .MOT => s.resetMot
  | some .ANG => s.resetAng
  | some .MTR => s.resetMtr
  | some .LFT => s.clearCalls
  | some .FIR => { s with fire := { s.fire with cmd := 0 } }
  | some .CAL => { s with diag := { s.diag with calStage := [] } }
  | some .ECC => { s with diag := { s.diag with scrubPos := 0 } }
  | some .TILE => s.resetTile (p - 0x20)
  | some .CAR => s.resetCar (p - 0x30)
  | some .AXIS => s.resetAxis (p - 0x40)
  | _ => s

end Sys2Proof.Machine
end

