-- ==== Sys2Proof/Machine/RegWrite.lean ====
section
/-! DEFINITION. What a write of a register or of a window word does, page by page: the values its chapter ignores, clamps or
refuses, and the effects that go beyond storing the value. -/

namespace Sys2Proof.Machine

/-- Clamp a signed value. -/
def clampS (lo hi v : Int) : Int := if v < lo then lo else if hi < v then hi else v

/-- A signed field takes its value clamped to a range (R531). -/
def clampSigned (lo hi : Int) (a h l : Nat) (x : Word × State) : Word × State :=
  let n := h + 1 - l
  forceField (ofSigned n (clampS lo hi (toSigned n (getBits x.1 h l)))) a h l x

/-! ## Values that a chapter ignores, clamps or rounds -/

/-- CH_PARAM of an output (R172, R173): its ranges hang on the channel's mode. -/
def adjustParam (t n a : Nat) (x : Word × State) : Word × State :=
  let cfg := x.2.word (chCfgAddr t n)
  let m := getBits cfg 31 28
  if m = ChMode.FAST ∧ getBits cfg 13 12 = 1 then forceField (max 40 (getBits x.1 31 16)) a 31 16 x
  else if m = ChMode.PULSE then forceField (clampN 1 1000 (getBits x.1 15 0)) a 15 0 x
  else if m = ChMode.DOUT then forceField (clampN 1 3600 (getBits x.1 31 16)) a 31 16 (forceField (clampN 100 1000 (getBits x.1 15 0)) a 15 0 x)
  else x

/-- Whether another step axis is bound to the timer that a word names (R278). -/
def State.timerTaken (s : State) (n : Nat) (w : Word) : Bool :=
  (List.range 8).any (fun j => 16 + j != n && s.stepBound (16 + j) && s.stepTimer (16 + j) == getBits w 7 3)

/-- AXIS fields (R258, R265, R272, R277, R278). -/
def adjustAxis (n off a : Nat) (x : Word × State) : Word × State :=
  let s := x.2
  let step := decide (16 ≤ n)
  if off = 0x40 then
    let x := if step then (setBits x.1 29 29 (getBits (s.word a) 29 29), s) else (setBits x.1 15 3 0, s)
    let x := if n < 8 then (setBits x.1 28 28 (getBits (s.word a) 28 28), x.2) else x
    if step then ignoreField (s.timerTaken n x.1) Page.MOT Err.MOT_BIND_INVALID a 7 3 x else x
  else if off = 0x44 then (if step then (0, s) else x)
  else if off = 0x48 then forceField (min (getBits x.1 31 0) (256 * (if n < 8 then 400000 else if n < 16 then 200000 else 250000))) a 31 0 x
  else if off = 0x54 then forceField (clampN 1 (max 1 (s.get (Reg.AXIS_A_MAX n))) (getBits x.1 31 0)) a 31 0 x
  else if off = 0x58 then forceField (max (s.get (Reg.AXIS_STOP_A n)) (getBits x.1 31 0)) a 31 0 x
  else if off = 0x5C then
    let v := getBits x.1 31 16
    forceField (clampN 1000 10000 (v - v % 125)) a 31 16 x
  else if off = 0xD8 ∨ off = 0xE0 then ignoreField (getBits x.1 15 0 == 0) (Page.AXIS n) Err.AXIS_CFG_RANGE a 15 0 x
  else x

/-- CAR and door fields (R283, R286, R315). -/
def adjustCar (n off a : Nat) (x : Word × State) : Word × State :=
  let s := x.2
  if off = 0x40 then
    let x := ignoreField (getBits x.1 31 30 == 3) (Page.CAR n) Err.CAR_CFG_RANGE a 31 30 x
    forceField (max 192 (getBits x.1 15 8)) a 15 8 x
  else if off = 0x244 then forceField (min (getBits x.1 31 16) (min (s.get (Reg.CAR_DZ_UP n)) (s.get (Reg.CAR_DZ_DOWN n)))) a 31 16 x
  else x

/-- MTR fields (R365). -/
def adjustMtr (off a : Nat) (x : Word × State) : Word × State :=
  if off = 0x40 then
    let ok := [1, 2, 3, 4, 5, 6, 10, 12, 15, 20, 30, 60].contains (getBits x.1 23 16)
    let x := ignoreField (!ok) Page.MTR Err.MTR_CFG_RANGE a 23 16 x
    ignoreField (getBits x.1 9 8 == 3) Page.MTR Err.MTR_CFG_RANGE a 9 8 x
  else x

/-- PULSE fields (R377). -/
def adjustPulse (n off a : Nat) (x : Word × State) : Word × State :=
  if off = 0x40 then
    let x := ignoreField (decide (2 ≤ getBits x.1 30 29)) (Page.PULSE n) Err.PULSE_CFG_RANGE a 30 29 x
    forceField (min (getBits x.1 23 18) (if getBits x.1 30 29 = 1 then 7 else 47)) a 23 18 x
  else x

/-- MAC fields (R396, R400, R405); those of MAC_A only are ignored on MAC_B. -/
def adjustMac (n off a : Nat) (x : Word × State) : Word × State :=
  if off = 0x40 then
    let x := ignoreField (getBits x.1 27 26 == 3) (Page.MAC n) Err.MAC_CFG_RANGE a 27 26 x
    if n = 1 then (setBits x.1 31 31 0, x.2) else x
  else if off = 0x4C then (setBits x.1 31 16 0, x.2)
  else if off = 0x50 then
    let v := clampN 256 16384 (getBits x.1 15 0)
    forceField (v - v % 64) a 15 0 x
  else if off % 16 = 4 ∧ (0x100 ≤ off ∧ off < 0x170 ∨ off = 0x184) then forceField (clampN 16 4096 (getBits x.1 12 0)) a 12 0 x
  else x

/-- The word that a write gives, with what its chapter ignores, clamps or rounds. -/
def adjust (a : Nat) (w : Word) (s : State) : Word × State :=
  let x : Word × State := (w, s)
  match windowOf a with
  | some (.slot, off) =>
    if off % 32 = 0x10 then
      let v := getBits w 31 16
      forceField (if v = 0 then 0 else clampN 250 50000 v) a 31 16 x
    else x
  | some _ => x
  | none =>
    let p := a / 4096
    let off := a % 4096
    match pageKind p with
    | some .TBS =>
      if off = 0x60 then ignoreField (decide (127 < getBits w 31 24)) p Err.TBS_CFG_RANGE a 31 24 x
      else if off = 0x64 then clampSigned (-7) 1 a 31 24 (clampSigned (-7) 5 a 23 16 (clampSigned (-3) 4 a 15 8 x))
      else x
    | some .RTC =>
      if off = 0x54 then
        let z := toSigned 16 (getBits w 15 0)
        ignoreField (decide (z < -720) || decide (840 < z) || z % 15 != 0) p Err.RTC_CFG_RANGE a 15 0 x
      else x
    | some .ANG => if 0x400 ≤ off ∧ off < 0x800 then forceField (min 47 (getBits w 15 10)) a 15 10 x else x
    | some .TILE =>
      if 0x200 ≤ off ∧ off < 0x280 then adjustParam (p - 0x20) ((off - 0x200) / 4) a x
      else if 0x280 ≤ off ∧ off < 0x300 then ignoreField (getBits w 1 0 == 3) p Err.TILE_CFG_RANGE a 1 0 x
      else x
    | some .SCN =>
      if off = 0x4C then
        let v := clampN 250 1000000 (getBits w 31 0)
        forceField (v - v % 250) a 31 0 x
      else if off = 0x50 then
        let v := min (getBits w 31 0) (s.get Reg.SCN_CYCLE_US - 250)
        forceField (v - v % 250) a 31 0 x
      else x
    | some .AXIS => adjustAxis (p - 0x40) off a x
    | some .CAR => adjustCar (p - 0x30) off a x
    | some .MTR => adjustMtr off a x
    | some .CIRC =>
      if off = 0x40 then forceField (min 47 (getBits w 23 18)) a 23 18 (forceField (min 47 (getBits w 17 12)) a 17 12 (forceField (min 47 (getBits w 11 6)) a 11 6
        (if getBits w 31 30 = 1 then forceField (min 2 (getBits w 28 27)) a 28 27 x else x)))
      else x
    | some .PULSE => adjustPulse (p - 0x90) off a x
    | some .PGD =>
      if 0x400 ≤ off ∧ 0x10 ≤ (off - 0x400) % 48 ∧ off < 0x1000 then
        let e := getBits w 10 0
        let x := ignoreField (e == 0 || decide (1440 < e)) p Err.PGD_CFG_INVALID a 10 0 x
        forceField (min 1439 (getBits x.1 21 11)) a 21 11 x
      else x
    | some .MAC => adjustMac (p - 0xB) off a x
    | some .CANCH => if off = 0x44 then forceField (max 1 (getBits w 22 15)) a 22 15 x else x
    | some .SAF => if 0x400 ≤ off ∧ off < 0x500 then forceField (min 500 (getBits w 15 0)) a 15 0 x else x
    | some .EVR =>
      if 0x400 ≤ off ∧ off < 0xA00 ∧ (off - 0x400) % 96 = 0 then ignoreField (decide (16 < getBits w 12 8)) p Err.EVR_CFG_RANGE a 12 8 x else x
    | _ => x

/-! ## Words whose writes are ignored as a whole -/

/-- Why a write of a word is ignored: silently, or with an error bit of a page, and then with E_STATE where it is refused. -/
inductive Ignored where
  | silent
  | error (page bit : Nat)
  | refused (page bit : Nat)
deriving DecidableEq, Repr

/-- A host may write a ring of a MAC only as supervisory firmware, and its BASE and LEN only while EN is clear (R398,
R412). -/
def State.ringIgnored (s : State) (r : Requester) (p off : Nat) (w : Word) : Option Ignored :=
  let inTx := decide (0x100 ≤ off) && decide (off < 0x170)
  let inRx := decide (0x180 ≤ off) && decide (off < 0x190)
  if !(inTx || inRx) then none
  else if isSession r then some (.error p Err.NO_RIGHT)
  else
    let b := 4096 * p + off - off % 16
    let en := getBits (s.word (b + 4)) 31 31 == 1
    if en && ((off % 16 == 0 && w != s.word (b + 0)) || (off % 16 == 4 && getBits w 12 0 != getBits (s.word (b + 4)) 12 0)) then
      some (.error p Err.MAC_RING_INVALID)
    else none

/-- Whether an owner session or the supervisory firmware asks (R77, R115, R139). -/
def State.ownerOrFirmware (s : State) (r : Requester) : Bool :=
  match r with
  | .firmware => true
  | .session _ => (s.creds r).tag == 0
  | _ => false

/-- Whether a write of a word is ignored as a whole. -/
def State.ignored (s : State) (r : Requester) (a : Nat) (w : Word) : Option Ignored :=
  match windowOf a with
  | some (.segment, off) =>
    let n := off / 32
    if s.get Reg.MOT_PLAN_BASE ≤ n then some (.error Page.MOT Err.MOT_POOL_WR)
    else if s.get (Reg.SEG_STATE n) = 1 ∨ s.get (Reg.SEG_STATE n) = 2 then some (.error Page.MOT Err.MOT_SEG_BUSY)
    else none
  | some (.slot, off) =>
    if s.get (Reg.SLOT_STATE (off / 32)) = SlotState.COMMITTED ∧ off % 32 ≠ 0 then some (.error Page.ANG Err.ANG_SLOT_BUSY) else none
  | some _ => none
  | none =>
    let p := a / 4096
    let off := a % 4096
    match pageKind p with
    | some .TBS => if off = 0x50 ∧ s.ownerOrFirmware r = false then some (.error p Err.NO_RIGHT) else none
    | some .KEY => if off = 0x40 ∧ s.mayLockOwner r (getBits w 0 0 == 1) = false then some (.error p Err.NO_RIGHT) else none
    | some .ATB => if off = 0x40 ∧ s.get Reg.FIR_MODE = FireMode.ENDURANCE then some (.error p Err.NO_RIGHT) else none
    | some .MOT =>
      if off = 0x40 ∧ (List.range 24).any (fun n => s.get (Reg.AXIS_STATE n) == AxState.MOVING || s.get (Reg.AXIS_STATE n) == AxState.STOPPING) = true then
        some (.error Page.MOT Err.MOT_SEG_BUSY) else none
    | some .TILE =>
      let t := p - 0x20
      if (0x100 ≤ off ∧ off < 0x180 ∧ s.flag (Reg.TILE_SAFETY t ((off - 0x100) / 4)) = true)
        ∨ (0x200 ≤ off ∧ off < 0x280 ∧ s.flag (Reg.TILE_SAFETY t ((off - 0x200) / 4)) = true)
        ∨ (0x280 ≤ off ∧ off < 0x300 ∧ s.flag (Reg.TILE_SAFETY t ((off - 0x280) / 4)) = true) then some .silent else none
    | some .CIRC => if off = 0x40 ∧ s.circOn (p - 0x60) = true then some (.error p Err.CIRC_CFG_BUSY) else none
    | some .MTR =>
      if 0x100 ≤ off ∧ off < 0x280 ∧ off % 8 = 0 ∧ s.inputUsed ((off - 0x100) / 8) = true then some (.error p Err.MTR_CFG_BUSY) else none
    | some .CANCH =>
      if 0x44 ≤ off ∧ off ≤ 0x4C ∧ s.flag (Reg.HDR_ENABLE p) = true then some (.error p Err.CANCH_CFG_BUSY) else none
    | some .CAR =>
      if ((0x80 ≤ off ∧ off ≤ 0x90) ∨ (0x400 ≤ off ∧ off < 0x900 ∧ off % 8 = 0)) ∧ s.get (Reg.CAR_MODE (p - 0x30)) ≠ CarMode.OUT_OF_SERVICE then
        some (.refused p Err.CAR_CMD_REFUSED) else none
    | some .MAC =>
      if p = 0xC ∧ 0x500 ≤ off ∧ off < 0x520 then some .silent else s.ringIgnored r p off w
    | _ => none

/-! ## Effects of register writes, by page -/

/-- A change of the port enables of BLT_CFG (R111). -/
def endPorts (before : Word) (s : State) : State :=
  let after := s.word (Reg.SYS_EN_A).addr
  let off := fun (b : Nat) => getBits before b b == 1 && getBits after b b == 0
  let gone := fun (p : Port) => match p with | .A => off 0 | .B => off 1 | .MNT => off 2
  (s.sessions.filter (fun (e : Nat × Session) => !e.2.sc && gone e.2.lastReq)).foldl (fun (s : State) (e : Nat × Session) => s.endSession e.1) s

/-- PTP_CFG: a port whose enable has changed starts afresh, and both listen again in another domain; the BMCA judges by the clock type
as it now is (R116). -/
def writePtpCfg (a : Nat) (w : Word) (s : State) : State :=
  let on := fun (s : State) (b : Nat) => getBits (s.word a) 0 0 == 1 && getBits (s.word a) b b == 1
  let t := plainWrite a w s
  let moved := s.get Reg.TBS_DOMAIN != t.get Reg.TBS_DOMAIN
  let t := if on s 6 != on t 6 then t.ptpReinit .A else if moved then t.ptpRelisten .A else t
  let t := if on s 7 != on t 7 then t.ptpReinit .B else if moved then t.ptpRelisten .B else t
  if t.word a = s.word a then t else t.bmca

/-- RTC_STAT: clearing OSF, which is for an owner session or the supervisory firmware, arms the capture, and so does a write
of 1 to SWO_VALID (R139, R140). Another requester's write of OSF is ignored with NO_RIGHT, as R115's and R77's are. -/
def writeRtcStat (r : Requester) (w : Word) (s : State) : State :=
  let s := if getBits w 0 0 = 1 then (if s.ownerOrFirmware r then s.clearOsf else s.err Page.RTC Err.NO_RIGHT) else s
  if getBits w 5 5 = 1 then s.clearSwo else s

/-- The settings of a tile go to it with its next configuration (R180). -/
def State.sendCtl (t : Nat) (s : State) : State := s.modTile t (fun x => { x with ctlSend := true })

/-- TILE registers (R163 to R194). -/
def writeTile (t off a : Nat) (w : Word) (s : State) : Nat × State :=
  if off = 0x40 then
    let s := plainWrite a w s
    (Status.OK, (if getBits w 2 2 = 1 then s.orderGoSafe t else s).sendCtl t)
  else if off = 0x44 then (Status.OK, (plainWrite a w s).sendCtl t)
  else if off = 0x5C then (Status.OK, hostOut t w s)
  else if off = 0x80 then (Status.OK, if getBits w 0 0 = 1 then safeTableCommit t s else s)
  else if off = 0x84 then (Status.OK, writePulseReq t w s)
  else if 0x100 ≤ off ∧ off < 0x180 then (Status.OK, (writeChCfg t ((off - 0x100) / 4) w s).storeConfig a)
  else if 0x180 ≤ off ∧ off < 0x200 then (Status.OK, clearChStat t ((off - 0x180) / 4) (getBits w 15 7) (plainWrite a w s))
  else if 0x200 ≤ off ∧ off < 0x280 then
    let n := (off - 0x200) / 4
    (Status.OK, (plainWrite a w s).modTile t (fun x => { x with cfgSend := x.cfgSend.filter (· != n) ++ [n] }))
  else if 0x600 ≤ off ∧ off < 0x640 ∧ off % 16 = 8 then
    let s := plainWrite a w s
    (Status.OK, if getBits w 30 30 = 1 then clearUnderrun t ((off - 0x600) / 16) s else s)
  else if 0x600 ≤ off ∧ off < 0x640 ∧ off % 16 < 8 then (Status.OK, (plainWrite a w s).sendCtl t)
  else (Status.OK, plainWrite a w s)

/-- SCN registers (R197, R219). BREAK_EN cannot be set in a fire mode or in a pair (R513, R515). -/
def writeScn (r : Requester) (off a : Nat) (w : Word) (s : State) : Nat × State :=
  if off = 0x44 then viaAnswer (scnCmd (getBits w 3 0)) s
  else if off = 0x64 ∧ getBits w 31 31 = 1 ∧ s.inPair = true then (Status.E_STATE, s)
  else if off = 0x64 ∧ getBits w 31 31 = 1 ∧ s.get Reg.FIR_MODE ≠ 0 then viaAnswer State.notReady s
  else if 0x800 ≤ off ∧ off % 16 = 4 then viaAnswer (forceWrite r ((off - 0x800) / 16) w) s
  else (Status.OK, plainWrite a w s)

/-- MOT registers (R261, R269, R274). -/
def writeMot (off a : Nat) (w : Word) (s : State) : Nat × State :=
  if off = 0x54 then (Status.OK, stopAll w s)
  else if 0x60 ≤ off ∧ off < 0x80 then (Status.OK, (writeGrpCfg ((off - 0x60) / 4) w s).storeConfig a)
  else if off = 0x80 then viaAnswer (grpCmd (getBits w 2 0) (getBits w 7 4)) s
  else (Status.OK, plainWrite a w s)

/-- AXIS registers (R266, R272, R293). -/
def writeAxis (n off a : Nat) (w : Word) (s : State) : Nat × State :=
  if off = 0x74 then viaAnswer (hostAxisCmd n (getBits w 3 0)) s
  else if off = 0x78 then viaAnswer (hostChainHead n (w &&& 0xFFF)) s
  else if off = 0xF0 then viaAnswer (gearCmd n (getBits w 1 0)) s
  else (Status.OK, plainWrite a w s)

/-- A change of an encoder setting clears LEARNED (R288). -/
def unlearn (n : Nat) (s : State) : State :=
  { (s.setFlag (Reg.CAR_LEARNED n) false) with cfgStore := KV.del s.cfgStore (Reg.CAR_LEARNED n).addr }

/-- CAR registers (R286 to R293, R308, R323). A write to ENC, GRAY, DIR_INV, SSI_BITS, ENC_SCALE or ENC_OFS clears
LEARNED. -/
def writeCar (n off a : Nat) (w : Word) (s : State) : Nat × State :=
  if off = 0x7C then viaAnswer (carCmd n (getBits w 3 0)) s
  else if off = 0x250 then viaAnswer (doorCmd n (getBits w 3 0) (getBits w 4 4 == 1)) s
  else if off = 0x40 ∨ off = 0x44 ∨ off = 0x48 then (Status.OK, unlearn n (plainWrite a w s))
  else if off = 0x248 ∨ off = 0x24C then (Status.OK, ((plainWrite a w s).deriveDoor n).judgeDoorV n)
  else if 0x200 ≤ off ∧ off < 0x300 then (Status.OK, (plainWrite a w s).deriveDoor n)
  else (Status.OK, plainWrite a w s)

/-- MTR registers (R358, R364): a rating changes S_MAX; EN of an aggregate is checked. -/
def writeMtr (off a : Nat) (w : Word) (s : State) : Nat × State :=
  if 0x100 ≤ off ∧ off < 0x280 ∧ off % 8 = 0 then
    let k := (off - 0x100) / 8
    let s := plainWrite a w s
    (Status.OK, foldN 48 (fun n (s : State) => if (s.circInputs n).contains k then s.showSMax n else s) s)
  else if 0x280 ≤ off ∧ off < 0x300 ∧ off % 16 = 0 then
    let g := (off - 0x280) / 16
    let was := getBits (s.word a) 31 31
    if getBits w 31 31 = 1 then
      let s := plainWrite a (setBits w 31 31 was) s
      let (e, s) := viaAnswer (aggEnable g) s
      (e, s.storeConfig a)
    else (Status.OK, plainWrite a w s)
  else (Status.OK, plainWrite a w s)

/-- FIR registers (R495, R497): a fire input names a BOOL point of tag 0. -/
def writeFir (r : Requester) (off a : Nat) (w : Word) (s : State) : Nat × State :=
  if off = 0x4C then viaAnswer (fireCmd r (getBits w 31 16) (getBits w 2 0)) s
  else if 0x100 ≤ off ∧ off < 0x140 ∧ getBits w 31 31 = 1
      ∧ ¬ (s.get (Reg.PT_TAG (getBits w 12 0)) = 0 ∧ s.get (Reg.PT_TYPE (getBits w 12 0)) = 1) then
    (Status.E_STATE, s.err Page.FIR Err.FIR_CFG_INVALID)
  else (Status.OK, plainWrite a w s)

/-- MAC registers (R399, R405). -/
def writeMac (n off a : Nat) (w : Word) (s : State) : Nat × State :=
  if off = 0x200 then (if getBits w 0 0 = 1 then viaAnswer (gclCommit n) s else (Status.OK, s))
  else if off = 0x40 ∨ off = 0x204 then (Status.OK, (plainWrite a w s).showGates n)
  else if off % 16 = 8 ∧ ((0x100 ≤ off ∧ off < 0x170) ∨ off = 0x188) then
    (Status.OK, tailWritten n (if off = 0x188 then 7 else (off - 0x100) / 16) (plainWrite a w s))
  -- a ring that is enabled takes what its TAIL has handed over
  else if off % 16 = 4 ∧ 0x100 ≤ off ∧ off < 0x170 then (Status.OK, tailWritten n ((off - 0x100) / 16) (plainWrite a w s))
  else (Status.OK, plainWrite a w s)

/-- CAN page: a fuse whose enable is cleared opens (R32). -/
def writeFuses (a : Nat) (w : Word) (s : State) : State :=
  (plainWrite a w s).openDisabled

/-- ENABLE of a car's page follows its bit of CAR_MAP (R2, R282); `was` says which pages ran before. -/
def State.carMapped (was : Nat → Bool) (n : Nat) (s : State) : State :=
  let p := Page.CAR n
  if was p = s.roleRuns p then s else s.showEnable p (s.roleRuns p && (s.storedEnable p).getD true)

/-- A write of a block-specific register, once its value has been adjusted. -/
def writeReg (r : Requester) (k : PageKind) (p a : Nat) (w : Word) (s : State) : Nat × State :=
  let off := a % 4096
  let plain : Nat × State := (Status.OK, plainWrite a w s)
  match k with
  | .SYS => if off = 0x84 then (Status.OK, endPorts (s.word a) (plainWrite a w s)) else plain
  | .RST =>
    if off = 0x48 then viaAnswer (rstCmdWrite r (getBits w 31 16) (getBits w 2 0)) s
    else if off = 0x5C then
      let s := if getBits w 2 2 = 1 then tackExit s else s
      (Status.OK, if getBits w 0 0 = 1 then startOk s else s)
    else plain
  | .PWR => if off = 0x54 then (Status.OK, if getBits w 0 0 = 1 then (plainWrite a w s).powerWarn true else plainWrite a w s) else plain
  | .RTC =>
    if off = 0x50 then
      (match getBits w 1 0 with
        | 1 => rtcCommit s
        | 2 => dstCommand .add s
        | 3 => dstCommand .sub s
        | _ => (Status.OK, s))
    else if off = 0x5C then (Status.OK, writeRtcStat r w s)
    else plain
  | .TBS => if off = 0x60 then (Status.OK, writePtpCfg a w s) else if off = 0x68 then (Status.OK, (plainWrite a w s).bmca) else plain
  | .FIO =>
    if off = 0x40 then (Status.OK, foldN 8 State.sendCtl (if getBits w 1 1 = 1 then (plainWrite a w s).orderGoSafeAll else plainWrite a w s))
    else if 0xA0 ≤ off ∧ off < 0xC0 then (Status.OK, hostOut ((off - 0xA0) / 4) w s)
    else plain
  | .TILE => writeTile (p - 0x20) off a w s
  | .SCN => writeScn r off a w s
  | .LPE =>
    if off = 0x40 then viaAnswer (applyWrite r (getBits w 7 0) (getBits w 30 30 == 1) (getBits w 31 31 == 1)) s
    else if off = 0x44 then viaAnswer (modeCmd (getBits w 7 0) (getBits w 9 8)) s
    else plain
  | .MOT => writeMot off a w s
  | .AXIS => writeAxis (p - 0x40) off a w s
  | .LFT =>
    if off = 0x80 then (Status.OK, callIdxWrite (getBits w 11 0) s)
    else if off = 0x40 then (Status.OK, foldN 8 (State.carMapped s.roleRuns) (plainWrite a w s))
    else plain
  | .CAR => writeCar (p - 0x30) off a w s
  | .MTR => writeMtr off a w s
  | .CIRC => if off = 0x40 then (Status.OK, (plainWrite a w s).showSMax (p - 0x60)) else plain
  | .PGD => if off = 0x60 then (Status.OK, sessIdxWrite (getBits w 8 0) s) else plain
  | .MAC => writeMac (p - 0xB) off a w s
  | .CAN => if off = 0x40 then (Status.OK, writeFuses a w s) else plain
  | .CANCH =>
    if off = 0x50 then viaAnswer (canCmd (p - 0x10) (getBits w 2 0)) s
    else if off = 0x60 then (Status.OK, rxAck (p - 0x10) (getBits w 6 0) s)
    else plain
  | .KEY =>
    if off = 0x40 then (Status.OK, writeOwnerLock r (getBits w 0 0 == 1) s)
    else if off = 0x58 then (Status.OK, writeHandleSel (getBits w 10 0) s)
    else plain
  | .TWN =>
    if off = 0x58 then viaAnswer (twnCmd (getBits w 1 0)) s
    else if off = 0x40 then
      let t := plainWrite a w s
      (Status.OK, if s.flag Reg.TWN_EN && !t.flag Reg.TWN_EN then t.twinOff else t)
    else plain
  | .FIR => writeFir r off a w s
  | .ATB => if off = 0x40 then (Status.OK, atbSelect w s) else plain
  | .CLK | .BKP | .EVR | .UPD | .ANG | .SAF | .PULSE | .CAL | .ECC => plain

/-- Word 0 of an event slot: its fields, which a COMMITTED slot does not take (R148), and its CMD. -/
def writeSlotWord (n a : Nat) (w : Word) (s : State) : Nat × State :=
  let c := getBits w 13 12
  let m := accMask isRwl a
  let s := if s.get (Reg.SLOT_STATE n) ≠ SlotState.COMMITTED then
      let t := plainWrite a w s
      if s.flag (Reg.SLOT_NEXT n) then t else t.slotRenew n
    else if c = 0 ∨ (w &&& m) ≠ (s.word a &&& m) then s.err Page.ANG Err.ANG_SLOT_BUSY else s
  if c = 0 then (Status.OK, s) else viaAnswer (slotCmd n c) s

/-- A write of a window word. -/
def writeWindow (r : Requester) (k : WindowKind) (off a : Nat) (w : Word) (s : State) : Nat × State :=
  match k with
  | .point =>
    if off % 32 = 0 then ownedBy r (off / 32) (writeValue (s.creds r) (off / 32) w Qual.GOOD s) else writePtConfig (off / 32) (off % 32 / 4) w s
  | .program => progWindowWrite (off / 4) w s
  | .scanData => dataWindowWrite (off / 4) w s
  | .slot => if off % 32 = 0 then writeSlotWord (off / 32) a w s else (Status.OK, plainWrite a w s)
  | .loop | .segment | .record => (Status.OK, plainWrite a w s)

/-! ## Wide values (R87) -/

/-- The value that a low-word write commits: the staged higher words, and the present ones where none is staged. -/
def State.wideWords (s : State) (r : Requester) (b n : Nat) (w : Word) : List Word :=
  w :: (List.range (n - 1)).map (fun i =>
    let a := b + 4 * (i + 1)
    match s.staged.find? (fun (e : Requester × Nat × Word) => e.1 == r && e.2.1 == a) with
    | some e => e.2.2
    | none => s.word a)

/-- The requester's staged words of a value go. -/
def State.unstageWide (s : State) (r : Requester) (b n : Nat) : State :=
  { s with staged := s.staged.filter (fun (e : Requester × Nat × Word) => !(e.1 == r && decide (b ≤ e.2.1) && decide (e.2.1 < b + 4 * n))) }

/-- The commit of a wide value. -/
def commitWide (r : Requester) (b n : Nat) (w : Word) (s : State) : Nat × State :=
  let ws := s.wideWords r b n w
  let s := s.unstageWide r b n
  if b = 0x6050 then
    commitTime (ws.getD 0 0) (ws.getD 1 0) (ws.getD 2 0) (ws.getD 3 0) s
  else if 0x40000 ≤ b ∧ b < 0x58000 ∧ b % 4096 = 0x6C then
    viaAnswer (hostTarget (b / 4096 - 0x40) (toSigned 64 ((ws.getD 0 0).toNat + 2 ^ 32 * (ws.getD 1 0).toNat))) s
  else
    let ws := if 0x90000 ≤ b ∧ b < 0xA0000 ∧ ws.all (· == 0) then [1, 0] else ws
    let s := if ws.getD 0 0 = w then s else s.rangeErr b
    let ws := if b = 0xE050 ∨ b = 0xB048 ∨ b = 0xC048 then [ws.getD 0 0, ws.getD 1 0 &&& 0xFFFF] else ws
    let s := (List.range n).foldr (fun i (s : State) => plainWrite (b + 4 * i) (ws.getD i 0) s) s
    (Status.OK, if 0x06000000 ≤ b ∧ b < 0x06008000 then s.slotRenew ((b - 0x06000000) / 32) else s)

/-- A higher word is staged for its requester. TARGET_HI of a car's axis is refused as TARGET_LO is (R293). -/
def stageWide (r : Requester) (a : Nat) (w : Word) (s : State) : Nat × State :=
  let n := a / 4096 - 0x40
  if 0x40000 ≤ a ∧ a < 0x58000 ∧ a % 4096 = 0x70 ∧ s.carAxis n = true ∧ s.hostMoves n = false then viaAnswer (fun (s : State) => s.carRefuse (n % 8)) s
  else
    let s := { s with staged := s.staged.filter (fun (e : Requester × Nat × Word) => !(e.1 == r && e.2.1 == a)) }
    (Status.OK, { s with staged := (r, a, w) :: s.staged })

/-! ## The common header (R75 to R79) -/

/-- FREEZE of a page (R79). -/
def setFreeze (p : Nat) (v : Bool) (s : State) : State :=
  if s.flag (Reg.HDR_FREEZE p) = v then s
  else if v then { (s.setFlag (Reg.HDR_FREEZE p) true) with frozen := KV.put s.frozen p (s.freezeWords p) }
  else { (s.setFlag (Reg.HDR_FREEZE p) false) with frozen := KV.del s.frozen p }

/-- ENABLE is kept by the configuration store (R66). -/
def State.storeEnable (s : State) (p : Nat) (v : Bool) : State :=
  { s with cfgStore := KV.put s.cfgStore (4096 * p + 0x00C) (BitVec.ofNat 32 (b2n v)) }

/-- ENABLE of a page (R2, R359, R377, R415). -/
def setEnable (p : Nat) (v : Bool) (s : State) : Nat × State :=
  let on := s.flag (Reg.HDR_ENABLE p)
  match pageKind p with
  | none => (Status.OK, s)
  | some k =>
    if v = on then (Status.OK, s)
    else
      let (e, s) : Nat × State :=
        if !v then (Status.OK, if k = .CANCH then canEnable (p - 0x10) false s else s.showEnable p false)
        else if k = .CIRC then viaAnswer (circEnable (p - 0x60)) s
        else if k = .PULSE then viaAnswer (pulseEnable (p - 0x90)) s
        else if k = .CANCH then (Status.OK, canEnable (p - 0x10) true s)
        else if roleGated k && !s.roleRuns p then (Status.OK, s.err p Err.ROLE_OFF)
        else (Status.OK, s.showEnable p true)
      (e, if s.flag (Reg.HDR_ENABLE p) = v then s.storeEnable p v else s)

/-- LOCK of a page (R77): any requester with WRITE and CONFIG sets it; an owner session or the firmware clears it. -/
def setLock (r : Requester) (p : Nat) (v : Bool) (s : State) : State :=
  if s.flag (Reg.HDR_LOCK p) = v then s
  else if v then s.setFlag (Reg.HDR_LOCK p) true
  else if s.ownerOrFirmware r then s.setFlag (Reg.HDR_LOCK p) false
  else s.err p Err.NO_RIGHT

/-- SOFT_RESET of a page (R78): its engine, and the fields whose Reset column reads BLOCK. LOCK and ENABLE stay, and the
engine runs again at once. -/
def softReset (p : Nat) (s : State) : State :=
  if p = Page.SAF then s.err p Err.NO_RIGHT
  else
    let on := s.flag (Reg.HDR_ENABLED p)
    let s := if p = Page.EVR ∧ s.flag (Reg.HDR_FREEZE p) = true then s.unfreezeEvr else s
    let s := (s.resetEngine p).resetBlock p
    s.setFlag (Reg.HDR_ENABLED p) on

/-- BLK_CTL. -/
def writeCtl (r : Requester) (p : Nat) (w : Word) (s : State) : Nat × State :=
  let s := setLock r p (getBits w 3 3 == 1) s
  let (e1, s) : Nat × State := if p = Page.EVR then evrFreeze r (getBits w 2 2 == 1) s else (Status.OK, setFreeze p (getBits w 2 2 == 1) s)
  let (e2, s) := setEnable p (getBits w 0 0 == 1) s
  let s := if getBits w 1 1 = 1 then softReset p s else s
  (if e2 = Status.OK then e1 else e2, s.eccClean (4096 * p + 0x00C))

/-- IRQ_FORCE sets bits of IRQ_STAT (R82). -/
def forceIrq (p : Nat) (w : Word) (s : State) : State := foldN 32 (fun b (s : State) => if bitOf w.toNat b then s.irq p b else s) s

/-- A write of a header word. -/
def writeHeader (r : Requester) (p a : Nat) (w : Word) (s : State) : Nat × State :=
  if a % 4096 = 0x00C then writeCtl r p w s
  else if a % 4096 = 0x01C then (Status.OK, forceIrq p w s)
  else (Status.OK, plainWrite a w s)

/-! ## A write of one word -/

/-- A 32-bit write that is taken replaces the word and ends its ECC mark (R88). -/
def replaced (a : Nat) (x : Nat × State) : Nat × State := if x.1 = Status.OK then (x.1, x.2.eccClean a) else x

/-- A write, once the guard has let it through and LOCK has been applied to its RWL fields. -/
def writeOpen (r : Requester) (p a : Nat) (w : Word) (s : State) : Nat × State :=
  match s.ignored r a w with
  | some .silent => (Status.OK, s)
  | some (.error q b) => (Status.OK, s.err q b)
  | some (.refused q b) => (Status.E_STATE, s.err q b)
  | none =>
    match wideAt a with
    | some (b, n) => if a = b then (List.range n).foldl (fun x i => replaced (b + 4 * i) x) (commitWide r b n w s) else stageWide r a w s
    | none =>
      let (w, s) := adjust a w s
      match windowOf a with
      | some (k, off) =>
        -- a point's VALUE and an event slot's word are replaced where they are set
        if k = .point ∨ k = .slot then writeWindow r k off a w s else replaced a (writeWindow r k off a w s)
      | none => match pageKind p with
        | some k => replaced a (writeReg r k p a w s)
        | none => (Status.OK, s)

/-- A write of one word (R77, R80, R85): the status before W_IGNORED, and the state. -/
def writeRaw (r : Requester) (a : Nat) (w : Word) (s : State) : Nat × State :=
  match ownerPage a with
  | none => (Status.OK, s)
  | some p =>
    let rwl := accMask isRwl a
    let other := accMask isPlain a
    if rowsAt a = [] then (Status.OK, s.err p Err.RSVD_ACC)
    else if rwl = 0 ∧ other = 0 then (Status.OK, s.err p Err.RO_WR)
    else if a < 0xA0000 ∧ a % 4096 < 0x040 then writeHeader r p a w s
    else if s.flag (Reg.HDR_LOCK p) = true ∧ rwl ≠ 0 then
      let s := s.err p Err.LOCKED_WR
      if other = 0 then (Status.OK, s) else writeOpen r p a ((w &&& ~~~ rwl) ||| (s.word a &&& rwl)) s
    else writeOpen r p a w s

/-- A write of one word, with W_IGNORED where it set an ERR_STAT bit and no other status is due (R105). -/
def writeWord (r : Requester) (a : Nat) (w : Word) (s : State) : Nat × State :=
  let (e, s) := writeRaw r a w { s with errSet := false }
  (if e = Status.OK ∧ s.errSet = true then Status.W_IGNORED else e, s)

/-- A one-word write with its checks and its answer. -/
def busWrite (r : Requester) (a : Nat) (w : Word) (s : State) : State :=
  match s.bar r a (some w) false with
  | some t => t
  | none => if s.mntBars r (ownerPage a) then s.failAt r Status.E_STATE 0xFFFFFFFF else State.answered (writeWord r a w s)

end Sys2Proof.Machine
end

