-- ==== Sys2Proof/Machine/Registers.lean ====
section
/-! DEFINITION. The rows of the register pages: one access to one register by one requester (R2, R10, R64, R65, R77 to R87,
R115, R119). -/

namespace Sys2Proof.Machine

/-- Whether a requester can make an access now: the bus runs from the release of SYS; a session must stand in the table; the
cores, the engines and BACnet/IP run with the APP domain, and a halted core makes none (R47). -/
def State.reaches (s : State) (r : Requester) : Bool :=
  !s.sysHeld && (match r with
    | .session n => (KV.get? s.sessions n.val).isSome && s.appUp
    | .firmware => true
    | .core n | .coreNarrow n => s.appUp && s.coreMhz n.val != 0
    | _ => s.appUp)

/-- An access that has an effect only where its requester can make it. -/
def State.access (s : State) (r : Requester) (g : State → State) : State := if s.reaches r then g s else s

/-- REGISTER_WRITE: a write of one word. -/
def execRegisterWrite (r : Requester) (a w : Word) (s : State) : Out State := .next (s.access r (busWrite r a.toNat w))

/-- Whether a word holds an RC field. -/
def holdsRc (a : Nat) : Bool := (rowsAt a).any (fun (f : FieldSpec) => f.acc == .rc)

/-- READ_CLEAR: a read of a word that holds RC fields. -/
def execReadClear (r : Requester) (a : Word) (s : State) : Out State :=
  .next (if holdsRc a.toNat then s.access r (busRead r a.toNat) else s)

/-- Whether an address is that of the low word of a wide value. -/
def isWideLow (a : Nat) : Bool := (wideAt a).elim false (fun (g : Nat × Nat) => g.1 == a)

/-- WIDE_LOW_READ. -/
def execWideLowRead (r : Requester) (a : Word) (s : State) : Out State :=
  .next (if isWideLow a.toNat then s.access r (busRead r a.toNat) else s)

/-- WIDE_LOW_WRITE. -/
def execWideLowWrite (r : Requester) (a w : Word) (s : State) : Out State :=
  .next (if isWideLow a.toNat then s.access r (busWrite r a.toNat w) else s)

/-- The address of a page's BLK_CTL. -/
abbrev ctlAddr (p : Nat) : Nat := 4096 * p + 0x00C

/-- A write of BLK_CTL that changes one bit of it and writes the others as they stand. -/
def ctlWrite (r : Requester) (p b : Nat) (v : Bool) (s : State) : State :=
  s.access r (fun (s : State) => busWrite r (ctlAddr p) (setBits (s.word (ctlAddr p)) b b (b2n v)) s)

/-- ENABLE_WRITE. -/
def execEnableWrite (r : Requester) (p : Fin 160) (v : Bool) (s : State) : Out State := .next (ctlWrite r p.val 0 v s)

/-- LOCK_WRITE. -/
def execLockWrite (r : Requester) (p : Fin 160) (v : Bool) (s : State) : Out State := .next (ctlWrite r p.val 3 v s)

/-- SOFT_RESET. -/
def execSoftReset (r : Requester) (p : Fin 160) (s : State) : Out State := .next (ctlWrite r p.val 1 true s)

/-- FREEZE_WRITE. -/
def execFreezeWrite (r : Requester) (p : Fin 160) (v : Bool) (s : State) : Out State := .next (ctlWrite r p.val 2 v s)

/-- FREEZE_TIMEOUT: 100 ms of FREEZE. The recorder's FREEZE has a limit of its own (R469). -/
def execFreezeTimeout (p : Fin 160) (s : State) : Out State :=
  .next (if p.val ≠ Page.EVR ∧ pageKind p.val ≠ none ∧ s.flag (Reg.HDR_FREEZE p.val) = true then (setFreeze p.val false s).err p.val Err.FRZ_TMO else s)

/-- IRQ_FORCE. -/
def execIrqForce (r : Requester) (p : Fin 160) (w : Word) (s : State) : Out State :=
  .next (s.access r (busWrite r (4096 * p.val + 0x01C) w))

/-- START_OK. -/
def execStartOk (r : Requester) (s : State) : Out State := .next (s.access r (busWrite r 0x105C 1))

/-- TACK_EXIT. -/
def execTackExit (r : Requester) (s : State) : Out State := .next (s.access r (busWrite r 0x105C 4))

/-- SET_TIME_COMMIT: the write of SET_0. -/
def execSetTimeCommit (r : Requester) (w0 : Word) (s : State) : Out State := .next (s.access r (busWrite r 0x6050 w0))

/-- STEP_ARM_WRITE: PTP_CFG written with its other fields as they stand. -/
def execStepArmWrite (r : Requester) (v : Bool) (s : State) : Out State :=
  .next (s.access r (fun (s : State) => busWrite r 0x6060 (setBits (s.word 0x6060) 8 8 (b2n v)) s))

end Sys2Proof.Machine
end

