-- ==== Sys2Proof/Machine/Billet.lean ====
section
/-! DEFINITION. The operations of Billet (R98 to R105, R109, R530): the checks of R104 from step 4 on, and what each operation
does. -/

namespace Sys2Proof.Machine

/-! ## READ, WRITE and MODIFY (R98, R99) -/

/-- READ. -/
def execRead (r : Requester) (a : Word) (s : State) : Out State := .next (s.access r (busRead r a.toNat))

/-- WRITE. -/
def execWrite (r : Requester) (a w : Word) (s : State) : Out State := .next (s.access r (busWrite r a.toNat w))

/-- The word that MODIFY writes. -/
def modified (old mask v : Word) : Word := (old &&& ~~~ mask) ||| (v &&& mask)

/-- The checks of MODIFY, steps 4 to 7. -/
def modifyChecks (r : Requester) (a : Nat) (mask v : Word) (s : State) : Option State :=
  s.bar r a (some (modified (s.readAs r a) mask v)) true

/-- MODIFY, once checked: a write its block refuses leaves no trace of the read. -/
def modifyRun (r : Requester) (a : Nat) (mask v : Word) (s : State) : State :=
  if s.mntBars r (ownerPage a) then s.failAt r Status.E_STATE 0xFFFFFFFF
  else if s.badWord a then s.eccFail r a
  else
    let (old, t) := readWord r a s
    let new := modified old mask v
    let (e, u) := writeWord r a new t
    if e = Status.OK ∨ e = Status.W_IGNORED then u.answer e [old] else State.answered (writeWord r a new s)

/-- An operation: its checks, then its effect. -/
def checked (check : State → Option State) (run : State → State) (s : State) : State :=
  match check s with
  | some t => t
  | none => run s

/-- MODIFY. -/
def execModify (r : Requester) (a mask v : Word) (s : State) : Out State :=
  .next (s.access r (checked (modifyChecks r a.toNat mask v) (modifyRun r a.toNat mask v)))

/-! ## Bulk access (R100 to R102, R530) -/

/-- Whether two addresses lie in one page, or in one window. -/
def sameRegion (a b : Nat) : Bool :=
  if a < 0xA0000 then a / 4096 == b / 4096
  else match windowOf a, windowOf b with
    | some (k, x), some (l, y) => k == l && a - x == b - y
    | _, _ => false

/-- The offset of the first word of the wide value that a range of words cuts. Of one that begins before the range, R530 states
no offset: the model answers 0 (DESIGN CHOICE, log entry 92). -/
def wideCut (a count : Nat) : Option Nat :=
  if count = 0 then none
  else match wideAt a with
    | some (b, n) => if b ≠ a then some 0 else if a + count < b + 4 * n then some 0 else wideCutEnd a count
    | none => wideCutEnd a count
where
  wideCutEnd (a count : Nat) : Option Nat :=
    match wideAt (a + count - 4) with
    | some (b, n) => if a + count < b + 4 * n then some (b - a) else none
    | none => none

/-- Whether a requester is admitted to word `i` of a range. -/
def State.admits (s : State) (r : Requester) (a : Nat) (data : Option (List Word)) (i : Nat) : Bool :=
  match data with
  | none => s.mayRead r (a + 4 * i)
  | some l => s.mayWrite r (a + 4 * i) (l.getD i 0)

/-- The checks of a bulk access, steps 4 to 7. R100 says nothing of a range of no bytes: the guard judges it as one of the word at
ADDR (DESIGN CHOICE, log entry 92). -/
def bulkChecks (r : Requester) (a count : Nat) (data : Option (List Word)) (s : State) : Option State :=
  if s.pinRefused r a then some (s.failAt r Status.E_VERSION 0xFFFFFFFF)
  else if a % 4 ≠ 0 then some ((s.ownerErr a Err.SIZE).failAt r Status.E_ALIGN 0)
  else if count % 4 ≠ 0 then some ((s.ownerErr a Err.SIZE).failAt r Status.E_ALIGN (count - count % 4))
  else match wideCut a count with
    | some o => some (s.failAt r Status.E_ALIGN o)
    | none =>
      if ownerPage a = none then some (s.absent.failAt r Status.E_ADDR 0)
      else match (List.range (max 1 (count / 4))).find? (fun i => !(sameRegion a (a + 4 * i) && s.admits r a data i)) with
        | some i =>
          if ownerPage (a + 4 * i) = none then some (s.absent.failAt r Status.E_ADDR (4 * i))
          else if !sameRegion a (a + 4 * i) then some (s.failAt r Status.E_ADDR (4 * i))
          else some ((match data with | none => s.refuse r (a + 4 * i) | some l => s.refuseWrite r (a + 4 * i) (l.getD i 0)).failAt r
            (s.creds r).refusal (4 * i))
        | none =>
          if data.isNone then
            ((List.range (count / 4)).find? (fun i => s.eccMarked.contains (a + 4 * i))).map (fun i => s.failAt r Status.E_ECC (4 * i))
          else none

/-- The burst of BULK_READ: the words from word `i` on, and where an uncorrectable word was found. -/
def burstRead (r : Requester) (a : Nat) (s : State) (i : Nat) : Nat → List Word × Option Nat × State
  | 0 => ([], none, s)
  | n + 1 =>
    if s.badWord (a + 4 * i) then ([], some i, s.marked (a + 4 * i))
    else
      let (w, s) := readWord r (a + 4 * i) s
      let (ws, f, s) := burstRead r a s (i + 1) n
      (w :: ws, f, s)

/-- BULK_READ, once checked (R102). -/
def bulkReadRun (r : Requester) (a count : Nat) (s : State) : State :=
  match burstRead r a s 0 (count / 4) with
  | (ws, none, s) => s.answer Status.OK ws
  | (ws, some i, s) => { s with resp := ⟨Status.E_ECC, ws, 4 * i, false⟩ }

/-- BULK_READ. -/
def execBulkRead (r : Requester) (a : Word) (count : Nat) (s : State) : Out State :=
  .next (s.access r (checked (bulkChecks r a.toNat count none) (bulkReadRun r a.toNat count)))

/-- The order in which a burst writes words `i` on: ascending, a wide value highest word first (R100). -/
def burstOrder (a i : Nat) : Nat → List Nat
  | 0 => []
  | n + 1 =>
    let k := match wideAt (a + 4 * i) with
      | some (b, m) => if b = a + 4 * i then some m else none
      | none => none
    match k with
    | some m => (List.range m).reverse.map (fun j => i + j) ++ burstOrder a (i + 1) n
    | none => if (wideAt (a + 4 * i)).isSome then burstOrder a (i + 1) n else i :: burstOrder a (i + 1) n

/-- The burst of BULK_WRITE: the word refused with its status, or the status and the state. -/
def burstWrite (r : Requester) (a : Nat) (data : List Word) : List Nat → Nat → State → Except (Nat × Nat) (Nat × State)
  | [], e, s => .ok (e, s)
  | i :: l, e, s =>
    let (f, s) := writeWord r (a + 4 * i) (data.getD i 0) s
    if f = Status.OK then burstWrite r a data l e s
    else if f = Status.W_IGNORED then burstWrite r a data l f s
    else .error (i, f)

/-- BULK_WRITE, once checked. A block that refuses one word refuses the burst as a whole, and keeps the error bit that the
refused word set. -/
def bulkWriteRun (r : Requester) (a : Nat) (data : List Word) (s : State) : State :=
  if s.mntBars r (ownerPage a) then s.failAt r Status.E_STATE 0xFFFFFFFF
  else match burstWrite r a data (burstOrder a 0 data.length) Status.OK s with
    | .ok x => State.answered x
    | .error (i, f) =>
      let t := writeWord r (a + 4 * i) (data.getD i 0) s
      (if t.1 = f then t.2 else s).answer f []

/-- BULK_WRITE of whole words. -/
def execBulkWrite (r : Requester) (a : Word) (data : List Word) (s : State) : Out State :=
  .next (s.access r (checked (bulkChecks r a.toNat (4 * data.length) (some data)) (bulkWriteRun r a.toNat data)))

/-! ## EXEC (R103, R387, R388) -/

/-- The big-endian words of argument bytes. -/
def beWords : List Byte → List Nat
  | a :: b :: c :: d :: t => (((a.toNat * 256 + b.toNat) * 256 + c.toNat) * 256 + d.toNat) :: beWords t
  | _ => []

/-- A number from words, most significant first. -/
def wordsNum (l : List Nat) : Nat := l.foldl (fun n w => n * 2 ^ 32 + w) 0

/-- The effect of a meaning that answers a next state. -/
def effect (o : Out State) (s : State) : State :=
  match o with
  | .next t => t
  | _ => s

abbrev bvs (l : List Nat) : List Word := l.map (BitVec.ofNat 32)

/-- A KEY command whose handle lies outside the store is refused as by a condition. -/
def keyHandleCmd (r : Requester) (h : Nat) (g : Fin 2048 → State → Out State) (s : State) : State :=
  if hh : h < 2048 then effect (g ⟨h, hh⟩ s) s else s.ownerExec r Page.KEY State.keyRefused

/-- The KEY commands (R441). -/
def keyCode (r : Requester) (c : Nat) (l : List Nat) : Option (State → State) :=
  match c, l with
  | 1, [] => some (fun s => effect (execOwnerTake r true s) s)
  | 2, [] => some (fun s => effect (execOwnerRelease r true s) s)
  | 3, [t] => some (fun s => effect (execTenantRoot r t true s) s)
  | 4, p :: k :: i :: x :: y :: v =>
    if v.length = 0 then some (fun s => effect (execCredCreate r ⟨p, k, i, x, y, none⟩ true s) s)
    else if v.length = 12 then some (fun s => effect (execCredCreate r ⟨p, k, i, x, y, some (wordsNum v)⟩ true s) s)
    else none
  | 5, [h] => some (keyHandleCmd r h (fun h s => execRotate r h true s))
  | 6, [h] => some (keyHandleCmd r h (fun h s => execDestroy r h true s))
  | 7, n => if n.length = 8 then some (fun s => effect (execAttestSign r (bvs n) s) s) else none
  | 8, i :: n => if n.length = 8 then some (fun s => effect (execAttestMac r i (bvs n) s) s) else none
  | 9, [] => some (fun s => effect (execAttestPub r s) s)
  | _, _ => none

/-- The MTR commands (R379). -/
def mtrCode (r : Requester) (c : Nat) (l : List Nat) : Option (State → State) :=
  match c, l with
  | 1, [] => some (fun s => s.ownerExec r Page.MTR checkpoint)
  | 2, [n] => some (fun s => s.ownerExec r Page.MTR (maxReset n))
  | 3, [n] => if h : n < 48 then some (fun s => effect (execEstClear r ⟨n, h⟩ s) s) else none
  | 4, [n] => if h : n < 48 then some (fun s => effect (execRegClear r ⟨n, h⟩ s) s) else none
  | _, _ => none

/-- The UPD commands (R484); STAGE_DATA carries its offset and its length in bytes, then the bytes. -/
def updCode (r : Requester) (c : Nat) (b : List Byte) (l : List Nat) : Option (State → State) :=
  match c, l with
  | 1, [n] => some (fun s => effect (execStageBegin r n s) s)
  | 2, o :: n :: _ => if b.length = 8 + n then some (fun s => effect (execStageData r o (b.drop 8) s) s) else none
  | 3, [] => some (fun s => effect (execStageEnd r s) s)
  | 4, [] => some (fun s => effect (execActivate r s) s)
  | 5, [] => some (fun s => effect (execUpdAbort r s) s)
  | 6, [] => some (fun s => effect (execRollback r s) s)
  | _, _ => none

/-- The command that a code and its arguments name on a page; none where the code is unknown or its arguments have another
form (R103, R104). -/
def execCode (r : Requester) (k : PageKind) (c : Nat) (b : List Byte) : Option (State → State) :=
  let l := beWords b
  if k = .UPD then updCode r c b l
  else if b.length % 4 ≠ 0 then none
  else match k, c, l with
    | .SCN, 1, [] => some (fun s => effect (execSaveProg r s) s)
    | .SCN, 2, [] => some (fun s => effect (execClearForces r s) s)
    | .SCN, 3, [] => some (fun s => effect (execRetSave r s) s)
    | .LFT, 1, [w] => some (lftExec r 1 (BitVec.ofNat 32 w))
    | .LFT, 2, [w] => some (lftExec r 2 (BitVec.ofNat 32 w))
    | .LFT, 3, [] => some (lftExec r 3 0)
    | .SAF, 1, [w] => some (fun s => effect (execParamCommit r (BitVec.ofNat 32 w) s) s)
    | .SAF, 2, [] => some (fun s => effect (execParamDiscard r s) s)
    | .MTR, c, l => mtrCode r c l
    | .PGD, 1, [n, p, v, q] => if n < 8192 ∧ q < 256 then some (pointWritePrio r n p (BitVec.ofNat 32 v) q) else none
    | .PGD, 2, [n, p] => if n < 8192 then some (pointRelinquish r n p) else none
    | .PGD, 3, [n] => if h : n < 512 then some (fun s => effect (execEndSession r ⟨n, h⟩ s) s) else none
    | .KEY, c, l => keyCode r c l
    | .EVR, 1, [t] => some (fun s => effect (execTrigger r t s) s)
    | .EVR, 2, [v] => some (fun s => effect (execEvrClear r v s) s)
    | .ATB, 1, [] => some (fun s => effect (execBistRun r s) s)
    | .CAL, 1, [o, n] => some (fun s => effect (execCalRead r o n s) s)
    | .CAL, 2, o :: d => some (fun s => effect (execCalStage r o (bvs d) s) s)
    | .CAL, 3, [w] => some (fun s => effect (execCalCommit r (BitVec.ofNat 32 w) true true s) s)
    | .CAL, 4, [] => some (fun s => effect (execCalFactory r s) s)
    | _, _, _ => none

/-- Whether the guard admits an EXEC: WRITE_PRIO and RELINQUISH with COMMAND on the entry, any other with tag 0 and EXEC. A tenant's
PARAM_COMMIT is left to Stirrup, which answers E_STATE (R354). -/
def State.mayExec (s : State) (r : Requester) (k : PageKind) (c : Nat) (b : List Byte) : Bool :=
  if k = .PGD ∧ (c = 1 ∨ c = 2) then s.mayCommandPoint (s.creds r) ((beWords b).headD 0)
  else if k = .SAF ∧ c = 1 ∧ b.length = 4 ∧ isSession r = true ∧ (s.creds r).tag ≠ 0 then true
  else (s.creds r).tag == 0 && (s.creds r).may Right.EXEC

/-- The checks of EXEC, steps 4 to 6. -/
def execChecks (r : Requester) (a : Nat) (code : Word) (b : List Byte) (s : State) : Option State :=
  if s.pinRefused r a then some (s.failAt r Status.E_VERSION 0xFFFFFFFF)
  else if a % 4 ≠ 0 then some ((s.ownerErr a Err.SIZE).failAt r Status.E_ALIGN 0)
  else match if a % 4096 = 0 ∧ a < 0xA0000 then pageKind (a / 4096) else none with
    | none => some ((if ownerPage a = none then s.absent else s).failAt r Status.E_ADDR 0)
    | some k => if s.mayExec r k code.toNat b then none else some ((s.refuse r a).failAt r (s.creds r).refusal 0)

/-- EXEC, once checked. A code that the block does not know, or arguments of another form, are judged by the block once the guard has
admitted the request, so that they tell no tenant of a page (R103, R106). -/
def execRun (r : Requester) (a : Nat) (code : Word) (b : List Byte) (s : State) : State :=
  if s.mntBars r none then s.failAt r Status.E_STATE 0xFFFFFFFF
  else match (pageKind (a / 4096)).bind (fun k => execCode r k code.toNat b) with
    | some g => g s
    | none => s.answer Status.E_OP []

/-- EXEC. -/
def execExec (r : Requester) (a code : Word) (args : List Byte) (s : State) : Out State :=
  .next (s.access r (checked (execChecks r a.toNat code args) (execRun r a.toNat code args)))

/-! ## SUBSCRIBE (R109) -/

/-- Step 1 for SUBSCRIBE: the kind, and the word that goes with it. -/
def subFormOk (kind : Nat) (mask : Word) : Bool :=
  kind == 1 || (kind == 2 && mask == 0) || (kind == 3 && decide (mask.toNat ≤ 3))

/-- The point entry that begins at an address. -/
def pointAt (a : Nat) : Option Nat := match windowOf a with | some (.point, off) => if off % 32 = 0 then some (off / 32) else none | _ => none

/-- What a subscription watches: a page, an entry, or the recorder. A cancellation (kind 0) names either. -/
def subTarget (kind a : Nat) : Option Nat :=
  if kind = 2 ∨ kind = 0 ∧ (pointAt a).isSome = true then pointAt a
  else if a % 4096 = 0 ∧ a < 0xA0000 ∧ pageKind (a / 4096) ≠ none ∧ (kind ≤ 1 ∨ a / 4096 = Page.EVR) then some (a / 4096)
  else none

/-- The checks of SUBSCRIBE, a cancellation too, steps 4 to 7. -/
def subChecks (r : Requester) (a kind : Nat) (s : State) : Option State :=
  let c := s.creds r
  if s.pinRefused r a then some (s.failAt r Status.E_VERSION 0xFFFFFFFF)
  else if a % 4 ≠ 0 then some ((s.ownerErr a Err.SIZE).failAt r Status.E_ALIGN 0)
  else match subTarget kind a with
    | none => some ((if ownerPage a = none then s.absent else s).failAt r Status.E_ADDR 0)
    | some t =>
      if !(c.may Right.SUBSCRIBE && (c.tag == 0 || ((pointAt a).isSome && s.mayReadPoint c t))) then some ((s.refuse r a).failAt r c.refusal 0)
      else none

/-- Whether a session may hold one subscription more (R109). -/
def State.subRoom (s : State) (n : Nat) : Bool :=
  decide ((s.subs.filter (fun (u : Sub) => u.sess == n)).length < 32) && decide (s.subs.length < 4096)

/-- SUBSCRIBE, once checked: the entry, and its SUB_ID. Its first note has NOTE_SEQ 1: R109 does not say where the numbers
begin (DESIGN CHOICE, log entry 92). -/
def subRun (n a kind : Nat) (mask : Word) (s : State) : State :=
  let u : Sub := ⟨s.nextSubId, n, kind, (subTarget kind a).getD 0, mask.toNat, [], [], 1⟩
  ({ s with subs := s.subs ++ [u], nextSubId := s.nextSubId + 1 }).answer Status.OK [Config.subId u.id]

/-- SUBSCRIBE. -/
def execSubscribe (n : Fin 512) (a : Word) (kind : Nat) (mask : Word) (s : State) : Out State :=
  .next (s.access (.session n) (fun (s : State) =>
    if subFormOk kind mask then
      checked (subChecks (.session n) a.toNat kind) (fun (s : State) =>
        if s.subRoom n.val then subRun n.val a.toNat kind mask s else s.failAt (.session n) Status.E_SUB 0xFFFFFFFF) s
    else s.failAt (.session n) Status.E_OP 0xFFFFFFFF))

/-- A cancellation. Of a SUB_ID that the session does not hold, the spec states no status: it is free. -/
def subCancel (n : Nat) (id : Word) (s : State) : State :=
  let mine := fun (u : Sub) => u.sess == n && Config.subId u.id == id
  if s.subs.any mine then ({ s with subs := s.subs.filter (fun (u : Sub) => !mine u) }).answer Status.OK [id]
  else
    let (v, s) := s.fresh
    s.answer (v % 256) []

/-- SUBSCRIBE_CANCEL. -/
def execSubscribeCancel (n : Fin 512) (id : Word) (s : State) : Out State := .next (s.access (.session n) (subCancel n.val id))

end Sys2Proof.Machine
end

