-- ==== Sys2Proof/Machine/Datagrams.lean ====
section
/-! DEFINITION. Billet's datagrams: arrival, opening, requests with their REQ_IDs, notifications and the ends of sessions
(R89 to R97, R104 to R110). -/

namespace Sys2Proof.Machine

/-! ## Arrival (R89 to R94) -/

/-- Whether a datagram reaches Billet: the server runs with the APP domain, and N6 takes the MNT link down. -/
def State.linkUp (s : State) (p : Port) : Bool :=
  !s.sysHeld && s.appUp && !(p == .MNT && s.getBit Reg.FIR_SHED 5)

/-- Whether Billet listens on a UDP port: SYS.BLT_PORT's, or one on which a session was opened that still lives (R89). -/
def State.listens (s : State) (udp : Nat) : Bool :=
  udp == s.get Reg.SYS_UDP_PORT || s.sessions.any (fun (e : Nat × Session) => !e.2.sc && e.2.udp == udp)
    || s.halfOpen.any (fun (h : HalfOpen) => h.udp == udp)

/-- Whether a datagram is one of Billet's: its link and its UDP port. -/
def State.hears (s : State) (p : Port) (udp : Nat) : Bool := s.linkUp p && s.listens udp

/-- Whether SYS.BLT_CFG enables a port. -/
def State.portOn (s : State) (p : Port) : Bool :=
  s.flag (match p with | .A => Reg.SYS_EN_A | .B => Reg.SYS_EN_B | .MNT => Reg.SYS_EN_MNT)

/-- A datagram dropped without reply. -/
def State.bltDrop (s : State) : State := s.bump Reg.SYS_BLT_DROP

/-- An opening refused or discarded. -/
def State.openFail (s : State) : State := s.bump Reg.SYS_BLT_OPEN_FAIL

/-- The live Billet session of an identifier: its entry. -/
def State.sessionOf (s : State) (sid : Nat) : Option (Nat × Session) :=
  s.sessions.find? (fun (e : Nat × Session) => e.2.sid == sid && !e.2.sc)

/-- Whether a datagram's SEQ is new to its session (R94). -/
def Session.accepts (e : Session) (seq : Nat) : Bool :=
  decide (e.seqMax < seq) || (decide (0 < seq) && decide (e.seqMax < seq + 1024) && !e.seqSeen.contains seq)

/-- The session after an authenticated datagram. -/
def Session.received (e : Session) (a : Arrival) : Session :=
  let top := max e.seqMax a.seq
  { e with
    seqMax := top
    seqSeen := (a.seq :: e.seqSeen).filter (fun (q : Nat) => decide (top < q + 1024))
    rxCount := e.rxCount + 1
    port := a.port }

/-- A protected datagram to a live session: what it does once it is authenticated and new. The last of 2^32 ends the session
with REKEY (R95). -/
def State.datagram (s : State) (sid : Nat) (a : Arrival) (g : Nat → State → State) : State :=
  if !s.hears a.port a.udp then s
  else if !s.portOn a.port || a.fragment then s.bltDrop
  else match s.sessionOf sid with
    | none => s.bltDrop
    | some (n, e) =>
      if e.udp != a.udp || !a.tagOk || !e.accepts a.seq then s.bltDrop
      else
        let t := g n (s.modSession n (fun (e : Session) => e.received a))
        if 2 ^ 32 ≤ e.rxCount + 1 then t.rekey n else t

/-- A RESPONSE, which leaves through the port on which its request arrived (R89). -/
def State.respond (s : State) (n : Nat) (p : Port) (op reqId : Nat) (x : Resp) : State :=
  ({ s with resp := x }).sendTo .billetResponse n p (op :: x.status :: reqId :: x.failOffset :: x.data.map (fun (w : Word) => w.toNat))

/-! ## Opening (R92, R93, R96, R97, R105) -/

/-- Whether a pin is served: a block of the TYPE offers the MAJOR. The module's blocks offer major 1. -/
def pinServed (p : PinOffer) : Bool := p.major == 1 && (List.range 160).any (fun q => pageKind q != none && pageType q == p.type)

/-- The instants, on the time-base counter of 125 MHz, of the OPEN_INITs answered in the last 1 s (R93, R113). -/
def State.recentOpens (s : State) : List Nat := s.openTimes.filter (fun (t : Nat) => decide (s.cycles < t + 125000000))

/-- An OPEN_INIT is answered now. -/
def State.countOpen (s : State) : State := { s with openTimes := s.cycles :: s.recentOpens }

/-- OPEN_INIT answered with CLOSE. -/
def State.openClosed (s : State) (p : Port) (reason : Nat) : State := (s.countOpen.send .billetClose (Port.num p) 0 [reason]).openFail

/-- OPEN_RESP: the keys are derived under a session handle, and the session is half-open. -/
def openAnswer (o : OpenInit) (cred : Option (Nat × Handle)) (h : Nat) (s : State) : State :=
  let (d, s) := s.countOpen.fresh
  let (nm, s) := s.fresh
  let (mask, s) := s.fresh
  let sid := s.nextSid
  let limit := min o.limit (s.get Reg.SYS_RX_BUF)
  let pins := o.pins.map (fun (p : PinOffer) => (⟨p.type, p.minor, pinServed p⟩ : Pin))
  let key := Config.derive 5 [o.nonce, nm, Config.ecdh d o.keyQ, Config.sessionId sid, o.credId, 1]
  let answer := [Config.sessionId sid, Config.publicKey d, nm, 1, limit] ++ pins.map (fun (p : Pin) => b2n (!p.served))
    ++ [Config.sha384 [Config.publicKey (s.keyValue 1)]]
  let script := Config.sha384 ([o.keyQ, o.nonce, o.credId, o.majors, o.limit, b2n o.strict, o.pins.length]
    ++ o.pins.flatMap (fun (p : PinOffer) => [p.type, p.major, p.minor]) ++ answer)
  let parent := cred.elim 0 (fun (c : Nat × Handle) => c.1)
  let tag := cred.elim 0 (fun (c : Nat × Handle) => c.2.tag)
  let s := s.putHandle h ⟨Kind.SESSION, .live, parent, 0, 0, tag, 0, 0, o.credId, key ^^^ mask, mask⟩
  let x : HalfOpen := ⟨sid, o.udp, o.credId, h, o.port, limit, pins, script⟩
  let s := { s with nextSid := sid + 1, halfOpen := s.halfOpen ++ [x] }
  s.send .openResp (Port.num o.port) sid (answer ++ [Config.sign (s.keyValue 1) [script]])

/-- OPEN_INIT, taken by Billet and within the limits of R93. An offer below 1024 is judged before the majors and the pins, an
order that R96, R97 and R105 leave open (DESIGN CHOICE, log entry 92). -/
def openTaken (o : OpenInit) (s : State) : State :=
  let cred := s.findCred o.credId o.port
  if s.flag Reg.RST_TACK && !(cred.elim false (fun (c : Nat × Handle) => c.2.tag == 0)) then s.openFail
  else if o.limit < 1024 then s.openClosed o.port Status.E_SIZE
  else if bitOf o.majors 1 = false ∨ (o.strict = true ∧ o.pins.any (fun (p : PinOffer) => !pinServed p) = true) then s.openClosed o.port Status.E_VERSION
  else match s.freeSessionHandle with
    | none => s.openFail
    | some h => openAnswer o cred h s

/-- OPEN_INIT. It has no session's SEQ, so R94 makes no second copy of it a replay: a copy over the other port is answered as a
new opening (DESIGN CHOICE, log entry 92). -/
def execOpenInit (o : OpenInit) (s : State) : Out State :=
  .next (if !s.linkUp o.port || o.udp != s.get Reg.SYS_UDP_PORT then s
  else if !s.portOn o.port || o.fragment then s.bltDrop
  else if 32 ≤ s.halfOpen.length ∨ s.get Reg.SYS_BLT_OPEN_RATE ≤ s.recentOpens.length then s.openFail
  else openTaken o s)

/-- OPEN_CONFIRM of a half-open session: verified under the credential that CRED_ID names, the session takes its entry. -/
def confirm (x : HalfOpen) (a : Arrival) (mac : Nat) (s : State) : State :=
  match s.findCred x.credId x.port with
  | none => (s.dropHalfOpen x.sid).openFail
  | some (h, c) =>
    if mac ≠ Config.hmac (s.keyValue h) [x.transcript] then (s.dropHalfOpen x.sid).openFail
    else if !s.usable x.keyHandle then ((s.err Page.KEY Err.KEY_KEY_REFUSED).dropHalfOpen x.sid).openFail
    else match s.freeEntry c.tag with
      | none =>
        let s := { s with resp := ⟨Status.E_BUSY, [], 0xFFFFFFFF, false⟩ }
        ((s.send .billetResponse (Port.num a.port) x.sid [0, Status.E_BUSY, 0, 0xFFFFFFFF]).dropHalfOpen x.sid).openFail
      | some n =>
        let ok : Resp := ⟨Status.OK, [], 0xFFFFFFFF, false⟩
        let e : Session := ⟨false, x.udp, x.sid, c.tag, c.rights, c.prio, x.keyHandle, h, a.port, a.port, x.limit, x.pins, 0, [0], [(0, ok)], a.seq, [a.seq], 1, 1, [], 0⟩
        let s := { s with
          halfOpen := s.halfOpen.filter (fun (g : HalfOpen) => g.sid != x.sid)
          sessions := KV.put s.sessions n e }
        s.respond n a.port 0 0 ok

/-- OPEN_CONFIRM. -/
def execOpenConfirm (sid : Nat) (a : Arrival) (mac : Nat) (s : State) : Out State :=
  .next (if !s.hears a.port a.udp then s
  else if !s.portOn a.port || a.fragment then s.bltDrop
  else match s.halfOpen.find? (fun (h : HalfOpen) => h.sid == sid) with
    | none => s.bltDrop
    | some x => if x.udp == a.udp && a.tagOk then confirm x a mac s else s.bltDrop)

/-- HALF_OPEN_TIMEOUT. -/
def execHalfOpenTimeout (sid : Nat) (s : State) : Out State :=
  .next (if s.halfOpen.any (fun (h : HalfOpen) => h.sid == sid) then (s.dropHalfOpen sid).openFail else s)

/-! ## Requests (R104 to R108) -/

/-! The operations of R98. -/
namespace BilletOp
abbrev READ : Nat := 1
abbrev WRITE : Nat := 2
abbrev MODIFY : Nat := 3
abbrev BULK_READ : Nat := 4
abbrev BULK_WRITE : Nat := 5
abbrev EXEC : Nat := 6
abbrev SUBSCRIBE : Nat := 7
end BilletOp

/-- The first word of a payload. -/
def word0 (q : BilletReq) : Word := BitVec.ofNat 32 ((beWords q.payload).headD 0)

/-- Step 1 of R104: OP, FLAGS, LEN and the form of ARG and of the payload. -/
def reqFormOk (q : BilletReq) : Bool :=
  decide (q.flags ≤ 1) && q.len == q.payload.length &&
    (if q.op = BilletOp.READ then q.arg == 0 && q.len == 0
    else if q.op = BilletOp.WRITE then q.len == 0
    else if q.op = BilletOp.MODIFY then q.len == 4
    else if q.op = BilletOp.BULK_READ then q.len == 0
    else if q.op = BilletOp.BULK_WRITE then q.arg == 0
    else if q.op = BilletOp.EXEC then true
    else if q.op = BilletOp.SUBSCRIBE then
      q.len == 4 && getBits q.arg 23 0 == 0 && (getBits q.arg 31 24 == 0 || subFormOk (getBits q.arg 31 24) (word0 q))
    else false)

/-- Steps 4 to 7 of R104. -/
def reqChecks (r : Requester) (q : BilletReq) (s : State) : Option State :=
  if q.op = BilletOp.READ then s.bar r q.addr none true
  else if q.op = BilletOp.WRITE then s.bar r q.addr (some q.arg) false
  else if q.op = BilletOp.MODIFY then modifyChecks r q.addr q.arg (word0 q) s
  else if q.op = BilletOp.BULK_READ then bulkChecks r q.addr q.arg.toNat none s
  else if q.op = BilletOp.BULK_WRITE then bulkChecks r q.addr q.len (some (bvs (beWords q.payload))) s
  else if q.op = BilletOp.EXEC then execChecks r q.addr q.arg q.payload s
  else subChecks r q.addr (getBits q.arg 31 24) s

/-- Step 8 of R104: the status that refuses a request for want of room. -/
def roomCheck (n : Nat) (e : Session) (q : BilletReq) (s : State) : Option Nat :=
  if 16 ≤ e.waiting.length then some Status.E_BUSY
  else if q.op = BilletOp.SUBSCRIBE ∧ getBits q.arg 31 24 ≠ 0 ∧ s.subRoom n = false then some Status.E_SUB
  else none

/-- The operation of a request that has passed its checks. -/
def reqRun (n : Nat) (r : Requester) (q : BilletReq) (s : State) : State :=
  if q.op = BilletOp.READ then busRead r q.addr s
  else if q.op = BilletOp.WRITE then busWrite r q.addr q.arg s
  else if q.op = BilletOp.MODIFY then modifyRun r q.addr q.arg (word0 q) s
  else if q.op = BilletOp.BULK_READ then bulkReadRun r q.addr q.arg.toNat s
  else if q.op = BilletOp.BULK_WRITE then bulkWriteRun r q.addr (bvs (beWords q.payload)) s
  else if q.op = BilletOp.EXEC then execRun r q.addr q.arg q.payload s
  else if getBits q.arg 31 24 = 0 then subCancel n (word0 q) s
  else subRun n q.addr (getBits q.arg 31 24) (word0 q) s

/-- The effective limit of a session (R105). -/
def State.effLimit (s : State) (e : Session) : Nat := min e.limit (s.get Reg.SYS_RX_BUF)

/-- A status alone, as a response. -/
def justStatus (c : Nat) : Resp := ⟨c, [], 0xFFFFFFFF, false⟩

/-- The session after the performance of a request (R107). -/
def Session.performs (e : Session) (reqId : Nat) (x : Resp) : Session :=
  let h := max e.highest reqId
  { e with
    highest := h
    performed := (reqId :: e.performed).filter (fun (i : Nat) => decide (h < i + 64))
    held := ((reqId, x) :: e.held).take 16 }

/-- Steps 3 to 8 of R104: the refusal of a request, none where it passes. -/
def reqRefused (n : Nat) (e : Session) (r : Requester) (q : BilletReq) (s : State) : Option State :=
  let limit := s.effLimit e
  if limit < (if q.op = BilletOp.BULK_READ then q.arg.toNat else q.len) then some { s with resp := ⟨Status.E_SIZE, [], limit, false⟩ }
  else match reqChecks r q s with
    | some t => some t
    | none => (roomCheck n e q s).map (fun c => { s with resp := justStatus c })

/-- A request goes through steps 3 to 9 of R104 and is answered; OK, W_IGNORED and an EXEC's result count as performed: of an EXEC
with another status, an answer that carries data is taken as a result of its block (DESIGN CHOICE, log entry 92). -/
def performReq (n : Nat) (e : Session) (r : Requester) (p : Port) (q : BilletReq) (s : State) : State :=
  let t := (reqRefused n e r q s).getD (reqRun n r q s)
  let x := t.resp
  let done := x.status == Status.OK || x.status == Status.W_IGNORED || (q.op == BilletOp.EXEC && !x.data.isEmpty)
  let t := if done then t.modSession n (fun (e : Session) => e.performs q.reqId x) else t
  t.respond n p q.op q.reqId x

/-- Whether every lower REQ_ID counts as performed (R108). -/
def Session.ready (e : Session) (reqId : Nat) : Bool :=
  (List.range (reqId - (e.highest - 63))).all (fun i => e.performed.contains (e.highest - 63 + i))

/-- The session without a held request. -/
def Session.letGo (e : Session) (reqId : Nat) : Session := { e with waiting := e.waiting.filter (fun (w : HeldReq) => w.req.reqId != reqId) }

/-- Held ORDERED requests whose lower REQ_IDs have been performed are performed in turn, one whose own REQ_ID has fallen below the
window since it was taken among them (DESIGN CHOICE, log entry 92). -/
def releaseHeld (n : Nat) (r : Requester) : Nat → State → State
  | 0, s => s
  | k + 1, s =>
    match (KV.get? s.sessions n).bind (fun (e : Session) => e.waiting.find? (fun (w : HeldReq) => e.ready w.req.reqId)) with
    | some w =>
      let s := s.modSession n (fun (e : Session) => e.letGo w.req.reqId)
      match KV.get? s.sessions n with
      | some e => releaseHeld n r k (performReq n e r w.port w.req s)
      | none => s
    | none => s

/-- A request of a live session: its REQ_ID (R107), its order (R108), then its performance. An ORDERED request is held once it
has passed the checks of steps 3 to 8. A held response that is sent again echoes the OP of the request that asks for it: R107 does
not say which OP it carries where the two differ (DESIGN CHOICE, log entry 92). -/
def takeReq (r : Requester) (p : Port) (q : BilletReq) (n : Nat) (s : State) : State :=
  match KV.get? s.sessions n with
  | none => s
  | some e =>
    if !reqFormOk q then s.respond n p q.op q.reqId (justStatus Status.E_OP)
    else if q.reqId + 63 < e.highest then s.respond n p q.op q.reqId (justStatus Status.E_STALE)
    else if e.performed.contains q.reqId then
      (match e.held.find? (fun (x : Nat × Resp) => x.1 == q.reqId) with
        | some (_, x) => s.respond n p q.op q.reqId x
        | none => s.respond n p q.op q.reqId (justStatus Status.E_DUP))
    else if e.highest + 64 < q.reqId then s.respond n p q.op q.reqId (justStatus Status.E_SEQ)
    else if e.waiting.any (fun (w : HeldReq) => w.req.reqId == q.reqId) then s
    else if q.flags = 1 ∧ e.ready q.reqId = false then
      match reqRefused n e r q s with
      | some t => t.respond n p q.op q.reqId t.resp
      | none => s.modSession n (fun (e : Session) => { e with waiting := e.waiting ++ [⟨p, q⟩] })
    else releaseHeld n r 16 (performReq n e r p q s)

/-- The requester that a session-table entry is. -/
def entryRequester (n : Nat) : Requester := .session (Fin.ofNat 512 n)

/-- REQUEST. -/
def execRequest (sid : Nat) (a : Arrival) (q : BilletReq) (s : State) : Out State :=
  .next (s.datagram sid a (fun (n : Nat) (s : State) =>
    takeReq (entryRequester n) a.port q n (s.modSession n (fun (e : Session) => { e with lastReq := a.port }))))

/-- ORDER_TIMEOUT: a held request is answered E_ORDER. -/
def execOrderTimeout (n : Fin 512) (reqId : Nat) (s : State) : Out State :=
  .next (match (KV.get? s.sessions n.val).bind (fun (e : Session) => e.waiting.find? (fun (w : HeldReq) => w.req.reqId == reqId)) with
  | none => s
  | some w => (s.modSession n.val (fun (e : Session) => e.letGo reqId)).respond n.val w.port w.req.op reqId (justStatus Status.E_ORDER))

/-! ## Notifications (R109, R110) -/

/-- NOTIFY: the pending change of a subscription is sent. -/
def execNotify (id : Nat) (s : State) : Out State :=
  .next (match s.subs.find? (fun (u : Sub) => u.id == id) with
  | none => s
  | some u => s.sendNote u)

/-- NOTIFY_RESEND. -/
def execNotifyResend (id seq : Nat) (s : State) : Out State :=
  .next (match s.subs.find? (fun (u : Sub) => u.id == id) with
  | none => s
  | some u =>
    match u.unacked.find? (fun (x : Note) => x.seq == seq) with
    | none => s
    | some x => if s.notesPaused = true ∨ s.appUp = false then s else s.sendTo .billetNotify u.sess (s.notePort u.sess) (x.body u))

/-- ACK. -/
def execAck (sid : Nat) (a : Arrival) (id : Word) (seq : Nat) (s : State) : Out State :=
  .next (s.datagram sid a (fun (n : Nat) (s : State) =>
    { s with subs := s.subs.map (fun (u : Sub) => if u.sess = n ∧ Config.subId u.id = id then { u with unacked := u.unacked.filter (fun (x : Note) => x.seq != seq) } else u) }))

/-! ## Ends of a session (R95) -/

/-- CLOSE from the host. -/
def execClose (sid : Nat) (a : Arrival) (s : State) : Out State :=
  .next (s.datagram sid a (fun (n : Nat) (s : State) => s.endSession n))

/-- Whether an entry holds a Billet session. -/
def State.billetAt (s : State) (n : Nat) : Bool := (KV.get? s.sessions n).elim false (fun (e : Session) => !e.sc)

/-- SESSION_IDLE_TIMEOUT. -/
def execSessionIdleTimeout (n : Fin 512) (s : State) : Out State := .next (if s.billetAt n.val then s.endSession n.val else s)

/-- SESSION_REKEY: 24 h since its opening end a session with REKEY. -/
def execSessionRekey (n : Fin 512) (s : State) : Out State := .next (if s.billetAt n.val then s.rekey n.val else s)

end Sys2Proof.Machine
end

