-- ==== Sys2Proof/Machine/Dispatch.lean ====
section
/-! DEFINITION. The meaning of every command: one arm per constructor, one call per arm. -/

namespace Sys2Proof.Machine

/-- The effect of a command on everything but the queue of waiting commands. -/
def exec (i : Instr) (s : State) : Host.Outcome State Fault Refusal :=
  match i with
  | .portGrantChange port detected mW => Sys2Proof.Machine.execPortGrantChange port detected mW s
  | .twinPresChange low => Sys2Proof.Machine.execTwinPresChange low s
  | .fsFailSet t => Sys2Proof.Machine.execFsFailSet t s
  | .fsFailClear t => Sys2Proof.Machine.execFsFailClear t s
  | .fsReversed t rev => Sys2Proof.Machine.execFsReversed t rev s
  | .fuseClose f => Sys2Proof.Machine.execFuseClose f s
  | .fuseTrip f => Sys2Proof.Machine.execFuseTrip f s
  | .fuseRetry f holds => Sys2Proof.Machine.execFuseRetry f holds s
  | .bkpSourceChange v => Sys2Proof.Machine.execBkpSourceChange v s
  | .bkpPowerOn => Sys2Proof.Machine.execBkpPowerOn s
  | .busOkMet ms => Sys2Proof.Machine.execBusOkMet ms s
  | .pwrWarn => Sys2Proof.Machine.execPwrWarn s
  | .holdupStagesApply => Sys2Proof.Machine.execHoldupStagesApply s
  | .finalCheckpointStart => Sys2Proof.Machine.execFinalCheckpointStart s
  | .finalCheckpointDone ok us => Sys2Proof.Machine.execFinalCheckpointDone ok us s
  | .goSafeThreshold => Sys2Proof.Machine.execGoSafeThreshold s
  | .brownout ms => Sys2Proof.Machine.execBrownout ms s
  | .shedEntry => Sys2Proof.Machine.execShedEntry s
  | .shedStageApply mW => Sys2Proof.Machine.execShedStageApply mW s
  | .shedRecoveryEntry => Sys2Proof.Machine.execShedRecoveryEntry s
  | .shedStageRestore => Sys2Proof.Machine.execShedStageRestore s
  | .warnTest => Sys2Proof.Machine.execWarnTest s
  | .busMvUpdate mv => Sys2Proof.Machine.execBusMvUpdate mv s
  | .rstCmdApp r key => Sys2Proof.Machine.execRstCmdApp r key s
  | .rstCmdSys r key => Sys2Proof.Machine.execRstCmdSys r key s
  | .rstCmdFull r key => Sys2Proof.Machine.execRstCmdFull r key s
  | .rstCmdBkp r key => Sys2Proof.Machine.execRstCmdBkp r key s
  | .applicationWatchdog => Sys2Proof.Machine.execApplicationWatchdog s
  | .systemWatchdog => Sys2Proof.Machine.execSystemWatchdog s
  | .eccFatal => Sys2Proof.Machine.execEccFatal s
  | .powerOnReset => Sys2Proof.Machine.execPowerOnReset s
  | .resetPulseEnd id => Sys2Proof.Machine.execResetPulseEnd id s
  | .resetNAssert => Sys2Proof.Machine.execResetNAssert s
  | .resetNRelease => Sys2Proof.Machine.execResetNRelease s
  | .resetNStuck => Sys2Proof.Machine.execResetNStuck s
  | .resetNUnmask => Sys2Proof.Machine.execResetNUnmask s
  | .sysDomainRelease straps => Sys2Proof.Machine.execSysDomainRelease straps s
  | .stirrupRelease => Sys2Proof.Machine.execStirrupRelease s
  | .weltLanesTrained loopback => Sys2Proof.Machine.execWeltLanesTrained loopback s
  | .firstValidFrame => Sys2Proof.Machine.execFirstValidFrame s
  | .mramRestore => Sys2Proof.Machine.execMramRestore s
  | .skiverIntegrating => Sys2Proof.Machine.execSkiverIntegrating s
  | .stirrupSelftestComplete t => Sys2Proof.Machine.execStirrupSelftestComplete t s
  | .manifestVerified fails pauseMs => Sys2Proof.Machine.execManifestVerified fails pauseMs s
  | .configurationApplied roles => Sys2Proof.Machine.execConfigurationApplied roles s
  | .startOk r => Sys2Proof.Machine.execStartOk r s
  | .startTimeout => Sys2Proof.Machine.execStartTimeout s
  | .tackExit r => Sys2Proof.Machine.execTackExit r s
  | .clockMonitorFail c lost => Sys2Proof.Machine.execClockMonitorFail c lost s
  | .freqWindow kHz lock => Sys2Proof.Machine.execFreqWindow kHz lock s
  | .extRefFallback => Sys2Proof.Machine.execExtRefFallback s
  | .refLost => Sys2Proof.Machine.execRefLost s
  | .crystalRestored => Sys2Proof.Machine.execCrystalRestored s
  | .extPresChange present => Sys2Proof.Machine.execExtPresChange present s
  | .registerWrite r a w => Sys2Proof.Machine.execRegisterWrite r a w s
  | .readClear r a => Sys2Proof.Machine.execReadClear r a s
  | .wideLowRead r a => Sys2Proof.Machine.execWideLowRead r a s
  | .wideLowWrite r a w => Sys2Proof.Machine.execWideLowWrite r a w s
  | .enableWrite r p v => Sys2Proof.Machine.execEnableWrite r p v s
  | .lockWrite r p v => Sys2Proof.Machine.execLockWrite r p v s
  | .softReset r p => Sys2Proof.Machine.execSoftReset r p s
  | .freezeWrite r p v => Sys2Proof.Machine.execFreezeWrite r p v s
  | .freezeTimeout p => Sys2Proof.Machine.execFreezeTimeout p s
  | .irqForce r p w => Sys2Proof.Machine.execIrqForce r p w s
  | .openInit o => Sys2Proof.Machine.execOpenInit o s
  | .openConfirm sid a mac => Sys2Proof.Machine.execOpenConfirm sid a mac s
  | .halfOpenTimeout sid => Sys2Proof.Machine.execHalfOpenTimeout sid s
  | .request sid a q => Sys2Proof.Machine.execRequest sid a q s
  | .read r a => Sys2Proof.Machine.execRead r a s
  | .write r a w => Sys2Proof.Machine.execWrite r a w s
  | .modify r a mask v => Sys2Proof.Machine.execModify r a mask v s
  | .bulkRead r a count => Sys2Proof.Machine.execBulkRead r a count s
  | .bulkWrite r a data => Sys2Proof.Machine.execBulkWrite r a data s
  | .exec r a code args => Sys2Proof.Machine.execExec r a code args s
  | .subscribe n a kind mask => Sys2Proof.Machine.execSubscribe n a kind mask s
  | .subscribeCancel n id => Sys2Proof.Machine.execSubscribeCancel n id s
  | .orderTimeout n reqId => Sys2Proof.Machine.execOrderTimeout n reqId s
  | .notify id => Sys2Proof.Machine.execNotify id s
  | .notifyResend id seq => Sys2Proof.Machine.execNotifyResend id seq s
  | .ack sid a id seq => Sys2Proof.Machine.execAck sid a id seq s
  | .close sid a => Sys2Proof.Machine.execClose sid a s
  | .sessionIdleTimeout n => Sys2Proof.Machine.execSessionIdleTimeout n s
  | .sessionRekey n => Sys2Proof.Machine.execSessionRekey n s
  | .setTimeCommit r w0 => Sys2Proof.Machine.execSetTimeCommit r w0 s
  | .stepArmWrite r v => Sys2Proof.Machine.execStepArmWrite r v s
  | .announceReceive l a => Sys2Proof.Machine.execAnnounceReceive l a s
  | .syncReceive l m => Sys2Proof.Machine.execSyncReceive l m s
  | .delayReqSend l => Sys2Proof.Machine.execDelayReqSend l s
  | .delayRespReceive l m => Sys2Proof.Machine.execDelayRespReceive l m s
  | .pdelayReqReceive l => Sys2Proof.Machine.execPdelayReqReceive l s
  | .masterMessageSend l k => Sys2Proof.Machine.execMasterMessageSend l k s
  | .announceReceiptTimeout l => Sys2Proof.Machine.execAnnounceReceiptTimeout l s
  | .syncLossTimeout => Sys2Proof.Machine.execSyncLossTimeout s
  | .holdoverSecond => Sys2Proof.Machine.execHoldoverSecond s
  | .secondRollover => Sys2Proof.Machine.execSecondRollover s
  | .rtcCommit => Sys2Proof.Machine.execRtcCommit s
  | .dstAdd => Sys2Proof.Machine.execDstAdd s
  | .dstSub => Sys2Proof.Machine.execDstSub s
  | .discipline => Sys2Proof.Machine.execDiscipline s
  | .oscStopped => Sys2Proof.Machine.execOscStopped s
  | .osfClear => Sys2Proof.Machine.execOsfClear s
  | .swoValidClear => Sys2Proof.Machine.execSwoValidClear s
  | .scapMvUpdate scap coin => Sys2Proof.Machine.execScapMvUpdate scap coin s
  | .predictionTick a b ns => Sys2Proof.Machine.execPredictionTick a b ns s
  | .slotArm n => Sys2Proof.Machine.execSlotArm n s
  | .slotCancel n => Sys2Proof.Machine.execSlotCancel n s
  | .slotRelease n => Sys2Proof.Machine.execSlotRelease n s
  | .slotFire n => Sys2Proof.Machine.execSlotFire n s
  | .timedCommandExecute t recent => Sys2Proof.Machine.execTimedCommandExecute t recent s
  | .donePop => Sys2Proof.Machine.execDonePop s
  | .snapshotSeqRead k => Sys2Proof.Machine.execSnapshotSeqRead k s
  | .mainsPllLock b m phase => Sys2Proof.Machine.execMainsPllLock b m phase s
  | .mainsPllLoss m => Sys2Proof.Machine.execMainsPllLoss m s
  | .mainsPllRelock b m phase => Sys2Proof.Machine.execMainsPllRelock b m phase s
  | .coilMeasurement k on contact => Sys2Proof.Machine.execCoilMeasurement k on contact s
  | .coilTableSave => Sys2Proof.Machine.execCoilTableSave s
  | .sequenceAssign => Sys2Proof.Machine.execSequenceAssign s
  | .lateReport r => Sys2Proof.Machine.execLateReport r s
  | .seqMirror => Sys2Proof.Machine.execSeqMirror s
  | .chCfgWrite t n w => Sys2Proof.Machine.execChCfgWrite t n w s
  | .modeChangeApply t => Sys2Proof.Machine.execModeChangeApply t s
  | .dinSample t l ts samples => Sys2Proof.Machine.execDinSample t l ts samples s
  | .countEdge t n rising ts => Sys2Proof.Machine.execCountEdge t n rising ts s
  | .tileOutWrite t w => Sys2Proof.Machine.execTileOutWrite t w s
  | .pulseReq t w => Sys2Proof.Machine.execPulseReq t w s
  | .pulseEmit t n => Sys2Proof.Machine.execPulseEmit t n s
  | .stepEdge t k => Sys2Proof.Machine.execStepEdge t k s
  | .shortDetect t n => Sys2Proof.Machine.execShortDetect t n s
  | .shortRetry t n holds => Sys2Proof.Machine.execShortRetry t n holds s
  | .overtemp t n hot => Sys2Proof.Machine.execOvertemp t n hot s
  | .openLoad t n below => Sys2Proof.Machine.execOpenLoad t n below s
  | .extDrive t n high => Sys2Proof.Machine.execExtDrive t n high s
  | .currentMeasure t mas fsMv temp => Sys2Proof.Machine.execCurrentMeasure t mas fsMv temp s
  | .curShed t => Sys2Proof.Machine.execCurShed t s
  | .curRestore t => Sys2Proof.Machine.execCurRestore t s
  | .downlinkFrame t l rx => Sys2Proof.Machine.execDownlinkFrame t l rx s
  | .uplinkFrame t l rx => Sys2Proof.Machine.execUplinkFrame t l rx s
  | .weltLinkLost t us => Sys2Proof.Machine.execWeltLinkLost t us s
  | .barrierExpiry t us => Sys2Proof.Machine.execBarrierExpiry t us s
  | .fieldSidePowerUp t crcA crcB => Sys2Proof.Machine.execFieldSidePowerUp t crcA crcB s
  | .goSafeAll => Sys2Proof.Machine.execGoSafeAll s
  | .tileGoSafe t => Sys2Proof.Machine.execTileGoSafe t s
  | .appResetGoSafe t => Sys2Proof.Machine.execAppResetGoSafe t s
  | .safeTableCommit t => Sys2Proof.Machine.execSafeTableCommit t s
  | .tableCommitDone t ok => Sys2Proof.Machine.execTableCommitDone t ok s
  | .laneSilence t l => Sys2Proof.Machine.execLaneSilence t l s
  | .testPulseStart t n => Sys2Proof.Machine.execTestPulseStart t n s
  | .testPulseEnd t below5V => Sys2Proof.Machine.execTestPulseEnd t below5V s
  | .testDue t n => Sys2Proof.Machine.execTestDue t n s
  | .scnCmdRun => Sys2Proof.Machine.execScnCmdRun s
  | .scnCmdStop => Sys2Proof.Machine.execScnCmdStop s
  | .scnCmdHold => Sys2Proof.Machine.execScnCmdHold s
  | .scnCmdStep => Sys2Proof.Machine.execScnCmdStep s
  | .scnCmdSwap => Sys2Proof.Machine.execScnCmdSwap s
  | .scanTick => Sys2Proof.Machine.execScanTick s
  | .scanWatchdog => Sys2Proof.Machine.execScanWatchdog s
  | .holdMaxTimeout => Sys2Proof.Machine.execHoldMaxTimeout s
  | .retPeriodicSave => Sys2Proof.Machine.execRetPeriodicSave s
  | .writeConfirm n => Sys2Proof.Machine.execWriteConfirm n s
  | .writeUndeliverable n => Sys2Proof.Machine.execWriteUndeliverable n s
  | .dataWindowWrite k w => Sys2Proof.Machine.execDataWindowWrite k w s
  | .forceEnable r f w => Sys2Proof.Machine.execForceEnable r f w s
  | .saveProg r => Sys2Proof.Machine.execSaveProg r s
  | .saveProgDone => Sys2Proof.Machine.execSaveProgDone s
  | .clearForces r => Sys2Proof.Machine.execClearForces r s
  | .retSave r => Sys2Proof.Machine.execRetSave r s
  | .scNop op => Sys2Proof.Machine.execScNop op s
  | .scEnd op => Sys2Proof.Machine.execScEnd op s
  | .scJmp op => Sys2Proof.Machine.execScJmp op s
  | .scJmpc op => Sys2Proof.Machine.execScJmpc op s
  | .scJmpcn op => Sys2Proof.Machine.execScJmpcn op s
  | .scCall op => Sys2Proof.Machine.execScCall op s
  | .scRet op => Sys2Proof.Machine.execScRet op s
  | .scRetc op => Sys2Proof.Machine.execScRetc op s
  | .scLdx op => Sys2Proof.Machine.execScLdx op s
  | .scAddx op => Sys2Proof.Machine.execScAddx op s
  | .scStx op => Sys2Proof.Machine.execScStx op s
  | .scLdv op => Sys2Proof.Machine.execScLdv op s
  | .scLdz op => Sys2Proof.Machine.execScLdz op s
  | .scLdnf op => Sys2Proof.Machine.execScLdnf op s
  | .scLd op => Sys2Proof.Machine.execScLd op s
  | .scLdn op => Sys2Proof.Machine.execScLdn op s
  | .scAnd op => Sys2Proof.Machine.execScAnd op s
  | .scAndn op => Sys2Proof.Machine.execScAndn op s
  | .scOr op => Sys2Proof.Machine.execScOr op s
  | .scOrn op => Sys2Proof.Machine.execScOrn op s
  | .scXor op => Sys2Proof.Machine.execScXor op s
  | .scXorn op => Sys2Proof.Machine.execScXorn op s
  | .scSt op => Sys2Proof.Machine.execScSt op s
  | .scStn op => Sys2Proof.Machine.execScStn op s
  | .scSet op => Sys2Proof.Machine.execScSet op s
  | .scRes op => Sys2Proof.Machine.execScRes op s
  | .scNot op => Sys2Proof.Machine.execScNot op s
  | .scRe op => Sys2Proof.Machine.execScRe op s
  | .scFe op => Sys2Proof.Machine.execScFe op s
  | .scPush op => Sys2Proof.Machine.execScPush op s
  | .scAndb op => Sys2Proof.Machine.execScAndb op s
  | .scOrb op => Sys2Proof.Machine.execScOrb op s
  | .scXorb op => Sys2Proof.Machine.execScXorb op s
  | .scPop op => Sys2Proof.Machine.execScPop op s
  | .scPeek op => Sys2Proof.Machine.execScPeek op s
  | .scLdw op => Sys2Proof.Machine.execScLdw op s
  | .scStw op => Sys2Proof.Machine.execScStw op s
  | .scStwc op => Sys2Proof.Machine.execScStwc op s
  | .scLdq op => Sys2Proof.Machine.execScLdq op s
  | .scQok op => Sys2Proof.Machine.execScQok op s
  | .scSetq op => Sys2Proof.Machine.execScSetq op s
  | .scTstw op => Sys2Proof.Machine.execScTstw op s
  | .scLdba op => Sys2Proof.Machine.execScLdba op s
  | .scAdd op => Sys2Proof.Machine.execScAdd op s
  | .scSub op => Sys2Proof.Machine.execScSub op s
  | .scMul op => Sys2Proof.Machine.execScMul op s
  | .scDiv op => Sys2Proof.Machine.execScDiv op s
  | .scMod op => Sys2Proof.Machine.execScMod op s
  | .scNeg op => Sys2Proof.Machine.execScNeg op s
  | .scAbs op => Sys2Proof.Machine.execScAbs op s
  | .scMin op => Sys2Proof.Machine.execScMin op s
  | .scMax op => Sys2Proof.Machine.execScMax op s
  | .scAndw op => Sys2Proof.Machine.execScAndw op s
  | .scOrw op => Sys2Proof.Machine.execScOrw op s
  | .scXorw op => Sys2Proof.Machine.execScXorw op s
  | .scShl op => Sys2Proof.Machine.execScShl op s
  | .scShr op => Sys2Proof.Machine.execScShr op s
  | .scAsr op => Sys2Proof.Machine.execScAsr op s
  | .scEq op => Sys2Proof.Machine.execScEq op s
  | .scNe op => Sys2Proof.Machine.execScNe op s
  | .scLt op => Sys2Proof.Machine.execScLt op s
  | .scLe op => Sys2Proof.Machine.execScLe op s
  | .scGt op => Sys2Proof.Machine.execScGt op s
  | .scGe op => Sys2Proof.Machine.execScGe op s
  | .scLtu op => Sys2Proof.Machine.execScLtu op s
  | .scGeu op => Sys2Proof.Machine.execScGeu op s
  | .scAddf op => Sys2Proof.Machine.execScAddf op s
  | .scSubf op => Sys2Proof.Machine.execScSubf op s
  | .scMulf op => Sys2Proof.Machine.execScMulf op s
  | .scDivf op => Sys2Proof.Machine.execScDivf op s
  | .scMinf op => Sys2Proof.Machine.execScMinf op s
  | .scMaxf op => Sys2Proof.Machine.execScMaxf op s
  | .scAbsf op => Sys2Proof.Machine.execScAbsf op s
  | .scNegf op => Sys2Proof.Machine.execScNegf op s
  | .scEqf op => Sys2Proof.Machine.execScEqf op s
  | .scLtf op => Sys2Proof.Machine.execScLtf op s
  | .scGtf op => Sys2Proof.Machine.execScGtf op s
  | .scItof op => Sys2Proof.Machine.execScItof op s
  | .scFtoi op => Sys2Proof.Machine.execScFtoi op s
  | .scSclf op => Sys2Proof.Machine.execScSclf op s
  | .scTon op => Sys2Proof.Machine.execScTon op s
  | .scTof op => Sys2Proof.Machine.execScTof op s
  | .scTp op => Sys2Proof.Machine.execScTp op s
  | .scCtu op => Sys2Proof.Machine.execScCtu op s
  | .scCtd op => Sys2Proof.Machine.execScCtd op s
  | .scCrst op => Sys2Proof.Machine.execScCrst op s
  | .scCld op => Sys2Proof.Machine.execScCld op s
  | .apply r n => Sys2Proof.Machine.execApply r n s
  | .applyMark r n => Sys2Proof.Machine.execApplyMark r n s
  | .applyGroup r => Sys2Proof.Machine.execApplyGroup r s
  | .modeCmdOff n => Sys2Proof.Machine.execModeCmdOff n s
  | .modeCmdMan n => Sys2Proof.Machine.execModeCmdMan n s
  | .modeCmdAuto n => Sys2Proof.Machine.execModeCmdAuto n s
  | .loopTick extra => Sys2Proof.Machine.execLoopTick extra s
  | .motionTick ns => Sys2Proof.Machine.execMotionTick ns s
  | .targetChange n v => Sys2Proof.Machine.execTargetChange n v s
  | .axisCmdStart n => Sys2Proof.Machine.execAxisCmdStart n s
  | .axisCmdStop n => Sys2Proof.Machine.execAxisCmdStop n s
  | .axisCmdQuickStop n => Sys2Proof.Machine.execAxisCmdQuickStop n s
  | .axisCmdResume n => Sys2Proof.Machine.execAxisCmdResume n s
  | .axisCmdAbandon n => Sys2Proof.Machine.execAxisCmdAbandon n s
  | .axisCmdClearFault n => Sys2Proof.Machine.execAxisCmdClearFault n s
  | .stopAll w => Sys2Proof.Machine.execStopAll w s
  | .grpCmdMove g => Sys2Proof.Machine.execGrpCmdMove g s
  | .grpCmdStop g => Sys2Proof.Machine.execGrpCmdStop g s
  | .grpCmdResume g => Sys2Proof.Machine.execGrpCmdResume g s
  | .grpCmdQuickStop g => Sys2Proof.Machine.execGrpCmdQuickStop g s
  | .grpCfgWrite g w => Sys2Proof.Machine.execGrpCfgWrite g w s
  | .gearEngage n => Sys2Proof.Machine.execGearEngage n s
  | .gearDisengage n => Sys2Proof.Machine.execGearDisengage n s
  | .gearArmChg n => Sys2Proof.Machine.execGearArmChg n s
  | .followingError n => Sys2Proof.Machine.execFollowingError n s
  | .driveLinkFault n => Sys2Proof.Machine.execDriveLinkFault n s
  | .idleReduction n => Sys2Proof.Machine.execIdleReduction n s
  | .setpointFrame => Sys2Proof.Machine.execSetpointFrame s
  | .driveStatusReport c k r => Sys2Proof.Machine.execDriveStatusReport c k r s
  | .positionSample reads => Sys2Proof.Machine.execPositionSample reads s
  | .carCmdLearn n => Sys2Proof.Machine.execCarCmdLearn n s
  | .carCmdLearnAccept n => Sys2Proof.Machine.execCarCmdLearnAccept n s
  | .carCmdLearnAbort n => Sys2Proof.Machine.execCarCmdLearnAbort n s
  | .carCmdReference n => Sys2Proof.Machine.execCarCmdReference n s
  | .carCmdOosOn n => Sys2Proof.Machine.execCarCmdOosOn n s
  | .carCmdReturn n => Sys2Proof.Machine.execCarCmdReturn n s
  | .carCmdIndOn n => Sys2Proof.Machine.execCarCmdIndOn n s
  | .carCmdIndOff n => Sys2Proof.Machine.execCarCmdIndOff n s
  | .learnRunEnd n => Sys2Proof.Machine.execLearnRunEnd n s
  | .carArrival n => Sys2Proof.Machine.execCarArrival n s
  | .holdupResume => Sys2Proof.Machine.execHoldupResume s
  | .callEntry c => Sys2Proof.Machine.execCallEntry c s
  | .enterCall r w => Sys2Proof.Machine.execEnterCall r w s
  | .cancelCall r id => Sys2Proof.Machine.execCancelCall r id s
  | .clearCalls r => Sys2Proof.Machine.execClearCalls r s
  | .callIdxWrite e => Sys2Proof.Machine.execCallIdxWrite e s
  | .optimisationPass k us => Sys2Proof.Machine.execOptimisationPass k us s
  | .doorCmdOpen n rear => Sys2Proof.Machine.execDoorCmdOpen n rear s
  | .doorCmdClose n rear => Sys2Proof.Machine.execDoorCmdClose n rear s
  | .doorCmdHold n rear => Sys2Proof.Machine.execDoorCmdHold n rear s
  | .doorCmdRelease n rear => Sys2Proof.Machine.execDoorCmdRelease n rear s
  | .doorCmdNudge n rear => Sys2Proof.Machine.execDoorCmdNudge n rear s
  | .doorCmdStop n rear => Sys2Proof.Machine.execDoorCmdStop n rear s
  | .dwellEnd n => Sys2Proof.Machine.execDwellEnd n s
  | .doorOpened n => Sys2Proof.Machine.execDoorOpened n s
  | .doorClosed n => Sys2Proof.Machine.execDoorClosed n s
  | .lockTimeout n => Sys2Proof.Machine.execLockTimeout n s
  | .openTimeout n => Sys2Proof.Machine.execOpenTimeout n s
  | .closeTimeout n => Sys2Proof.Machine.execCloseTimeout n s
  | .relevelStart n => Sys2Proof.Machine.execRelevelStart n s
  | .safetyCycle ns c => Sys2Proof.Machine.execSafetyCycle ns c s
  | .discrepancyTrip k => Sys2Proof.Machine.execDiscrepancyTrip k s
  | .bypassTrip n => Sys2Proof.Machine.execBypassTrip n s
  | .brakeTrip n => Sys2Proof.Machine.execBrakeTrip n s
  | .coreFault => Sys2Proof.Machine.execCoreFault s
  | .preEnergiseTest j pass => Sys2Proof.Machine.execPreEnergiseTest j pass s
  | .safetyResetPress openMs heldMs => Sys2Proof.Machine.execSafetyResetPress openMs heldMs s
  | .resetStuck => Sys2Proof.Machine.execResetStuck s
  | .resetStuckClear => Sys2Proof.Machine.execResetStuckClear s
  | .resetWiring => Sys2Proof.Machine.execResetWiring s
  | .telegramSend => Sys2Proof.Machine.execTelegramSend s
  | .telegramReceive l m => Sys2Proof.Machine.execTelegramReceive l m s
  | .laneCopyMissing c l => Sys2Proof.Machine.execLaneCopyMissing c l s
  | .connWatchdog c => Sys2Proof.Machine.execConnWatchdog c s
  | .paramCommit r crc => Sys2Proof.Machine.execParamCommit r crc s
  | .paramDiscard r => Sys2Proof.Machine.execParamDiscard r s
  | .meteringSample raw ofs => Sys2Proof.Machine.execMeteringSample raw ofs s
  | .circEnable n => Sys2Proof.Machine.execCircEnable n s
  | .aggEnable g => Sys2Proof.Machine.execAggEnable g s
  | .pulseEnable n => Sys2Proof.Machine.execPulseEnable n s
  | .pulseHandover n => Sys2Proof.Machine.execPulseHandover n s
  | .demandIntervalEnd => Sys2Proof.Machine.execDemandIntervalEnd s
  | .periodicCheckpoint => Sys2Proof.Machine.execPeriodicCheckpoint s
  | .checkpointWriteDone ok us => Sys2Proof.Machine.execCheckpointWriteDone ok us s
  | .checkpoint => Sys2Proof.Machine.execCheckpoint s
  | .maxReset c => Sys2Proof.Machine.execMaxReset c s
  | .estClear r c => Sys2Proof.Machine.execEstClear r c s
  | .regClear r c => Sys2Proof.Machine.execRegClear r c s
  | .presenceJudged => Sys2Proof.Machine.execPresenceJudged s
  | .islTempRead t => Sys2Proof.Machine.execIslTempRead t s
  | .pointValueWrite r n v q => Sys2Proof.Machine.execPointValueWrite r n v q s
  | .pointConfigWrite r n k w => Sys2Proof.Machine.execPointConfigWrite r n k w s
  | .writePrio r n p v q => Sys2Proof.Machine.execWritePrio r n p v q s
  | .relinquish r n p => Sys2Proof.Machine.execRelinquish r n p s
  | .endSession r n => Sys2Proof.Machine.execEndSession r n s
  | .bindingDelivery n v q => Sys2Proof.Machine.execBindingDelivery n v q s
  | .sessIdxWrite n => Sys2Proof.Machine.execSessIdxWrite n s
  | .lastRefuseRead => Sys2Proof.Machine.execLastRefuseRead s
  | .readProperty r reads => Sys2Proof.Machine.execReadProperty r reads s
  | .writeProperty r writes => Sys2Proof.Machine.execWriteProperty r writes s
  | .subscribeCov r n confirmed => Sys2Proof.Machine.execSubscribeCov r n confirmed s
  | .covNotification k => Sys2Proof.Machine.execCovNotification k s
  | .whoIs r obj => Sys2Proof.Machine.execWhoIs r obj s
  | .deviceCommunicationControl r on => Sys2Proof.Machine.execDeviceCommunicationControl r on s
  | .timeSynchronization r => Sys2Proof.Machine.execTimeSynchronization r s
  | .bacnetScConnect c => Sys2Proof.Machine.execBacnetScConnect c s
  | .frameReceive l f => Sys2Proof.Machine.execFrameReceive l f s
  | .tailWrite l ring tail writes => Sys2Proof.Machine.execTailWrite l ring tail writes s
  | .frameTransmit l => Sys2Proof.Machine.execFrameTransmit l s
  | .txDone l => Sys2Proof.Machine.execTxDone l s
  | .txtsPop l => Sys2Proof.Machine.execTxtsPop l s
  | .gclCommit l => Sys2Proof.Machine.execGclCommit l s
  | .gateCycleStart l => Sys2Proof.Machine.execGateCycleStart l s
  | .gateIntervalEnd l => Sys2Proof.Machine.execGateIntervalEnd l s
  | .supervisionFrame => Sys2Proof.Machine.execSupervisionFrame s
  | .nodeForget src => Sys2Proof.Machine.execNodeForget src s
  | .phyLinkChange l up fast => Sys2Proof.Machine.execPhyLinkChange l up fast s
  | .canEnable c on => Sys2Proof.Machine.execCanEnable c on s
  | .txPush c => Sys2Proof.Machine.execTxPush c s
  | .txAbortAll c => Sys2Proof.Machine.execTxAbortAll c s
  | .canSleep c => Sys2Proof.Machine.execCanSleep c s
  | .canWake c => Sys2Proof.Machine.execCanWake c s
  | .canRecover c => Sys2Proof.Machine.execCanRecover c s
  | .canTxAttempt c o => Sys2Proof.Machine.execCanTxAttempt c o s
  | .canFrameReceive c f m => Sys2Proof.Machine.execCanFrameReceive c f m s
  | .rxAck c n => Sys2Proof.Machine.execRxAck c n s
  | .heartbeatReceive c k => Sys2Proof.Machine.execHeartbeatReceive c k s
  | .nodeAbsent c k => Sys2Proof.Machine.execNodeAbsent c k s
  | .sdoDownload n => Sys2Proof.Machine.execSdoDownload n s
  | .sdoResponse c k ok => Sys2Proof.Machine.execSdoResponse c k ok s
  | .sdoTimeout c k => Sys2Proof.Machine.execSdoTimeout c k s
  | .canWakeEvent c e => Sys2Proof.Machine.execCanWakeEvent c e s
  | .busOff c => Sys2Proof.Machine.execBusOff c s
  | .busOffRecoveryStart c => Sys2Proof.Machine.execBusOffRecoveryStart c s
  | .busOffRecovered c => Sys2Proof.Machine.execBusOffRecovered c s
  | .ownerTake r mramOk => Sys2Proof.Machine.execOwnerTake r mramOk s
  | .ownerRelease r mramOk => Sys2Proof.Machine.execOwnerRelease r mramOk s
  | .tenantRoot r tag mramOk => Sys2Proof.Machine.execTenantRoot r tag mramOk s
  | .credCreate r a mramOk => Sys2Proof.Machine.execCredCreate r a mramOk s
  | .rotate r h mramOk => Sys2Proof.Machine.execRotate r h mramOk s
  | .destroy r h mramOk => Sys2Proof.Machine.execDestroy r h mramOk s
  | .attestSign r nonce => Sys2Proof.Machine.execAttestSign r nonce s
  | .attestMac r credId challenge => Sys2Proof.Machine.execAttestMac r credId challenge s
  | .attestPub r => Sys2Proof.Machine.execAttestPub r s
  | .ownerLockWrite r v => Sys2Proof.Machine.execOwnerLockWrite r v s
  | .handleSelWrite h => Sys2Proof.Machine.execHandleSelWrite h s
  | .burnishPass ns => Sys2Proof.Machine.execBurnishPass ns s
  | .twnCmdResync => Sys2Proof.Machine.execTwnCmdResync s
  | .twnCmdSwitch => Sys2Proof.Machine.execTwnCmdSwitch s
  | .twnCmdGiveUp => Sys2Proof.Machine.execTwnCmdGiveUp s
  | .pairingAttempt p => Sys2Proof.Machine.execPairingAttempt p s
  | .joinTimeout => Sys2Proof.Machine.execJoinTimeout s
  | .partnerFound p => Sys2Proof.Machine.execPartnerFound p s
  | .agreementRound m => Sys2Proof.Machine.execAgreementRound m s
  | .roundLate => Sys2Proof.Machine.execRoundLate s
  | .giveUpReceive => Sys2Proof.Machine.execGiveUpReceive s
  | .twinHeartbeat => Sys2Proof.Machine.execTwinHeartbeat s
  | .twinHeartbeatReceive st => Sys2Proof.Machine.execTwinHeartbeatReceive st s
  | .twinLinkLost => Sys2Proof.Machine.execTwinLinkLost s
  | .resyncComplete m => Sys2Proof.Machine.execResyncComplete m s
  | .resyncTimeout => Sys2Proof.Machine.execResyncTimeout s
  | .recordCapture sev page code arg late data => Sys2Proof.Machine.execRecordCapture sev page code arg late data s
  | .triggerIrq => Sys2Proof.Machine.execTriggerIrq s
  | .trigger r t => Sys2Proof.Machine.execTrigger r t s
  | .evrClear r level => Sys2Proof.Machine.execEvrClear r level s
  | .evrFreezeWrite r v => Sys2Proof.Machine.execEvrFreezeWrite r v s
  | .evrFreezeTimeout => Sys2Proof.Machine.execEvrFreezeTimeout s
  | .sideBufferMerge => Sys2Proof.Machine.execSideBufferMerge s
  | .opSTick => Sys2Proof.Machine.execOpSTick s
  | .stageBegin r len => Sys2Proof.Machine.execStageBegin r len s
  | .stageData r ofs data => Sys2Proof.Machine.execStageData r ofs data s
  | .stageEnd r => Sys2Proof.Machine.execStageEnd r s
  | .stageEndDone tiles => Sys2Proof.Machine.execStageEndDone tiles s
  | .activate r => Sys2Proof.Machine.execActivate r s
  | .activationInstant => Sys2Proof.Machine.execActivationInstant s
  | .updAbort r => Sys2Proof.Machine.execUpdAbort r s
  | .rollback r => Sys2Proof.Machine.execRollback r s
  | .autoPairActivate => Sys2Proof.Machine.execAutoPairActivate s
  | .atbSelect w => Sys2Proof.Machine.execAtbSelect w s
  | .bistRun r => Sys2Proof.Machine.execBistRun r s
  | .bistDone ok => Sys2Proof.Machine.execBistDone ok s
  | .referenceCheck ppm => Sys2Proof.Machine.execReferenceCheck ppm s
  | .tempRead ts => Sys2Proof.Machine.execTempRead ts s
  | .exposureReached => Sys2Proof.Machine.execExposureReached s
  | .scrubWord found => Sys2Proof.Machine.execScrubWord found s
  | .sramScrub found later => Sys2Proof.Machine.execSramScrub found later s
  | .scrubPassEnd secs => Sys2Proof.Machine.execScrubPassEnd secs s
  | .ceThreshold m grown => Sys2Proof.Machine.execCeThreshold m grown s
  | .calRead r ofs cnt => Sys2Proof.Machine.execCalRead r ofs cnt s
  | .calStage r ofs data => Sys2Proof.Machine.execCalStage r ofs data s
  | .calCommit r crc okA okB => Sys2Proof.Machine.execCalCommit r crc okA okB s
  | .calFactory r => Sys2Proof.Machine.execCalFactory r s
  | .fireJudgement => Sys2Proof.Machine.execFireJudgement s
  | .fireCmdAlert r key => Sys2Proof.Machine.execFireCmdAlert r key s
  | .fireCmdEvacuate r key => Sys2Proof.Machine.execFireCmdEvacuate r key s
  | .fireCmdEndurance r key => Sys2Proof.Machine.execFireCmdEndurance r key s
  | .fireReset r key => Sys2Proof.Machine.execFireReset r key s
  | .fireResetRestoreStep => Sys2Proof.Machine.execFireResetRestoreStep s
  | .enduranceTemp => Sys2Proof.Machine.execEnduranceTemp s
  | .enduranceStep k => Sys2Proof.Machine.execEnduranceStep k s
  | .enduranceLimit => Sys2Proof.Machine.execEnduranceLimit s
  | .vaWatchdog => Sys2Proof.Machine.execVaWatchdog s
  | .recallPlanStart n => Sys2Proof.Machine.execRecallPlanStart n s
  | .busOkLost => Sys2Proof.Machine.execBusOkLost s
  | .backupLowChange scap coin => Sys2Proof.Machine.execBackupLowChange scap coin s
  | .stageEraseDone => Sys2Proof.Machine.execStageEraseDone s
  | .retentiveCopyWritten => Sys2Proof.Machine.execRetentiveCopyWritten s
  | .twinLinkTrained lane1 => Sys2Proof.Machine.execTwinLinkTrained lane1 s

end Sys2Proof.Machine
end

