-- ==== Sys2Proof/Machine/Arrival.lean ====
section
/-! DEFINITION. How the commands of one 125 µs tick come to the queue: changes of several mode families in order of rank
(R508, R509). -/

namespace Sys2Proof.Machine

/-- The rank of the mode family that a command changes (R508); none for a command that changes no mode. A judgement of the fire block
ranks with ENDURANCE where it enters or leaves that mode. Lift modes are judged by MOTION_TICK, which ends a tick. -/
def State.modeRank (s : State) (c : Instr) : Option Nat :=
  match c with
  | .pwrWarn | .warnTest | .busOkMet _ => some 1
  | .activate .. | .rollback .. | .autoPairActivate | .activationInstant => some 2
  | .fireJudgement => some (if s.get Reg.FIR_MODE = FireMode.ENDURANCE ∨ (fireJudgement s).get Reg.FIR_MODE = FireMode.ENDURANCE then 3 else 5)
  | .fireReset .. => some (if s.get Reg.FIR_MODE = FireMode.ENDURANCE then 3 else 5)
  | .twnCmdResync | .twnCmdSwitch | .twnCmdGiveUp | .joinTimeout | .partnerFound _ | .giveUpReceive | .twinLinkLost
  | .resyncComplete _ | .resyncTimeout => some 4
  | .carCmdOosOn .. | .carCmdReturn .. | .carCmdIndOn .. | .carCmdIndOff .. => some 6
  | .scnCmdRun | .scnCmdStop | .scnCmdHold | .scnCmdStep | .holdMaxTimeout => some 7
  | .shedEntry | .shedStageApply _ | .shedRecoveryEntry | .shedStageRestore => some 8
  | .canSleep .. | .canWake .. | .canWakeEvent .. => some 9
  | _ => none

/-- Insert a mode change behind those of its rank or a lower one. -/
def rankInsert (x : Nat × Instr) : List (Nat × Instr) → List (Nat × Instr)
  | [] => [x]
  | y :: l => if x.1 < y.1 then x :: y :: l else y :: rankInsert x l

/-- Mode changes in order of rank; those of one rank keep the order in which they arrived. -/
def rankSort (l : List (Nat × Instr)) : List (Nat × Instr) := l.foldl (fun a x => rankInsert x a) []

/-- Put mode changes, in the order given, into the places that mode changes hold among the commands of a tick. -/
def fillRanks (rank : Instr → Option Nat) : List Instr → List (Nat × Instr) → List Instr
  | [], _ => []
  | c :: cs, l =>
    match rank c, l with
    | some _, x :: l => x.2 :: fillRanks rank cs l
    | _, l => c :: fillRanks rank cs l

/-- The commands of one tick in the order in which they apply (R509). -/
def State.arrangeTick (s : State) (cs : List Instr) : List Instr :=
  fillRanks s.modeRank cs (rankSort (cs.filterMap (fun c => (s.modeRank c).map (fun r => (r, c)))))

/-- The commands of one tick enter the queue: its mode changes in order of rank, so that each takes its sequence value in that order
and none of a lower rank acts on what one of a higher rank leaves behind (R509; log entry 98). -/
def State.arriveTick (cs : List Instr) (s : State) : State := { s with pending := s.pending ++ s.arrangeTick cs }

end Sys2Proof.Machine
end

