-- ==== Sys2Proof/WellFormed.lean ====
section
/-! DEFINITION. Well-formed commands: every operand lies in the width or the range that its field has in the spec. Operands
whose type already has that width need no check. -/

namespace Sys2Proof

/-- The end of the range of a time in TAI ns: 48 bits of seconds (R112). -/
def tsEnd : Nat := 2 ^ 48 * 1000000000

/-- SEQ is a 64-bit field that starts at 1 (R89). -/
def Arrival.wf (a : Arrival) : Bool := decide (a.udp < 2 ^ 16) && decide (0 < a.seq) && decide (a.seq < 2 ^ 64)

/-- The header of a REQUEST, and its payload in a datagram (R98). -/
def BilletReq.wf (q : BilletReq) : Bool :=
  decide (q.op < 256) && decide (q.flags < 256) && decide (q.len < 2 ^ 16) && decide (q.reqId < 2 ^ 32) && decide (q.addr < 2 ^ 32)
    && decide (q.payload.length < 2 ^ 16)

/-- The fields of OPEN_INIT: 97, 32, 4, 2 and 2 bytes, and at most 64 pins (R92). -/
def OpenInit.wf (o : OpenInit) : Bool :=
  decide (o.udp < 2 ^ 16) && decide (o.keyQ < 2 ^ 776) && decide (o.nonce < 2 ^ 256) && decide (o.credId < 2 ^ 32) && decide (o.majors < 2 ^ 16) && decide (o.limit < 2 ^ 16)
    && decide (o.pins.length ≤ 64)
    && o.pins.all (fun (p : PinOffer) => decide (p.type < 2 ^ 16) && decide (p.major < 256) && decide (p.minor < 256))

/-- The fields of an Announce message. -/
def Announce.wf (a : Announce) : Bool :=
  decide (a.clockId < 2 ^ 64) && decide (a.gmId < 2 ^ 64) && decide (a.priority1 < 256) && decide (a.clockClass < 256) && decide (a.accuracy < 256)
    && decide (a.variance < 2 ^ 16) && decide (a.priority2 < 256) && decide (a.stepsRemoved < 2 ^ 16) && decide (a.domain < 256) && decide (a.utcOffset < 2 ^ 16)

/-- A report's time is a time, and a page is a page. -/
def Report.wf (r : Report) : Bool := decide (r.ts < tsEnd) && (match r.src with | .other p => decide (p < 160) | _ => true)

/-- The arguments of CRED_CREATE, words of 32 bits and 48 bytes (R441). -/
def CredArgs.wf (a : CredArgs) : Bool :=
  decide (a.parent < 2 ^ 32) && decide (a.kind < 2 ^ 32) && decide (a.credId < 2 ^ 32) && decide (a.rights < 2 ^ 32) && decide (a.prio < 2 ^ 32)
    && a.value.all (fun (v : Nat) => decide (v < 2 ^ 384))

/-- An SSI frame has at most 32 data bits (R283). -/
def PosRead.wf : PosRead → Bool
  | .ssi w _ _ => decide (w < 2 ^ 32)
  | .quad _ _ => true

/-- A CAN frame: the identifier's width, the 4-bit length code and bytes (R417, R420). -/
def CanRx.wf (f : CanRx) : Bool :=
  decide (f.id < (if f.ide then 2 ^ 29 else 2 ^ 11)) && decide (f.dlc < 16) && decide (f.data.length ≤ 64) && f.data.all (fun (b : Nat) => decide (b < 256))
    && decide (f.ts < tsEnd)

/-- A frame that may wake a channel. -/
def WakeEvent.wf : WakeEvent → Bool
  | .pattern => true
  | .frame _ ide id dlc _ => decide (id < (if ide then 2 ^ 29 else 2 ^ 11)) && decide (dlc < 16)

/-- The fields of a telegram (R342). -/
def Telegram.wf (m : Telegram) : Bool :=
  decide (m.magic < 2 ^ 16) && decide (m.lane < 256) && decide (m.flags < 256) && decide (m.count < 2 ^ 32)

/-- An Ethernet frame from its destination address on (R395). -/
def RxFrame.wf (f : RxFrame) : Bool := decide (14 ≤ f.bytes.length) && decide (f.ts < tsEnd)

/-- An address of Tree is a 32-bit address of a word (R71). -/
def EccFind.wf (e : EccFind) : Bool := decide (e.addr < 2 ^ 32) && decide (e.addr % 4 = 0)

/-- A partner's counters and words (R448). -/
def RoundIn.wf (m : RoundIn) : Bool := decide (m.seq < 2 ^ 64) && decide (m.pairSeq < 2 ^ 16)

/-- A resync copies words at word addresses (R459). -/
def ResyncIn.wf (m : ResyncIn) : Bool :=
  decide (m.seq < 2 ^ 64) && decide (m.pairSeq < 2 ^ 16) && m.words.all (fun (e : Nat × Word) => decide (e.1 < 2 ^ 32) && decide (e.1 % 4 = 0))

/-- A command whose operands fit the fields they stand for. -/
def Instr.wf : Instr → Bool
  | .portGrantChange _ _ _ => true
  | .twinPresChange _ => true
  | .fsFailSet _ => true
  | .fsFailClear _ => true
  | .fsReversed _ _ => true
  | .fuseClose _ => true
  | .fuseTrip _ => true
  | .fuseRetry _ _ => true
  | .bkpSourceChange _ => true
  | .bkpPowerOn => true
  | .busOkMet _ => true
  | .pwrWarn => true
  | .holdupStagesApply => true
  | .finalCheckpointStart => true
  | .finalCheckpointDone _ _ => true
  | .goSafeThreshold => true
  | .brownout _ => true
  | .shedEntry => true
  | .shedStageApply _ => true
  | .shedRecoveryEntry => true
  | .shedStageRestore => true
  | .warnTest => true
  | .busMvUpdate _ => true
  | .rstCmdApp _ _ => true
  | .rstCmdSys _ _ => true
  | .rstCmdFull _ _ => true
  | .rstCmdBkp _ _ => true
  | .applicationWatchdog => true
  | .systemWatchdog => true
  | .eccFatal => true
  | .powerOnReset => true
  | .resetPulseEnd _ => true
  | .resetNAssert => true
  | .resetNRelease => true
  | .resetNStuck => true
  | .resetNUnmask => true
  | .sysDomainRelease _ => true
  | .stirrupRelease => true
  | .weltLanesTrained _ => true
  | .firstValidFrame => true
  | .mramRestore => true
  | .skiverIntegrating => true
  | .stirrupSelftestComplete _ => true
  | .manifestVerified _ _ => true
  | .configurationApplied _ => true
  | .startOk _ => true
  | .startTimeout => true
  | .tackExit _ => true
  | .clockMonitorFail _ _ => true
  | .freqWindow kHz _ => decide (kHz.length = 8)
  | .extRefFallback => true
  | .refLost => true
  | .crystalRestored => true
  | .extPresChange _ => true
  | .registerWrite _ _ _ => true
  | .readClear _ _ => true
  | .wideLowRead _ _ => true
  | .wideLowWrite _ _ _ => true
  | .enableWrite _ _ _ => true
  | .lockWrite _ _ _ => true
  | .softReset _ _ => true
  | .freezeWrite _ _ _ => true
  | .freezeTimeout _ => true
  | .irqForce _ _ _ => true
  | .openInit o => o.wf
  | .openConfirm _ a mac => a.wf && decide (mac < 2 ^ 384)
  | .halfOpenTimeout _ => true
  | .request _ a q => a.wf && q.wf
  | .read _ _ => true
  | .write _ _ _ => true
  | .modify _ _ _ _ => true
  | .bulkRead _ _ count => decide (count < 2 ^ 32)
  | .bulkWrite _ _ data => decide (4 * data.length < 2 ^ 16)
  | .exec _ _ _ args => decide (args.length < 2 ^ 16)
  | .subscribe _ _ kind _ => decide (kind < 4)
  | .subscribeCancel _ _ => true
  | .orderTimeout _ reqId => decide (reqId < 2 ^ 32)
  | .notify _ => true
  | .notifyResend _ _ => true
  | .ack _ a _ seq => a.wf && decide (seq < 2 ^ 32)
  | .close _ a => a.wf
  | .sessionIdleTimeout _ => true
  | .sessionRekey _ => true
  | .setTimeCommit _ _ => true
  | .stepArmWrite _ _ => true
  | .announceReceive _ a => a.wf
  | .syncReceive _ m => decide (m.clockId < 2 ^ 64)
  | .delayReqSend _ => true
  | .delayRespReceive _ _ => true
  | .pdelayReqReceive _ => true
  | .masterMessageSend _ _ => true
  | .announceReceiptTimeout _ => true
  | .syncLossTimeout => true
  | .holdoverSecond => true
  | .secondRollover => true
  | .rtcCommit => true
  | .dstAdd => true
  | .dstSub => true
  | .discipline => true
  | .oscStopped => true
  | .osfClear => true
  | .swoValidClear => true
  | .scapMvUpdate _ _ => true
  | .predictionTick _ _ _ => true
  | .slotArm _ => true
  | .slotCancel _ => true
  | .slotRelease _ => true
  | .slotFire _ => true
  | .timedCommandExecute _ _ => true
  | .donePop => true
  | .snapshotSeqRead _ => true
  | .mainsPllLock _ _ _ => true
  | .mainsPllLoss _ => true
  | .mainsPllRelock _ _ _ => true
  | .coilMeasurement _ _ contact => decide (contact < tsEnd)
  | .coilTableSave => true
  | .sequenceAssign => true
  | .lateReport r => r.wf
  | .seqMirror => true
  | .chCfgWrite _ _ _ => true
  | .modeChangeApply _ => true
  | .dinSample _ _ _ samples => samples.all (fun (x : Int × Nat) => decide (x.2 < 2 ^ 32))
  | .countEdge _ _ _ ts => decide (ts < tsEnd)
  | .tileOutWrite _ _ => true
  | .pulseReq _ _ => true
  | .pulseEmit _ _ => true
  | .stepEdge _ _ => true
  | .shortDetect _ _ => true
  | .shortRetry _ _ _ => true
  | .overtemp _ _ _ => true
  | .openLoad _ _ _ => true
  | .extDrive _ _ _ => true
  | .currentMeasure _ mas _ _ => decide (mas.length = 32)
  | .curShed _ => true
  | .curRestore _ => true
  | .downlinkFrame _ _ _ => true
  | .uplinkFrame _ _ _ => true
  | .weltLinkLost _ _ => true
  | .barrierExpiry _ _ => true
  | .fieldSidePowerUp _ _ _ => true
  | .goSafeAll => true
  | .tileGoSafe _ => true
  | .appResetGoSafe _ => true
  | .safeTableCommit _ => true
  | .tableCommitDone _ _ => true
  | .laneSilence _ _ => true
  | .testPulseStart _ _ => true
  | .testPulseEnd _ _ => true
  | .testDue _ _ => true
  | .scnCmdRun => true
  | .scnCmdStop => true
  | .scnCmdHold => true
  | .scnCmdStep => true
  | .scnCmdSwap => true
  | .scanTick => true
  | .scanWatchdog => true
  | .holdMaxTimeout => true
  | .retPeriodicSave => true
  | .writeConfirm _ => true
  | .writeUndeliverable _ => true
  | .dataWindowWrite _ _ => true
  | .forceEnable _ _ _ => true
  | .saveProg _ => true
  | .saveProgDone => true
  | .clearForces _ => true
  | .retSave _ => true
  | .scNop _ => true
  | .scEnd _ => true
  | .scJmp _ => true
  | .scJmpc _ => true
  | .scJmpcn _ => true
  | .scCall _ => true
  | .scRet _ => true
  | .scRetc _ => true
  | .scLdx _ => true
  | .scAddx _ => true
  | .scStx _ => true
  | .scLdv _ => true
  | .scLdz _ => true
  | .scLdnf _ => true
  | .scLd _ => true
  | .scLdn _ => true
  | .scAnd _ => true
  | .scAndn _ => true
  | .scOr _ => true
  | .scOrn _ => true
  | .scXor _ => true
  | .scXorn _ => true
  | .scSt _ => true
  | .scStn _ => true
  | .scSet _ => true
  | .scRes _ => true
  | .scNot _ => true
  | .scRe _ => true
  | .scFe _ => true
  | .scPush _ => true
  | .scAndb _ => true
  | .scOrb _ => true
  | .scXorb _ => true
  | .scPop _ => true
  | .scPeek _ => true
  | .scLdw _ => true
  | .scStw _ => true
  | .scStwc _ => true
  | .scLdq _ => true
  | .scQok _ => true
  | .scSetq _ => true
  | .scTstw _ => true
  | .scLdba _ => true
  | .scAdd _ => true
  | .scSub _ => true
  | .scMul _ => true
  | .scDiv _ => true
  | .scMod _ => true
  | .scNeg _ => true
  | .scAbs _ => true
  | .scMin _ => true
  | .scMax _ => true
  | .scAndw _ => true
  | .scOrw _ => true
  | .scXorw _ => true
  | .scShl _ => true
  | .scShr _ => true
  | .scAsr _ => true
  | .scEq _ => true
  | .scNe _ => true
  | .scLt _ => true
  | .scLe _ => true
  | .scGt _ => true
  | .scGe _ => true
  | .scLtu _ => true
  | .scGeu _ => true
  | .scAddf _ => true
  | .scSubf _ => true
  | .scMulf _ => true
  | .scDivf _ => true
  | .scMinf _ => true
  | .scMaxf _ => true
  | .scAbsf _ => true
  | .scNegf _ => true
  | .scEqf _ => true
  | .scLtf _ => true
  | .scGtf _ => true
  | .scItof _ => true
  | .scFtoi _ => true
  | .scSclf _ => true
  | .scTon _ => true
  | .scTof _ => true
  | .scTp _ => true
  | .scCtu _ => true
  | .scCtd _ => true
  | .scCrst _ => true
  | .scCld _ => true
  | .apply _ _ => true
  | .applyMark _ _ => true
  | .applyGroup _ => true
  | .modeCmdOff _ => true
  | .modeCmdMan _ => true
  | .modeCmdAuto _ => true
  | .loopTick _ => true
  | .motionTick _ => true
  | .targetChange _ _ => true
  | .axisCmdStart _ => true
  | .axisCmdStop _ => true
  | .axisCmdQuickStop _ => true
  | .axisCmdResume _ => true
  | .axisCmdAbandon _ => true
  | .axisCmdClearFault _ => true
  | .stopAll _ => true
  | .grpCmdMove _ => true
  | .grpCmdStop _ => true
  | .grpCmdResume _ => true
  | .grpCmdQuickStop _ => true
  | .grpCfgWrite _ _ => true
  | .gearEngage _ => true
  | .gearDisengage _ => true
  | .gearArmChg _ => true
  | .followingError _ => true
  | .driveLinkFault _ => true
  | .idleReduction _ => true
  | .setpointFrame => true
  | .driveStatusReport _ _ _ => true
  | .positionSample reads => reads.all (fun (x : Fin 8 × PosRead) => x.2.wf)
  | .carCmdLearn _ => true
  | .carCmdLearnAccept _ => true
  | .carCmdLearnAbort _ => true
  | .carCmdReference _ => true
  | .carCmdOosOn _ => true
  | .carCmdReturn _ => true
  | .carCmdIndOn _ => true
  | .carCmdIndOff _ => true
  | .learnRunEnd _ => true
  | .carArrival _ => true
  | .holdupResume => true
  | .callEntry _ => true
  | .enterCall _ _ => true
  | .cancelCall _ _ => true
  | .clearCalls _ => true
  | .callIdxWrite _ => true
  | .optimisationPass _ _ => true
  | .doorCmdOpen _ _ => true
  | .doorCmdClose _ _ => true
  | .doorCmdHold _ _ => true
  | .doorCmdRelease _ _ => true
  | .doorCmdNudge _ _ => true
  | .doorCmdStop _ _ => true
  | .dwellEnd _ => true
  | .doorOpened _ => true
  | .doorClosed _ => true
  | .lockTimeout _ => true
  | .openTimeout _ => true
  | .closeTimeout _ => true
  | .relevelStart _ => true
  | .safetyCycle _ _ => true
  | .discrepancyTrip _ => true
  | .bypassTrip _ => true
  | .brakeTrip _ => true
  | .coreFault => true
  | .preEnergiseTest _ _ => true
  | .safetyResetPress _ _ => true
  | .resetStuck => true
  | .resetStuckClear => true
  | .resetWiring => true
  | .telegramSend => true
  | .telegramReceive _ m => m.wf
  | .laneCopyMissing _ _ => true
  | .connWatchdog _ => true
  | .paramCommit _ _ => true
  | .paramDiscard _ => true
  | .meteringSample raw _ => decide (raw.length = 54)
  | .circEnable _ => true
  | .aggEnable _ => true
  | .pulseEnable _ => true
  | .pulseHandover _ => true
  | .demandIntervalEnd => true
  | .periodicCheckpoint => true
  | .checkpointWriteDone _ _ => true
  | .checkpoint => true
  | .maxReset _ => true
  | .estClear _ _ => true
  | .regClear _ _ => true
  | .presenceJudged => true
  | .islTempRead _ => true
  | .pointValueWrite _ _ _ _ => true
  | .pointConfigWrite _ _ _ _ => true
  | .writePrio _ _ p _ _ => decide (p < 2 ^ 32)
  | .relinquish _ _ p => decide (p < 2 ^ 32)
  | .endSession _ _ => true
  | .bindingDelivery _ _ _ => true
  | .sessIdxWrite _ => true
  | .lastRefuseRead => true
  | .readProperty _ _ => true
  | .writeProperty _ _ => true
  | .subscribeCov _ _ _ => true
  | .covNotification _ => true
  | .whoIs _ _ => true
  | .deviceCommunicationControl _ _ => true
  | .timeSynchronization _ => true
  | .bacnetScConnect _ => true
  | .frameReceive _ f => f.wf
  | .tailWrite _ _ _ _ => true
  | .frameTransmit _ => true
  | .txDone _ => true
  | .txtsPop _ => true
  | .gclCommit _ => true
  | .gateCycleStart _ => true
  | .gateIntervalEnd _ => true
  | .supervisionFrame => true
  | .nodeForget _ => true
  | .phyLinkChange _ _ _ => true
  | .canEnable _ _ => true
  | .txPush _ => true
  | .txAbortAll _ => true
  | .canSleep _ => true
  | .canWake _ => true
  | .canRecover _ => true
  | .canTxAttempt _ _ => true
  | .canFrameReceive _ f _ => f.wf
  | .rxAck _ _ => true
  | .heartbeatReceive _ _ => true
  | .nodeAbsent _ _ => true
  | .sdoDownload _ => true
  | .sdoResponse _ _ _ => true
  | .sdoTimeout _ _ => true
  | .canWakeEvent _ e => e.wf
  | .busOff _ => true
  | .busOffRecoveryStart _ => true
  | .busOffRecovered _ => true
  | .ownerTake _ _ => true
  | .ownerRelease _ _ => true
  | .tenantRoot _ tag _ => decide (tag < 2 ^ 32)
  | .credCreate _ a _ => a.wf
  | .rotate _ _ _ => true
  | .destroy _ _ _ => true
  | .attestSign _ nonce => decide (nonce.length = 8)
  | .attestMac _ credId challenge => decide (credId < 2 ^ 32) && decide (challenge.length = 8)
  | .attestPub _ => true
  | .ownerLockWrite _ _ => true
  | .handleSelWrite _ => true
  | .burnishPass _ => true
  | .twnCmdResync => true
  | .twnCmdSwitch => true
  | .twnCmdGiveUp => true
  | .pairingAttempt p => decide (p.serial < 2 ^ 64)
  | .joinTimeout => true
  | .partnerFound p => decide (p.serial < 2 ^ 64)
  | .agreementRound m => m.wf
  | .roundLate => true
  | .giveUpReceive => true
  | .twinHeartbeat => true
  | .twinHeartbeatReceive _ => true
  | .twinLinkLost => true
  | .resyncComplete m => m.wf
  | .resyncTimeout => true
  | .recordCapture _ _ _ _ _ data => decide (data.length ≤ 16)
  | .triggerIrq => true
  | .trigger _ t => decide (t < 2 ^ 32)
  | .evrClear _ level => decide (level < 2 ^ 32)
  | .evrFreezeWrite _ _ => true
  | .evrFreezeTimeout => true
  | .sideBufferMerge => true
  | .opSTick => true
  | .stageBegin _ len => decide (len < 2 ^ 32)
  | .stageData _ ofs _ => decide (ofs < 2 ^ 32)
  | .stageEnd _ => true
  | .stageEndDone _ => true
  | .activate _ => true
  | .activationInstant => true
  | .updAbort _ => true
  | .rollback _ => true
  | .autoPairActivate => true
  | .atbSelect _ => true
  | .bistRun _ => true
  | .bistDone _ => true
  | .referenceCheck _ => true
  | .tempRead _ => true
  | .exposureReached => true
  | .scrubWord found => found.all (fun (e : EccFind) => e.wf)
  | .sramScrub found later => found.all (fun (e : EccFind) => e.wf) && later.all (fun (e : EccFind) => e.wf)
  | .scrubPassEnd _ => true
  | .ceThreshold _ _ => true
  | .calRead _ ofs cnt => decide (ofs < 2 ^ 32) && decide (cnt < 2 ^ 32)
  | .calStage _ ofs _ => decide (ofs < 2 ^ 32)
  | .calCommit _ _ _ _ => true
  | .calFactory _ => true
  | .fireJudgement => true
  | .fireCmdAlert _ _ => true
  | .fireCmdEvacuate _ _ => true
  | .fireCmdEndurance _ _ => true
  | .fireReset _ _ => true
  | .fireResetRestoreStep => true
  | .enduranceTemp => true
  | .enduranceStep _ => true
  | .enduranceLimit => true
  | .vaWatchdog => true
  | .recallPlanStart _ => true
  | .busOkLost => true
  | .backupLowChange _ _ => true
  | .stageEraseDone => true
  | .retentiveCopyWritten => true
  | .twinLinkTrained _ => true

end Sys2Proof
end

