-- ==== Sys2Proof/Safety.lean ====
section
/-! DEFINITION. The terms in which claims are made: a command completes in a next state of which something holds, words of the
register store that stay, and the canonical form of the store. -/

namespace Sys2Proof.Machine

/-- The command answers a next state, and of that state `P` holds. -/
def Next (c : Instr) (s : State) (P : State → Prop) : Prop := ∃ t, exec c s = .next t ∧ P t

/-- Where `C` holds the command completes with the effect `P`; elsewhere it completes and changes nothing. -/
def When (C : Prop) (c : Instr) (s : State) (P : State → Prop) : Prop := (C → Next c s P) ∧ (¬ C → Next c s (· = s))

/-- Where `o` holds a value the command completes with the effect `P` of it; elsewhere it completes and changes nothing. -/
def WhenSome {α : Type} (o : Option α) (c : Instr) (s : State) (P : α → State → Prop) : Prop :=
  (o = none → Next c s (· = s)) ∧ ∀ v, o = some v → Next c s (P v)

/-- Every word of pages and windows but those that `W` names reads as before, by the stored word. -/
def WordsStay (W : Nat → Prop) (s t : State) : Prop := ∀ a, ¬ W a → t.word a = s.word a

/-- The register store has its one canonical form: addresses strictly rising, no entry equal to what an unlisted address reads
as. -/
def Canonical (s : State) : Prop := s.mem.wf = true

/-- What a step does to the queue: the waiting commands but the first stay, in their order. -/
def QueueServed (s t : State) : Prop := t.pending = s.pending.tail

/-! ## Accesses (R84, R85, R97, R387, R460) -/

/-- A requester that can make an access, to an aligned word that exists, of a block it has not pinned at a level not served, and
with the rights the guard asks: of a read, or of the write of `w`. -/
def State.admitted (s : State) (r : Requester) (a : Nat) (w : Option Word) : Bool :=
  s.reaches r && !s.pinRefused r a && a % 4 == 0 && (ownerPage a).isSome
  && match w with
    | none => s.mayRead r a
    | some v => s.mayWrite r a v && !s.mntBars r (ownerPage a)

/-- The word that the fields of the register table make of a written word over the old one (R80, R531). -/
def tableWord (a : Nat) (w old : Word) : Word := ((rowsAt a).foldl (fieldWrite w) (old, false)).1

/-- A status that says an access was performed: OK, or W_IGNORED beside it (R105). -/
def Performed (t : State) : Prop := t.resp.status = Status.OK ∨ t.resp.status = Status.W_IGNORED

/-- A word whose writes store it and do nothing more: beyond the common header in a page without such effects, or in the loop window. -/
def storesOnly (a : Nat) : Bool :=
  (decide (a < 0xA0000) && decide (0x040 ≤ a % 4096) && (wideAt a).isNone
    && [some PageKind.BKP, some .CLK, some .UPD, some .CAL, some .ECC].contains (pageKind (a / 4096)))
  || ((windowOf a).elim false (fun (k : WindowKind × Nat) => k.1 == .loop) && (wideAt a).isNone)

/-! ## The scan engine's operands (R225, R226) -/

/-- A word of the data window that exists and is free of errors. -/
def CleanWord (k : Nat) (s : State) : Prop :=
  dataReadable k = true ∧ s.badWord (dataAddr k) = false ∧ s.eccSingle.contains (dataAddr k) = false

/-- The quality of word `k`: of its point in IN_W and OUT_W, else GOOD. -/
def WordQual (k : Nat) (s : State) (q : Nat) : Prop :=
  if k < inQ then CleanWord (inQ + k / 4) s ∧ q = qualCode (s.dataByte inQ k)
  else if inOutW k then CleanWord (outQ + (k - outW) / 4) s ∧ q = qualCode (s.dataByte outQ (k - outW))
  else q = Qual.GOOD

/-- A word operand reads as `w` with quality `q`: an immediate, or a clean word that the operand names. -/
def Operand (op : BitVec 24) (s : State) (w : Word) (q : Nat) : Prop :=
  (opSp op = 2 ∧ w = BitVec.ofInt 32 (toSigned 22 (opAddr op)) ∧ q = Qual.GOOD)
  ∨ ∃ k, placeW false s.cpu.x op = some (.word k) ∧ CleanWord k s ∧ w = s.dataWord k ∧ WordQual k s q

/-- A bit operand reads as `b`: an immediate, or a bit of a clean word. -/
def BitOperand (op : BitVec 24) (s : State) (b : Bool) : Prop :=
  (opSp op = 2 ∧ opAddr op < 2 ∧ b = (opAddr op == 1))
  ∨ ∃ k j, placeB false s.cpu.x op = some (.bit k j) ∧ CleanWord k s ∧ b = (s.dataWord k).getLsbD j

/-- A structure operand: three clean words from `k`. -/
def StructOperand (op : BitVec 24) (s : State) (k : Nat) : Prop :=
  placeS s.cpu.x op = some k ∧ CleanWord k s ∧ CleanWord (k + 1) s ∧ CleanWord (k + 2) s

/-- The command runs to its end: the working registers become `c`, and nothing else changes. -/
def Runs (i : Instr) (s : State) (c : Cpu) : Prop := Next i s (· = s.setCpu c)

/-- The working registers after an instruction that goes on to the next, with its cycles. -/
def Cpu.goes (c : Cpu) (cost : Nat) : Cpu := { c with pc := c.pc + 1, cyc := c.cyc + cost }

end Sys2Proof.Machine
end

