-- ==== Sys2Proof/Certificates/Slice0/Obligations.lean ====
section
/-! DEFINITION. The statements for the provers. Each command's statement has as its conclusion that the command answers a next
state, and what that state holds; where a form does not apply, that nothing changes. -/

open Sys2Proof Sys2Proof.Machine

/-! ## Supply, resets and bring-up (chapters of power, resets and clocks) -/

/-- R25, R32, R46: a port carries load from 40 W on, and keeps to 21 W; R42: no load, no BUS_OK; a fuse closes only enabled, untripped
and with FS_7 above 17.5 V, a trip opens it, and a retry closes it where the fault is gone.
Where the rules leave it open, what is stated is the model's choice (log entry 35). -/
def Obligations.ports_and_fuses : Prop :=
  (∀ (s : State) (d : Bool) (mW : Nat), mW < 2 ^ 32 →
  Next (.portGrantChange .A d mW) s (fun t =>
    t.flag Reg.PWR_A_DET = d ∧ t.get Reg.PWR_A_GRANT = (if d then mW else 0)
    ∧ (t.flag Reg.PWR_A_LOAD = true ↔ d = true ∧ (if s.flag Reg.PWR_A_LOAD then 21000 else 40000) ≤ mW)
    ∧ t.flag Reg.PWR_B_LOAD = s.flag Reg.PWR_B_LOAD
    ∧ t.flag Reg.PWR_BUS_OK = (s.flag Reg.PWR_BUS_OK && (t.flag Reg.PWR_A_LOAD || t.flag Reg.PWR_B_LOAD))
    ∧ WordsStay (fun a => a = 0x2040 ∨ a = 0x2044) s t)
  ∧ Next (.portGrantChange .B d mW) s (fun t =>
    t.flag Reg.PWR_B_DET = d ∧ t.get Reg.PWR_B_GRANT = (if d then mW else 0)
    ∧ (t.flag Reg.PWR_B_LOAD = true ↔ d = true ∧ (if s.flag Reg.PWR_B_LOAD then 21000 else 40000) ≤ mW)
    ∧ t.flag Reg.PWR_A_LOAD = s.flag Reg.PWR_A_LOAD
    ∧ t.flag Reg.PWR_BUS_OK = (s.flag Reg.PWR_BUS_OK && (t.flag Reg.PWR_A_LOAD || t.flag Reg.PWR_B_LOAD))
    ∧ WordsStay (fun a => a = 0x2040 ∨ a = 0x2048) s t))
  ∧ (∀ (s : State) (f : Fin 12),
    let live := s.pwr.powered = true ∧ s.fuseEnabled f = true
    let closes := live ∧ s.pwr.tripped.contains f.val = false ∧ 17500 < (s.tile 7).fsMv
    let retries := live ∧ s.pwr.tripped.contains f.val = true
    (closes → Next (.fuseClose f) s (fun t => t.pwr.fuses.contains f.val = true ∧ t.mem = s.mem))
    ∧ (¬ closes → Next (.fuseClose f) s (· = s))
    ∧ (s.pwr.fuses.contains f.val = true → Next (.fuseTrip f) s (fun t => t.pwr.fuses.contains f.val = false
        ∧ t.pwr.tripped.contains f.val = true ∧ t.fuseTripped f = true ∧ t.getBit (Reg.HDR_IRQ_STAT Page.CAN) f = true))
    ∧ (s.pwr.fuses.contains f.val = false → Next (.fuseTrip f) s (· = s))
    ∧ (retries → ∀ holds : Bool, Next (.fuseRetry f holds) s (fun t => t.pwr.fuses.contains f.val = holds
        ∧ t.pwr.tripped.contains f.val = !holds ∧ t.fuseTripped f = !holds))
    ∧ (¬ retries → ∀ holds : Bool, Next (.fuseRetry f holds) s (· = s)))

/-- R34, R36, R42, R45 to R47: supply measurements and shedding.
Where the rules leave it open, what is stated is the model's choice (log entries 35, 39, 41, 90). -/
def Obligations.supply_modes : Prop := ∀ s : State,
  (∀ scap coin : Nat, scap < 2 ^ 32 → coin < 2 ^ 32 →
    Next (.scapMvUpdate scap coin) s (fun t => t.get Reg.BKP_SCAP_MV = scap ∧ t.get Reg.BKP_COIN_MV = coin
      ∧ t.flag Reg.BKP_COIN_PRES = decide (2700 < coin)
      ∧ (1600 ≤ max scap coin → WordsStay (fun a => 0x4040 ≤ a ∧ a ≤ 0x4048) s t)
      ∧ (1600 ≤ max (s.get Reg.BKP_SCAP_MV) (s.get Reg.BKP_COIN_MV) → max scap coin < 1600 → t.flag Reg.RTC_OSF = true))
    ∧ Next (.backupLowChange scap coin) s (fun t => t.get Reg.BKP_SCAP_MV = scap ∧ t.get Reg.BKP_COIN_MV = coin
      ∧ t.flag Reg.BKP_COIN_PRES = decide (2700 < coin)))
  ∧ (∀ mv : Nat, mv < 2 ^ 32 →
      (s.pwrLive = true → Next (.busMvUpdate mv) s (fun t => t.get Reg.PWR_BUS_MV = mv ∧ WordsStay (fun a => a = 0x204C) s t))
      ∧ (s.pwrLive = false → Next (.busMvUpdate mv) s (· = s)))
  ∧ Next .busOkLost s (fun t => t.flag Reg.PWR_BUS_OK = false ∧ WordsStay (fun a => a = 0x2040) s t)
  ∧ (let sheds := s.pwrLive = true ∧ (s.get Reg.PWR_MODE = 0 ∨ s.get Reg.PWR_MODE = 3) ∧ s.totalGrant < s.get Reg.PWR_BUDGET_MW
     (sheds → Next .shedEntry s (fun t => t.get Reg.PWR_MODE = 1 ∧ WordsStay (fun a => a = 0x2040) s t))
     ∧ (¬ sheds → Next .shedEntry s (· = s)))
  ∧ (∀ mW : Nat,
      let applies := s.pwrLive = true ∧ s.get Reg.PWR_MODE = 1 ∧ s.get Reg.FIR_MODE ≠ 4 ∧ s.get Reg.PWR_SHED ≠ 7 ∧ s.totalGrant < mW + 2000
      (applies → Next (.shedStageApply mW) s (fun t => t.get Reg.PWR_SHED = s.get Reg.PWR_SHED ||| nextStage (s.get Reg.PWR_SHED)))
      ∧ (¬ applies → Next (.shedStageApply mW) s (· = s)))
  ∧ (let recovers := s.pwrLive = true ∧ s.get Reg.PWR_MODE = 1 ∧ s.get Reg.PWR_BUDGET_MW ≤ s.totalGrant
     (recovers → Next .shedRecoveryEntry s (fun t =>
        t.get Reg.PWR_MODE = if s.get Reg.PWR_SHED = 0 ∧ s.flag Reg.MTR_RESTORE_DONE = true then 0 else 3))
     ∧ (¬ recovers → Next .shedRecoveryEntry s (· = s)))
  ∧ (let restores := s.pwrLive = true ∧ s.get Reg.PWR_MODE = 3 ∧ s.get Reg.FIR_MODE ≠ 4
     (restores → Next .shedStageRestore s (fun t => t.get Reg.PWR_SHED = restoreStage (s.get Reg.PWR_SHED)
        ∧ t.get Reg.PWR_MODE = if restoreStage (s.get Reg.PWR_SHED) = 0 ∧ s.flag Reg.MTR_RESTORE_DONE = true then 0 else 3))
     ∧ (¬ restores → Next .shedStageRestore s (· = s)))

/-- R43, R48 to R51: PWR_WARN, the hold-up stages and the final checkpoint.
Where the rules leave it open, what is stated is the model's choice (log entries 34, 41, 88). -/
def Obligations.holdup : Prop := ∀ s : State,
  let warns := s.pwrLive = true ∧ s.flag Reg.PWR_PWR_WARN = false
  let held := s.pwrLive = true ∧ s.get Reg.PWR_MODE = 2
  let warned (test : Bool) (t : State) : Prop := t.pwr.warnTest = test ∧ t.pwr.final = b2n s.skiverRestored
    ∧ t.flag Reg.PWR_PWR_WARN = true ∧ t.get Reg.PWR_MODE = 2 ∧ t.flag Reg.PWR_FINAL_OK = false
  (warns → Next .pwrWarn s (warned false) ∧ Next .warnTest s (warned true))
  ∧ (¬ warns → Next .pwrWarn s (· = s) ∧ Next .warnTest s (· = s))
  ∧ (held → Next .holdupStagesApply s (fun t => t.get Reg.PWR_SHED = 7 ∧ t.get Reg.PWR_MODE = 2))
  ∧ (¬ held → Next .holdupStagesApply s (· = s))
  ∧ (held → s.pwr.final = 1 → Next .finalCheckpointStart s (fun t => t.pwr.final = 2 ∧ t.scan.frozen = true
      ∧ t.pwr.mirror = (s.get Reg.RST_RST_TOTAL, s.get Reg.RST_POWER_CYCLES, s.get Reg.RST_FAIL_RUN)))
  ∧ (¬ (held ∧ s.pwr.final = 1) → Next .finalCheckpointStart s (· = s))
  ∧ (∀ (ok : Bool) (us : Nat),
      (held → s.pwr.final = 2 → s.finalAwaited = false → s.pwr.warnTest = false → Next (.finalCheckpointDone ok us) s (fun t => t.pwr.final = 0
        ∧ t.flag Reg.PWR_FINAL_OK = (ok || s.flag Reg.PWR_FINAL_OK) ∧ t.get Reg.PWR_MODE = 2 ∧ t.get Reg.PWR_SHED = s.get Reg.PWR_SHED))
      ∧ (held → s.pwr.final ≠ 1 → ¬ (s.pwr.final = 2 ∧ s.finalAwaited = true) → s.pwr.warnTest = true → Next (.finalCheckpointDone ok us) s (fun t => t.pwr.final = 0
        ∧ t.get Reg.PWR_MODE = 0 ∧ t.flag Reg.PWR_PWR_WARN = false ∧ t.get Reg.PWR_SHED = 0
        ∧ t.get Reg.PWR_HOLD_MS = min 0xFFFF ((2000 + us) / 1000)))
      ∧ (¬ (held ∧ s.pwr.final ≠ 1 ∧ ¬ (s.pwr.final = 2 ∧ s.finalAwaited = true)) → Next (.finalCheckpointDone ok us) s (· = s)))
  ∧ (s.sysHeld = false → Next .goSafeThreshold s (fun t => ∀ n : Fin 8, (t.tile n).goSafe = true ∧ (t.tile n).goSent = false
      ∧ t.flag (Reg.TILE_LIVE n) = false))
  ∧ (s.sysHeld = true → s.get Reg.PWR_MODE ≠ PowerMode.HOLDUP → Next .goSafeThreshold s (· = s))
  ∧ (s.get Reg.PWR_MODE = PowerMode.HOLDUP → Next .goSafeThreshold s (fun t => t.getW Reg.SAF_OUT = 0 ∧ t.pwr.atH5 = true
      ∧ ∀ k ∈ [6, 7], (t.tile k).safA = 0 ∧ (t.tile k).safB = 0))

/-- R52, R53, R55: what a source of reset leaves: it stands in RST_CAUSE, the episode is open, and the domains of its reach are
held.
Where the rules leave it open, what is stated is the model's choice (log entries 33, 34, 40, 88). -/
def Obligations.reset_sources : Prop := ∀ s : State, s.pwr.powered = true →
  let held (id reach : Nat) (t : State) : Prop :=
    t.pwr.episode = true ∧ t.pwr.sources.contains id = true ∧ t.appUp = false ∧ t.sessions = [] ∧ t.getBit Reg.RST_RST_CAUSE (causeBit id) = true
      ∧ t.get Reg.RST_RST_REACH = (if s.pwr.episode then max s.pwr.reach reach else reach) % 8 ∧ (2 ≤ reach → t.sysHeld = true)
          ∧ (3 ≤ reach → t.pwr.fullHeld = true)
  Next .applicationWatchdog s (held 1 1)
  ∧ Next .systemWatchdog s (held 4 2)
  ∧ Next .eccFatal s (held 5 2)
  ∧ (s.pwr.nMask = false → Next .resetNAssert s (held 3 2)) ∧ (s.pwr.nMask = true → Next .resetNAssert s (· = s))
  ∧ (∀ ms : Nat, Next (.brownout ms) s (held 8 3))
  ∧ (let late := s.pwr.running = true ∧ s.flag Reg.RST_START_OK = false
     (late → Next .startTimeout s (held 4 2)) ∧ (¬ late → Next .startTimeout s (· = s)))
  ∧ (∀ (c : Fin 8) (lost : Bool),
      let judged := s.pwr.fullHeld = false ∧ (c = 7 → s.islandOn = true)
      let fails := lost = true ∨ s.getBit Reg.CLK_LOCK c = false ∨ 2 ≤ KV.getD s.pwr.clkOut c.val 0
      (judged → fails → Next (.clockMonitorFail c lost) s (fun t => t.pwr.episode = true ∧ t.pwr.sources.contains 4 = true ∧ t.appUp = false
          ∧ t.sysHeld = true))
      ∧ (¬ (judged ∧ fails) → Next (.clockMonitorFail c lost) s (· = s)))
  ∧ (let lost := s.get Reg.CLK_REF_SRC = 0 ∧ s.pwr.sources.contains 12 = false
     (lost → Next .refLost s (held 12 2)) ∧ (¬ lost → Next .refLost s (· = s)))
  ∧ (s.pwr.sources.contains 8 = false → Next .bkpPowerOn s (held 10 4))

/-- R53, R70, R387: RST_CMD resets at the reach its command names, for its key and a requester of tag 0 with RESET.
Where the rules leave it open, what is stated is the model's choice (log entries 33, 36). -/
def Obligations.reset_commands : Prop := ∀ (s : State) (n : Fin 512), s.pwr.powered = true → (s.creds (.session n)).tag = 0 →
  (s.creds (.session n)).may Right.RESET = true →
  let held (id : Nat) (t : State) : Prop := t.pwr.episode = true ∧ t.pwr.sources.contains id = true ∧ t.appUp = false ∧ t.sessions = []
  Next (.rstCmdApp (.session n) 0xA5C3) s (held 0) ∧ Next (.rstCmdSys (.session n) 0xA5C3) s (held 2)
  ∧ Next (.rstCmdFull (.session n) 0xA5C3) s (held 7) ∧ Next (.rstCmdBkp (.session n) 0xA5C3) s (held 11)
  ∧ Next (.rstCmdApp (.session n) 0) s (fun t => t.getBit (Reg.HDR_ERR_STAT Page.RST) Err.KEY_ERR = true ∧ t.pwr = s.pwr)

/-- R52, R56, R57: power comes, and sources release. A pulse's source is released at its end, RESET_N's when it is released or
stuck, the crystal's when it runs again; BUS_OK releases what stood for the supply.
Where the rules leave it open, what is stated is the model's choice (log entries 34, 35, 40). -/
def Obligations.reset_releases : Prop := ∀ s : State,
  let gone (id : Nat) (t : State) : Prop := t.pwr.sources.contains id = false
  Next .powerOnReset s (fun t => t.pwr.powered = true ∧ t.pwr.episode = true ∧ t.pwr.sources.contains 9 = true ∧ t.sysHeld = true
    ∧ t.pwr.fullHeld = true ∧ t.appUp = false ∧ t.flag Reg.PWR_BUS_OK = false ∧ t.get Reg.BKP_SOURCE = 0 ∧ t.pwr.bkpLoss = false)
  ∧ (s.pwr.powered = false → Next .bkpPowerOn s (fun t => t.pwr.bkpLoss = true ∧ t.cal = Calendar.initial))
  ∧ (∀ id : Fin 12, (id ≠ 3 ∧ id ≠ 8 ∧ id ≠ 9 → Next (.resetPulseEnd id) s (gone id))
      ∧ (id = 3 ∨ id = 8 ∨ id = 9 → Next (.resetPulseEnd id) s (· = s)))
  ∧ Next .resetNRelease s (gone 3)
  ∧ Next .crystalRestored s (gone 12)
  ∧ (s.pwr.sources.contains 3 = true → Next .resetNStuck s (fun t => gone 3 t ∧ t.pwr.nMask = true ∧ t.flag Reg.RST_RST_N_STUCK = true))
  ∧ (s.pwr.sources.contains 3 = false → Next .resetNStuck s (· = s))
  ∧ Next .resetNUnmask s (fun t => t.pwr.nMask = false ∧ t.mem = s.mem)
  ∧ (∀ ms : Nat, (s.anyLoad = true → Next (.busOkMet ms) s (fun t => t.pwr.sources = s.pwr.sources.filter (fun x => x != 8 && x != 9)
        ∧ t.flag Reg.PWR_BUS_OK = true))
      ∧ (s.anyLoad = false → Next (.busOkMet ms) s (· = s)))

/-- R66: bring-up passes its points in their order; B1 lets SYS run, B2 the FULL domains, B8 begins a run, and B9 ends the
episode.
Where the rules leave it open, what is stated is the model's choice (log entries 31, 36, 37, 38, 42, 88). -/
def Obligations.bring_up_points : Prop := ∀ s : State,
  (∀ straps : BitVec 4, s.mayPass 1 = true → Next (.sysDomainRelease straps) s (fun t => t.pwr.point = 1 ∧ t.sysHeld = false))
  ∧ (s.mayPass 2 = true → Next .stirrupRelease s (fun t => t.pwr.point = 2 ∧ t.pwr.fullHeld = false))
  ∧ (s.mayPass 3 = true → Next (.weltLanesTrained true) s (fun t => t.pwr.point = 3 ∧ (t.tile 6).trainedB = true ∧ (t.tile 0).trainedA = true)
      ∧ Next (.weltLanesTrained false) s (fun t => t.pwr.episode = true ∧ t.pwr.point = 0 ∧ t.pwr.sources.contains 4 = true))
  ∧ (s.mayPass 4 = true → Next .firstValidFrame s (fun t => t.pwr.point = 4))
  ∧ (s.mayPass 5 = true → Next .mramRestore s (fun t => t.pwr.point = 5))
  ∧ (s.mayPass 6 = true → Next .skiverIntegrating s (fun t => t.pwr.point = 6 ∧ t.meter.on = true))
  ∧ (s.mayPass 7 = true → s.pwr.fullHeld = false → ∀ a b : Bool, Next (.stirrupSelftestComplete ⟨true, a, b⟩) s (fun t => t.pwr.point = 7))
  ∧ (∀ ms : Nat, s.mayPass 8 = true → Next (.manifestVerified 0 ms) s (fun t => t.pwr.point = 8 ∧ t.pwr.running = true))
  ∧ (∀ roles : BitVec 3, s.mayPass 9 = true → s.appGoSafe = [] → (1 < s.pwr.reach ∨ s.goSafeSent = true) →
      Next (.configurationApplied roles) s (fun t => t.pwr.point = 9 ∧ t.pwr.episode = false ∧ t.appUp = true))

/-- R58 to R65, R115: references, START_OK and Tack room.
Where the rules leave it open, what is stated is the model's choice (log entries 37, 40, 42, 88). -/
def Obligations.clocks_and_starts : Prop := ∀ s : State,
  (∀ (kHz : List Word) (lock : BitVec 8) (c : Fin 8), s.pwrLive = true →
    Next (.freqWindow kHz lock) s (fun t => t.get (Reg.CLK_FREQ c) = (kHz.getD c 0).toNat ∧ t.get Reg.CLK_LOCK = lock.toNat))
  ∧ (let falls := s.pwrLive = true ∧ s.get Reg.CLK_REF_SRC ≠ 0
     (falls → Next .extRefFallback s (fun t => t.get Reg.CLK_REF_SRC = 0 ∧ t.flag Reg.CLK_REF_FALLBACK = true ∧ t.get Reg.RST_CLK_ACTIVE = 3))
     ∧ (¬ falls → Next .extRefFallback s (· = s)))
  ∧ (∀ present : Bool, Next (.extPresChange present) s (fun t => t.flag Reg.CLK_EXT_PRES = present))
  ∧ (s.sysHeld = false → s.flag (Reg.HDR_LOCK Page.RST) = false → s.pwr.running = true →
      Next (.startOk .firmware) s (fun t => t.flag Reg.RST_START_OK = true ∧ (s.flag Reg.RST_START_OK = false → t.get Reg.RST_FAIL_RUN = 0)))
  ∧ (s.sysHeld = false → s.flag (Reg.HDR_LOCK Page.RST) = false → s.flag Reg.RST_TACK = true →
      Next (.tackExit .firmware) s (fun t => t.pwr.tackExit = true))

/-- R18, R34, R140, R178: pins and supplies that are watched.
Where the rules leave it open, what is stated is the model's choice (log entries 39, 83). -/
def Obligations.watched_inputs : Prop := ∀ s : State,
  (∀ t8 : Fin 8, Next (.fsFailSet t8) s (fun t => (t.tile t8).fsFail = true ∧ t.mem = s.mem)
    ∧ Next (.fsFailClear t8) s (fun t => (t.tile t8).fsFail = false ∧ t.mem = s.mem))
  ∧ (∀ (t8 : Fin 8) (rev : Bool), Next (.fsReversed t8 rev) s (fun t => (t.tile t8).fsRev = rev ∧ t.mem = s.mem))
  ∧ (∀ low : Bool, Next (.twinPresChange low) s (fun t => t.twin.present = low))
  ∧ (∀ v : BkpStore, Next (.bkpSourceChange v) s (fun t =>
      t.get Reg.BKP_SOURCE = (if s.pwr.powered && !s.pwr.sources.contains 8 then 0 else if v.scap < v.coin then 2 else 1)
      ∧ (s.get Reg.BKP_SOURCE = 0 → t.get Reg.BKP_SOURCE ≠ 0 →
          t.get Reg.RTC_SWO_CNT = min (2 ^ 32 - 1) (s.get Reg.RTC_SWO_CNT + 1)
          ∧ (s.flag Reg.RTC_SWO_ARMED = true → t.flag Reg.RTC_SWO_VALID = true ∧ t.get Reg.RTC_SWO_SRC = t.get Reg.BKP_SOURCE
              ∧ t.word 0x5060 = s.word 0x5040 ∧ t.word 0x5064 = s.word 0x5044))))

/-! ## Register pages and windows -/

/-- R10, R98, R99: reads and writes of a plain register, here any of the 32 words of BKP_REG, by the supervisory firmware. A
write changes that word and no other.
Where the rules leave it open, what is stated is the model's choice (log entry 83). -/
def Obligations.plain_register_access : Prop := ∀ (s : State) (k : Fin 32) (w m : Word), s.sysHeld = false →
  s.flag (Reg.HDR_FREEZE Page.BKP) = false →
  let a : Word := BitVec.ofNat 32 (0x4080 + 4 * k.val)
  let written (t : State) : Prop := t.word a.toNat = w ∧ t.resp.status = Status.OK ∧ WordsStay (fun b => b = a.toNat) s t
  Next (.registerWrite .firmware a w) s written ∧ Next (.write .firmware a w) s written
  ∧ (s.badWord a.toNat = false →
    Next (.read .firmware a) s (fun t => t.resp.status = Status.OK ∧ t.resp.data = [s.word a.toNat] ∧ t.word a.toNat = s.word a.toNat)
    ∧ Next (.modify .firmware a m w) s (fun t => t.word a.toNat = (s.word a.toNat &&& ~~~ m) ||| (w &&& m) ∧ t.resp.data = [s.word a.toNat]))

/-- R80, R84, R85: an access that is not aligned takes no effect but SIZE, one to an absent address is counted in SYS.ERR_CNT; a write
of a reserved offset sets RSVD_ACC, one of a register without a writable field RO_WR.
Where the rules leave it open, what is stated is the model's choice (log entries 47, 48). -/
def Obligations.refused_accesses : Prop :=
  (∀ (s : State) (a w : Word), s.sysHeld = false →
  (∀ p : Nat, a.toNat % 4 ≠ 0 → ownerPage a.toNat = some p →
    Next (.read .firmware a) s (fun t => t.resp.status = Status.E_ALIGN ∧ t.resp.data = [] ∧ t.getBit (Reg.HDR_ERR_STAT p) Err.SIZE = true)
    ∧ Next (.write .firmware a w) s (fun t => t.resp.status = Status.E_ALIGN ∧ t.getBit (Reg.HDR_ERR_STAT p) Err.SIZE = true))
  ∧ (a.toNat % 4 = 0 → ownerPage a.toNat = none →
    Next (.read .firmware a) s (fun t => t.resp.status = Status.E_ADDR
      ∧ t.get (Reg.HDR_ERR_CNT Page.SYS) = min (2 ^ 32 - 1) (s.get (Reg.HDR_ERR_CNT Page.SYS) + 1))
    ∧ Next (.write .firmware a w) s (fun t => t.resp.status = Status.E_ADDR ∧ WordsStay (fun b => b = 0x24) s t)))
  ∧ (∀ (s : State) (a w : Word) (p : Nat), s.sysHeld = false → a.toNat % 4 = 0 → ownerPage a.toNat = some p →
  (rowsAt a.toNat = [] → Next (.registerWrite .firmware a w) s (fun t =>
    t.getBit (Reg.HDR_ERR_STAT p) Err.RSVD_ACC = true ∧ t.resp.status = Status.W_IGNORED ∧ t.word a.toNat = s.word a.toNat))
  ∧ (rowsAt a.toNat ≠ [] → accMask isRwl a.toNat = 0 → accMask isPlain a.toNat = 0 → Next (.registerWrite .firmware a w) s (fun t =>
    t.getBit (Reg.HDR_ERR_STAT p) Err.RO_WR = true ∧ t.resp.status = Status.W_IGNORED)))

/-- R10, R86, R87: RC fields clear on reading; a wide value latches on the read of its low word and is committed by the write of
its low word, for every requester and word that the guard admits.
Where the rules leave it open, what is stated is the model's choice (log entries 43, 48). -/
def Obligations.clearing_and_wide : Prop := ∀ (s : State) (w h : Word), s.sysHeld = false →
  (s.flag (Reg.HDR_FREEZE Page.SYS) = false → s.badWord 0x8C = false →
    Next (.readClear .firmware 0x8C) s (fun t => t.resp.data = [s.word 0x8C] ∧ t.word 0x8C = 0))
  ∧ (s.badWord 0x6040 = false → Next (.wideLowRead .firmware 0x6040) s (fun t =>
      ∃ ws : List Word, (Requester.firmware, (⟨0x6040, ws⟩ : Latch)) ∈ t.latches ∧ ws.length = 4 ∧ t.resp.data = ws.take 1))
  ∧ (s.flag (Reg.HDR_LOCK Page.TWN) = false → s.staged = [(.firmware, 0xE054, h)] →
    Next (.wideLowWrite .firmware 0xE050 w) s (fun t => t.word 0xE050 = w ∧ t.word 0xE054 = h &&& 0xFFFF ∧ t.staged = []))
  ∧ (∀ (r : Requester) (a : Word), isNarrow r = false → s.admitted r a.toNat none = true → s.badWord a.toNat = false →
    (holdsRc a.toNat = true → Next (.readClear r a) s (fun t => t.resp.status = Status.OK ∧ t.resp.data.length = 1
      ∧ (s.eccSingle.contains a.toNat = false → (wideAt a.toNat = none ∨ isWideLow a.toNat = true) → t.resp.data = [s.readAs r a.toNat])
      ∧ (∀ f ∈ rowsAt a.toNat, f.acc = .rc → f.words = 1 → getBits (t.word a.toNat) f.hi f.lo = 0)
      ∧ (∀ f ∈ rowsAt a.toNat, f.acc = .rc → f.words = 2 → isWideLow a.toNat = true → t.word a.toNat = 0 ∧ t.word (a.toNat + 4) = 0)))
    ∧ (∀ n, wideAt a.toNat = some (a.toNat, n) → s.eccSingle.contains a.toNat = false →
      Next (.wideLowRead r a) s (fun t => t.resp.status = Status.OK ∧ t.resp.data = [s.readAs r a.toNat]
        ∧ (r, (⟨a.toNat, (List.range n).map (fun i => s.readAs r (a.toNat + 4 * i))⟩ : Latch)) ∈ t.latches)))
  ∧ (∀ (r : Requester) (b v : Word) (n : Nat) (p : Nat), isNarrow r = false → s.admitted r b.toNat (some v) = true → wideAt b.toNat = some (b.toNat, n) →
    ownerPage b.toNat = some p → (accMask isRwl b.toNat ≠ 0 ∨ accMask isPlain b.toNat ≠ 0) →
    (accMask isRwl b.toNat = 0 ∨ s.flag (Reg.HDR_LOCK p) = false) → s.ignored r b.toNat v = none →
    let ws := s.wideWords r b.toNat n v
    -- an address of 48 bits takes the lower half of its second word
    let vs := if b = 0xE050 ∨ b = 0xB048 ∨ b = 0xC048 then [ws.getD 0 0, ws.getD 1 0 &&& 0xFFFF] else ws
    let gone (t : State) : Prop := ∀ e ∈ t.staged, ¬ (e.1 = r ∧ b.toNat ≤ e.2.1 ∧ e.2.1 < b.toNat + 4 * n)
    (b.toNat ≠ 0x6050 → ¬ (0x40000 ≤ b.toNat ∧ b.toNat < 0x58000 ∧ b.toNat % 4096 = 0x6C) →
      ¬ (0x90000 ≤ b.toNat ∧ b.toNat < 0xA0000 ∧ ws.all (· == 0) = true) →
      Next (.wideLowWrite r b v) s (fun t => Performed t ∧ gone t
        ∧ ∀ i, i < n → t.word (b.toNat + 4 * i) = tableWord (b.toNat + 4 * i) (vs.getD i 0) (s.word (b.toNat + 4 * i))))
    ∧ (0x90000 ≤ b.toNat ∧ b.toNat < 0xA0000 ∧ ws.all (· == 0) = true →
      Next (.wideLowWrite r b v) s (fun t => Performed t ∧ gone t ∧ t.word b.toNat = 1 ∧ t.word (b.toNat + 4) = 0))
    ∧ (∀ m : Fin 24, b.toNat = 0x4006C + 4096 * m.val →
      (s.carAxis m = false ∨ s.hostMoves m = true → Next (.wideLowWrite r b v) s (fun t => Performed t ∧ gone t
        ∧ t.getW (Reg.AXIS_TARGET m) = v.toNat + 2 ^ 32 * (ws.getD 1 0).toNat))
      ∧ (s.carAxis m = true → s.hostMoves m = false → Next (.wideLowWrite r b v) s (fun t => t.resp.status = Status.E_STATE ∧ gone t))))

/-- R2, R77 to R79, R82: the controls of the common header, by the supervisory firmware, on any present page.
Where the rules leave it open, what is stated is the model's choice (log entries 4, 46, 48, 91). -/
def Obligations.header_controls : Prop := ∀ (s : State) (p : Fin 160) (k : PageKind), s.sysHeld = false → pageKind p.val = some k →
  s.flag (Reg.HDR_SOFT_RESET p) = false →
  (k ≠ .CIRC → k ≠ .PULSE → k ≠ .CANCH → roleGated k = false → ∀ v : Bool,
    Next (.enableWrite .firmware p v) s (fun t => t.flag (Reg.HDR_ENABLE p) = v))
  ∧ (roleGated k = true → s.roleRuns p = false → s.flag (Reg.HDR_ENABLE p) = false →
    Next (.enableWrite .firmware p true) s (fun t => t.flag (Reg.HDR_ENABLE p) = false ∧ t.getBit (Reg.HDR_ERR_STAT p) Err.ROLE_OFF = true))
  ∧ (∀ v : Bool, Next (.lockWrite .firmware p v) s (fun t => t.flag (Reg.HDR_LOCK p) = v))
  ∧ (p.val ≠ Page.SAF → Next (.softReset .firmware p) s (fun t => t.get (Reg.HDR_IRQ_STAT p) = 0))
  ∧ (p.val ≠ Page.EVR → s.flag (Reg.HDR_FREEZE p) = false → Next (.freezeWrite .firmware p true) s (fun t =>
      t.flag (Reg.HDR_FREEZE p) = true ∧ (KV.get? t.frozen p).isSome = true))
  ∧ (p.val ≠ Page.EVR → (s.flag (Reg.HDR_FREEZE p) = true → Next (.freezeTimeout p) s (fun t =>
        t.flag (Reg.HDR_FREEZE p) = false ∧ t.getBit (Reg.HDR_ERR_STAT p) Err.FRZ_TMO = true))
      ∧ (s.flag (Reg.HDR_FREEZE p) = false → Next (.freezeTimeout p) s (· = s)))
  ∧ (∀ w : Word, Next (.irqForce .firmware p w) s (fun t => t.word (4096 * p.val + 0x014) = s.word (4096 * p.val + 0x014) ||| w))

/-- R115, R119: a host-set time in FREE is a step and reads back; in any other state it is refused. STEP_ARM is stored. So for every
requester that may set them.
Where the rules leave it open, what is stated is the model's choice (log entries 11, 46, 55). -/
def Obligations.host_set_time : Prop := ∀ (s : State) (w0 : Word), s.sysHeld = false → s.flag (Reg.HDR_LOCK Page.TBS) = false →
  (s.staged = [] → (s.word 0x6054).toNat < 1000000000 → s.get Reg.TBS_SERVO = 0 → Next (.setTimeCommit .firmware w0) s (fun t =>
    t.resp.status = Status.OK ∧ t.word 0x6050 = w0 ∧ t.timeStepped = true ∧ t.flag Reg.TBS_STEPPED = true))
  ∧ (s.staged = [] → (s.word 0x6054).toNat < 1000000000 → s.get Reg.TBS_SERVO ≠ 0 → Next (.setTimeCommit .firmware w0) s (fun t =>
    t.resp.status = Status.E_STATE ∧ t.getBit (Reg.HDR_ERR_STAT Page.TBS) Err.TBS_SET_REFUSED = true))
  ∧ (∀ v : Bool, Next (.stepArmWrite .firmware v) s (fun t => t.flag Reg.TBS_STEP_ARM = v))
  ∧ (∀ r : Requester, isNarrow r = false → s.admitted r 0x6050 (some w0) = true → s.ownerOrFirmware r = true →
    let ws := s.wideWords r 0x6050 4 w0
    (s.get Reg.TBS_SERVO = 0 → (ws.getD 1 0).toNat < 1000000000 → Next (.setTimeCommit r w0) s (fun t => t.resp.status = Status.OK
      ∧ t.word 0x6050 = w0 ∧ t.word 0x6054 = ws.getD 1 0 ∧ t.word 0x6058 = ws.getD 2 0 ∧ t.word 0x605C = ws.getD 3 0 &&& 0xFFFF
      ∧ t.timeStepped = true ∧ t.flag Reg.TBS_STEPPED = true))
    ∧ (s.get Reg.TBS_SERVO = 0 → 1000000000 ≤ (ws.getD 1 0).toNat → Next (.setTimeCommit r w0) s (fun t => t.resp.status = Status.E_STATE
      ∧ t.tai = s.tai ∧ t.timeStepped = s.timeStepped))
    ∧ (s.get Reg.TBS_SERVO ≠ 0 → Next (.setTimeCommit r w0) s (fun t => t.resp.status = Status.E_STATE ∧ t.tai = s.tai
      ∧ t.getBit (Reg.HDR_ERR_STAT Page.TBS) Err.TBS_SET_REFUSED = true)))
  ∧ (∀ (r : Requester) (v : Bool), isNarrow r = false → s.admitted r 0x6060 (some (setBits (s.word 0x6060) 8 8 (b2n v))) = true →
    Next (.stepArmWrite r v) s (fun t => t.flag Reg.TBS_STEP_ARM = v))

/-! ## Billet -/

/-- R100 to R103: bulk access in one burst, of any requester to any range that the guard admits and that cuts no wide value, and
EXEC, which runs the command that its code and arguments name.
Where the rules leave it open, what is stated is the model's choice (log entries 47, 50, 51, 92). -/
def Obligations.bulk_and_exec : Prop := ∀ (s : State), s.sysHeld = false →
  (∀ k : Nat, k ≤ 32 → s.flag (Reg.HDR_FREEZE Page.BKP) = false → s.eccMarked = [] → s.eccNew = [] →
    Next (.bulkRead .firmware 0x4080 (4 * k)) s (fun t =>
      t.resp.status = Status.OK ∧ t.resp.data = (List.range k).map (fun i => s.word (0x4080 + 4 * i))))
  ∧ (∀ data : List Word, data.length ≤ 32 → Next (.bulkWrite .firmware 0x4080 data) s (fun t =>
      t.resp.status = Status.OK ∧ (∀ i, i < data.length → t.word (0x4080 + 4 * i) = data.getD i 0)
        ∧ WordsStay (fun a => 0x4080 ≤ a ∧ a < 0x4080 + 4 * data.length) s t))
  ∧ Next (.exec .firmware 0x1B000 3 []) s (fun t => t.calls = [] ∧ t.resp.status = Status.OK)
  ∧ (∀ code : Word, 3 < code.toNat → Next (.exec .firmware 0x1B000 code []) s (fun t => t.resp.status = Status.E_OP))
  ∧ (∀ (r : Requester) (a : Word) (n : Nat), s.admitted r a.toNat none = true → wideCut a.toNat (4 * n) = none →
    (∀ i, i < n → sameRegion a.toNat (a.toNat + 4 * i) = true ∧ s.mayRead r (a.toNat + 4 * i) = true ∧ s.badWord (a.toNat + 4 * i) = false) →
    Next (.bulkRead r a (4 * n)) s (fun t => t.resp.status = Status.OK ∧ t.resp.data.length = n
      ∧ ((∀ i, i < n → s.eccSingle.contains (a.toNat + 4 * i) = false ∧ wideAt (a.toNat + 4 * i) = none ∧ readEffect (a.toNat + 4 * i) s = s) →
        t.resp.data = (List.range n).map (fun i => s.readAs r (a.toNat + 4 * i)))))
  ∧ (∀ (r : Requester) (a : Word) (data : List Word) (p : Nat), s.admitted r a.toNat (some (data.getD 0 0)) = true → ownerPage a.toNat = some p →
    s.flag (Reg.HDR_LOCK p) = false →
    (∀ i, i < data.length → sameRegion a.toNat (a.toNat + 4 * i) = true ∧ s.mayWrite r (a.toNat + 4 * i) (data.getD i 0) = true
      ∧ storesOnly (a.toNat + 4 * i) = true) →
    Next (.bulkWrite r a data) s (fun t => Performed t
      ∧ (∀ i, i < data.length → t.word (a.toNat + 4 * i) = tableWord (a.toNat + 4 * i) (data.getD i 0) (s.word (a.toNat + 4 * i)))
      ∧ (t.resp.status = Status.OK → WordsStay (fun b => a.toNat ≤ b ∧ b < a.toNat + 4 * data.length) s t)))
  ∧ (∀ (r : Requester) (a code : Word) (args : List Byte) (k : PageKind), s.reaches r = true → s.pinRefused r a.toNat = false → a.toNat % 4096 = 0 →
    a.toNat < 0xA0000 → pageKind (a.toNat / 4096) = some k → s.mayExec r k code.toNat args = true → s.mntBars r none = false →
    let runs (c : Instr) : Prop := ∀ P, Next c s P → Next (.exec r a code args) s P
    (execCode r k code.toNat args = none → Next (.exec r a code args) s (fun t => t.resp.status = Status.E_OP ∧ t.resp.data = []))
    ∧ (∀ g, execCode r k code.toNat args = some g → Next (.exec r a code args) s (· = g s))
    ∧ (args = [] →
      (k = .SCN → (code = 1 → runs (.saveProg r)) ∧ (code = 2 → runs (.clearForces r)) ∧ (code = 3 → runs (.retSave r)))
      ∧ (k = .LFT → code = 3 → runs (.clearCalls r)) ∧ (k = .SAF → code = 2 → runs (.paramDiscard r))
      ∧ (k = .MTR → code = 1 → runs .checkpoint)
      ∧ (k = .KEY → (code = 1 → runs (.ownerTake r true)) ∧ (code = 2 → runs (.ownerRelease r true)) ∧ (code = 9 → runs (.attestPub r)))
      ∧ (k = .UPD → (code = 3 → runs (.stageEnd r)) ∧ (code = 4 → runs (.activate r)) ∧ (code = 5 → runs (.updAbort r))
        ∧ (code = 6 → runs (.rollback r)))
      ∧ (k = .ATB → code = 1 → runs (.bistRun r)) ∧ (k = .CAL → code = 4 → runs (.calFactory r)))
    ∧ (∀ v : Nat, args.length = 4 → beWords args = [v] →
      (k = .EVR → (code = 1 → runs (.trigger r v)) ∧ (code = 2 → runs (.evrClear r v)))
      ∧ (k = .KEY → code = 3 → runs (.tenantRoot r v true)) ∧ (k = .UPD → code = 1 → runs (.stageBegin r v))
      ∧ (k = .SAF → code = 1 → runs (.paramCommit r (BitVec.ofNat 32 v)))))

/-- R92, R93: an OPEN_INIT within the limits is answered with OPEN_RESP and leaves the session half-open; beyond them it is
dropped and counted. A confirmed session takes the lowest free entry with its credential's tag, rights and priority.
Where the rules leave it open, what is stated is the model's choice (log entries 2, 3, 53, 92). -/
def Obligations.opening_a_session : Prop := ∀ s : State,
  (∀ (o : OpenInit) (h : Nat), s.linkUp o.port = true → o.udp = s.get Reg.SYS_UDP_PORT → s.portOn o.port = true → o.fragment = false
      → s.halfOpen.length < 32 →
    s.recentOpens.length < s.get Reg.SYS_BLT_OPEN_RATE → s.flag Reg.RST_TACK = false → 1024 ≤ o.limit → bitOf o.majors 1 = true
        → o.strict = false →
    s.freeSessionHandle = some h →
    Next (.openInit o) s (fun t => t.halfOpen.length = s.halfOpen.length + 1 ∧ (KV.get? t.handles h).isSome = true ∧ ∃ m, t.wire = m :: s.wire
        ∧ m.kind = .openResp))
  ∧ (∀ o : OpenInit, s.linkUp o.port = true → o.udp = s.get Reg.SYS_UDP_PORT → (s.portOn o.port = false ∨ o.fragment = true) →
    Next (.openInit o) s (fun t => t.wire = s.wire ∧ t.halfOpen = s.halfOpen
        ∧ t.get Reg.SYS_BLT_DROP = min (2 ^ 32 - 1) (s.get Reg.SYS_BLT_DROP + 1)))
  ∧ (∀ o : OpenInit, s.linkUp o.port = true → o.udp = s.get Reg.SYS_UDP_PORT → s.portOn o.port = true → o.fragment = false
      → (32 ≤ s.halfOpen.length ∨ s.get Reg.SYS_BLT_OPEN_RATE ≤ s.recentOpens.length) →
    Next (.openInit o) s (fun t => t.wire = s.wire ∧ t.get Reg.SYS_BLT_OPEN_FAIL = min (2 ^ 32 - 1) (s.get Reg.SYS_BLT_OPEN_FAIL + 1)))
  ∧ (∀ (x : HalfOpen) (a : Arrival) (h n : Nat) (c : Handle), s.hears a.port a.udp = true → s.portOn a.port = true → a.fragment = false
      → a.tagOk = true →
    s.halfOpen.find? (fun g => g.sid == x.sid) = some x → x.udp = a.udp → s.findCred x.credId x.port = some (h, c) → s.usable x.keyHandle = true
        → s.freeEntry c.tag = some n →
    Next (.openConfirm x.sid a (Config.hmac (s.keyValue h) [x.transcript])) s (fun t =>
      ∃ e, KV.get? t.sessions n = some e ∧ e.sid = x.sid ∧ e.tag = c.tag ∧ e.rights = c.rights ∧ e.prio = c.prio ∧ e.highest = 0 ∧ e.sc = false))
  ∧ (∀ sid : Nat, Next (.halfOpenTimeout sid) s (fun t => t.halfOpen.any (fun h => h.sid == sid) = false))

/-- R94, R104, R107: a READ request that is new to its session and passes every check is performed and moves H; a REQ_ID below
the window is not performed.
Where the rules leave it open, what is stated is the model's choice (log entries 3, 54, 92). -/
def Obligations.requests : Prop := ∀ (s : State) (n : Fin 512) (e : Session) (a : Arrival) (r : Nat) (k : Fin 32), s.hears a.port a.udp = true
    → s.portOn a.port = true →
  a.fragment = false → a.tagOk = true → s.sessionOf e.sid = some (n.val, e) → KV.get? s.sessions n.val = some e → e.udp = a.udp
      → e.accepts a.seq = true →
  e.rxCount + 1 < 2 ^ 32 → e.txCount + 1 < 2 ^ 32 →
  let q : BilletReq := ⟨1, 0, 0, r, 0x4080 + 4 * k.val, 0, []⟩
  (e.tag = 0 → bitOf e.rights 0 = true → e.pins = [] → e.waiting = [] → e.performed.contains r = false → e.highest < r → r ≤ e.highest + 64 →
    s.flag (Reg.HDR_FREEZE Page.BKP) = false → s.badWord (0x4080 + 4 * k.val) = false →
    Next (.request e.sid a q) s (fun t => t.resp.status = Status.OK ∧ t.resp.data = [s.word (0x4080 + 4 * k.val)]
      ∧ ∃ f, KV.get? t.sessions n.val = some f ∧ f.highest = r ∧ f.performed.contains r = true))
  ∧ (r + 63 < e.highest → Next (.request e.sid a q) s (fun t => t.resp.status = Status.E_STALE ∧ t.mem = s.mem))
  ∧ Next (.close e.sid a) s (fun t => KV.get? t.sessions n.val = none)
  ∧ (∀ w, e.waiting.find? (fun v => v.req.reqId == r) = some w → Next (.orderTimeout n r) s (fun t =>
      t.resp.status = Status.E_ORDER ∧ ∃ f, KV.get? t.sessions n.val = some f ∧ f.waiting.any (fun v => v.req.reqId == r) = false))
  ∧ (e.sc = false → Next (.sessionIdleTimeout n) s (fun t => KV.get? t.sessions n.val = none)
      ∧ Next (.sessionRekey n) s (fun t => KV.get? t.sessions n.val = none ∧ ∃ m, t.wire = m :: s.wire ∧ m.kind = .billetClose))

/-- R109, R110: subscriptions and their notifications.
Where the rules leave it open, what is stated is the model's choice (log entries 2, 3, 52, 92). -/
def Obligations.subscriptions : Prop := ∀ s : State,
  (∀ (n : Fin 512) (p : Nat) (m : Word), s.reaches (.session n) = true → (s.creds (.session n)).tag = 0
      → (s.creds (.session n)).may Right.SUBSCRIBE = true →
    s.pinRefused (.session n) (4096 * p) = false → p < 160 → pageKind p ≠ none → (s.subs.filter (fun u => u.sess == n.val)).length < 32
        → s.subs.length < 4096 →
    Next (.subscribe n (BitVec.ofNat 32 (4096 * p)) 1 m) s (fun t => ∃ u, t.subs = s.subs ++ [u] ∧ u.sess = n.val ∧ u.kind = 1 ∧ u.target = p
        ∧ u.mask = m.toNat
      ∧ t.resp.data = [Config.subId u.id]))
  ∧ (∀ (n : Fin 512) (u : Sub), s.reaches (.session n) = true → u ∈ s.subs → u.sess = n.val →
    Next (.subscribeCancel n (Config.subId u.id)) s (fun t => u ∉ t.subs ∧ t.resp.status = Status.OK))
  ∧ (∀ u : Sub, s.subs = [u] → s.notesPaused = false → s.appUp = true → u.unacked.length < 8 → u.waiting ≠ [] → s.underRekey u.sess = true →
    Next (.notify u.id) s (fun t => ∃ v, t.subs = [v] ∧ v.waiting = u.waiting.tail ∧ v.unacked.length = u.unacked.length + 1))
  ∧ (∀ (u : Sub) (x : Note), s.subs = [u] → s.notesPaused = false → s.appUp = true → u.unacked.find? (fun y => y.seq == x.seq) = some x
      → (KV.get? s.sessions u.sess).isSome = true → s.underRekey u.sess = true →
    Next (.notifyResend u.id x.seq) s (fun t => t.subs = s.subs ∧ ∃ m, t.wire = m :: s.wire ∧ m.kind = .billetNotify))
  ∧ (∀ (u : Sub) (e : Session) (a : Arrival) (q : Nat), s.subs = [u] → s.hears a.port a.udp = true → e.udp = a.udp → e.rxCount + 1 < 2 ^ 32
      → s.portOn a.port = true → a.fragment = false → a.tagOk = true →
    s.sessionOf e.sid = some (u.sess, e) → e.accepts a.seq = true →
    Next (.ack e.sid a (Config.subId u.id) q) s (fun t => ∃ v, t.subs = [v] ∧ v.unacked = u.unacked.filter (fun x => x.seq != q)))

/-! ## Network time and the calendar clock -/

/-- R116 to R122: PTP messages, their timeouts and what the ports send; an offset of the parent reaches OFS, losing the Sync
messages ends LOCKED, and HOLD_S counts the seconds of HOLDOVER.
Where the rules leave it open, what is stated is the model's choice (log entries 3, 9, 55, 89). -/
def Obligations.network_time : Prop :=
  (∀ (s : State) (l : Lan),
  (∀ a : Announce, When (s.ptpEnabled l = true ∧ a.domain = s.get Reg.TBS_DOMAIN ∧ a.transport.val = s.ptpTransport
      ∧ (s.ptpPort l).link = some true) (.announceReceive l a) s (fun t => t.ptpPort l = (s.ptpPort l).hear a))
  ∧ Next (.announceReceiptTimeout l) s (fun t => t.ptpPort l = (s.ptpPort l).expire)
  ∧ When ((if s.flag Reg.TBS_DELAY_MECH then s.ptpEnabled l = true ∧ (s.ptpPort l).link = some true
      else s.get Reg.TBS_PARENT_PORT = portCode l)) (.delayReqSend l) s (fun t => ∃ m, t.wire = m :: s.wire ∧ m.kind = .ptpDelayReq
      ∧ m.port = portCode l)
  ∧ (∀ m : DelayMsg, When (s.get Reg.TBS_PARENT_PORT = portCode l ∧ m.transport.val = s.ptpTransport) (.delayRespReceive l m) s (fun t => t.tb.mpdKnown = true
      ∧ (s.delayTwice l m % 2 = 0 → t.get Reg.TBS_MPD = ofSigned 32 (s.delayTwice l m / 2))))
  ∧ When (s.ptpEnabled l = true ∧ s.flag Reg.TBS_DELAY_MECH = true
      ∧ (s.ptpPort l).link = some true) (.pdelayReqReceive l) s (fun t =>
      t.wire = ⟨.ptpPdelayRespFollowUp, portCode l, 0, [s.ptpTransport, s.txTime l]⟩ :: ⟨.ptpPdelayResp, portCode l, 0, [s.ptpTransport, s.rxTime l]⟩ :: s.wire ∧ t.mem = s.mem)
  ∧ (s.get (portStateFld l) = PtpState.MASTER →
      Next (.masterMessageSend l .sync) s (fun t =>
        t.wire = ⟨.ptpFollowUp, portCode l, 0, [s.ptpTransport, s.txTime l]⟩ :: ⟨.ptpSync, portCode l, 0, [s.ptpTransport]⟩ :: s.wire ∧ t.mem = s.mem)
      ∧ Next (.masterMessageSend l .announce) s (fun t => t.wire = ⟨.ptpAnnounce, portCode l, 0, s.ptpTransport :: s.announced⟩ :: s.wire ∧ t.mem = s.mem)
      ∧ (s.flag Reg.TBS_DELAY_MECH = false →
          Next (.masterMessageSend l .delayResp) s (fun t => t.wire = ⟨.ptpDelayResp, portCode l, 0, [s.ptpTransport, s.rxTime l]⟩ :: s.wire ∧ t.mem = s.mem)))
  ∧ (s.get (portStateFld l) ≠ PtpState.MASTER → ∀ k : MasterMsg, Next (.masterMessageSend l k) s (fun t => t = s))
  ∧ Next (.txtsPop l) s (fun t => t.mem = s.mem ∧ (l = .A → t.tb.txtsA = s.tb.txtsA.tail ∧ t.tb.txtsB = s.tb.txtsB)
      ∧ (l = .B → t.tb.txtsB = s.tb.txtsB.tail ∧ t.tb.txtsA = s.tb.txtsA)))
  ∧ (∀ s : State,
  (∀ (l : Lan) (m : SyncMsg), When (s.get Reg.TBS_PARENT_PORT = portCode l ∧ s.tb.parentId = m.clockId
      ∧ s.tb.mpdKnown = true ∧ m.transport.val = s.ptpTransport) (.syncReceive l m) s (fun t => t.getW Reg.TBS_OFS = ofSigned (32 * Reg.TBS_OFS.words) (s.offset l m)))
  ∧ (∀ l : Lan, s.get Reg.TBS_SERVO = Servo.LOCKED → s.get Reg.TBS_PARENT_PORT = portCode l → (s.ptpPort (otherLan l)).best = none →
      Next .syncLossTimeout s (fun t => t.get Reg.TBS_SERVO = Servo.HOLDOVER ∧ t.get Reg.TBS_HOLD_S = 0 ∧ t.get Reg.TBS_PARENT_PORT = 0
        ∧ t.tb.adj = s.tb.freq))
  ∧ (s.get Reg.TBS_SERVO ≠ Servo.LOCKED → Next .syncLossTimeout s (fun t => t = s))
  ∧ When (s.get Reg.TBS_SERVO = Servo.HOLDOVER) .holdoverSecond s (fun t => t.get Reg.TBS_HOLD_S = min (2 ^ 32 - 1) (s.get Reg.TBS_HOLD_S + 1)))

/-- R129 to R140: the calendar rolls over, takes a staged value and counts with summer time; discipline, the oscillator's stop
and the switch-over capture.
Where the rules leave it open, what is stated is the model's choice (log entries 10, 13, 14, 56, 89, 90). -/
def Obligations.calendar : Prop :=
  (∀ s : State,
  Next .secondRollover s (fun t => t.get Reg.RTC_SUBSEC = 0 ∧
    (s.rollLeap = 0 → s.cal.pendDst = none → s.civil.secs + 1 < calRange →
      t.get Reg.RTC_SEC = (s.civil.secs + 1) % 60 ∧ t.get Reg.RTC_MIN = (s.civil.secs + 1) % 86400 / 60 % 60
          ∧ t.get Reg.RTC_HOUR = (s.civil.secs + 1) % 86400 / 3600))
  ∧ (if s.disciplined then Next .rtcCommit s (fun t => t.resp.status = Status.E_STATE
      ∧ t.getBit (Reg.HDR_ERR_STAT Page.RTC) Err.RTC_DISC_ACTIVE = true)
      else if s.stagedCivil.valid then Next .rtcCommit s (fun t => t.resp.status = Status.OK ∧ t.get Reg.RTC_SEC = s.get Reg.RTC_STG_SEC
          ∧ t.get Reg.RTC_MIN = s.get Reg.RTC_STG_MIN ∧ t.get Reg.RTC_HOUR = s.get Reg.RTC_STG_HOUR
          ∧ t.get Reg.RTC_SUBSEC = 0 ∧ t.flag Reg.RTC_DST = s.flag Reg.RTC_STG_DST)
      else Next .rtcCommit s (fun t => t.resp.status = Status.E_STATE ∧ t.getBit (Reg.HDR_ERR_STAT Page.RTC) Err.RTC_DATE_INVALID = true))
  ∧ (if s.flag Reg.RTC_DST = false ∧ s.cal.pendDst = none ∧ 0 ≤ s.dstResult .add
      ∧ s.dstResult .add < (calRange : Int) then Next .dstAdd s (fun t => t.cal.pendDst = some .add ∧ t.flag Reg.RTC_PEND_DST = true
      ∧ t.resp.status = Status.OK)
      else Next .dstAdd s (fun t => t.resp.status = Status.E_STATE ∧ t.getBit (Reg.HDR_ERR_STAT Page.RTC) Err.RTC_DST_REFUSED = true))
  ∧ (if s.flag Reg.RTC_DST = true ∧ s.cal.pendDst = none ∧ 0 ≤ s.dstResult .sub
      ∧ s.dstResult .sub < (calRange : Int) then Next .dstSub s (fun t => t.cal.pendDst = some .sub ∧ t.flag Reg.RTC_PEND_DST = true
      ∧ t.resp.status = Status.OK)
      else Next .dstSub s (fun t => t.resp.status = Status.E_STATE ∧ t.getBit (Reg.HDR_ERR_STAT Page.RTC) Err.RTC_DST_REFUSED = true)))
  ∧ (∀ s : State,
  Next .discipline s (fun t => (s.utcValid = true → t.get Reg.RTC_UTC_OFS_BKP = s.get Reg.TBS_UTC_OFS)
    ∧ (s.disciplined = true → t.get Reg.RTC_SUBSEC = 0 ∧ t.flag Reg.RTC_OSF = false))
  ∧ Next .oscStopped s (fun t => t.flag Reg.RTC_OSF = true)
  ∧ Next .osfClear s (fun t => t.flag Reg.RTC_OSF = false ∧ (s.flag Reg.RTC_OSF = true → t.flag Reg.RTC_SWO_ARMED = true)
      ∧ WordsStay (fun a => a = 0x505C) s t)
  ∧ Next .swoValidClear s (fun t => t.flag Reg.RTC_SWO_VALID = false ∧ t.flag Reg.RTC_SWO_ARMED = true ∧ WordsStay (fun a => a = 0x505C) s t))


/-! ## The angle scheduler, coils and the sequence of events -/

/-- R144, R149: a mains PLL's first lock counts from cycle 0; a loss holds the last frequency; a re-lock steps the coordinate
by at most half a cycle to the measured phase. A prediction tick carries the coordinates on and keeps its longest pass.
Where the rules leave it open, what is stated is the model's choice (log entries 7, 11, 57, 93). -/
def Obligations.mains_bases : Prop := ∀ (s : State) (b : Bus),
  (∀ (m : MainsSeen) (phase : Nat), 40000 ≤ m.mV → 45000 ≤ m.mHz → m.mHz ≤ 65000 → 10 ≤ m.cycles → phase < 65536 →
    ((s.pll b).ever = false → s.sysHeld = false → s.appUp = true → Next (.mainsPllLock b m phase) s (fun t =>
      (t.pll b).ever = true ∧ t.flag (pllLock b) = true ∧ t.get (pllFreq b) = m.mHz ∧ t.getW (pllPh b) = phase))
    ∧ ((s.pll b).ever = true → Next (.mainsPllLock b m phase) s (fun t => t = s))
    ∧ When (s.flag (pllHeld b)) (.mainsPllRelock b m phase) s (fun t => t.flag (pllHeld b) = false ∧ t.flag (pllLock b) = true
        ∧ t.get (pllFreq b) = m.mHz
          ∧ (32768 ≤ s.getW (pllPh b) → s.getW (pllPh b) + 32768 < 2 ^ 64 → t.getW (pllPh b) % 65536 = phase
            ∧ ((t.getW (pllPh b) : Int) - s.getW (pllPh b)).natAbs ≤ 32768)))
  ∧ (∀ m : MainsSeen, m.mV < 40000 ∨ m.mHz < 45000 ∨ 65000 < m.mHz ∨ m.cycles < 10 → ∀ phase : Nat,
      Next (.mainsPllLock b m phase) s (fun t => t = s) ∧ Next (.mainsPllRelock b m phase) s (fun t => t = s))
  ∧ (∀ m : MainsFault, m.bus = b → (2 ≤ m.cycles ∧ (m.mV < 30000 ∨ m.mHz < 40000 ∨ 70000 < m.mHz)) ∨ 5000 < m.rocof →
    When (s.flag (pllLock b)) (.mainsPllLoss m) s (fun t => t.flag (pllLock b) = false ∧ t.flag (pllHeld b) = true
        ∧ t.get (pllFreq b) = s.get (pllFreq b) ∧ t.getW (pllPh b) = s.getW (pllPh b)
        ∧ (t.pll b).freq = (s.pll b).freq))
  ∧ (∀ (ma mb : MainsRead) (ns : Nat), (if s.sysHeld = true ∨ s.appUp = false then Next (.predictionTick ma mb ns) s (· = s)
      else if s.flag (Reg.HDR_ENABLE Page.ANG) = true
          ∧ s.flag Reg.ANG_PRED_EN = true then Next (.predictionTick ma mb ns) s (fun t => min ns (2 ^ 32 - 1) ≤ t.get Reg.ANG_PRED_MAX)
      else Next (.predictionTick ma mb ns) s (fun t => s.flag Reg.ANG_LOCK_A = true → t.get Reg.ANG_FREQ_A = min 65535 ma.mHz
          ∧ t.getW Reg.ANG_PH_A = (s.getW Reg.ANG_PH_A + ma.advance) % 2 ^ 64)))

/-- R147, R148, R151, R152: ARM, CANCEL and RELEASE of a slot in the states that accept them, and the error bits in those that
do not; a slot that fires is DONE with its code. Nothing but the slot's words changes at a plain ARM.
Where the rules leave it open, what is stated is the model's choice (log entries 11, 58, 93). -/
def Obligations.slot_commands : Prop := ∀ (s : State) (n : Fin 1024),
  let own (a : Nat) : Prop := 0x06000000 + 32 * n.val ≤ a ∧ a < 0x06000000 + 32 * n.val + 32
  let st := s.get (Reg.SLOT_STATE n)
  let busy (t : State) : Prop := t.get (Reg.SLOT_STATE n) = st ∧ t.resp.status = Status.E_STATE
      ∧ t.getBit (Reg.HDR_ERR_STAT Page.ANG) Err.ANG_SLOT_BUSY = true
  (if st = SlotState.FREE ∨ st = SlotState.DONE then (if s.armValid n then Next (.slotArm n) s (fun t =>
      t.get (Reg.SLOT_STATE n) = SlotState.ARMED ∧ t.get (Reg.SLOT_CODE n) = SlotCode.NONE ∧ t.get (Reg.SLOT_DEV n) = noDev
          ∧ t.getW (Reg.SLOT_PRED n) = noPred ∧ t.resp.status = Status.OK ∧ WordsStay own s t)
        else Next (.slotArm n) s (fun t => t.get (Reg.SLOT_STATE n) = st ∧ t.getBit (Reg.HDR_ERR_STAT Page.ANG) Err.ANG_ARM_INVALID = true))
      else Next (.slotArm n) s (fun t => busy t))
  ∧ (if st = SlotState.ARMED then Next (.slotCancel n) s (fun t => t.get (Reg.SLOT_STATE n) = SlotState.FREE ∧ t.resp.status = Status.OK
      ∧ WordsStay own s t)
      else if st = SlotState.COMMITTED then Next (.slotCancel n) s (fun t => match KV.get? s.slotCommit n with
      | none => busy t
      | some c =>
        if (if lMin (s.get (Reg.SLOT_ACTION n)) = 0 then 0 < c.tc - s.unow else 125000 ≤ c.tc - s.unow) then
          t.get (Reg.SLOT_STATE n) = SlotState.DONE ∧ t.get (Reg.SLOT_CODE n) = SlotCode.RECALLED ∧ KV.get? t.slotCommit n = none
              ∧ t.resp.status = Status.OK
        else t.get (Reg.SLOT_STATE n) = SlotState.COMMITTED ∧ t.resp.status = Status.E_STATE
          ∧ t.getBit (Reg.HDR_ERR_STAT Page.ANG) Err.ANG_RECALL_LATE = true)
      else Next (.slotCancel n) s (fun t => busy t))
  ∧ (if st = SlotState.DONE then Next (.slotRelease n) s (fun t => t.get (Reg.SLOT_STATE n) = SlotState.FREE ∧ t.resp.status = Status.OK
      ∧ WordsStay own s t)
      else Next (.slotRelease n) s (fun t => busy t))
  ∧ (∀ c : SlotCommit, st = SlotState.COMMITTED → KV.get? s.slotCommit n = some c →
      (s.get (Reg.SLOT_ACTION n) = SlotAction.POST_IRQ → Next (.slotFire n) s (fun t =>
        t.get (Reg.SLOT_STATE n) = SlotState.DONE ∧ t.get (Reg.SLOT_CODE n) = s.firedCode n
          ∧ t.getBit (Reg.HDR_IRQ_STAT Page.ANG) (Irq.ANG_EVT + s.get (Reg.SLOT_ARG n) % 8) = true))
      ∧ (s.get (Reg.SLOT_ACTION n) = SlotAction.SNAPSHOT → Next (.slotFire n) s (fun t =>
        t.get (Reg.SLOT_STATE n) = SlotState.DONE ∧ t.get (Reg.SLOT_CODE n) = s.firedCode n
          ∧ t.getW (Reg.ANG_SNAP_TS (s.get (Reg.SLOT_ARG n) % 4)) = s.taiOf c.tc % 2 ^ 64))
      ∧ (s.get (Reg.SLOT_ACTION n) = SlotAction.SET_CH → s.timedHeld n = false → Next (.slotFire n) s (fun t =>
        t.get (Reg.SLOT_STATE n) = SlotState.DONE ∧ t.get (Reg.SLOT_CODE n) = SlotCode.NO_TARGET))
      ∧ (s.get (Reg.SLOT_ACTION n) = SlotAction.START_PROFILE ∨ s.get (Reg.SLOT_ACTION n) = SlotAction.TRIG_REC →
          Next (.slotFire n) s (fun t => t.get (Reg.SLOT_STATE n) = SlotState.DONE)))

/-- R152, R155, R156, R161, R162: a tile's earliest timed command, the DONE queue, snapshot sets, and what a coil learns: the
mean moves a sixteenth of the way and the jitter follows its rule.
Where the rules leave it open, what is stated is the model's choice (log entries 7, 57, 58, 59, 60, 62, 93). -/
def Obligations.coils_and_firings : Prop := ∀ s : State,
  (∀ (t8 : Fin 8) (recent : Bool), When (¬ ((s.tile t8).timed = [])) (.timedCommandExecute t8 recent) s (fun t =>
      ∃ m ∈ (s.tile t8).timed, (∀ e ∈ (s.tile t8).timed, m.tc ≤ e.tc) ∧ (∀ e ∈ (t.tile t8).timed, e.slot ≠ m.slot)
      ∧ (recent = true → ((s.tile t8).chan m.ch).isOut = true → ((s.tile t8).chan m.ch).safety = false → ((s.tile t8).chan m.ch).shed = false
          → bitOf (s.tile t8).fireHold m.ch = false →
          m.ch < 32 → m.slot < 1024 → t.getBit (Reg.TILE_OUT t8) m.ch = m.level)))
  ∧ Next .donePop s (fun t => t.doneQ = s.doneQ.tail ∧ t.mem = s.mem)
  ∧ (∀ k : Fin 4, Next (.snapshotSeqRead k) s (fun t => t.snapUnread.contains k.val = false ∧ t.flag (Reg.ANG_SNAP_OVERWRITTEN k) = false
      ∧ WordsStay (fun a => a = (Reg.ANG_SNAP_OVERWRITTEN k).addr) s t))
  ∧ (∀ (k : Fin 256) (on : Bool) (contact d : Nat) (x : CoilLearn) (tc : Int),
      KV.get? s.coilLearn k.val = some x → (if on then x.onCmd else x.offCmd) = some tc → x.slot = none →
      (if on then x.onAt else x.offAt) = some ((contact : Int) - s.tb.stepSum) → (contact : Int) - s.tb.stepSum = tc + 1000 * d → d ≤ 65535
          → s.flag (Reg.ANG_LEARN k) = true → s.get Reg.TWN_STATE ≠ TwinState.STANDBY →
      let mean := s.get (if on then Reg.ANG_ON_US k else Reg.ANG_OFF_US k)
      let jit := s.get (if on then Reg.ANG_ON_JIT k else Reg.ANG_OFF_JIT k)
      Next (.coilMeasurement k on contact) s (fun t =>
        (16 * (t.get (if on then Reg.ANG_ON_US k else Reg.ANG_OFF_US k) : Int) - (15 * mean + d)).natAbs ≤ 8
        ∧ t.get (if on then Reg.ANG_ON_JIT k else Reg.ANG_OFF_JIT k) =
            (if jit < ((d : Int) - mean).natAbs then min 65535 (jit + 19) else jit - 1)
        ∧ t.flag (if on then Reg.ANG_ON_READY k else Reg.ANG_OFF_READY k) = decide (63 ≤ (if on then x.onCount else x.offCount))))
  ∧ (∀ k : Fin 256, let x := KV.getD s.coilLearn k CoilLearn.initial
      coilMoved x.onSaved (s.get (Reg.ANG_ON_US k)) = true → s.coilSaveMin ≠ some (s.get Reg.EVR_OP_S / 60) →
      Next .coilTableSave s (fun t => t.coilSaveMin = some (s.get Reg.EVR_OP_S / 60) ∧ t.mem = s.mem
        ∧ (∀ e ∈ s.mem, 0x17800 ≤ e.1 → e.1 < 0x18000 → e ∈ t.coilMram)))

/-- R158, R159: reports and events take their values in order of timestamp and then of source; a late one at once, counted.
Where the rules leave it open, what is stated is the model's choice (log entries 57, 93). -/
def Obligations.sequencer_order : Prop := ∀ s : State,
  let before (a b : Report) : Prop := a.ts < b.ts ∨ (a.ts = b.ts ∧ srcRank a.src ≤ srcRank b.src)
  When (¬ (s.sysHeld)) .sequenceAssign s (fun t =>
      (t.seqr.given.map (fun e => e.1)).Perm
        ((s.seqr.waiting ++ s.heldEvents.map (fun e => e.report)).filter (fun r => decide (r.ts + 250000 ≤ s.tai)))
    ∧ (t.seqr.given.map (fun e => e.1)).Pairwise before
    ∧ t.seqr.waiting = s.seqr.waiting.filter (fun r => decide (s.tai < r.ts + 250000))
    ∧ t.heldEvents = s.heldEvents.filter (fun e => decide (s.tai < e.report.ts + 250000)))
  ∧ (∀ r : Report, (if s.sysHeld = true ∨ s.tai ≤ r.ts + 250000 then Next (.lateReport r) s (fun t => t.seqr.waiting = s.seqr.waiting ++ [r]
      ∧ t.mem = s.mem)
      else Next (.lateReport r) s (fun t => t.seqr.given.map (fun e => e.1) = [r] ∧ t.seqr.waiting = s.seqr.waiting
        ∧ t.get Reg.ANG_SEQ_LATE = min (2 ^ 32 - 1) (s.get Reg.ANG_SEQ_LATE + 1)
            ∧ t.getBit (Reg.HDR_ERR_STAT Page.ANG) Err.ANG_SEQ_LATE = true)))
  ∧ Next .seqMirror s (fun t => t.mem = s.mem ∧
      t.seqr.mirror = if s.seqr.mirror + 2 ^ 20 ≤ s.getW Reg.ANG_SEQ then s.getW Reg.ANG_SEQ else s.seqr.mirror)

/-! ## Field tiles and the Welt link -/

/-- R163 to R175: configuration, inputs, outputs, pulses and step timers of a tile. Sampling and edges change no register: they
reach the logic side with an uplink frame.
Where the rules leave it open, what is stated is the model's choice (log entries 60, 61, 95). -/
def Obligations.tile_channels : Prop := ∀ (s : State) (t8 : Fin 8) (n : Fin 32),
  let x := s.tile t8
  let c := x.chan n
  (∀ w : Word,
    let new := (s.word (chCfgAddr t8 n) &&& ~~~ chCfgMask t8) ||| (w &&& chCfgMask t8)
    (if s.flag (Reg.HDR_LOCK (Page.TILE t8)) then Next (.chCfgWrite t8 n w) s (fun t =>
        t.getBit (Reg.HDR_ERR_STAT (Page.TILE t8)) Err.LOCKED_WR = true ∧ t.tiles = s.tiles)
        else if s.flag (Reg.TILE_SAFETY t8 n) then Next (.chCfgWrite t8 n w) s (· = s)
        else if modeValid new = false then Next (.chCfgWrite t8 n w) s (fun t =>
            t.getBit (Reg.HDR_ERR_STAT (Page.TILE t8)) Err.TILE_MODE_INVALID = true ∧ t.tiles = s.tiles)
        else if sinksOn new = true ∧ 16 ≤ s.sinkCount t8 n then Next (.chCfgWrite t8 n w) s (fun t =>
            t.getBit (Reg.HDR_ERR_STAT (Page.TILE t8)) Err.TILE_SINK_BUDGET = true ∧ t.tiles = s.tiles)
        else Next (.chCfgWrite t8 n w) s (fun t => t.word (chCfgAddr t8 n) = new ∧ WordsStay (fun a => a = chCfgAddr t8 n) s t
            ∧ n.val ∈ (t.tile t8).cfgSend)))
  ∧ When (x.trainedA = true ∨ x.trainedB = true) (.modeChangeApply t8) s (fun t => (t.tile t8).cfgSend = [] ∧ t.mem = s.mem
        ∧ (n.val ∈ x.cfgSend → ((t.tile t8).chan n).cfg = s.word (chCfgAddr t8 n) ∧ ((t.tile t8).chan n).param = s.word (chParamAddr t8 n)))
  ∧ (∀ (ts : Nat) (samples : List (Int × Nat)) (sm : Int × Nat), samples[n.val]? = some sm →
      if s.getBit Reg.PWR_SHED 2 = true ∧ t8.val < 6 ∧ ts % 2000000 ≠ 20000 then ∀ l, Next (.dinSample t8 l ts samples) s (· = s) else
      Next (.dinSample t8 .A ts samples) s (fun t => t.mem = s.mem ∧ (c.mode = ChMode.DIN → ((t.tile t8).chan n).last = c.judge sm.1
        ∧ (c.wb = false → c.filter = 1 → ((t.tile t8).chan n).inp = c.judge sm.1)))
      ∧ When (¬ (t8.val < 6)) (.dinSample t8 .B ts samples) s (fun t => t.mem = s.mem ∧ (t.tile t8).ch = x.ch
          ∧ (c.mode = ChMode.DIN → c.safety = true →
          (KV.getD (t.tile t8).chB n Chan.initial).last = ({ KV.getD x.chB n Chan.initial with cfg := c.cfg }).judge sm.1)))
  ∧ (∀ (rising : Bool) (ts : Nat), (if c.mode = ChMode.COUNT then Next (.countEdge t8 n rising ts) s (fun t => t.mem = s.mem
      ∧ ((t.tile t8).chan n).inp = rising
        ∧ ((t.tile t8).chan n).cntInc = c.cntInc + b2n (bitOf c.sub (if rising then 0 else 1)))
      else Next (.countEdge t8 n rising ts) s (fun t => t.mem = s.mem ∧ t.tile t8 = x)))
  ∧ (∀ w : Word, Next (.tileOutWrite t8 w) s (fun t => t.word (Reg.TILE_OUT t8).addr = w ∧ WordsStay (fun a => a = (Reg.TILE_OUT t8).addr) s t))
  ∧ (∀ w : Word, let m := getBits w 12 8
      When (getBits (s.word (chCfgAddr t8 m)) 31 28 = ChMode.PULSE
          ∧ getBits (s.word (chCfgAddr t8 m)) 13 12 = 0) (.pulseReq t8 w) s (fun t =>
          (t.tile t8).waiting m = x.waiting m + min (getBits w 7 0) (255 - x.waiting m)
          ∧ (255 - x.waiting m < getBits w 7 0 → t.getBit (Reg.HDR_ERR_STAT (Page.TILE t8)) Err.TILE_PULSE_OVF = true)))
  ∧ (if x.pulseFree n then Next (.pulseEmit t8 n) s (fun t => t.mem = s.mem ∧ ((t.tile t8).chan n).pulses = c.pulses - 1
      ∧ ((t.tile t8).chan n).emitted = c.emitted + 1 ∧ ((t.tile t8).chan n).wave = true
          ∧ ((t.tile t8).chan n).waveEnd = some (x.clk + 1000000 * clampN 1 1000 (getBits c.param 15 0)))
      else Next (.pulseEmit t8 n) s (fun t => t.mem = s.mem ∧ t.tile t8 = x))
  ∧ (∀ k : Fin 4, let m := x.timer k
      (if m.enabled = true ∧ m.run = true then Next (.stepEdge t8 k) s (fun t => match m.fifo with
        | [] => ((t.tile t8).timer k).run = false ∧ (getBits m.lastWord 30 30 = 0 → ((t.tile t8).timer k).underrun = true)
        | w :: rest => (if x.clk < m.ready then ((t.tile t8).timer k).due = some m.ready ∧ ((t.tile t8).timer k).fifo = m.fifo
            else ((t.tile t8).timer k).fifo = rest ∧ ((t.tile t8).timer k).posInc = m.posInc + (if getBits w 31 31 = 1 then 1 else -1))
            ∧ (getBits w 23 0 < 1000 → t.getBit (Reg.HDR_ERR_STAT (Page.TILE t8)) Err.TILE_CFG_RANGE = true))
          else Next (.stepEdge t8 k) s (· = s)))

/-- R176 to R179, R190 to R193: output faults, current management and tests are the tile's own; no register changes until an
uplink frame.
Where the rules leave it open, what is stated is the model's choice (log entries 60, 62, 95). -/
def Obligations.tile_faults_and_tests : Prop := ∀ (s : State) (t8 : Fin 8) (n : Fin 32),
  let x := s.tile t8
  let c := x.chan n
  (if x.limits n = true ∧ x.fsFail = false then Next (.shortDetect t8 n) s (fun t => t.mem = s.mem ∧ ((t.tile t8).chan n).short = true)
      else Next (.shortDetect t8 n) s (fun t => t.mem = s.mem ∧ t.tile t8 = x))
  ∧ (∀ holds : Bool, (if c.short = true ∧ c.retry = true
      ∧ (x.limits n = true ∨ 0 < c.pulses) then Next (.shortRetry t8 n holds) s (fun t => t.mem = s.mem ∧ ((t.tile t8).chan n).short = !holds)
      else Next (.shortRetry t8 n holds) s (fun t => t.mem = s.mem ∧ t.tile t8 = x)))
  ∧ (∀ v : Bool, (if c.isOut then Next (.overtemp t8 n v) s (fun t => t.mem = s.mem ∧ ((t.tile t8).chan n).hot = v)
      else Next (.overtemp t8 n v) s (fun t => t.mem = s.mem ∧ t.tile t8 = x))
      ∧ (if c.mode = ChMode.DOUT ∧ x.commanded n = true
          ∧ x.fsFail = false then Next (.openLoad t8 n v) s (fun t => t.mem = s.mem ∧ ((t.tile t8).chan n).openLd = v)
          else Next (.openLoad t8 n v) s (fun t => t.mem = s.mem ∧ t.tile t8 = x))
      ∧ (if c.isOut then Next (.extDrive t8 n v) s (fun t => t.mem = s.mem ∧ ((t.tile t8).chan n).ext = (v && !x.drives n)
            ∧ ((v = true → x.commanded n = false ∧ x.fresh c.offAt = false ∧ x.partnerOn n = false) → ((t.tile t8).chan n).extDrv = v)
            ∧ (v = true → x.commanded n = true ∨ x.fresh c.offAt = true ∨ x.partnerOn n = true → ((t.tile t8).chan n).extDrv = c.extDrv))
          else Next (.extDrive t8 n v) s (fun t => t.mem = s.mem ∧ t.tile t8 = x)))
  ∧ (∀ (mas : List Nat) (mv : Nat) (temp : Int), Next (.currentMeasure t8 mas mv temp) s (fun t => t.mem = s.mem
      ∧ (t.tile t8).fsMv = mv ∧ (t.tile t8).temp = temp ∧ (t.tile t8).sum = mas.sum ∧ (t.tile t8).over8 = if 8000 < mas.sum then x.over8 + 1
          else 0))
  ∧ (if 40 ≤ x.over8 ∨ 10000 < x.sum then Next (.curShed t8) s (fun t => t.mem = s.mem ∧ (t.tile t8).over8 = 0 ∧ (t.tile t8).sum ≤ x.sum
      ∧ (∀ m, 8000 < x.sum → x.shedNext = some m → ((t.tile t8).chan m).shed = true))
      else Next (.curShed t8) s (fun t => t.mem = s.mem ∧ t.tile t8 = x))
  ∧ (if x.autoRestore = true ∧ 4000 ≤ x.below then Next (.curRestore t8) s (fun t => t.mem = s.mem
      ∧ ∀ m ma rest, x.shedOrder = (m, ma) :: rest → (t.tile t8).shedOrder = rest ∧ ((t.tile t8).chan m).shed = false)
      else Next (.curRestore t8) s (fun t => t.mem = s.mem ∧ t.tile t8 = x))
  ∧ (if 6 ≤ t8.val ∧ c.mode = ChMode.DOUT ∧ c.tested = true ∧ x.test = none
      ∧ x.drives n = true then Next (.testPulseStart t8 n) s (fun t => t.mem = s.mem ∧ (t.tile t8).test = some (n.val, c.safety && c.testB)
      ∧ (t.tile t8).drives n = false)
      else Next (.testPulseStart t8 n) s (fun t => t.mem = s.mem ∧ t.tile t8 = x))
  ∧ (∀ below : Bool, Next (.testPulseEnd t8 below) s (fun t => t.mem = s.mem ∧ (t.tile t8).test = none
      ∧ (∀ m b, x.test = some (m, b) → below = false → ((t.tile t8).chan m).tstFail = true ∧ ((t.tile t8).chan m).out = false
          ∧ (t.tile t8).nFailed = x.nFailed + 1)))
  ∧ (if 6 ≤ t8.val ∧ c.mode = ChMode.DOUT
      ∧ c.tested = true then Next (.testDue t8 n) s (fun t => t.mem = s.mem ∧ ((t.tile t8).chan n).tstDue = true)
      else Next (.testDue t8 n) s (fun t => t.mem = s.mem ∧ t.tile t8 = x))
  ∧ (∀ l : Lan, When (¬ (t8.val < 6)) (.laneSilence t8 l) s (fun t => c.safety = true
      → (if l = .A then ((t.tile t8).chan n).swA = false ∧ t.flag (Reg.TILE_LANE_A_UP t8) = false
        else ((t.tile t8).chan n).swB = false ∧ t.flag (Reg.TILE_LANE_B_UP t8) = false)))

/-- R181 to R189, R195: frames in both directions, the barrier, GO_SAFE, power-up of a field side and the safe-state table.
Where the rules leave it open, what is stated is the model's choice (log entries 3, 37, 60, 61, 95). -/
def Obligations.welt_frames : Prop := ∀ (s : State) (t8 : Fin 8),
  let x := s.tile t8
  let bad (t : State) : Prop := t.get (Reg.TILE_LINK_BAD t8) = min (2 ^ 32 - 1) (s.get (Reg.TILE_LINK_BAD t8) + 1)
  (∀ l : Lan,
    (if s.laneUp t8 l = false ∨ (s.fioStopped = true ∧ t8.val < 6) then ∀ rx, Next (.downlinkFrame t8 l rx) s (· = s)
    else
      Next (.downlinkFrame t8 l .lost) s (fun t => ((t.tile t8).lane l).dnTx = ((x.lane l).dnTx + 1) % 65536 ∧ (t.tile t8).safe = x.safe)
      ∧ Next (.downlinkFrame t8 l .damaged) s (fun t => bad t ∧ (t.tile t8).safe = x.safe)
      ∧ Next (.downlinkFrame t8 l .good) s (fun t => match seqGap (x.lane l).dnRx (x.lane l).dnTx with
        | none => bad t
        | some _ => ((t.tile t8).lane l).dnRx = some (x.lane l).dnTx
            ∧ (s.fioStopped = false → t.flag (Reg.TILE_LIVE t8) = s.sendsLive t8 ∧ (t.tile t8).rate = s.tb.incr
              ∧ (t.tile t8).pulseOut = [] ∧ (t.tile t8).commitOut = none
              ∧ (∀ acts, x.commitOut = some acts → ((t.tile t8).commit = some true ∧ (t.tile t8).copyA.actions = acts ∧ (t.tile t8).copyB = x.copyB)
                ∨ ((t.tile t8).commit = some false ∧ (t.tile t8).copyB.actions = acts ∧ (t.tile t8).copyA = x.copyA))
              ∧ (t.tile t8).safe = (if s.sendsLive t8 then false else if x.goSafe then true else x.safe || !x.first)
              ∧ (∀ n : Fin 32, s.sendsLive t8 = true → bitOf x.fireHold n = false → (x.chan n).isOut = true → (x.chan n).safety = false →
                  ((t.tile t8).chan n).out = bitOf (s.get (Reg.TILE_OUT t8)) n))))
    ∧ (if s.laneUp t8 l = false ∨ (s.sysHeld = true ∧ t8.val < 6) then ∀ rx, Next (.uplinkFrame t8 l rx) s (· = s)
    else
      Next (.uplinkFrame t8 l .lost) s (fun t => (t.tile t8).upRun = 0 ∧ t.mem = s.mem)
      ∧ Next (.uplinkFrame t8 l .damaged) s (fun t => (t.tile t8).upRun = 0 ∧ bad t)
      ∧ Next (.uplinkFrame t8 l .good) s (fun t => match seqGap (x.lane l).upRx (x.lane l).upTx with
        | none => bad t ∧ (t.tile t8).upRun = 0
        | some _ => ((t.tile t8).lane l).acked = (x.lane l).dnRx
            ∧ (s.sysHeld = false → t.flag (Reg.TILE_SAFE t8) = x.safe ∧ t.get (Reg.TILE_CUR_MA t8) = x.sum % 2 ^ 32
            ∧ t.flag (Reg.TILE_FS_FAIL t8) = x.fsFail))))
  ∧ (∀ us : Nat, When (s.get (Reg.TILE_BARRIER_US t8) ≤ us
      ∧ s.flag (Reg.TILE_LINK_UP t8) = true) (.weltLinkLost t8 us) s (fun t => t.flag (Reg.TILE_LINK_UP t8) = false
      ∧ t.getBit (Reg.HDR_ERR_STAT (Page.TILE t8)) Err.TILE_LINK_LOST = true))
  ∧ (∀ us : Nat, (if s.barrierUs t8 ≤ us then Next (.barrierExpiry t8 us) s (fun t => t.mem = s.mem ∧ (x.first = true → (t.tile t8).safe = true)
      ∧ (x.first = true → x.safe = false → (t.tile t8).cause = 1 ∧ (t.tile t8).timed = [] ∧ (t.tile t8).nBarrier = x.nBarrier + 1)
        ∧ (∀ e ∈ (t.tile t8).timers, e.2.fifo = []))
      else Next (.barrierExpiry t8 us) s (· = s)))
  ∧ (∀ a b : Bool, Next (.fieldSidePowerUp t8 a b) s (fun t => t.mem = s.mem ∧ (t.tile t8).first = false ∧ (t.tile t8).ch = []
      ∧ (a = false → b = false → (t.tile t8).table = none)))
  ∧ Next .goSafeAll s (fun t => (t.tile t8).goSafe = true ∧ t.flag (Reg.TILE_LIVE t8) = false)
  ∧ Next (.tileGoSafe t8) s (fun t => (t.tile t8).goSafe = true ∧ (t.tile t8).qual = false ∧ t.flag (Reg.TILE_LIVE t8) = false
      ∧ WordsStay (fun a => a = (Reg.TILE_LIVE t8).addr ∨ a = Reg.FIO_LIVE.addr) s t)
  ∧ When (s.appGoSafe.contains t8.val) (.appResetGoSafe t8) s (fun t => (t.tile t8).goSafe = true ∧ t.appGoSafe.contains t8.val = false)
  ∧ (if x.commit = none ∧ x.commitOut = none then Next (.safeTableCommit t8) s (fun t => t.mem = s.mem
        ∧ t.tile t8 = { x with commitOut := some (s.stagedActions t8) })
      else Next (.safeTableCommit t8) s (fun t => t.mem = s.mem ∧ t.tile t8 = x))
  ∧ (∀ isA : Bool, x.commit = some isA →
      let c := if isA then x.copyA else x.copyB
      Next (.tableCommitDone t8 true) s (fun t => (t.tile t8).commit = none ∧ (t.tile t8).table = some (c.ver, c.actions)
        ∧ t.get (Reg.TILE_TBL_VER t8) = c.ver % 2 ^ 32 ∧ t.getBit (Reg.HDR_IRQ_STAT (Page.TILE t8)) Irq.TILE_TBL_DONE = true)
      ∧ Next (.tableCommitDone t8 false) s (fun t => (t.tile t8).commit = none ∧ (t.tile t8).table = x.table
        ∧ t.getBit (Reg.HDR_ERR_STAT (Page.TILE t8)) Err.TILE_TBL_FAIL = true))

/-! ## The scan engine -/

/-- R197 to R202, R218, R510, R512: RUN, STOP, HOLD, STEP and SWAP in the modes that admit them, ticks, and the ends of a scan
and of HOLD by time.
Where the rules leave it open, what is stated is the model's choice (log entries 20, 63, 96). -/
def Obligations.scan_commands : Prop := ∀ s : State,
  let mode := s.get Reg.SCN_MODE
  let executing := s.get Reg.SCN_PHASE = ScanPhase.EXECUTE
  let scanning := s.get Reg.SCN_PHASE ≠ ScanPhase.IDLE
  let notReady (t : State) : Prop := t.get Reg.SCN_MODE = mode ∧ t.resp.status = Status.E_STATE
      ∧ t.getBit (Reg.HDR_ERR_STAT Page.SCN) Err.SCN_NOT_READY = true
  (if s.flag (Reg.HDR_ENABLE Page.SCN) = false ∨ (mode ≠ ScanMode.STOP ∧ mode ≠ ScanMode.HOLD) ∨ (mode = ScanMode.STOP
      ∧ s.flag Reg.SCN_PROG_OK = false) then Next .scnCmdRun s (fun t => notReady t)
      else Next .scnCmdRun s (fun t => t.resp.status = Status.OK ∧ (mode = ScanMode.STOP ∨ ¬ executing → t.scan.toRun = true ∧ t.mem = s.mem)))
  ∧ (if mode = ScanMode.RUN ∧ scanning then Next .scnCmdStop s (fun t => t.resp.status = Status.OK ∧ t.scan.toStop = true ∧ t.mem = s.mem)
      else if mode = ScanMode.RUN ∨ mode = ScanMode.HOLD then Next .scnCmdStop s (fun t => t.resp.status = Status.OK
          ∧ t.get Reg.SCN_MODE = ScanMode.STOP ∧ (s.flag Reg.SCN_SWAP_PEND = false → t.get Reg.SCN_STOP_CAUSE = 1))
      else Next .scnCmdStop s (fun t => notReady t))
  ∧ (if s.inPair then Next .scnCmdHold s (fun t => t.resp.status = Status.E_STATE ∧ t.mem = s.mem ∧ t.scan = s.scan)
      else if s.get Reg.FIR_MODE = 0
          ∧ mode = ScanMode.RUN then Next .scnCmdHold s (fun t => t.resp.status = Status.OK
          ∧ (if scanning then t.scan.toHold = true ∧ t.mem = s.mem else t.get Reg.SCN_MODE = ScanMode.HOLD))
      else Next .scnCmdHold s (fun t => notReady t))
  ∧ (if s.inPair then Next .scnCmdStep s (fun t => t.resp.status = Status.E_STATE ∧ t.mem = s.mem ∧ t.scan = s.scan)
      else if s.get Reg.FIR_MODE = 0
          ∧ mode = ScanMode.HOLD then Next .scnCmdStep s (fun t => t.resp.status = Status.OK
          ∧ (¬ executing → t.scan.stepping = true ∧ t.mem = s.mem))
      else Next .scnCmdStep s (fun t => notReady t))
  ∧ (if mode = ScanMode.HOLD ∨ s.flag Reg.SCN_SWAP_PEND = true then Next .scnCmdSwap s (fun t => notReady t)
      else if s.checkProg s.inactiveProg ≠ 0 then Next .scnCmdSwap s (fun t => t.resp.status = Status.E_STATE
          ∧ t.get Reg.SCN_SWAP_ERR = s.checkProg s.inactiveProg ∧ t.getBit (Reg.HDR_ERR_STAT Page.SCN) Err.SCN_SWAP_INVALID = true)
      else Next .scnCmdSwap s (fun t => t.resp.status = Status.OK
          ∧ (if mode = ScanMode.RUN ∧ scanning then t.flag Reg.SCN_SWAP_PEND = true ∧ t.scan.bank = s.scan.bank
      else if (s.broken s.swapReads).isSome then t.get Reg.SCN_FAULT = ScanFault.ECC_UE ∧ t.scan.bank = s.scan.bank
      else t.flag Reg.SCN_ACTIVE_BANK = !s.flag Reg.SCN_ACTIVE_BANK ∧ t.flag Reg.SCN_PROG_OK = true)))
  ∧ When (¬ (s.flag (Reg.HDR_ENABLE Page.SCN) = false)) .scanTick s (fun t =>
      (mode = ScanMode.STOP → s.scan.toRun = false → t.mem = s.mem ∧ t.scan.grids = s.scan.grids + 1)
      ∧ (mode = ScanMode.RUN → ¬ scanning → 0 < s.scan.swapRest → t.get Reg.SCN_SWAP_SKIP = min (2 ^ 32 - 1) (s.get Reg.SCN_SWAP_SKIP + 1))
      ∧ (mode = ScanMode.RUN → s.get Reg.SCN_PHASE = ScanPhase.OUTPUT → t.get Reg.SCN_OVR_CNT = min (2 ^ 32 - 1) (s.get Reg.SCN_OVR_CNT + 1)))
  ∧ When (mode = ScanMode.RUN ∧ executing) .scanWatchdog s (fun t => t.get Reg.SCN_MODE = ScanMode.STOP ∧ t.get Reg.SCN_STOP_CAUSE = 2
      ∧ t.get Reg.SCN_FAULT = ScanFault.SCAN_WDT)
  ∧ When (mode = ScanMode.HOLD) .holdMaxTimeout s (fun t => t.get Reg.SCN_MODE = ScanMode.STOP
      ∧ (s.flag Reg.SCN_SWAP_PEND = false → t.get Reg.SCN_STOP_CAUSE = 3))

/-- R209, R211, R212, R215, R219: writes of the data window and of forces, writes to stations, saved programs and copies.
Where the rules leave it open, what is stated is the model's choice (log entries 19, 21, 63, 96). -/
def Obligations.scan_stores : Prop := ∀ s : State,
  let locked := s.flag (Reg.HDR_LOCK Page.SCN)
  (∀ (k : Fin 131072) (w : Word), (if locked then Next (.dataWindowWrite k w) s (fun t => t.resp.status = Status.W_IGNORED
      ∧ t.getBit (Reg.HDR_ERR_STAT Page.SCN) Err.LOCKED_WR = true ∧ t.dataWord k = s.dataWord k)
      else if dataWritable k = true ∧ (k.val < sysW → s.get Reg.SCN_MODE = ScanMode.STOP) then Next (.dataWindowWrite k w) s (fun t =>
          t.resp.status = Status.OK ∧ t.dataWord k = w ∧ t.badWord (dataAddr k) = false ∧ WordsStay (fun a => a = dataAddr k) s t)
      else Next (.dataWindowWrite k w) s (fun t => t.resp.status = Status.W_IGNORED ∧ t.dataWord k = s.dataWord k)))
  ∧ (∀ (r : Requester) (f : Fin 128) (w : Word), (if locked then Next (.forceEnable r f w) s (fun t => t.resp.status = Status.W_IGNORED
      ∧ t.scan = s.scan)
      else Next (.forceEnable r f w) s (fun t => t.get (Reg.SCN_FORCE_TYPE f) = getBits w 23 16 ∧ t.get (Reg.SCN_FORCE_LEN f) = getBits w 15 0
      ∧ (getBits w 31 31 = 0 → t.flag (Reg.SCN_FORCE_EN f) = false ∧ KV.get? t.scan.forceSym f = none))))
  ∧ (∀ n : Fin 8192, When (s.scan.handed.contains n.val) (.writeConfirm n) s (fun t => t.scan.handed.contains n.val = false
      ∧ t.scan.outFail.contains n.val = false ∧ t.mem = s.mem)
    ∧ When (s.scan.handed.contains n.val) (.writeUndeliverable n) s (fun t => t.scan.handed.contains n.val = false
        ∧ t.scan.outFail.contains n.val = true ∧ t.get Reg.SCN_UNDELIV_CNT = min (2 ^ 32 - 1) (s.get Reg.SCN_UNDELIV_CNT + 1)))
  ∧ (∀ r : Requester, (s.creds r).tag = 0 → (s.creds r).may Right.EXEC = true →
      (if s.flag Reg.SCN_SAVE_BUSY then Next (.saveProg r) s (fun t => t.resp.status = Status.E_STATE ∧ t.mem = s.mem)
          else Next (.saveProg r) s (fun t => t.resp.status = Status.OK ∧ t.flag Reg.SCN_SAVE_BUSY = true ∧ t.scan.saving = some s.scan.bank))
      ∧ Next (.clearForces r) s (fun t => t.resp.status = Status.OK ∧ t.scan.forceSym = [] ∧ t.flag Reg.SCN_FORCED = false
        ∧ ∀ f : Fin 128, t.word (Reg.SCN_FORCE_VALUE f).addr = 0)
      ∧ Next (.retSave r) s (fun t => t.resp.status = Status.OK ∧ t.mem = s.mem
          ∧ (t.scan.writing.isSome = true ∧ ∀ w, s.scan.writing = some w → w.2.kind = 1 → t.scan.retWait = true)))
  ∧ (∀ b : KV Word, s.scan.saving = some b
      → Next .saveProgDone s (fun t => t.scan.store = b ∧ t.scan.saving = none ∧ t.flag Reg.SCN_SAVE_BUSY = false))
  ∧ Next .retPeriodicSave s (fun t => t.mem = s.mem
      ∧ (if s.scan.frozen = true ∨ s.scan.writing.isSome = true then t = s else t.scan.writing.isSome = true))
  ∧ (∀ (a : Bool) (c : RetCopy), s.scan.writing = some (a, c) → Next .retentiveCopyWritten s (fun t =>
      (s.scan.retWait = false → (if a then t.scan.copyA else t.scan.copyB) = c ∧ t.scan.writing = none)
        ∧ (s.scan.retWait = true → t.scan.writing.isSome = true) ∧ t.get Reg.SCN_RET_GEN = c.gen % 2 ^ 32
        ∧ (c.kind = 2 → t.getBit (Reg.HDR_IRQ_STAT Page.SCN) Irq.SCN_RET_SAVED = true)))

/-- R228, R230: control, flags and bit instructions: the working registers they change; nothing else changes.
Where the rules leave it open, what is stated is the model's choice (log entries 18, 20). -/
def Obligations.scan_control_and_bits : Prop := ∀ (s : State) (op : BitVec 24),
  let c := s.cpu
  (Runs (.scNop 0) s (c.goes 1)
    ∧ Runs (.scLdv 0) s { c.goes 1 with ba := c.v, v := false } ∧ Runs (.scLdz 0) s { c.goes 1 with ba := c.z }
        ∧ Runs (.scLdnf 0) s { c.goes 1 with ba := c.n }
    ∧ Runs (.scNot 0) s { c.goes 1 with ba := !c.ba } ∧ Runs (.scTstw 0) s { c.goes 1 with ba := c.wa != 0 })
  ∧ (c.stack = [] → s.get Reg.SCN_PHASE ≠ ScanPhase.EXECUTE → Runs (.scEnd 0) s { c with cyc := c.cyc + 2 })
  ∧ (c.stack = [] → s.get Reg.SCN_PHASE = ScanPhase.EXECUTE →
      s.scanTotal + 10 ≤ s.get Reg.SCN_SCAN_WDT_US * 2000 → s.broken s.outputReads = none →
      (if s.scanTotal + 10 ≤ s.scan.limit then Next (.scEnd 0) s (fun t => t.get Reg.SCN_PHASE = ScanPhase.IDLE
          ∧ t.getW Reg.SCN_SCAN_CNT = (s.getW Reg.SCN_SCAN_CNT + 1) % 2 ^ 64)
          else Next (.scEnd 0) s (fun t => t.get Reg.SCN_PHASE = ScanPhase.OUTPUT ∧ t.scan.total = s.scanTotal + 10)))
  ∧ (op.toNat < 2 ^ 18 → op.toNat < s.codeLen →
      Runs (.scJmp op) s { c with pc := op.toNat, cyc := c.cyc + 2 }
      ∧ Runs (.scJmpc op) s (if c.ba then { c with pc := op.toNat, cyc := c.cyc + 2 } else c.goes 1)
      ∧ Runs (.scJmpcn op) s (if c.ba then c.goes 1 else { c with pc := op.toNat, cyc := c.cyc + 2 })
      ∧ (c.stack.length < 16 → Runs (.scCall op) s { c with pc := op.toNat, cyc := c.cyc + 3, stack := .ret (c.pc + 1) :: c.stack }))
  ∧ (∀ pc rest, c.stack = .ret pc :: rest →
      Runs (.scRet 0) s { c with pc := pc, cyc := c.cyc + 3, stack := rest }
      ∧ Runs (.scRetc 0) s (if c.ba then { c with pc := pc, cyc := c.cyc + 3, stack := rest } else c.goes 1))
  ∧ (c.stack.length < 16 → Runs (.scPush 0) s { c.goes 1 with stack := .bit c.ba :: c.stack })
  ∧ (∀ b rest, c.stack = .bit b :: rest →
      Runs (.scAndb 0) s { c.goes 1 with ba := b && c.ba, stack := rest } ∧ Runs (.scOrb 0) s { c.goes 1 with ba := b || c.ba, stack := rest }
      ∧ Runs (.scXorb 0) s { c.goes 1 with ba := b != c.ba, stack := rest } ∧ Runs (.scPop 0) s { c.goes 1 with ba := b, stack := rest }
      ∧ Runs (.scPeek 0) s { c.goes 1 with ba := b })
  ∧ (∀ b, BitOperand op s b →
      Runs (.scLd op) s { c.goes 1 with ba := b } ∧ Runs (.scLdn op) s { c.goes 1 with ba := !b }
      ∧ Runs (.scAnd op) s { c.goes 1 with ba := c.ba && b } ∧ Runs (.scAndn op) s { c.goes 1 with ba := c.ba && !b }
      ∧ Runs (.scOr op) s { c.goes 1 with ba := c.ba || b } ∧ Runs (.scOrn op) s { c.goes 1 with ba := c.ba || !b }
      ∧ Runs (.scXor op) s { c.goes 1 with ba := c.ba != b } ∧ Runs (.scXorn op) s { c.goes 1 with ba := c.ba == b })

/-- R228, R232 to R234: word, integer and REAL32 instructions on an operand that reads without error: WA, its quality, the
flags, BA and X as the table gives them; nothing else changes. V is sticky.
Where the rules leave it open, what is stated is the model's choice (log entries 18, 20). -/
def Obligations.scan_arithmetic : Prop := ∀ (s : State) (op : BitVec 24) (b : Word) (q : Nat),
  let c := s.cpu
  let a := c.wa
  let wa (cost : Nat) (w : Word) (q : Nat) (v : Bool) : Cpu := { c.goes cost with wa := w, wq := q, z := w == 0, n := w.msb, v := c.v || v }
  let sat (i : Int) : Int := if i < -2147483648 then -2147483648 else if 2147483647 < i then 2147483647 else i
  let int (cost : Nat) (i : Int) (q : Nat) : Cpu := wa cost (BitVec.ofInt 32 (sat i)) q (sat i != i)
  let real (cost : Nat) (r : FRes) (q : Nat) : Cpu :=
    { c.goes cost with wa := r.w, wq := if r.nan then Qual.BAD else q, z := r.w == 0 || r.w == 0x80000000, n := r.w.msb, v := c.v || r.v }
  (Runs (.scNeg 0) s (int 1 (-a.toInt) c.wq) ∧ Runs (.scAbs 0) s (int 1 a.toInt.natAbs c.wq)
    ∧ Runs (.scLdba 0) s (wa 1 (if c.ba then 1 else 0) Qual.GOOD false)
    ∧ Runs (.scItof 0) s (real 2 ⟨itof a.toInt, false, false⟩ c.wq)
    ∧ Runs (.scFtoi 0) s (wa 2 (ftoi a).w (if (ftoi a).nan then Qual.BAD else c.wq) (ftoi a).v)
    ∧ (let sign (w : Word) (neg : Bool) : FRes := match fval a with
          | .nan => ⟨0, true, true⟩ | .inf _ => ⟨fmax neg, true, false⟩ | .fin _ 0 _ => ⟨fzero neg, false, false⟩ | _ => ⟨w, false, false⟩
        Runs (.scAbsf 0) s (real 1 (sign (a &&& 0x7FFFFFFF) false) c.wq) ∧ Runs (.scNegf 0) s (real 1 (sign (a ^^^ 0x80000000) (!a.msb)) c.wq))
    ∧ (opSp op = 2 → opAddr op < 4 → Runs (.scSetq op) s { c.goes 1 with wq := opAddr op }))
  ∧ (Operand op s b q →
    let w := max c.wq q
    Runs (.scLdx op) s { c.goes 1 with x := b.setWidth 22 } ∧ Runs (.scAddx op) s { c.goes 1 with x := c.x + b.setWidth 22 }
    ∧ Runs (.scLdw op) s (wa 1 b q false) ∧ Runs (.scLdq op) s (wa 1 (BitVec.ofNat 32 q) Qual.GOOD false)
        ∧ Runs (.scQok op) s { c.goes 1 with ba := decide (q ≤ Qual.UNCERTAIN) }
    ∧ Runs (.scAdd op) s (int 1 (a.toInt + b.toInt) w) ∧ Runs (.scSub op) s (int 1 (a.toInt - b.toInt) w)
        ∧ Runs (.scMul op) s (int 2 (a.toInt * b.toInt) w)
    ∧ (b ≠ 0 → Runs (.scDiv op) s (int 12 (a.toInt.tdiv b.toInt) w)
        ∧ Runs (.scMod op) s (wa 12 (BitVec.ofInt 32 (a.toInt.tmod b.toInt)) w false))
    ∧ (b = 0 → Runs (.scDiv op) s (wa 12 (if a = 0 then 0 else if a.msb then 0x80000000 else 0x7FFFFFFF) Qual.BAD true)
        ∧ Runs (.scMod op) s (wa 12 0 Qual.BAD true))
    ∧ Runs (.scMin op) s (wa 1 (if b.toInt < a.toInt then b else a) w false)
        ∧ Runs (.scMax op) s (wa 1 (if a.toInt < b.toInt then b else a) w false)
    ∧ Runs (.scAndw op) s (wa 1 (a &&& b) w false) ∧ Runs (.scOrw op) s (wa 1 (a ||| b) w false) ∧ Runs (.scXorw op) s (wa 1 (a ^^^ b) w false)
    ∧ Runs (.scShl op) s (wa 1 (a <<< b.toNat) w false) ∧ Runs (.scShr op) s (wa 1 (a >>> b.toNat) w false)
        ∧ Runs (.scAsr op) s (wa 1 (a.sshiftRight b.toNat) w false)
    ∧ Runs (.scEq op) s { c.goes 1 with ba := a == b } ∧ Runs (.scNe op) s { c.goes 1 with ba := a != b }
    ∧ Runs (.scLt op) s { c.goes 1 with ba := decide (a.toInt < b.toInt) } ∧ Runs (.scLe op) s { c.goes 1 with ba := decide (a.toInt ≤ b.toInt) }
    ∧ Runs (.scGt op) s { c.goes 1 with ba := decide (b.toInt < a.toInt) } ∧ Runs (.scGe op) s { c.goes 1 with ba := decide (b.toInt ≤ a.toInt) }
    ∧ Runs (.scLtu op) s { c.goes 1 with ba := decide (a.toNat < b.toNat) }
        ∧ Runs (.scGeu op) s { c.goes 1 with ba := decide (b.toNat ≤ a.toNat) }
    ∧ Runs (.scAddf op) s (real 3 (fadd a b) w) ∧ Runs (.scSubf op) s (real 3 (fsub a b) w) ∧ Runs (.scMulf op) s (real 3 (fmul a b) w)
    ∧ ((∀ n e, fval b ≠ .fin n 0 e) → Runs (.scDivf op) s (real 14 (fdiv a b) w))
        ∧ (∀ n e, fval b = .fin n 0 e → Runs (.scDivf op) s (real 14 { fdiv a b with nan := true } w))
        ∧ Runs (.scMinf op) s (real 2 (fmin a b) w) ∧ Runs (.scMaxf op) s (real 2 (fmaxOf a b) w)
    ∧ Runs (.scEqf op) s { c.goes 2 with ba := fless a b == some false && fless b a == some false }
    ∧ Runs (.scLtf op) s { c.goes 2 with ba := fless a b == some true } ∧ Runs (.scGtf op) s { c.goes 2 with ba := fless b a == some true })
  ∧ (∀ (k : Nat) (q1 q2 : Nat), placeW false c.x op = some (.word k) → CleanWord k s → CleanWord (k + 1) s → WordQual k s q1
      → WordQual (k + 1) s q2 →
      Runs (.scSclf op) s (real 4 (ffma a (s.dataWord k) (s.dataWord (k + 1))) (max c.wq (max q1 q2))))

/-- R207, R225 to R230, R235 to R237: stores, edges, timers and counters, and the fault of an operand where none may be given:
the engine stops, and its working registers stay as they were.
Where the rules leave it open, what is stated is the model's choice (log entries 18, 20). -/
def Obligations.scan_stores_and_structures : Prop := ∀ (s : State) (op : BitVec 24),
  let c := s.cpu
  (∀ k, placeW true c.x op = some (.word k) → dataWritable k = true →
    let stored (w : Word) (q : Nat) (t : State) : Prop := t.cpu = c.goes 1 ∧ t.dataWord k = w
      ∧ (if inOutW k then t.dataByte outQ (k - outW) = q % 256 ∧ WordsStay (fun a => a = dataAddr k ∨ a = dataAddr (outQ + (k - outW) / 4)) s t
        else WordsStay (fun a => a = dataAddr k) s t)
    Next (.scStw op) s (stored c.wa c.wq) ∧ Next (.scStx op) s (stored (c.x.setWidth 32) Qual.GOOD)
    ∧ (if c.ba then Next (.scStwc op) s (fun t => stored c.wa c.wq t)
        else Next (.scStwc op) s (fun t => t = s.setCpu (c.goes 1))))
  ∧ (∀ k j, placeB true c.x op = some (.bit k j) → dataWritable k = true → CleanWord k s →
    let stored (b : Bool) (t : State) : Prop := t.cpu = c.goes 1 ∧ t.dataWord k = setBits (s.dataWord k) j j (b2n b)
      ∧ (if inOutW k then t.dataByte outQ (k - outW) = Qual.GOOD ∧ WordsStay (fun a => a = dataAddr k ∨ a = dataAddr (outQ + (k - outW) / 4)) s t
        else WordsStay (fun a => a = dataAddr k) s t)
    Next (.scSt op) s (stored c.ba) ∧ Next (.scStn op) s (stored (!c.ba))
    ∧ (if c.ba then Next (.scSet op) s (fun t => stored true t)
        else Next (.scSet op) s (fun t => t = s.setCpu (c.goes 1)))
    ∧ (if c.ba then Next (.scRes op) s (fun t => stored false t)
        else Next (.scRes op) s (fun t => t = s.setCpu (c.goes 1)))
    ∧ (placeB false c.x op = some (.bit k j) → let m := (s.dataWord k).getLsbD j
        Next (.scRe op) s (fun t => t.cpu = { c.goes 2 with ba := c.ba && !m } ∧ t.dataWord k = setBits (s.dataWord k) j j (b2n c.ba))
        ∧ Next (.scFe op) s (fun t => t.cpu = { c.goes 2 with ba := m && !c.ba } ∧ t.dataWord k = setBits (s.dataWord k) j j (b2n c.ba))))
  ∧ (∀ k, StructOperand op s k →
    let w0 := s.dataWord k; let w1 := s.dataWord (k + 1); let w2 := s.dataWord (k + 2)
    let only (t : State) : Prop := WordsStay (fun a => a = dataAddr (k + 1) ∨ a = dataAddr (k + 2)) s t
    let timed (f : Nat → Bool → Timer → Timer) (t : State) : Prop :=
      let r := f (s.dataWord (sysW + 1)).toNat c.ba (Timer.ofWords w0 w1 w2)
      t.cpu = { c.goes 4 with ba := r.q } ∧ t.dataWord (k + 1) = BitVec.ofNat 32 r.et ∧ t.dataWord (k + 2) = r.word2 ∧ only t
    Next (.scTon op) s (timed Timer.ton) ∧ Next (.scTof op) s (timed Timer.tof) ∧ Next (.scTp op) s (timed Timer.tp)
    ∧ Next (.scCtu op) s (fun t => only t ∧ let up := c.ba && !w2.getLsbD 0
        t.dataWord (k + 1) = (if up && w1 != 0x7FFFFFFF then w1 + 1 else w1) ∧ t.cpu.ba = decide (w0.toInt ≤ (t.dataWord (k + 1)).toInt)
          ∧ (t.dataWord (k + 2)).getLsbD 0 = c.ba ∧ t.cpu.v = (c.v || (up && w1 == 0x7FFFFFFF)) ∧ t.cpu.pc = c.pc + 1)
    ∧ Next (.scCtd op) s (fun t => only t ∧ let down := c.ba && !w2.getLsbD 1
        t.dataWord (k + 1) = (if down && w1 != 0x80000000 then w1 - 1 else w1) ∧ t.cpu.ba = decide ((t.dataWord (k + 1)).toInt ≤ 0)
          ∧ (t.dataWord (k + 2)).getLsbD 1 = c.ba ∧ t.cpu.v = (c.v || (down && w1 == 0x80000000)) ∧ t.cpu.pc = c.pc + 1)
    ∧ Next (.scCrst op) s (fun t => only t ∧ t.cpu = c.goes 2 ∧ t.dataWord (k + 1) = if c.ba then 0 else w1)
    ∧ Next (.scCld op) s (fun t => only t ∧ t.cpu = c.goes 2 ∧ t.dataWord (k + 1) = if c.ba then w0 else w1))
  ∧ (op ≠ 0 → Next (.scNop op) s (fun t => t.get Reg.SCN_MODE = ScanMode.STOP ∧ t.get Reg.SCN_STOP_CAUSE = 2
      ∧ t.get Reg.SCN_FAULT = ScanFault.OPERAND_ADDR ∧ t.cpu = c))

/-! ## Loops, motion, cars, calls and doors -/

/-- R241 to R244, R251: APPLY checks and hands slots to the next tick, MODE_CMD is taken or refused, and a tick takes what was
applied and counts.
Where the rules leave it open, what is stated is the model's choice (log entries 25, 64, 94). -/
def Obligations.loop_commands : Prop := ∀ s : State,
  (∀ (r : Requester) (n : Fin 256),
    let tag := (s.creds r).tag
    let code := s.loopCheck [n.val] tag n
    (if code = 0 then Next (.apply r n) s (fun t => (t.loop n).take = some (tag, s.loopWords n) ∧ t.resp.status = Status.OK ∧ t.mem = s.mem)
        else Next (.apply r n) s (fun t => t.get Reg.LPE_CFG_ERR_CODE = code % 256 ∧ t.get Reg.LPE_CFG_ERR_SLOT = n.val
            ∧ t.resp.status = Status.E_STATE
        ∧ t.getBit (Reg.HDR_ERR_STAT Page.LPE) Err.LPE_CFG_INVALID = true ∧ t.loops = s.loops))
    ∧ Next (.applyMark r n) s (fun t => t.getBit (Reg.LPE_APPLY_MAP (n / 32)) (n % 32) = true ∧ t.resp.status = Status.OK
      ∧ WordsStay (fun a => a = (Reg.LPE_APPLY_MAP (n / 32)).addr) s t)
    ∧ ((∀ m ∈ s.applyMarked, s.loopCheck s.applyMarked tag m = 0) → Next (.applyGroup r) s (fun t => t.resp.status = Status.OK
        ∧ (n.val ∈ s.applyMarked → (t.loop n).take = some (tag, s.loopWords n)) ∧ t.getBit (Reg.LPE_APPLY_MAP (n / 32)) (n % 32) = false)))
  ∧ (∀ n : Fin 256,
    let x := s.loop n
    let clash : Prop := s.loopMode n = LoopMode.OFF ∧ loopDest x.cfg ≠ none ∧ ∃ k ∈ s.loopsOn, k ≠ n.val
        ∧ loopDest (s.loop k).cfg = loopDest x.cfg
    let taken (m : Nat) (t : State) : Prop := (t.loop n).req = some m ∧ t.mem = s.mem
    let refused (t : State) : Prop := t.loops = s.loops ∧ t.getBit (Reg.HDR_ERR_STAT Page.LPE) Err.LPE_MODE_REFUSED = true
    (if x.applied then Next (.modeCmdOff n) s (fun t => taken 0 t)
        else Next (.modeCmdOff n) s (fun t => refused t))
    ∧ (x.applied = true → ¬ clash → cfgGet x.cfg (Reg.LOOP_LAW 0) ≠ 0 → Next (.modeCmdMan n) s (taken 1))
    ∧ (x.applied = true → ¬ clash → Next (.modeCmdAuto n) s (taken 2))
    ∧ (x.applied = false ∨ clash → Next (.modeCmdMan n) s refused ∧ Next (.modeCmdAuto n) s refused))
  ∧ (∀ extra : Nat, When (s.flag (Reg.HDR_ENABLE Page.LPE)) (.loopTick extra) s (fun t =>
      t.getW Reg.LPE_TICK_CNT = (s.getW Reg.LPE_TICK_CNT + 1) % 2 ^ 64 ∧ 40 ≤ t.get Reg.LPE_TICK_MAX
        ∧ (∀ n tag ws, (s.loop n).take = some (tag, ws) → (t.loop n).cfg = ws ∧ (t.loop n).applied = true)))

/-- R266 to R268, R274 to R276, R293: writes of TARGET and the commands of an axis, where its state admits them; a car's axes
take none of these from a host but in HOST_MOVE.
Where the rules leave it open, what is stated is the model's choice (log entries 65, 97). -/
def Obligations.axis_commands : Prop := ∀ (s : State) (n : Fin 24),
  let st := s.get (Reg.AXIS_STATE n)
  let x := s.axis n
  let refused (t : State) : Prop := t.resp.status = Status.E_STATE ∧ t.axes = s.axes ∧ t.get (Reg.AXIS_STATE n) = st
  let ready : Prop := st = AxState.STANDSTILL ∨ st = AxState.MOVING ∨ st = AxState.STOPPING ∨ st = AxState.STOPPED
  (∀ v : BitVec 64, (if s.carAxis n = true ∧ s.hostMoves n = false then Next (.targetChange n v) s (fun t => refused t)
      else Next (.targetChange n v) s (fun t => t.getW (Reg.AXIS_TARGET n) = v.toNat ∧ t.resp.status = Status.OK
      ∧ (ready → (t.axis n).newTarget = true ∧ t.flag (Reg.AXIS_RESUME_OK n) = false ∧ t.getW (Reg.AXIS_REM n) = 0))))
  ∧ (if s.carAxis n = true ∨ s.activating = true ∨ (st ≠ AxState.STANDSTILL ∧ st ≠ AxState.MOVING
      ∧ st ≠ AxState.STOPPED) then Next (.axisCmdStart n) s (fun t => refused t)
      else Next (.axisCmdStart n) s (fun t => match s.chainCheck n (s.get (Reg.AXIS_CHAIN_HEAD n)) (s.changeAt n) with
      | some e => refused t ∧ t.get (Reg.AXIS_CHAIN_ERR_CODE n) = e.2 % 16
          ∧ t.getBit (Reg.HDR_ERR_STAT (Page.AXIS n)) Err.AXIS_CHAIN_INVALID = true
      | none => t.resp.status = Status.OK ∧ (t.axis n).starts = x.starts ++ [⟨s.get (Reg.AXIS_CHAIN_HEAD n), none, s.unow, none⟩]
          ∧ t.get (Reg.AXIS_CHAIN_ERR_CODE n) = 0))
  ∧ (let no := s.activating = true ∨ (st ≠ AxState.MOVING ∧ st ≠ AxState.STOPPING
      ∧ (x.gear.on = false ∨ st = AxState.FAULT ∨ st = AxState.DISABLED))
    (no → Next (.axisCmdStop n) s refused ∧ Next (.axisCmdQuickStop n) s refused)
    ∧ (¬ no → Next (.axisCmdStop n) s (fun t => t.resp.status = Status.OK ∧ (t.axis n).stop = some false ∧ t.mem = s.mem)
      ∧ Next (.axisCmdQuickStop n) s (fun t => t.resp.status = Status.OK ∧ (t.axis n).stop = some true ∧ t.mem = s.mem)))
  ∧ (if (s.carAxis n = true ∧ s.hostMoves n = false) ∨ s.activating = true ∨ st ≠ AxState.STOPPED
      ∨ s.flag (Reg.AXIS_RESUME_OK n) = false then Next (.axisCmdResume n) s (fun t => refused t)
      else Next (.axisCmdResume n) s (fun t => t.resp.status = Status.OK ∧ (t.axis n).resume = true))
  ∧ (if s.carAxis n = true ∨ s.activating = true ∨ st ≠ AxState.STOPPED then Next (.axisCmdAbandon n) s (fun t => refused t)
      else Next (.axisCmdAbandon n) s (fun t => t.resp.status = Status.OK ∧ t.get (Reg.AXIS_STATE n) = AxState.STANDSTILL
          ∧ t.flag (Reg.AXIS_RESUME_OK n) = false ∧ t.getW (Reg.AXIS_REM n) = 0))
  ∧ (if s.activating = true ∨ st ≠ AxState.FAULT ∨ s.causeGone n = false ∨ x.stopping = true then Next (.axisCmdClearFault n) s (fun t =>
      refused t)
      else Next (.axisCmdClearFault n) s (fun t => t.resp.status = Status.OK ∧ t.get (Reg.AXIS_STATE n) = AxState.STOPPED
          ∧ t.get (Reg.AXIS_FAULT n) = 0))
  ∧ (∀ w : Word, Next (.stopAll w) s (fun t => t.mem = s.mem ∧ (t.axis n).stop =
      if bitOf w.toNat n = true ∧ (st = AxState.MOVING ∨ st = AxState.STOPPING
          ∨ (x.gear.on = true ∧ st ≠ AxState.FAULT ∧ st ≠ AxState.DISABLED)) then some (getBits w 31 31 == 1) else x.stop))

/-- R264, R269 to R273, R276, R277, R279, R423: the tick, groups, gearing, faults, idle reduction, frames to the drives and
their reports.
Where the rules leave it open, what is stated is the model's choice (log entries 3, 59, 65, 75, 97). -/
def Obligations.motion_and_drives : Prop := ∀ s : State,
  (∀ g : Fin 8,
    let push (c : Nat) (t : State) : Prop := t.grpPend = s.grpPend ++ [(g.val, c)] ∧ t.resp.status = Status.OK ∧ t.mem = s.mem
    let no (t : State) : Prop := t.grpPend = s.grpPend ∧ t.resp.status = Status.E_STATE ∧ t.mem = s.mem
    (if ∀ n ∈ s.members g, s.get (Reg.AXIS_STATE n) = AxState.STANDSTILL then Next (.grpCmdMove g) s (fun t => push 1 t)
        else Next (.grpCmdMove g) s (fun t => no t))
    ∧ (if s.grpState g = GrpState.MOVING then Next (.grpCmdStop g) s (fun t => push 2 t)
        else Next (.grpCmdStop g) s (fun t => no t))
    ∧ (if s.grpState g = GrpState.MOVING then Next (.grpCmdQuickStop g) s (fun t => push 4 t)
        else Next (.grpCmdQuickStop g) s (fun t => no t))
    ∧ (if (s.grpState g = GrpState.STOPPED ∨ s.grpState g = GrpState.FAULT)
        ∧ ∀ n ∈ s.members g, s.get (Reg.AXIS_STATE n) = AxState.STOPPED then Next (.grpCmdResume g) s (fun t => push 3 t)
        else Next (.grpCmdResume g) s (fun t => no t))
    ∧ (∀ w : Word, s.flag (Reg.HDR_LOCK Page.MOT) = false
        → (if ∃ h ∈ List.range 8, h ≠ g.val
        ∧ s.get (Reg.MOT_MEMBERS h) &&& getBits w 23 0 ≠ 0 then Next (.grpCfgWrite g w) s (fun t =>
        t.getBit (Reg.HDR_ERR_STAT Page.MOT) Err.MOT_GRP_INVALID = true ∧ t.get (Reg.MOT_MEMBERS g) = s.get (Reg.MOT_MEMBERS g))
        else Next (.grpCfgWrite g w) s (fun t =>
            (∀ n < 24, ∀ k < 24, bitOf (getBits w 23 0) n = true → bitOf (getBits w 23 0) k = true → axisClass n = axisClass k) →
          t.get (Reg.MOT_MEMBERS g) = getBits w 23 0 ∧ WordsStay (fun a => a = (Reg.MOT_MEMBERS g).addr) s t))))
  ∧ (∀ n : Fin 24,
    (s.master n = none ∨ s.flag (Reg.AXIS_GEAR_EN n) = false
        → Next (.gearEngage n) s (fun t => t.resp.status = Status.E_STATE ∧ t.axes = s.axes))
    ∧ (∀ m, s.master n = some m → s.flag (Reg.AXIS_GEAR_EN n) = true → Next (.gearEngage n) s (fun t =>
        t.flag (Reg.AXIS_GEARED n) = true ∧ (t.axis n).gear.on = true ∧ (t.axis n).gear.now = m ∧ t.resp.status = Status.OK))
    ∧ Next (.gearDisengage n) s (fun t => t.flag (Reg.AXIS_GEARED n) = false ∧ t.resp.status = Status.OK
        ∧ ((s.axis n).gear.on = true → (t.axis n).gear.on = false ∨ (t.axis n).gear.until_.isSome = true))
    ∧ (if ∀ c ∈ (s.axis n).gear.chg, c.crossed = none then Next (.gearArmChg n) s (fun t => t.flag (Reg.AXIS_CHG_ARMED n) = true
        ∧ t.resp.status = Status.OK
          ∧ (t.axis n).gear.chg = some ⟨s.getS (Reg.AXIS_NEXT_NUM n), max 1 (s.get (Reg.AXIS_NEXT_DEN n)), s.getWS (Reg.AXIS_CHG_POS n) * 65536,
              s.get (Reg.AXIS_RAMP n) * 65536, none⟩)
        else Next (.gearArmChg n) s (fun t => t.resp.status = Status.E_STATE ∧ t.mem = s.mem))
    ∧ When (8 ≤ n.val ∧ s.flag (Reg.AXIS_IDLE_EN n) = true ∧ (s.axis n).plan = []
        ∧ ((s.axis n).gear.on = false ∨ (s.axis n).gear.now = (s.axis n).gear.prev) ∧ s.flag (Reg.AXIS_IDLE_RED n) = false
            ∧ s.get (Reg.AXIS_STATE n) ≠ 0) (.idleReduction n) s (fun t => t.flag (Reg.AXIS_IDLE_RED n) = true
                ∧ (t.axis n).current = s.get (Reg.AXIS_IDLE_PCT n)))
  ∧ (∀ n : Fin 16, s.get (Reg.AXIS_STATE n) ≠ AxState.DISABLED → s.get (Reg.AXIS_STATE n) ≠ AxState.FAULT →
    (s.flag (Reg.AXIS_FE_EN n) = true → s.get (Reg.AXIS_FE_MAX n) * 65536 < (s.getWS (Reg.AXIS_SP_POS n) - s.getWS (Reg.AXIS_ACT_POS n)).natAbs →
      Next (.followingError n) s (fun t => t.get (Reg.AXIS_STATE n) = AxState.FAULT ∧ t.get (Reg.AXIS_FAULT n) = 1))
    ∧ Next (.driveLinkFault n) s (fun t => t.get (Reg.AXIS_STATE n) = AxState.FAULT ∧ t.get (Reg.AXIS_FAULT n) = 3
      ∧ t.getBit (Reg.CANCH_NODE_ALIVE (s.get (Reg.AXIS_CAN_CH n)) (s.axisNode n / 32)) (s.axisNode n % 32) = false)
    ∧ (∀ (c : Fin 4) (k : Fin 128) (r : DriveReport), When (s.canOn c = true
        ∧ s.sysHeld = false) (.driveStatusReport c k r) s (fun t =>
        t.get (Reg.CANCH_RX_FRAMES c) = min (2 ^ 32 - 1) (s.get (Reg.CANCH_RX_FRAMES c) + 1)
          ∧ (s.get (Reg.AXIS_CAN_CH n) = c.val → s.axisNode n = k.val → r.status.getLsbD 2 = true → t.get (Reg.AXIS_STATE n) = AxState.FAULT)))
    ∧ When (¬ (s.sysHeld = true ∨ s.flag (Reg.HDR_ENABLE Page.MOT) = false)) .setpointFrame s (fun t =>
        (t.axis n).frames = (s.axis n).frames + 1))
  ∧ (∀ ns : Nat, When (¬ (s.sysHeld)) (.motionTick ns) s (fun t => t.flag Reg.LFT_GREEDY = s.greedy
      ∧ (s.flag (Reg.HDR_ENABLE Page.MOT) = true → t.grpPend = [] ∧ min ns (2 ^ 32 - 1) ≤ t.get Reg.MOT_TICK_MAX)))

/-- R283 to R291, R294, R297, R503: positions, learn and reference runs, modes by command, arrivals and resumption.
Where the rules leave it open, what is stated is the model's choice (log entries 67, 68). -/
def Obligations.cars : Prop := ∀ (s : State) (n : Fin 8),
  let c := s.car n
  let mode := s.get (Reg.CAR_MODE n)
  let st := s.get (Reg.CAR_LEARN_ST n)
  let refused (t : State) : Prop := t.resp.status = Status.E_STATE ∧ t.getBit (Reg.HDR_ERR_STAT (Page.CAR n)) Err.CAR_CMD_REFUSED = true
      ∧ t.cars = s.cars
  (∀ (r : PosRead) (raw : Int), s.rawRead n r = some (raw, false) → s.sysHeld = false → s.carPresent n = true → s.inPair = false →
    (∀ q ∈ c.hist.head?, (s.decodePos n raw - q).natAbs ≤ s.get (Reg.CAR_MAX_STEP n)) →
    Next (.positionSample [(n, r)]) s (fun t => t.getS (Reg.CAR_POS n) = s.decodePos n raw ∧ t.getW (Reg.CAR_POS_TS n) = s.tai % 2 ^ 64))
  ∧ (s.carPresent n = false → ∀ i ∈ [Instr.carCmdLearn n, .carCmdLearnAccept n, .carCmdLearnAbort n, .carCmdReference n, .carCmdOosOn n,
      .carCmdReturn n,
      .carCmdIndOn n, .carCmdIndOff n], Next i s (fun t => t.resp.status = Status.E_STATE ∧ t.mem = s.mem ∧ t.cars = s.cars))
  ∧ (s.carPresent n = true →
    (mode = CarMode.OUT_OF_SERVICE → s.get (Reg.AXIS_STATE n) = AxState.STANDSTILL → s.closedLocked n = true
        → s.flag (Reg.CAR_POS_VALID n) = true →
      s.flag (Reg.CAR_DZ_IN n) = true → s.flag (Reg.CAR_LEVEL_VALID n ((s.landings n).headD 0)) = false → st ≠ 1 →
      Next (.carCmdLearn n) s (fun t => t.resp.status = Status.OK ∧ t.get (Reg.CAR_LEARN_ST n) = 1
          ∧ (t.car n).learn = some ⟨s.getS (Reg.CAR_POS n), [], none⟩))
    ∧ (mode ≠ CarMode.OUT_OF_SERVICE ∨ st = 1 → Next (.carCmdLearn n) s refused)
    ∧ (if st = 2 then Next (.carCmdLearnAccept n) s (fun t => t.resp.status = Status.OK ∧ t.get (Reg.CAR_LEARN_ST n) = 0
        ∧ t.flag (Reg.CAR_LEARNED n) = true)
        else Next (.carCmdLearnAccept n) s (fun t => refused t))
    ∧ (if st = 1 ∨ st = 2 then Next (.carCmdLearnAbort n) s (fun t => t.resp.status = Status.OK ∧ t.get (Reg.CAR_LEARN_ST n) = 0)
        else Next (.carCmdLearnAbort n) s (fun t => refused t))
    ∧ (if s.get (Reg.CAR_ENC n) = 2 ∧ mode = CarMode.OUT_OF_SERVICE
        ∧ s.closedLocked n = true then Next (.carCmdReference n) s (fun t => t.resp.status = Status.OK ∧ (t.car n).refer ≠ none)
        else Next (.carCmdReference n) s (fun t => refused t))
    ∧ Next (.carCmdOosOn n) s (fun t => (t.car n).oos = true ∧ t.resp.status = Status.OK ∧ t.mem = s.mem)
    ∧ Next (.carCmdReturn n) s (fun t => (t.car n).oos = false ∧ t.resp.status = Status.OK
        ∧ (s.flag (Reg.CAR_POS_VALID n) = true → CarFault.POS_LOST ∉ (t.car n).faults))
    ∧ Next (.carCmdIndOn n) s (fun t => (t.car n).ind = true ∧ t.resp.status = Status.OK ∧ t.mem = s.mem)
    ∧ Next (.carCmdIndOff n) s (fun t => (t.car n).ind = false ∧ t.resp.status = Status.OK ∧ t.mem = s.mem))
  ∧ WhenSome c.learn (.learnRunEnd n) s (fun r t => (t.car n).learn = none ∧ t.getBit (Reg.HDR_IRQ_STAT (Page.CAR n)) Irq.CAR_LEARN_DONE = true
        ∧ t.get (Reg.CAR_LEARN_ST n) = (if learnHolds (s.landings n).length r.zones = true ∧ s.axisRests n = true
            ∧ s.get (Reg.AXIS_STATE n) ≠ AxState.FAULT then 2 else 3))
  ∧ (∀ (x : Stop) (xs : List Stop), c.stops = x :: xs → x.com = true → s.getWS (Reg.AXIS_SP_POS n) = s.level n x.landing * 65536
      → s.carPresent n = true →
      s.get (Reg.AXIS_STATE n) = AxState.STANDSTILL → s.axisRests n = true → (s.axis n).newTarget = false → c.door.relevel < 2
          → s.ffPhase n ≠ 1 →
      Next (.carArrival n) s (fun t => (t.car n).at_ = some x.landing ∧ (t.car n).atStop = some x
          ∧ (s.get (Reg.CAR_DOOR_STATE n) ≠ DoorState.OPEN → (t.car n).stops = xs ∧ t.calls = s.calls) ∧ t.getBit (Reg.HDR_IRQ_STAT (Page.CAR n)) Irq.CAR_ARRIVED = true))
  ∧ Next .holdupResume s (fun t => t.mem = s.mem ∧ (t.car n).h1 = if c.h1 = 1 then 2 else c.h1)
  ∧ When (s.ffPhase n = 1 ∧ c.recallStep = 2) (.recallPlanStart n) s (fun t => (t.car n).recallStep = 3
      ∧ t.getWS (Reg.AXIS_TARGET n) = s.level n s.recallLanding * 65536)

/-- R298 to R305: calls are entered, refused, cancelled, cleared and read; a pass is counted.
Where the rules leave it open, what is stated is the model's choice (log entries 27, 66). -/
def Obligations.lift_calls : Prop := ∀ s : State,
  (∀ r : CallReq,
    let c := newCall s r
    (if s.flag (Reg.HDR_ENABLE Page.LFT) = false then Next (.callEntry r) s (· = s)
        else if s.callServed c = false then Next (.callEntry r) s (fun t =>
            t.get Reg.LFT_CALL_REFUSED = min (2 ^ 32 - 1) (s.get Reg.LFT_CALL_REFUSED + 1)
            ∧ t.getBit (Reg.HDR_ERR_STAT Page.LFT) Err.LFT_CALL_INVALID = true ∧ t.calls = s.calls)
        else Next (.callEntry r) s (fun t => match s.calls.find? (fun e => callSame c e.2), KV.firstFree s.calls 0 4096 with
        | some e, _ => ∀ x, s.call e.1 = some x → t.call e.1 = some { x with pax := min 15 (x.pax + c.pax) }
        | none, some e => c.kind ≠ 2 → s.greedy = false → t.calls = KV.put s.calls e c
            ∧ t.getBit (Reg.HDR_IRQ_STAT Page.LFT) Irq.LFT_CALL_NEW = true
        | none, none => t.get Reg.LFT_CALL_FULL = min (2 ^ 32 - 1) (s.get Reg.LFT_CALL_FULL + 1) ∧ t.calls = s.calls)))
  ∧ (∀ r : Requester, (s.creds r).tag = 0 → (s.creds r).may Right.EXEC = true →
    (∀ w : Word,
      let q : CallReq := ⟨Fin.ofNat 4 (w.toNat / 2 ^ 27), bitOf w.toNat 26, bitOf w.toNat 25, Fin.ofNat 256 (w.toNat / 2 ^ 16),
          Fin.ofNat 256 (w.toNat / 2 ^ 8),
        Fin.ofNat 16 (w.toNat / 16), Fin.ofNat 8 w.toNat⟩
      Next (.enterCall r w) s (fun t => t.calls = (s.enterCall q).2.calls ∧ t.resp.status = if (s.enterCall q).1 = none then Status.E_STATE
          else Status.OK))
    ∧ (∀ w : Word, Next (.cancelCall r w) s (fun t => match s.calls.find? (fun e => e.2.id == w.toNat && e.2.state != 3) with
        | some e => t.call e.1 = none ∧ t.resp.status = Status.OK
        | none => t.calls = s.calls ∧ t.resp.status = Status.E_STATE))
    ∧ (if isSession r = true then Next (.clearCalls r) s (fun t => t.calls = [] ∧ t.resp.status = Status.OK)
        else Next (.clearCalls r) s (fun t => t.calls = s.calls ∧ t.resp.status = Status.E_RIGHT)))
  ∧ (∀ e : Fin 4096, Next (.callIdxWrite e) s (fun t => t.get Reg.LFT_CALL_IDX = e.val ∧ WordsStay (fun a => 0x1B080 ≤ a ∧ a ≤ 0x1B090) s t
      ∧ (match s.call e with
        | none => ∀ a, 0x1B084 ≤ a → a ≤ 0x1B090 → a % 4 = 0 → t.word a = 0
        | some c => t.word 0x1B084 = BitVec.ofNat 32 (callWord c) ∧ t.word 0x1B088 = BitVec.ofNat 32 (c.id * 2 ^ 16 + c.eta)
            ∧ t.getW Reg.LFT_CALL_SEQ = c.seq % 2 ^ 64)))
  ∧ (∀ k us : Nat, (if s.flag (Reg.HDR_ENABLE Page.LFT) = false
      ∨ s.get Reg.TWN_STATE = TwinState.STANDBY then Next (.optimisationPass k us) s (· = s)
      else if s.greedy = true ∨ s.getBit Reg.FIR_SHED 1 = true then Next (.optimisationPass k us) s (fun t =>
          t.getW Reg.LFT_OPT_CNT = s.getW Reg.LFT_OPT_CNT)
      else Next (.optimisationPass k us) s (fun t => t.getW Reg.LFT_OPT_CNT = (s.getW Reg.LFT_OPT_CNT + 1) % 2 ^ 64
          ∧ min us (2 ^ 32 - 1) ≤ t.get Reg.LFT_OPT_MAX_US)))

/-- R312, R313, R317, R319, R321, R323, R324: door commands in the modes and states that admit them, and the door's own
events.
Where the rules leave it open, what is stated is the model's choice (log entries 3, 68, 69). -/
def Obligations.doors : Prop := ∀ (s : State) (n : Fin 8),
  let m := s.get (Reg.CAR_MODE n)
  let st := s.get (Reg.CAR_DOOR_STATE n)
  let byHand : Prop := m = CarMode.OUT_OF_SERVICE ∨ m = CarMode.INSPECTION
  let barred (rear : Bool) (c : Nat) : Prop := s.activating = true
    ∨ (rear = true ∧ ¬ (byHand ∧ s.flag (Reg.CAR_REAR_FITTED n) = true)) ∨ (m = CarMode.FIREFIGHTER ∧ c ≠ 6) ∨ (m = CarMode.NORMAL ∧ 3 ≤ c)
  let refused (t : State) : Prop := t.resp.status = Status.E_STATE ∧ t.getBit (Reg.HDR_ERR_STAT (Page.CAR n)) Err.CAR_DOOR_REFUSED = true
      ∧ t.get (Reg.CAR_DOOR_STATE n) = st
  let ok (t : State) : Prop := t.resp.status = Status.OK
  let moves (t : State) : Prop := t.get (Reg.CAR_DOOR_STATE n) = DoorState.CLOSING ∨ t.get (Reg.CAR_DOOR_STATE n) = DoorState.NUDGING
  (∀ rear : Bool,
    (barred rear 1 → Next (.doorCmdOpen n rear) s refused)
    ∧ (barred rear 2 → Next (.doorCmdClose n rear) s refused)
    ∧ (barred rear 3 → Next (.doorCmdHold n rear) s refused ∧ Next (.doorCmdRelease n rear) s refused ∧ Next (.doorCmdNudge n rear) s refused)
    ∧ (barred rear 6 → Next (.doorCmdStop n rear) s refused)
    ∧ (¬ barred rear 1 → (byHand → s.axisRests n = true ∧ s.flag (Reg.CAR_IN_DZ n) = true) → Next (.doorCmdOpen n rear) s (fun t => ok t
        ∧ (st = DoorState.STOPPED → t.get (Reg.CAR_DOOR_STATE n) = DoorState.OPENING)
            ∧ (st = DoorState.OPEN → (t.car n).door.dwell = s.stopDwell n)))
    ∧ (¬ barred rear 2 → Next (.doorCmdClose n rear) s (fun t => ok t ∧ (st = DoorState.OPEN → moves t)
        ∧ (st = DoorState.STOPPED → t.get (Reg.CAR_DOOR_STATE n) = DoorState.CLOSING)))
    ∧ (¬ barred rear 3 →
        Next (.doorCmdHold n rear) s (fun t => ok t ∧ t.get (Reg.CAR_DOOR_STATE n) = (if st = DoorState.OPEN then DoorState.HELD else st))
        ∧ Next (.doorCmdRelease n rear) s (fun t => ok t ∧ t.get (Reg.CAR_DOOR_STATE n) = (if st = DoorState.HELD then DoorState.OPEN else st))
        ∧ Next (.doorCmdNudge n rear) s (fun t => ok t ∧ (m ≠ CarMode.INDEPENDENT →
            st = DoorState.OPEN ∨ st = DoorState.STOPPED ∨ st = DoorState.HELD ∨ (st = DoorState.CLOSING ∧ s.coupling n = false)
                → t.get (Reg.CAR_DOOR_STATE n) = DoorState.NUDGING)))
    ∧ (¬ barred rear 6 → Next (.doorCmdStop n rear) s (fun t => ok t
        ∧ t.get (Reg.CAR_DOOR_STATE n) = (if s.coupling n = true ∨ st = DoorState.FAULT then DoorState.FAULT
            else if st = DoorState.DISABLED then DoorState.DISABLED else DoorState.STOPPED)
        ∧ (st ≠ DoorState.FAULT → (t.axis (8 + n)).stop = some false))))
  ∧ When (st = DoorState.OPEN ∧ (s.car n).door.held = false ∧ m ≠ CarMode.INDEPENDENT
      ∧ (m ≠ CarMode.FIREFIGHTER ∨ s.ffPhase n = 1)) (.dwellEnd n) s (fun t => moves t)
  ∧ (st = DoorState.OPENING ∨ st = DoorState.REVERSING → s.getWS (Reg.AXIS_SP_POS (8 + n)) = (s.get (Reg.CAR_OPEN_POS n) : Int) * 65536
      → s.axisRests (8 + n) = true →
      Next (.doorOpened n) s (fun t => t.get (Reg.CAR_DOOR_STATE n) = DoorState.OPEN))
  ∧ When ((st = DoorState.CLOSING ∨ st = DoorState.NUDGING)
      ∧ s.nearClosed n = true ∧ s.coupling n = false) (.doorClosed n) s (fun t =>
      (t.car n).door.closeFrom = none ∧ if s.closedLocked n then t.get (Reg.CAR_DOOR_STATE n) = DoorState.CLOSED
        else (t.car n).door.waitLock = true ∧ WordsStay (fun a => a = (Reg.CAR_CLOSE_MAX_US n).addr) s t)
  ∧ When ((s.car n).door.waitLock = true
      ∧ s.closedLocked n = false) (.lockTimeout n) s (fun t =>
      (if s.get (Reg.CAR_CLOSE_RETRY n) < min 255 (s.get (Reg.CAR_RETRY n) + 1) then t.get (Reg.CAR_DOOR_STATE n) = DoorState.FAULT
      else (t.car n).door.next = .lockOpen))
  ∧ When (st = DoorState.OPENING) (.openTimeout n) s (fun t => t.get (Reg.CAR_DOOR_STATE n) = DoorState.FAULT ∧ t.get (Reg.CAR_DOOR_FAULT n) = 1)
  ∧ When (st = DoorState.CLOSING ∨ st = DoorState.NUDGING) (.closeTimeout n) s (fun t => t.get (Reg.CAR_DOOR_STATE n) = DoorState.FAULT
      ∧ t.get (Reg.CAR_DOOR_FAULT n) = 2)
  ∧ ((s.car n).at_ = none → Next (.relevelStart n) s (· = s))
  ∧ (∀ l, (s.car n).at_ = some l →
      When (400 < (s.getS (Reg.CAR_POS n) - s.getS (Reg.CAR_LEVEL n l)).natAbs ∧ st ≠ DoorState.CLOSED ∧ s.groupMoves n = true
        ∧ (s.car n).door.relevel = 0) (.relevelStart n) s (fun t => st ≠ DoorState.FAULT → s.coupling n = false → st ≠ DoorState.DISABLED
            → (t.car n).door.relevel ≠ 0))

/-! ## Stirrup -/

/-- R328 to R341: a safety cycle permits a car by the AND of its conditions, drives outputs that their functions allow, latches
trips and resets the block where the cores differ; the trips that time out latch.
Where the rules leave it open, what is stated is the model's choice (log entries 22, 70). -/
def Obligations.safety_cycle : Prop := ∀ s : State,
  let st := s.get Reg.SAF_STATE
  let core (t : State) : Prop := t.getW Reg.SAF_OUT = 0 ∧ ⟨TripCode.CROSS, none, 0xFF⟩ ∈ t.saf.latched
    ∧ t.get Reg.SAF_STATE = if 2 ≤ (s.saf.resets.filter (fun x => decide (s.unow < x + 600000000000))).length then SafState.HALT
        else SafState.SELFTEST
  let trips (x : Trip) (t : State) : Prop := x ∉ s.saf.present → x ∈ t.saf.latched
  (∀ (ns : Nat) (c : CycleReads), (if st = SafState.HALT ∨ st = SafState.SELFTEST then Next (.safetyCycle ns c) s (fun t =>
      t.getW Reg.SAF_OUT = 0 ∧ t.get Reg.SAF_STATE = st ∧ min ns (2 ^ 32 - 1) ≤ t.get Reg.SAF_CYCLE_MAX)
      else if c.differ = true ∧ 1 ≤ s.saf.cross then Next (.safetyCycle ns c) s (fun t => core t)
      else Next (.safetyCycle ns c) s (fun t => (∀ n ∈ t.safCars,
        (t.safCar n).closed = (s.tap n SinFunc.CD && s.tap n SinFunc.LD && s.tap n SinFunc.LOCK)
        ∧ (t.getBit Reg.SAF_MOVE_PERM n = true ↔ (st = SafState.START ∨ st = SafState.RUN) ∧ t.getBit Reg.SAF_SUT_PEND n = false
            ∧ s.carLatched n = false
          ∧ s.tap n SinFunc.STOP = true ∧ ((t.safCar n).closed = true ∨ (t.safCar n).bridge = true)
              ∧ (s.tap n SinFunc.INSP = true ∨ s.inspHeld n = true)
          ∧ (s.tap n SinFunc.BYPASS = true ∨ s.tap n SinFunc.INSP = false) ∧ s.pwr.tack = false ∧ s.roles ≠ 0))
      ∧ (∀ n < 8, n ∉ t.safCars → t.getBit Reg.SAF_MOVE_PERM n = false ∧ t.getBit Reg.SAF_BRIDGE n = false)
      ∧ (∀ j < 64, bitOf (t.getW Reg.SAF_OUT) j = true → t.safOutput j = true)
      ∧ (s.pwr.atH5 = true → t.getW Reg.SAF_OUT = 0)
      ∧ (∀ n < 8, t.getBit Reg.SAF_LATCH n = t.saf.latched.any (fun x => x.car == some n))
      ∧ (∀ x ∈ s.saf.latched, x ∈ t.saf.latched)
      ∧ (st = SafState.START → t.get Reg.SAF_STATE = if s.pwr.tack = false ∧ t.get Reg.SAF_SUT_PEND = 0 ∧ t.saf.latched = []
          then SafState.RUN else SafState.START))))
  ∧ When (¬ (st = SafState.HALT)) .coreFault s (fun t => core t)
  ∧ (∀ i : Fin 64, When (s.par (Reg.SAF_SIN_FUNC i) ≠ 0 ∧ s.viewsDiffer i = true
      ∧ i.val ∉ s.saf.disc) (.discrepancyTrip i) s (fun t => i.val ∈ t.saf.disc ∧ trips ⟨TripCode.DISC, s.chanCar i, i⟩ t))
  ∧ (∀ n : Fin 8, When (bitOf s.saf.carMap n = true ∧ s.bypassCase n = true
      ∧ n.val ∉ s.saf.bypass) (.bypassTrip n) s (fun t => n.val ∈ t.saf.bypass ∧ trips ⟨TripCode.BYPASS, some n.val, 0xFF⟩ t))
  ∧ (∀ n : Fin 8, When (bitOf s.saf.carMap n = true
      ∧ s.tap n SinFunc.BRAKE_FB = (s.safCar n).brake) (.brakeTrip n) s (fun t => ⟨TripCode.BRAKE, some n.val, 0xFF⟩ ∈ t.saf.latched
      ∧ ⟨TripCode.BRAKE, some n.val, 0xFF⟩ ∈ t.saf.kept
          ∧ t.get Reg.SAF_TRIP_CODE = TripCode.BRAKE ∧ t.get Reg.SAF_TRIP_CAR = n.val
              ∧ t.getBit (Reg.HDR_IRQ_STAT Page.SAF) Irq.SAF_TRIP = true
                ∧ bitOf (t.get (Reg.SAF_TRIP_ACTIVE n)) TripCode.BRAKE = true))
  ∧ (∀ (j : Fin 64) (pass : Bool), (if s.safOutput j = true
      ∧ s.awaitsTest j = true then (if pass then Next (.preEnergiseTest j pass) s (fun t => ((t.tile (6 + j / 32)).chan (j % 32)).tstDue = false
      ∧ j.val ∈ t.saf.tested ∧ t.mem = s.mem)
        else Next (.preEnergiseTest j pass) s (fun t => ((t.tile (6 + j / 32)).chan (j % 32)).tstFail = true
            ∧ trips ⟨TripCode.OUT_TEST, s.chanCar j, j⟩ t))
      else Next (.preEnergiseTest j pass) s (· = s)))

/-- R347, R348: a valid press of the reset contact clears the latched trips whose conditions are gone, counts, leaves LOCKED and
lets a waiting parameter set take force; a press that is not valid changes none of it. -/
def Obligations.safety_reset_press : Prop := ∀ (s : State) (openMs heldMs : Nat),
    let valid : Prop := 200 ≤ openMs ∧ 50 ≤ heldMs ∧ heldMs < 5000 ∧ ∀ x, s.saf.lastTrip = some x → x < s.unow - (heldMs : Int) * 1000000
    let stay := s.saf.latched.filter (fun x => !s.tripGone x)
    if s.saf.pressed = false then Next (.safetyResetPress openMs heldMs) s (· = s)
    else Next (.safetyResetPress openMs heldMs) s (fun t => t.flag Reg.SAF_RESET_IN = false ∧ t.saf.pressed = false
        ∧ (heldMs < 5000 → t.getBit (Reg.HDR_IRQ_STAT Page.SAF) Irq.SAF_RESET = true)
      ∧ (¬ valid → t.saf = { s.saf with rtn := 0, pressed := false } ∧ t.get Reg.SAF_STATE = s.get Reg.SAF_STATE)
      ∧ (valid → t.saf.latched = stay ∧ t.get Reg.SAF_RESET_OK = min (2 ^ 32 - 1) (s.get Reg.SAF_RESET_OK + 1)
        ∧ t.get Reg.SAF_RESET_BAD = (if stay = [] then s.get Reg.SAF_RESET_BAD else min (2 ^ 32 - 1) (s.get Reg.SAF_RESET_BAD + 1))
        ∧ (s.get Reg.SAF_STATE = SafState.LOCKED → t.get Reg.SAF_STATE = if t.globalLatched then SafState.LOCKED else SafState.START)
        ∧ (s.flag Reg.SAF_PARAM_PEND = true → s.allRest = true →
            t.saf.force = s.saf.waiting ∧ t.saf.storedA = some s.saf.waiting ∧ t.saf.storedB = some s.saf.waiting ∧ t.flag Reg.SAF_PARAM_PEND = false
                ∧ t.flag Reg.SAF_PARAM_BAD = false
              ∧ t.get Reg.SAF_PARAM_GEN = min (2 ^ 32 - 1) (s.get Reg.SAF_PARAM_GEN + 1))))

/-- R346, R347, R352: a contact that sticks or is wired wrong; the commit and the discard of a parameter set.
Where the rules leave it open, what is stated is the model's choice (log entry 70). -/
def Obligations.safety_parameters : Prop := ∀ s : State,
  (∀ (ns : Nat) (c : CycleReads), Next (.safetyCycle ns c) s (fun t => match c.pulse with
      | none => t.flag Reg.SAF_RESET_IN = s.flag Reg.SAF_RESET_IN
      | some (a, b) => t.flag Reg.SAF_RESET_IN = (a && b && decide (1 ≤ s.saf.rtn))))
  ∧ When (s.flag Reg.SAF_RESET_IN = true) .resetStuck s (fun t => t.flag Reg.SAF_RESET_STUCK = true ∧ t.saf = { s.saf with pressed := false }
      ∧ t.get Reg.SAF_RESET_BAD = min (2 ^ 32 - 1) (s.get Reg.SAF_RESET_BAD + 1))
  ∧ Next .resetStuckClear s (fun t => t.flag Reg.SAF_RESET_STUCK = false ∧ t.flag Reg.SAF_RESET_IN = false
      ∧ t.saf = { s.saf with rtn := 0, pressed := false } ∧ WordsStay (fun a => a = Reg.SAF_RESET_STUCK.addr) s t)
  ∧ Next .resetWiring s (fun t => t.flag Reg.SAF_RESET_WIRING = true ∧ t.getBit (Reg.HDR_ERR_STAT Page.SAF) Err.SAF_RESET_WIRING = true
      ∧ t.saf = s.saf)
  ∧ (∀ e : SelfTest, s.pwr.fullHeld = false → s.pwr.powered = true → s.get Reg.SAF_STATE = SafState.SELFTEST → e.pass = true →
      Next (.stirrupSelftestComplete e) s (fun t => t.flag Reg.SAF_PARAM_BAD = (s.storedSet e.copyA e.copyB).isNone
        ∧ t.saf.force = (s.storedSet e.copyA e.copyB).getD []))
  ∧ (∀ r : Requester,
    (∀ crc : Word, (if isSession r = false ∨ (s.creds r).tag ≠ 0 then Next (.paramCommit r crc) s (fun t => t.resp.status = Status.E_STATE ∧ t.mem = s.mem
        ∧ t.saf = s.saf)
        else Next (.paramCommit r crc) s (fun t => (s.creds r).may Right.EXEC = true →
        t.get Reg.SAF_PARAM_ERR = s.paramCheck crc
        ∧ if s.paramCheck crc = 0 then t.resp.status = Status.OK ∧ t.flag Reg.SAF_PARAM_PEND = true ∧ t.saf.force = s.saf.force
            ∧ t.saf.waiting = s.mem.filter (fun w => inParams w.1) ++ s.encNow.filter (fun w => w.2 != 0)
          else t.resp.status = Status.E_STATE ∧ t.saf = s.saf ∧ t.getBit (Reg.HDR_ERR_STAT Page.SAF) Err.SAF_PARAM_INVALID = true)))
    ∧ ((s.creds r).tag = 0 → (s.creds r).may Right.EXEC = true → Next (.paramDiscard r) s (fun t =>
        t.resp.status = Status.OK ∧ t.flag Reg.SAF_PARAM_PEND = false ∧ t.saf.waiting = [] ∧ t.saf.force = s.saf.force
          ∧ WordsStay (fun a => a = Reg.SAF_PARAM_PEND.addr) s t)))

/-- R342 to R344: telegrams are sent in two copies, taken by count, compared between the lanes and watched.
Where the rules leave it open, what is stated is the model's choice (log entries 3, 70). -/
def Obligations.safety_telegrams : Prop := ∀ s : State,
  (if s.sysHeld = true then Next .telegramSend s (· = s)
      else Next .telegramSend s (fun t => t.mem = s.mem ∧ ∀ c < 16,
      if s.parFlag (Reg.SAF_CONN_EN c) then
        (let n := (s.safConn c).txCount
         let id := s.par (Reg.SAF_CONN_ID c)
         let safe := s.get Reg.SAF_STATE == SafState.LOCKED || s.get Reg.SAF_STATE == SafState.HALT || s.get Reg.SAF_STATE == SafState.SELFTEST
         let body := telegramBody id n (if safe then 0 else s.safData)
         let tail := body ++ bytesBE 4 (chkA id body) ++ bytesBE 4 (chkB id body)
         (t.safConn c).txCount = (if n = 0xFFFFFFFF then 1 else n + 1)
         ∧ ⟨.safetyTelegram, 0, s.par (Reg.SAF_PEER_A c), bytesBE 2 0x5357 ++ [0, b2n safe] ++ tail⟩ ∈ t.wire
         ∧ ⟨.safetyTelegram, 1, s.par (Reg.SAF_PEER_B c), bytesBE 2 0x5357 ++ [1, b2n safe] ++ tail⟩ ∈ t.wire)
      else t.safConn c = s.safConn c))
  ∧ (∀ (l : Lan) (m : Telegram), Next (.telegramReceive l m) s (fun t =>
      match (List.range 16).find? (fun c => s.parFlag (Reg.SAF_CONN_EN c) && s.par (Reg.SAF_CONN_ID c) == m.conn.toNat) with
      | none => t = s
      | some c =>
        let x := s.safConn c
        let st := s.get (Reg.SAF_CONN_STATE c)
        let body := telegramBody m.conn.toNat m.count m.data.toNat
        let key := bytesBE 4 m.conn.toNat ++ body ++ bytesBE 4 m.chkA.toNat ++ bytesBE 4 m.chkB.toNat
        if s.sysHeld = true ∨ m.magic ≠ 0x5357 ∨ m.chkA.toNat ≠ chkA m.conn.toNat body ∨ m.chkB.toNat ≠ chkB m.conn.toNat body then t = s
        else if ∀ n, x.last = some n → n ≠ m.count ∧ (m.count + 2 ^ 32 - n) % 2 ^ 32 < 2 ^ 31 then
          (t.safConn c).first = x.first ++ [⟨m.count, l, key, s.unow⟩] ∧
          (t.safConn c).last = some m.count
          ∧ (m.flags % 2 = 1 → t.get (Reg.SAF_CONN_STATE c) = 2 ∧ t.getW (Reg.SAF_CONN_RX c) = 0)
          ∧ (m.flags % 2 = 0 → st = 1 ∨ (st ≠ 3 ∧ 3 ≤ x.run) → t.get (Reg.SAF_CONN_STATE c) = 1 ∧ t.getW (Reg.SAF_CONN_RX c) = m.data.toNat)
        else match x.first.find? (fun e => e.count == m.count && e.lane != l && decide (s.unow ≤ e.came + 10000000)) with
          | none => t = s
          | some e => (t.safConn c).first = x.first.filter (fun u => u != e)
            ∧ (e.bytes ≠ key → t.get (Reg.SAF_CONN_STATE c) = 3 ∧ t.getW (Reg.SAF_CONN_RX c) = 0 ∧ ⟨TripCode.CONN, none, c⟩ ∈ t.saf.latched)))
  ∧ (∀ c : Fin 16,
    (∀ l : Lan, When (s.parFlag (Reg.SAF_CONN_EN c)) (.laneCopyMissing c l) s (fun t =>
        t.get (Reg.SAF_LANE_MISS c) = min (2 ^ 32 - 1) (s.get (Reg.SAF_LANE_MISS c) + 1)
        ∧ (t.safConn c).first = (s.safConn c).first.eraseP (fun e => e.lane != l)
        ∧ (match l with
          | .A => 15 ≤ (s.safConn c).missA → t.flag (Reg.SAF_A_DOWN c) = true
          | .B => 15 ≤ (s.safConn c).missB → t.flag (Reg.SAF_B_DOWN c) = true)))
    ∧ When (s.parFlag (Reg.SAF_CONN_EN c) = true) (.connWatchdog c) s (fun t => t.get (Reg.SAF_CONN_STATE c) = 2 ∧ t.getW (Reg.SAF_CONN_RX c) = 0))

/-! ## Metering -/

/-- R355, R359, R361 to R364, R368, R373, R375, R377, R378: circuits, aggregates and generators are enabled by their checks; a
sample integrates each enabled circuit by the power of its window; pulses are handed to tiles.
Where the rules leave it open, what is stated is the model's choice (log entries 29, 71, 72). -/
def Obligations.metering_samples : Prop := ∀ s : State,
  (∀ (raw : List Int) (drift : Int), (if s.meter.on = false then Next (.meteringSample raw drift) s (· = s)
      else Next (.meteringSample raw drift) s (fun t =>
        let o := s.gridOffset drift
        let ns := t.getS Reg.MTR_GRID_OFS
        let clk : Nat := if ns.natAbs ≤ 244 then 256 else if 0 < ns then 255 else 257
        64 * ns - 64 < o ∧ o < 64 * ns + 64 ∧ (t.flag Reg.MTR_SLEW = true ↔ 244 < ns.natAbs) ∧ t.meter.ofs = o + ((clk : Int) - 256) * 15625
          ∧ t.meter.last = some s.sampleTs ∧ t.meter.win.tail = s.meter.win.take 511 ∧ t.meter.first = false
          ∧ ∀ n < 48, ∃ w : Power, (if t.noLoad n (t.busHz (t.circBus n)) then w.p = 0 ∧ w.q = 0 else w.p = t.circP n ∧ (w.q - t.circQ n).natAbs ≤ 1)
            ∧ ∀ r < 6, t.getWS (circReg n r) =
              if s.circOn n then min energyMax (s.getWS (circReg n r) + (increments w clk).getD r 0) else s.getWS (circReg n r))))
  ∧ (∀ n : Fin 48, Next (.circEnable n) s (fun t => t.get (Reg.CIRC_CFG_ERR n) = s.circCheck n ∧
      if s.circCheck n = 0 then t.circOn n = true ∧ t.flag (Reg.HDR_ENABLED (Page.CIRC n)) = true ∧ t.resp.status = Status.OK
      else t.circOn n = s.circOn n ∧ t.resp.status = Status.E_STATE ∧ t.getBit (Reg.HDR_ERR_STAT (Page.CIRC n)) Err.CIRC_CFG_INVALID = true))
  ∧ (∀ g : Fin 8, s.flag (Reg.HDR_LOCK Page.MTR) = false
      → (if smaxLimit < s.aggSMax g then Next (.aggEnable g) s (fun t => t.flag (Reg.MTR_AGG_EN g) = s.flag (Reg.MTR_AGG_EN g)
      ∧ t.resp.status = Status.E_STATE
        ∧ t.getBit (Reg.HDR_ERR_STAT Page.MTR) Err.MTR_CFG_INVALID = true)
      else Next (.aggEnable g) s (fun t => t.flag (Reg.MTR_AGG_EN g) = true ∧ t.resp.status = Status.OK
          ∧ WordsStay (fun a => a = (Reg.MTR_AGG_EN g).addr) s t)))
  ∧ (∀ n : Fin 16,
    (if s.pulseCheck n then Next (.pulseEnable n) s (fun t => t.pulseOn n = true ∧ t.flag (Reg.HDR_ENABLED (Page.PULSE n)) = true
        ∧ t.resp.status = Status.OK)
        else Next (.pulseEnable n) s (fun t => t.pulseOn n = s.pulseOn n ∧ t.resp.status = Status.E_STATE
            ∧ t.getBit (Reg.HDR_ERR_STAT (Page.PULSE n)) Err.PULSE_CFG_INVALID = true))
    ∧ (let ch := s.get (Reg.PULSE_CH n)
      let k := min (s.get (Reg.PULSE_OWED n)) (16 - s.get (Reg.PULSE_AT_TILE n))
      When (s.meter.on = true ∧ s.pulseOn n = true ∧ s.pulseCh n = true ∧ s.flag (Reg.TILE_LINK_UP (ch / 32)) = true
            ∧ s.flag (Reg.TILE_SAFE (ch / 32)) = false ∧ (s.tile (ch / 32)).safe = false
                ∧ 0 < k) (.pulseHandover n) s (fun t => t.get (Reg.PULSE_OWED n) = s.get (Reg.PULSE_OWED n) - k
                ∧ t.get (Reg.PULSE_AT_TILE n) = s.get (Reg.PULSE_AT_TILE n) + k
            ∧ t.getW (Reg.PULSE_SENT n) = (s.getW (Reg.PULSE_SENT n) + k) % 2 ^ 64
            ∧ ((t.tile (ch / 32)).chan (ch % 32)).pulses = min 255 (((s.tile (ch / 32)).chan (ch % 32)).pulses + k))))
  ∧ Next .presenceJudged s (fun t =>
      (t.flag Reg.MTR_RESTORE_DONE = true ↔ s.flag Reg.MTR_RESTORE_DONE = true ∨ (s.meter.on = true ∧ s.meter.first = false))
      ∧ t.get Reg.PWR_MODE = if s.get Reg.PWR_MODE = 3 ∧ s.get Reg.PWR_SHED = 0 ∧ t.flag Reg.MTR_RESTORE_DONE = true then 0
          else s.get Reg.PWR_MODE)
  ∧ (∀ v : Int, -2 ^ 31 ≤ v → v < 2 ^ 31
      → When (s.meter.on) (.islTempRead v) s (fun t => t.getS Reg.MTR_ISL_TEMP = v ∧ WordsStay (fun a => a = Reg.MTR_ISL_TEMP.addr) s t))

/-- R365 to R367, R371, R372, R379: an interval's end, checkpoints, which leave the newest valid copy in place, and the commands
that clear registers.
Where the rules leave it open, what is stated is the model's choice (log entries 71, 72, 96). -/
def Obligations.metering_intervals : Prop := ∀ s : State,
  (let m := s.ivNote.meter
    let short := m.ivChg || (match s.demNominal with | some k => decide (256 < ((m.ivClk : Int) - k).natAbs) | none => false)
    (m.on = false → Next .demandIntervalEnd s (· = s))
    ∧ (m.on = true → WhenSome (s.ivNote.demBoundary s.tai) .demandIntervalEnd s (fun stop t => t.meter.ivStart = stop ∧ t.meter.ivClk = 0
        ∧ t.meter.ivCyc = 0 ∧ t.meter.ivChg = false ∧ t.getW Reg.MTR_DEM_END = stop % 2 ^ 64
          ∧ t.get Reg.MTR_DEM_FLAGS = 8 * b2n short + 4 * b2n m.ivHeld + 2 * b2n m.ivStep + b2n m.ivUnsync
          ∧ t.getBit (Reg.HDR_IRQ_STAT Page.MTR) Irq.MTR_DEM_END = true
          ∧ (m.old = none → t.get Reg.MTR_DEM_CNT = (s.get Reg.MTR_DEM_CNT + 1) % 2 ^ 32)
          ∧ ∀ n < 48, if s.circOn n then t.getWS (Reg.CIRC_IV_IMP n) = 0 ∧ t.getWS (Reg.CIRC_IV_EXP n) = 0
            else t.getWS (Reg.CIRC_IV_IMP n) = s.getWS (Reg.CIRC_IV_IMP n) ∧ t.getWS (Reg.CIRC_IV_EXP n) = s.getWS (Reg.CIRC_IV_EXP n)
              ∧ t.get (Reg.CIRC_DEM_IMP n) = s.get (Reg.CIRC_DEM_IMP n) ∧ t.get (Reg.CIRC_DEM_EXP n) = s.get (Reg.CIRC_DEM_EXP n))))
  ∧ (let starts (kind : Nat) (t : State) : Prop := t.meter.newest = s.meter.newest ∧ t.mem = s.mem
        ∧ ∃ a c, t.meter.writing = some (a, c) ∧ c.holds = true ∧ c.kind = kind ∧ c.ts = s.sampleStood ∧ c.regs = s.mem.filter (fun e => ckptKeeps e.1)
          ∧ s.meter.copyA.gen < c.gen ∧ s.meter.copyB.gen < c.gen
    When (s.meter.on = true ∧ s.meter.final = false ∧ s.meter.finalDue = false) .periodicCheckpoint s (fun t =>
      if s.meter.writing = none ∧ s.periodicSampled = true then starts CkptKind.PERIODIC t
      else t.meter = { s.meter with perDue := true } ∧ t.mem = s.mem)
    ∧ Next .checkpoint s (fun t => t.resp.status = Status.OK ∧
        if s.meter.on = false then t.meter = s.meter ∧ t.mem = s.mem
        else if s.meter.writing = none then starts CkptKind.COMMANDED t else t.meter = { s.meter with cmdWait := true } ∧ t.mem = s.mem))
  ∧ (∀ (ok : Bool) (us : Nat), WhenSome s.meter.writing (.checkpointWriteDone ok us) s (fun w t =>
      let useA := w.1
      let c := w.2
      min us (2 ^ 32 - 1) ≤ t.get Reg.MTR_CKPT_MAX_US
        ∧ (ok = true → t.get Reg.MTR_CKPT_KIND = c.kind % 4 ∧ t.getW Reg.MTR_CKPT_TS = c.ts % 2 ^ 64 ∧ t.get Reg.MTR_CKPT_GEN = c.gen % 2 ^ 32)
        ∧ (ok = false → t.getBit (Reg.HDR_ERR_STAT Page.MTR) Err.MTR_CKPT_FAIL = true)
        ∧ (∀ f, s.meter.queued = some f → t.meter.queued = none ∧ ∃ a c', t.meter.writing = some (a, c') ∧ c'.kind = f.kind)
        ∧ (s.meter.queued = none → s.meter.cmdWait = false → t.meter = if ok then (if useA then { s.meter with writing := none, copyA := c }
            else { s.meter with writing := none, copyB := c })
          else { s.meter with writing := none })
        ∧ (s.meter.queued = none → s.meter.cmdWait = true → t.meter.cmdWait = false ∧ ∃ a c', t.meter.writing = some (a, c') ∧ c'.kind = CkptKind.COMMANDED)))
  ∧ (∀ c : BitVec 8, (if c.toNat = 0xFF ∨ c.toNat < 48 then Next (.maxReset c) s (fun t => t.resp.status = Status.OK
      ∧ ∀ n < 48, (c.toNat = 0xFF ∨ c.toNat = n) →
        t.get (Reg.CIRC_MAX_IMP n) = 0 ∧ t.getW (Reg.CIRC_MAX_IMP_TS n) = 0 ∧ t.get (Reg.CIRC_MAX_NET n) = 0
            ∧ t.getW (Reg.CIRC_MAX_NET_TS n) = 0)
      else Next (.maxReset c) s (fun t => t.resp.status = Status.E_OP ∧ t.mem = s.mem)))
  ∧ (∀ (r : Requester) (c : Fin 48),
    ((s.creds r).tag = 0 → (∀ h, r ≠ .session h)
        → ∀ i ∈ [Instr.estClear r c, .regClear r c], Next i s (fun t => t.resp.status = Status.E_STATE ∧ t.mem = s.mem))
    ∧ ((s.creds r).tag = 0 → (s.creds r).may Right.EXEC = true → (∃ h, r = .session h) →
      Next (.estClear r c) s (fun t => t.resp.status = Status.OK ∧ t.getWS (Reg.CIRC_EST_IMP c) = 0 ∧ t.getWS (Reg.CIRC_EST_EXP c) = 0)
      ∧ (if s.circOn c then Next (.regClear r c) s (fun t => t.resp.status = Status.E_STATE ∧ t.mem = s.mem)
          else Next (.regClear r c) s (fun t => t.resp.status = Status.OK ∧ ∀ k < 8, t.getWS (circReg c k) = 0))))

/-! ## Points, sessions and BACnet -/

/-- R382 to R389, R394: writes of a point's value, of its configuration and of its array's slots, through the guard; a binding
delivers.
Where the rules leave it open, what is stated is the model's choice (log entries 12, 21, 73). -/
def Obligations.point_writes : Prop := ∀ (s : State) (n : Fin 8192),
  let pa := s.get (Reg.PT_PA n)
  let same (t : State) : Prop := t.word (ptAddr n 0) = s.word (ptAddr n 0) ∧ t.prioArrays = s.prioArrays
  let follows (t : State) : Prop := t.resp.status = Status.OK ∧ (pa ≠ 0 → s.ptIn n = false → s.flag (Reg.PT_CMD n) = true →
    ∀ p x, paWinner (t.paSlots pa) = some (p, x) → p ≤ 16 → t.word (ptAddr n 0) = x.value ∧ t.get (Reg.PT_QUAL n) = x.qual % 256
        ∧ t.get (Reg.PT_WIN_PRIO n) = p)
  (∀ (c : Fin 4) (v : Word) (q : BitVec 8), Next (.pointValueWrite (.coreNarrow c) n v q) s (fun t =>
      same t ∧ t.resp.status = Status.E_ALIGN ∧ t.resp.busError = true ∧ t.getBit (Reg.HDR_ERR_STAT Page.PGD) Err.SIZE = true))
  ∧ (∀ (r : Requester) (v : Word) (q : BitVec 8), let c := s.creds r
    (isNarrow r = false → (if s.mayWritePoint c n = false then Next (.pointValueWrite r n v q) s (fun t => same t ∧ t.resp.status = c.refusal
        ∧ t.get Reg.PGD_REFUSE_CNT = min (2 ^ 32 - 1) (s.get Reg.PGD_REFUSE_CNT + 1))
        else if s.ptIn n = true ∨ s.gated c n = true then Next (.pointValueWrite r n v q) s (fun t => same t ∧ t.resp.status = Status.E_STATE)
        else if s.flag (Reg.PT_CMD n) = false then Next (.pointValueWrite r n v q) s (fun t => t.resp.status = Status.OK
            ∧ t.word (ptAddr n 0) = v ∧ t.get (Reg.PT_QUAL n) = q.toNat
        ∧ (s.word (ptAddr n 0) ≠ v ∨ s.get (Reg.PT_QUAL n) ≠ q.toNat → t.getW (Reg.PT_TS n) = s.tai % 2 ^ 64))
        else Next (.pointValueWrite r n v q) s (fun t => KV.get? (t.paSlots pa) (s.writePrioOf c n c.prio) = some ⟨v, q.toNat, true⟩ ∧ follows t)))
    ∧ (∀ p : Nat, (if s.mayCommandPoint c n = false then Next (.writePrio r n p v q) s (fun t => same t ∧ t.resp.status = c.refusal)
        else if s.ptIn n = true ∨ s.flag (Reg.PT_CMD n) = false ∨ p = 0 ∨ 16 < p
            ∨ s.gated c n = true then Next (.writePrio r n p v q) s (fun t => same t ∧ t.resp.status = Status.E_STATE)
        else Next (.writePrio r n p v q) s (fun t =>
            KV.get? (t.paSlots pa) (s.writePrioOf c n p) = some ⟨v, q.toNat, true⟩ ∧ follows t))
    ∧ (if s.mayCommandPoint c n = false then Next (.relinquish r n p) s (fun t => same t ∧ t.resp.status = c.refusal)
        else if s.flag (Reg.PT_CMD n) = false ∨ p = 0 ∨ 16 < p
            ∨ s.gated c n = true then Next (.relinquish r n p) s (fun t => same t ∧ t.resp.status = Status.E_STATE)
        else (∀ x, KV.get? (s.paSlots pa) (s.writePrioOf c n p) = some x →
            Next (.relinquish r n p) s (fun t => KV.get? (t.paSlots pa) (s.writePrioOf c n p) = some { x with active := false } ∧ follows t))
          ∧ (KV.get? (s.paSlots pa) (s.writePrioOf c n p) = none → Next (.relinquish r n p) s (fun t => same t ∧ t.resp.status = Status.OK)))))
  ∧ (∀ (r : Requester) (k : Fin 8) (w : Word), let c := s.creds r
    let new := (s.word (ptAddr n k) &&& ~~~ ptRwl k) ||| (w &&& ptRwl k)
    isNarrow r = false → (if c.tag ≠ 0 ∨ c.may Right.WRITE = false
        ∨ c.may Right.CONFIG = false then Next (.pointConfigWrite r n k w) s (fun t => t.word (ptAddr n k) = s.word (ptAddr n k)
        ∧ t.resp.status = c.refusal)
        else if s.flag (Reg.HDR_LOCK Page.PGD) then Next (.pointConfigWrite r n k w) s (fun t => t.word (ptAddr n k) = s.word (ptAddr n k)
            ∧ t.resp.status = Status.W_IGNORED)
        else if new = s.word (ptAddr n k) ∨ ((s.setWord (ptAddr n k) new).ptValid n = true
            ∧ (k.val = 7 → (s.setWord (ptAddr n k) new).objFits n = true)) then Next (.pointConfigWrite r n k w) s (fun t =>
            t.word (ptAddr n k) &&& ptRwl k = w &&& ptRwl k ∧ t.resp.status = Status.OK)
        else Next (.pointConfigWrite r n k w) s (fun t => t.word (ptAddr n k) = s.word (ptAddr n k) ∧ t.resp.status = Status.E_STATE
            ∧ t.getBit (Reg.HDR_ERR_STAT Page.PGD) Err.PGD_CFG_INVALID = true)))
  ∧ (∀ (v : Word) (q : BitVec 8), (if s.ptIn n = false ∨ s.get (Reg.PT_BIND n) = 1 then Next (.bindingDelivery n v q) s (· = s)
      else if s.get Reg.TWN_STATE = 1 ∨ s.get Reg.TWN_STATE = 2 then Next (.bindingDelivery n v q) s (fun t =>
          KV.get? t.twin.own n = some ⟨n, v, q.toNat⟩ ∧ t.mem = s.mem)
      else Next (.bindingDelivery n v q) s (fun t => t.word (ptAddr n 0) = v ∧ t.get (Reg.PT_QUAL n) = q.toNat)))

/-- R95, R386, R389, R391, R392: sessions end and are shown; the BACnet services answer by the guard's view of each
object.
Where the rules leave it open, what is stated is the model's choice (log entries 3, 12, 54, 73). -/
def Obligations.sessions_and_bacnet : Prop := ∀ s : State,
  (∀ n : Fin 512,
    (∀ r : Requester, (s.creds r).tag = 0 → (s.creds r).may Right.EXEC = true → Next (.endSession r n) s (fun t =>
      t.resp.status = Status.OK ∧ KV.get? t.sessions n.val = none ∧ t.mem = s.mem
          ∧ ∀ k : Fin 512, k ≠ n → KV.get? t.sessions k.val = KV.get? s.sessions k.val))
    ∧ Next (.sessIdxWrite n) s (fun t => t.get Reg.PGD_SESS_IDX = n.val ∧ (t.flag Reg.PGD_OWNER_RES = true ↔ 504 ≤ n.val)
      ∧ WordsStay (fun a => 0xA060 ≤ a ∧ a ≤ 0xA06C) s t
      ∧ match KV.get? s.sessions n.val with
        | none => t.get Reg.PGD_SESS_STATE = 0 ∧ t.get Reg.PGD_SESS_ID = 0 ∧ t.get Reg.PGD_SESS_TAG = 0 ∧ t.get Reg.PGD_SESS_RIGHTS = 0
        | some e => t.get Reg.PGD_SESS_STATE = (if e.sc then 3 else 2) ∧ t.get Reg.PGD_SESS_TAG = e.tag % 1024
            ∧ t.get Reg.PGD_SESS_RIGHTS = e.rights % 128
          ∧ t.get Reg.PGD_SESS_PRIO = e.prio % 16 ∧ t.get Reg.PGD_KEY_HANDLE = e.keyHandle % 2048))
  ∧ Next .lastRefuseRead s (· = { s with refUnread := false })
  ∧ (∀ r : Requester,
    let c := s.creds r
    let sends (k : SentKind) (body : List Nat) (t : State) : Prop := t.wire = ⟨k, 0, s.bacAddr r, body⟩ :: s.wire
    let quiet (i : Instr) : Prop := Next i s (· = s)
    (s.bacnetServes r = false → (∀ xs, quiet (.readProperty r xs)) ∧ (∀ xs, quiet (.writeProperty r xs)) ∧ (∀ n b, quiet (.subscribeCov r n b))
        ∧ ∀ o, quiet (.whoIs r o))
    ∧ quiet (.timeSynchronization r)
    ∧ (s.bacnetServes r = true →
      (∀ n : Fin 8192,
        (if s.objKnown c n = true then
          (∀ p : BacProp, Next (.readProperty r [(.point n, p)]) s (fun t => t.mem = s.mem ∧ match s.property n p with
            | some l => sends .bacnetReply l t
            | none => sends .bacnetError [32] t))
        else ∀ (p : BacProp) (v : BacWrite), ∀ i ∈ [.readProperty r [(.point n, p)], .writeProperty r [(n, v)]], Next i s (fun t =>
          t.wire.head? = some ⟨.bacnetError, 0, s.bacAddr r, [if s.objExists n = true ∧ c.tag = 0 then 27 else 31]⟩
          ∧ (if s.objExists n = true then t.get Reg.PGD_REFUSE_CNT = min (2 ^ 32 - 1) (s.get Reg.PGD_REFUSE_CNT + 1)
              ∧ (∀ m < 8192, t.ptWords m = s.ptWords m) ∧ t.prioArrays = s.prioArrays ∧ t.covInc = s.covInc
            else t.mem = s.mem)))
        ∧ (s.objKnown c n = true →
          (∀ v ∈ [(some : Word → Option Word) 0, none], s.mayWritePoint c n = false →
            Next (.writeProperty r [(n, match v with | some w => .value w | none => .null)]) s (fun t =>
              t.wire.head? = some ⟨.bacnetError, 0, s.bacAddr r, [40]⟩ ∧ t.word (ptAddr n 0) = s.word (ptAddr n 0)))
          ∧ (∀ w, s.mayWritePoint c n = true → Next (.writeProperty r [(n, .value w)]) s (fun t =>
              if s.ptIn n = true ∨ s.gated c n = true then sends .bacnetError [s.get (Reg.PT_OBJ_ID n)] t ∧ t.mem = s.mem
              else t.wire.head? = some ⟨.bacnetReply, 0, s.bacAddr r, [s.get (Reg.PT_OBJ_ID n)]⟩
                ∧ (s.flag (Reg.PT_CMD n) = false → t.word (ptAddr n 0) = w)))
          ∧ (∀ w, Next (.writeProperty r [(n, .covIncrement w)]) s (fun t =>
              if s.ptAnalog n = true ∧ c.tag = 0 ∧ c.may Right.WRITE = true then
                sends .bacnetReply [s.get (Reg.PT_OBJ_ID n)] t ∧ KV.getD t.covInc n 0 = w ∧ t.mem = s.mem
              else t.covInc = s.covInc))))
      ∧ (∀ p : BacProp, Next (.readProperty r [(.device, p)]) s (fun t => t.mem = s.mem
          ∧ (p = .objectList → sends .bacnetReply (deviceId :: 76 :: s.objectList c) t)))
      ∧ (∀ id ∈ s.objectList c, id = deviceId ∨ id ∈ Config.firmwareObjects
          ∨ ∃ m, s.get (Reg.PT_OBJ_ID m) = id ∧ s.mayReadPoint c m = true)
      ∧ (∀ m : Fin 8192, s.objKnown c m = true → s.get (Reg.PT_OBJ_ID m) ∈ s.objectList c)
      ∧ (∀ (i : Nat) (p : BacProp), Next (.readProperty r [(.firmware i, p)]) s (fun t => t.mem = s.mem))
      ∧ (∀ (x : BacObj × BacProp) (xs : List (BacObj × BacProp)), Next (.readProperty r [x]) s (fun t =>
          Next (.readProperty r xs) t (fun u => exec (.readProperty r (x :: xs)) s = .next u)))
      ∧ (∀ (x : Fin 8192 × BacWrite) (xs : List (Fin 8192 × BacWrite)), Next (.writeProperty r [x]) s (fun t =>
          Next (.writeProperty r xs) t (fun u => exec (.writeProperty r (x :: xs)) s = .next u)))
      ∧ (∀ (n : Fin 8192) (b : Bool), (if s.objKnown c n = true ∧ c.may Right.SUBSCRIBE = true
          ∧ s.flag (Reg.PT_COV n) = true then Next (.subscribeCov r n b) s (fun t => ⟨r, n, b, false, s.word (ptAddr n 0), s.get (Reg.PT_QUAL n)⟩ ∈ t.covSubs ∧ t.mem = s.mem
            ∧ sends .bacnetReply [s.get (Reg.PT_OBJ_ID n)] t)
          else Next (.subscribeCov r n b) s (fun t => t.covSubs = s.covSubs ∧ ∃ e, t.wire.head? = some ⟨.bacnetError, 0, s.bacAddr r, [e]⟩)))
      ∧ Next (.whoIs r none) s (fun t => sends .iAm [deviceId] t ∧ t.mem = s.mem)
      ∧ (∀ n : Fin 8192, Next (.whoIs r (some n)) s (fun t => t.mem = s.mem ∧
          t.wire = if s.objKnown c n then ⟨.iAm, 1, s.bacAddr r, [s.get (Reg.PT_OBJ_ID n)]⟩ :: s.wire else s.wire)))
    ∧ (∀ on : Bool, When (¬ (({ s with bacnetOn := true } : State).bacnetServes r = false)) (.deviceCommunicationControl r on) s (fun t =>
        t.bacnetOn = (if c.tag = 0 then on else s.bacnetOn) ∧ t.mem = s.mem)))
  ∧ (∀ i : Nat, Next (.covNotification i) s (fun t => t.mem = s.mem ∧ match s.covSubs[i]? with
      | none => t = s
      | some c => if c.dirty = true ∧ s.notesPaused = false ∧ s.bacnetServes c.client = true then
          t.covSubs = s.covSubs.set i { c with dirty := false, value := s.word (ptAddr c.point 0), qual := s.get (Reg.PT_QUAL c.point) }
          ∧ (s.objKnown (s.creds c.client) c.point = true → t.wire = ⟨.covNotification, b2n c.confirmed, s.bacAddr c.client,
              [s.get (Reg.PT_OBJ_ID c.point), s.get (Reg.PT_VALUE c.point), s.get (Reg.PT_QUAL c.point)]⟩ :: s.wire)
        else t = s))
  ∧ (s.flag Reg.RST_TACK = true → ∀ h : ScConnect, Next (.bacnetScConnect h) s (· = s))
  ∧ (s.flag Reg.RST_TACK = false
      → ∀ h : ScConnect, Next (.bacnetScConnect h) s (fun t => t.mem = s.mem ∧ ∀ e, KV.get? s.handles h.handle.val = some e → e.kind = Kind.SC_CERT
      → s.usable h.handle = true →
      ∀ n k, s.freeEntry e.tag = some n → s.freeSessionHandle = some k →
        ∃ x, KV.get? t.sessions n = some x ∧ x.sc = true ∧ x.tag = e.tag ∧ x.rights = e.rights ∧ x.prio = e.prio ∧ x.keyHandle = k
            ∧ x.credHandle = h.handle.val
            ∧ x.hub = (if h.failover then 2 else 1)))

/-! ## Frames -/

/-- R395 to R411: a received frame is judged and delivered, a ring's TAIL hands frames over, ports transmit by gates and
queues, gate lists are committed and run, and the node table forgets.
Where the rules leave it open, what is stated is the model's choice (log entries 3, 30, 74). -/
def Obligations.ethernet_frames : Prop := ∀ (s : State) (l : Lan),
  let n := lanNum l
  let p := s.port n
  let count (f : Fld) (t : State) : Prop := t.get f = min (2 ^ 32 - 1) (s.get f + 1) ∧ t.mac = s.mac ∧ WordsStay (· = f.addr) s t
  (∀ f : RxFrame,
    let bs := f.bytes.map (·.toNat)
    let dst := frameDst bs
    let body := if s.prpActive = true ∧ (rctOf bs).isSome = true then bs.take (bs.length - 6) else bs
    let size := max 64 (s.get (Reg.MAC_RX_BUF_SIZE n))
    let k := (min 9216 body.length + size - 1) / size
    let h := s.get (Reg.MAC_RX_HEAD n)
    (if s.sysHeld = true ∨ s.flag (Reg.MAC_LINK_UP n) = false then Next (.frameReceive l f) s (· = s)
        else if bs.length < 60 then Next (.frameReceive l f) s (fun t => count (Reg.MAC_RX_RUNT n) t)
        else if body.length ≤ 9216 ∧ f.fcsOk = false then Next (.frameReceive l f) s (fun t =>
            if ¬ (dst = 0x0180C2000001 ∧ halfAt bs 12 = 0x8808) ∧ engineAddr dst = false ∧ s.accepts n dst = true
                ∧ s.rxShort (if s.prpActive then 0 else n) body.length = true
            then t.mac = s.mac else count (Reg.MAC_RX_CRC_ERR n) t)
        else if dst = 0x0180C2000001 ∧ halfAt bs 12 = 0x8808 then Next (.frameReceive l f) s (fun t => count (Reg.MAC_RX_PAUSE n) t)
        else if engineAddr dst then Next (.frameReceive l f) s (· = s)
        else if s.accepts n dst = false then Next (.frameReceive l f) s (fun t => count (Reg.MAC_RX_FILTERED n) t)
        else if s.prpActive then Next (.frameReceive l f) s (fun t => ∀ seq e, rctOf bs = some (seq, 10 + n)
            → s.mac.nodes.find? (fun x => x.src == frameSrc bs) = some e →
        (∃ x ∈ e.seen, x.1 = seq ∧ s.unow - (s.get (Reg.MAC_ENTRY_FORGET_MS 0) : Int) * 1000000 < x.2) →
        t.get (Reg.MAC_PRP_DUP 0) = min (2 ^ 32 - 1) (s.get (Reg.MAC_PRP_DUP 0) + 1) ∧ t.mac.dram = s.mac.dram
            ∧ WordsStay (· = (Reg.MAC_PRP_DUP 0).addr) s t)
        else if s.ringHeld n 7 h < k then Next (.frameReceive l f) s (fun t =>
            t.get (Reg.MAC_RX_NO_DESC n) = min (2 ^ 32 - 1) (s.get (Reg.MAC_RX_NO_DESC n) + 1) ∧ t.mac = s.mac
        ∧ t.getBit (Reg.HDR_IRQ_STAT (Page.MAC n)) Irq.MAC_NO_DESC = true)
        else if ∃ i < k, s.descBad (s.descAt n 7 (h + i)) = true then Next (.frameReceive l f) s (fun t => t.flag (Reg.MAC_RX_EN n) = false
            ∧ t.mac = s.mac)
        else Next (.frameReceive l f) s (fun t => t.get (Reg.MAC_RX_HEAD n) = (h + k) % max 1 (s.get (Reg.MAC_RX_LEN n)) % 4096
            ∧ t.getBit (Reg.HDR_IRQ_STAT (Page.MAC n)) Irq.MAC_RX_DONE = true
        ∧ t.get (Reg.MAC_RX_FRAMES n) = min (2 ^ 32 - 1) (s.get (Reg.MAC_RX_FRAMES n) + 1)
        ∧ t.getW (Reg.MAC_RX_BYTES n) = min (2 ^ 64 - 1) (s.getW (Reg.MAC_RX_BYTES n) + min 9216 body.length))))
  ∧ (∀ (ring : Option (Fin 7)) (tail : BitVec 12) (writes : List (Nat × Word)), (if s.sysHeld then Next (.tailWrite l ring tail writes) s (· = s)
      else Next (.tailWrite l ring tail writes) s (fun t => match ring with
        | none => t.get (Reg.MAC_RX_TAIL n) = tail.toNat ∧ WordsStay (· = (Reg.MAC_RX_TAIL n).addr) s t ∧ t.mac.portA = s.mac.portA
            ∧ t.mac.portB = s.mac.portB
        | some q => t.get (Reg.MAC_TX_TAIL n q) = tail.toNat
            ∧ (s.flag (Reg.MAC_TX_EN n q) = false → WordsStay (· = (Reg.MAC_TX_TAIL n q).addr) s t ∧ t.mac.jobs = s.mac.jobs))))
  ∧ When (¬ (s.sysHeld = true ∨ p.sending ≠ none ∨ s.flag (Reg.MAC_LINK_UP n) = false)) (.frameTransmit l) s (fun t =>
      (∀ c, (t.port n).sending = some c → t.wire.head? = some ⟨.ethFrame, n, frameDst c.bytes, c.bytes⟩
          ∧ t.get (Reg.MAC_TX_FRAMES n) = min (2 ^ 32 - 1) (s.get (Reg.MAC_TX_FRAMES n) + 1)
          ∧ t.getW (Reg.MAC_TX_BYTES n) = min (2 ^ 64 - 1) (s.getW (Reg.MAC_TX_BYTES n) + c.bytes.length))
        ∧ (∀ c q cs, s.flag (Reg.MAC_QBV_EN n) = false → q < 7 → KV.getD p.queues q [] = c :: cs → c.q = q
            → s.getBit (Reg.MAC_GATES n) q = true →
            (∀ q', q < q' → q' < 7 → KV.getD p.queues q' [] = [] ∨ s.getBit (Reg.MAC_GATES n) q' = false) →
            (t.port n).sending = some c ∧ KV.getD (t.port n).queues q [] = cs))
  ∧ WhenSome p.sending (.txDone l) s (fun c t => (t.port n).sending = none
      ∧ match s.mac.jobs.find? (fun x => x.mac == c.mac && x.q == c.q && x.first == c.first) with
        | none => t.mem = s.mem
        | some j => j.left ≤ 1 → j ∉ t.mac.jobs ∧ t.getBit (Reg.HDR_IRQ_STAT (Page.MAC j.mac)) Irq.MAC_TX_DONE = true)
  ∧ (let ws := (List.range 16).map (fun e => s.word (Reg.MAC_GCL_GATES n e).addr)
    (if s.sysHeld then Next (.gclCommit l) s (· = s)
        else if gclOk ws then Next (.gclCommit l) s (fun t => t.resp.status = Status.OK ∧ (t.port n).staged = some (ws, s.cycles)
            ∧ t.flag (Reg.MAC_GCL_PEND n) = true)
        else Next (.gclCommit l) s (fun t => t.resp.status = Status.E_STATE
            ∧ t.getBit (Reg.HDR_ERR_STAT (Page.MAC n)) Err.MAC_GCL_INVALID = true ∧ t.mac = s.mac)))
  ∧ (if s.sysHeld = true ∨ (p.hold = true ∧ s.cycles < p.cycleAt + 62500) then Next (.gateCycleStart l) s (· = s)
      else Next (.gateCycleStart l) s (fun t => (t.port n).entry = 0 ∧ (t.port n).cycleAt = s.cycles ∧ (t.port n).hold = false
          ∧ (s.flag (Reg.MAC_QBV_EN n) = false → t.get (Reg.MAC_GATES n) = 0xFF)
        ∧ ∀ ws c, p.staged = some (ws, c) → ws.length = 16 →
          if c + 1250 ≤ s.cycles then (t.port n).staged = none ∧ t.flag (Reg.MAC_GCL_PEND n) = false
              ∧ ∀ e < 16, t.word (Reg.MAC_OPER n e).addr = ws.getD e 0
          else (t.port n).staged = p.staged))
  ∧ (if s.sysHeld = true ∨ p.hold = true ∨ (s.operList n).length ≤ p.entry + 1 then Next (.gateIntervalEnd l) s (· = s)
      else Next (.gateIntervalEnd l) s (fun t => (t.port n).entry = p.entry + 1 ∧ (t.port n).entryAt = s.cycles
          ∧ WordsStay (· = (Reg.MAC_GATES n).addr) s t
        ∧ t.get (Reg.MAC_GATES n) = if s.flag (Reg.MAC_QBV_EN n) then ((s.operList n).getD (p.entry + 1) (0, 0)).1 else 0xFF))
  ∧ When (¬ (s.sysHeld = true ∨ s.prpActive = false)) .supervisionFrame s (fun t => t.mem = s.mem
      ∧ (s.flag (Reg.MAC_LINK_UP n) = true → ⟨.prpSupervision, n, 0x01154E000100, [s.macAddr 0]⟩ ∈ t.wire))
  ∧ (∀ src : BitVec 48, Next (.nodeForget src) s (fun t => t.get (Reg.MAC_NT_COUNT 0) = t.mac.nodes.length % 1024
      ∧ WordsStay (· = (Reg.MAC_NT_COUNT 0).addr) s t
      ∧ ∀ e, e ∈ t.mac.nodes ↔ e ∈ s.mac.nodes ∧ ¬ (e.src = src.toNat ∧ e.last ≤ s.unow - (s.get (Reg.MAC_NODE_FORGET_S 0) : Int) * 1000000000)))
  ∧ (∀ up fast : Bool,
      let v := up && (if fast then s.get (Reg.MAC_SPEED_CAP n) != 2 else s.get (Reg.MAC_SPEED_CAP n) != 1)
      When (¬ (s.sysHeld)) (.phyLinkChange l up fast) s (fun t => t.flag (Reg.MAC_LINK_UP n) = v
          ∧ t.get (Reg.MAC_SPEED n) = (if v then (if fast then 2 else 1) else 0)
          ∧ (v = false → ∀ e ∈ (t.port n).queues, ∀ c ∈ e.2, c.prp = false)))

/-! ## CAN -/

/-- R415, R417 to R421, R424 to R427: a channel's enable, its queue and attempts, what it receives, its nodes, sleep and
bus-off.
Where the rules leave it open, what is stated is the model's choice (log entries 3, 21, 28, 75, 93). -/
def Obligations.can_channels : Prop := ∀ (s : State) (c : Fin 4),
  let st := s.get (Reg.CANCH_STATE c)
  let x := s.can c
  let tec := s.get (Reg.CANCH_TEC c)
  let up (f : Fld) (t : State) : Prop := t.get f = min (2 ^ 32 - 1) (s.get f + 1)
  let woken (t : State) : Prop := if st = CanState.ASLEEP then t.canOn c = true ∧ up (Reg.CANCH_WAKE_CNT c) t
      ∧ t.getBit (Reg.HDR_IRQ_STAT (Page.CANCH c)) Irq.CANCH_WAKE = true
    else t.mem = s.mem
  let hit (failed : Prop) (t : State) : Prop := t.get (Reg.CANCH_TEC c) = min 255 (tec + 8)
    ∧ if 255 < tec + 8 then t.get (Reg.CANCH_STATE c) = CanState.BUS_OFF ∧ up (Reg.CANCH_BUSOFF_CNT c) t else failed
  (if s.flag (Reg.HDR_ENABLE (Page.CANCH c)) then Next (.canEnable c true) s (· = s)
      else if s.timingOk c then Next (.canEnable c true) s (fun t => t.flag (Reg.HDR_ENABLE (Page.CANCH c)) = true
          ∧ t.flag (Reg.HDR_ENABLED (Page.CANCH c)) = true
      ∧ t.get (Reg.CANCH_STATE c) = CanState.ACTIVE ∧ t.get (Reg.CANCH_TEC c) = 0 ∧ t.get (Reg.CANCH_REC c) = 0)
      else Next (.canEnable c true) s (fun t => t.get (Reg.CANCH_STATE c) = st
          ∧ t.getBit (Reg.HDR_ERR_STAT (Page.CANCH c)) Err.CANCH_CFG_RANGE = true))
  ∧ Next (.canEnable c false) s (fun t => t.flag (Reg.HDR_ENABLE (Page.CANCH c)) = false ∧ t.get (Reg.CANCH_STATE c) = CanState.OFF)
  ∧ (if 32 ≤ x.queued.length then Next (.txPush c) s (fun t => t.cans = s.cans
      ∧ t.getBit (Reg.HDR_ERR_STAT (Page.CANCH c)) Err.CANCH_TXQ_FULL = true)
      else Next (.txPush c) s (fun t => t.mem = s.mem ∧ ∃ f, (t.can c).tx = x.tx ++ [f] ∧ f.engine = false ∧ f.ide = s.flag (Reg.CANCH_TX_IDE c)
          ∧ f.dlc = s.get (Reg.CANCH_TX_DLC c)
        ∧ f.id = (if s.flag (Reg.CANCH_TX_IDE c) then s.get (Reg.CANCH_TX_ID c) else s.get (Reg.CANCH_TX_ID c) % 2048)))
  ∧ Next (.txAbortAll c) s (fun t => t.mem = s.mem ∧ (t.can c).tx = x.tx.filter (·.engine) ∧ (t.can c).rx = x.rx)
  ∧ (if s.get Reg.FIR_MODE ≠ 0 ∨ s.canInUse c = true then Next (.canSleep c) s (fun t => t.resp.status = Status.E_STATE
      ∧ t.get (Reg.CANCH_STATE c) = st)
      else Next (.canSleep c) s (fun t => t.resp.status = Status.OK ∧ t.get (Reg.CANCH_STATE c) = (if s.canOn c then CanState.ASLEEP else st)))
  ∧ Next (.canWake c) s (fun t => woken t ∧ t.resp.status = Status.OK)
  ∧ (∀ e : WakeEvent, When (s.wakes c e) (.canWakeEvent c e) s (fun t => woken t))
  ∧ Next (.canRecover c) s (fun t => t.resp.status = Status.OK
      ∧ t.get (Reg.CANCH_STATE c) = (if st = CanState.BUS_OFF then CanState.RECOVERING else st))
  ∧ When (s.flag (Reg.CANCH_AUTO_RECOVER c) = true
      ∧ st = CanState.BUS_OFF) (.busOffRecoveryStart c) s (fun t => t.get (Reg.CANCH_STATE c) = CanState.RECOVERING
      ∧ WordsStay (· = (Reg.CANCH_STATE c).addr) s t)
  ∧ When (st = CanState.RECOVERING) (.busOffRecovered c) s (fun t => t.get (Reg.CANCH_STATE c) = CanState.ACTIVE ∧ t.get (Reg.CANCH_TEC c) = 0
      ∧ t.get (Reg.CANCH_REC c) = 0)
  ∧ When (s.canOn c) (.busOff c) s (fun t => t.get (Reg.CANCH_STATE c) = CanState.BUS_OFF ∧ up (Reg.CANCH_BUSOFF_CNT c) t
      ∧ t.get (Reg.CANCH_TEC c) = 255
        ∧ ∀ n < 16, s.get (Reg.AXIS_CAN_CH n) = c.val → s.get (Reg.AXIS_STATE n) ≠ AxState.DISABLED →
          t.getBit (Reg.CANCH_NODE_ALIVE c (s.axisNode n / 32)) (s.axisNode n % 32) = false)
  ∧ (∀ o : TxOutcome, (if s.canOn c = false ∨ s.get Reg.TWN_STATE = TwinState.RESYNC then Next (.canTxAttempt c o) s (· = s)
      else Next (.canTxAttempt c o) s (fun t => match offered x.tx with
        | none => t = s
        | some i => ∀ f, x.tx[i]? = some f →
          let failed : Prop := if f.engine = false ∧ s.get (Reg.CANCH_RETRY_LIM c) < f.tries + 1 then (t.can c).tx = x.tx.eraseIdx i
              ∧ up (Reg.CANCH_TX_ABANDON c) t
            else (t.can c).tx.length = x.tx.length
          match o with
          | .sent => (t.can c).tx = x.tx.eraseIdx i ∧ t.wire = ⟨.canFrame, c, f.id, f.data⟩ :: s.wire ∧ up (Reg.CANCH_TX_FRAMES c) t
              ∧ t.get (Reg.CANCH_TEC c) = tec - 1
          | .lost => failed ∧ t.get (Reg.CANCH_TEC c) = tec
          | .error => hit failed t
          | .clash => hit failed t
              ∧ (f.clashes = 1 → t.getBit (Reg.HDR_ERR_STAT (Page.CANCH c)) Err.CANCH_ID_CLASH = true))))
  ∧ (∀ (f : CanRx) (m : Option FixMsg), (if s.sysHeld = true ∨ s.canOn c = false
          ∨ (f.fdf = true ∧ s.flag (Reg.CANCH_FD_EN c) = false) then Next (.canFrameReceive c f m) s (· = s)
      else Next (.canFrameReceive c f m) s (fun t => match (if f.ide then none else s.engineNode c f.id) with
        | some (b, k) => b = 0x700 → m = none → t.getBit (Reg.CANCH_NODE_ALIVE c (k / 32)) (k % 32) = true ∧ t.cans = s.cans
        | none => up (Reg.CANCH_RX_FRAMES c) t ∧
          match (List.range 32).find? (fun i => s.flag (Reg.CANCH_FLT_EN c i) && s.flag (Reg.CANCH_FLT_IDE c i) == f.ide
              && (f.id ^^^ s.get (Reg.CANCH_FLT_ID c i)) &&& s.get (Reg.CANCH_FLT_MASK c i) == 0) with
          | none => up (Reg.CANCH_RX_FILTERED c) t ∧ t.cans = s.cans
          | some i => if 64 ≤ x.rx.length then up (Reg.CANCH_RX_OVF c) t ∧ t.cans = s.cans
            else (t.can c).tx = x.tx ∧ (t.can c).rx.length = x.rx.length + 1
              ∧ (s.tai ≤ f.ts + 250000 → (t.can c).rx = x.rx ++ [⟨f.ide, f.fdf, f.brs, f.esi, f.rtr, i, f.dlc, f.id, f.ts, 0, f.data⟩]
                ∧ t.seqr.waiting = s.seqr.waiting ++ [⟨f.ts, .can c⟩])
              ∧ (f.ts + 250000 < s.tai → up Reg.ANG_SEQ_LATE t))))
  ∧ (∀ n : Fin 128, (if x.rx.length < n.val then Next (.rxAck c n) s (fun t => t.cans = s.cans
      ∧ t.getBit (Reg.HDR_ERR_STAT (Page.CANCH c)) Err.CANCH_ACK_RANGE = true)
      else Next (.rxAck c n) s (fun t => (t.can c).rx = x.rx.drop n.val
          ∧ t.get (Reg.CANCH_RX_HEAD c) = (s.get (Reg.CANCH_RX_HEAD c) + n.val) % 64)))
  ∧ (∀ k : Fin 128,
    let cfg := s.getBit (Reg.CANCH_NODE_CFG c (k / 32)) (k % 32)
    When (s.canOn c) (.heartbeatReceive c k) s (fun t => up (Reg.CANCH_RX_FRAMES c) t
        ∧ (cfg = true → t.getBit (Reg.CANCH_NODE_ALIVE c (k / 32)) (k % 32) = true))
    ∧ When (cfg) (.nodeAbsent c k) s (fun t => t.getBit (Reg.CANCH_NODE_ALIVE c (k / 32)) (k % 32) = false
        ∧ (t.can c).sdo = x.sdo.filter (fun e => e.1 != k.val))
    ∧ (let first := x.sdo.find? (fun e => e.1 == k.val)
      (∀ ok : Bool, When (s.canOn c) (.sdoResponse c k ok) s (fun t => up (Reg.CANCH_RX_FRAMES c) t
          ∧ (∀ e, first = some e → (t.can c).sdo = x.sdo.erase e ∧ (ok = true → s.scan.handed.contains e.2.1 = true → e.2.1 ∉ t.scan.outFail))))
      ∧ WhenSome first (.sdoTimeout c k) s (fun e t => (t.can c).sdo = x.sdo.erase e
          ∧ (s.scan.handed.contains e.2.1 = true → e.2.1 ∈ t.scan.outFail))))
  ∧ (∀ n : Fin 8192, let tg := s.get (Reg.PT_TARGET n)
      (s.get (Reg.PT_BIND n) ≠ 2 → Next (.sdoDownload n) s (· = s))
      ∧ (s.get (Reg.PT_BIND n) = 2 → WhenSome (s.deliveries.find? (fun e => e.1 == n.val)) (.sdoDownload n) s (fun d t =>
        t.deliveries = s.deliveries.filter (fun e => e.1 != n.val)
          ∧ (tg / 2 ^ 26 % 4 = c.val → s.nodeAbsent c (tg / 2 ^ 19 % 128) = false
              → (t.can c).sdo = x.sdo ++ [(tg / 2 ^ 19 % 128, n.val, d.2)]))))

/-! ## Keeper -/

/-- R429 to R431, R433, R435 to R441: owner, roots, credentials, rotation and attestation act for the owner alone and leave the
handles as they are where refused; the burnishing pass keeps every live value.
Where the rules leave it open, what is stated is the model's choice (log entries 2, 6, 76). -/
def Obligations.keys : Prop := ∀ (s : State) (r : Requester),
  let c := s.creds r
  let get (t : State) (h : Nat) : Option Handle := KV.get? t.handles h
  let refused (t : State) : Prop := t.resp.status = Status.E_STATE ∧ t.getBit (Reg.HDR_ERR_STAT Page.KEY) Err.KEY_KEY_REFUSED = true
      ∧ t.handles = s.handles
  let failed (t : State) : Prop := t.getBit (Reg.HDR_ERR_STAT Page.KEY) Err.KEY_MRAM_FAIL = true ∧ t.handles = s.handles
      ∧ t.handlesMram = s.handlesMram
  let full (t : State) : Prop := t.resp.status = Status.E_STATE ∧ t.getBit (Reg.HDR_ERR_STAT Page.KEY) Err.KEY_HANDLE_FULL = true
      ∧ t.handles = s.handles
  let orphans (a : Nat) (t : State) : Prop := ∀ h e, get s h = some e → h ≠ a → s.descends a 7 h = true → ∃ e', get t h = some e'
      ∧ e'.state = .orphan ∧ e'.masked = 0
  (¬ (c.tag = 0 ∧ c.may Right.EXEC = true) → ∀ (b : Bool) (h : Fin 2048) (a : CredArgs) (n : Nat) (ws : List Word),
    ∀ i ∈ [Instr.ownerTake r b, .ownerRelease r b, .tenantRoot r n b, .credCreate r a b, .rotate r h b, .destroy r h b, .attestSign r ws,
        .attestMac r n ws, .attestPub r],
      Next i s (fun t => t.resp.status = c.refusal ∧ t.handles = s.handles
          ∧ t.get Reg.PGD_REFUSE_CNT = min (2 ^ 32 - 1) (s.get Reg.PGD_REFUSE_CNT + 1)))
  ∧ (c.tag = 0 → c.may Right.EXEC = true →
    (∀ b : Bool,
      Next (.ownerTake r b) s (fun t =>
        let may : Prop := s.owned = false ∧ ∃ n e, r = .session n ∧ KV.get? s.sessions n.val = some e ∧ e.credHandle = 3
        (¬ may → refused t)
        ∧ (may → match KV.firstFree s.handles 4 1468 with
          | none => full t
          | some h => if b = false then failed t else t.get Reg.KEY_OWNER_ST = 1 ∧ t.resp.status = Status.OK
            ∧ (∃ e, get t 2 = some e ∧ e.kind = Kind.OWNER_ROOT ∧ e.state = .live)
          ∧ ∃ e, get t h = some e ∧ e.kind = Kind.CREDENTIAL ∧ e.parent = 2 ∧ e.tag = 0 ∧ e.rights = 127 ∧ t.resp.data = wordsOf e.value 12))
      ∧ (if s.owned = false ∨ c.may Right.CONFIG = false ∨ c.may Right.RESET = false
          ∨ s.flag Reg.KEY_OWNER_LOCK = true then Next (.ownerRelease r b) s (fun t => refused t)
          else if b = false then Next (.ownerRelease r b) s (fun t => failed t)
          else Next (.ownerRelease r b) s (fun t => t.get Reg.KEY_OWNER_ST = 0 ∧ t.resp.status = Status.OK ∧ get t 2 = none
              ∧ (get s 2 ≠ none → orphans 2 t)))
      ∧ (∀ tag : Nat, (if c.may Right.CONFIG = false ∨ s.flag Reg.KEY_OWNER_LOCK = true ∨ s.usable 2 = false ∨ tag = 0
          ∨ 1023 < tag then Next (.tenantRoot r tag b) s (fun t => refused t)
          else Next (.tenantRoot r tag b) s (fun t =>
              match s.handles.find? (fun e => e.2.kind == Kind.TENANT_ROOT && e.2.tag == tag && e.2.state == .live) with
          | some e => t.resp.status = Status.OK ∧ t.resp.data = [BitVec.ofNat 32 e.1] ∧ t.handles = s.handles
          | none => if b = false then failed t
            else match KV.firstFree s.handles 4 1468 with
              | none => full t
              | some h => t.resp.status = Status.OK ∧ t.resp.data = [BitVec.ofNat 32 h] ∧ ∃ e, get t h = some e ∧ e.kind = Kind.TENANT_ROOT
                  ∧ e.parent = 2 ∧ e.tag = tag)))
      ∧ (∀ a : CredArgs, Next (.credCreate r a b) s (fun t =>
        let parent := match get s a.parent with
          | some p => s.usable a.parent && (p.kind == Kind.OWNER_ROOT || p.kind == Kind.TENANT_ROOT)
          | none => false
        if c.may Right.CONFIG = false ∨ s.flag Reg.KEY_OWNER_LOCK = true ∨ parent = false ∨ a.kind < 6 ∨ 8 < a.kind
            ∨ s.handles.any (fun e => e.2.credId == a.credId && e.2.hasCredId && e.2.state == .live) = true then refused t
        else match KV.firstFree s.handles 4 1468 with
          | none => full t
          | some h => if b = false then failed t
            else t.resp.status = Status.OK ∧ ∃ e, get t h = some e ∧ e.kind = a.kind ∧ e.parent = a.parent ∧ e.rights = a.rights % 128
                ∧ e.prio = a.prio % 16
              ∧ e.credId = a.credId ∧ (∀ v, a.value = some v → e.value = v)
              ∧ t.resp.data = BitVec.ofNat 32 h :: (if a.value = none then wordsOf e.value 12 else [])))
      ∧ (∀ h : Fin 2048,
        (if s.mayRotate r h = false then Next (.rotate r h b) s (fun t => refused t)
            else if b = false then Next (.rotate r h b) s (fun t => failed t)
            else Next (.rotate r h b) s (fun t => t.resp.status = Status.OK ∧ orphans h t ∧ ∀ e, get s h = some e → ∃ e', get t h = some e'
                ∧ e'.gen = e.gen + 1 ∧ e'.kind = e.kind))
        ∧ (if s.mayRotate r h = false ∨ h.val = 2 then Next (.destroy r h b) s (fun t => refused t)
            else if b = false then Next (.destroy r h b) s (fun t => failed t)
            else Next (.destroy r h b) s (fun t => t.resp.status = Status.OK ∧ orphans h t ∧ get t h = none))))
    ∧ (∀ nonce : List Word,
      let n := if s.attSignSec.1 = s.taiSec then s.attSignSec.2 else 0
      Next (.attestSign r nonce) s (fun t => t.handles = s.handles ∧ if n < 20 ∧ s.usable 1 = true then
          t.resp.status = Status.OK ∧ t.attSignSec = (s.taiSec, n + 1)
              ∧ t.get Reg.KEY_ATT_SIGN_CNT = min (2 ^ 32 - 1) (s.get Reg.KEY_ATT_SIGN_CNT + 1)
            ∧ t.resp.data = s.statement nonce ++ wordsOf (Config.sign (s.keyValue 1) ((s.statement nonce).map (·.toNat))) 24
        else refused t))
    ∧ (∀ (id : Nat) (ch : List Word),
      let n := if s.attMacSec.1 = s.taiSec then s.attMacSec.2 else 0
      Next (.attestMac r id ch) s (fun t => t.handles = s.handles ∧
        match s.handles.find? (fun e => e.2.kind == Kind.ATTEST_MAC && e.2.credId == id && s.usable e.1) with
        | some _ => if n < s.get Reg.KEY_ATT_RATE then t.resp.status = Status.OK
            ∧ t.get Reg.KEY_ATT_MAC_CNT = min (2 ^ 32 - 1) (s.get Reg.KEY_ATT_MAC_CNT + 1) else refused t
        | none => refused t))
    ∧ Next (.attestPub r) s (fun t => t.resp.status = Status.OK ∧ t.mem = s.mem ∧ t.handles = s.handles
        ∧ t.resp.data.take 25 = wordsOf (Config.publicKey (s.keyValue 1)) 25))
  ∧ (∀ v : Bool, (if v = s.flag Reg.KEY_OWNER_LOCK then Next (.ownerLockWrite r v) s (· = s)
      else if isSession r = true ∧ c.tag = 0 ∧ c.may Right.CONFIG = true
          ∧ (if v then c.may Right.WRITE
          else c.may Right.RESET) = true then Next (.ownerLockWrite r v) s (fun t => t.flag Reg.KEY_OWNER_LOCK = v ∧ t.ownerLockMram = v
          ∧ t.getBit (Reg.HDR_IRQ_STAT Page.KEY) Irq.KEY_LOCK = true)
      else Next (.ownerLockWrite r v) s (fun t => t.flag Reg.KEY_OWNER_LOCK = s.flag Reg.KEY_OWNER_LOCK
          ∧ t.getBit (Reg.HDR_ERR_STAT Page.KEY) Err.NO_RIGHT = true)))
  ∧ (∀ h : Fin 2048, Next (.handleSelWrite h) s (fun t => t.get Reg.KEY_HANDLE_SEL = h.val ∧ t.handles = s.handles ∧ match get s h with
      | none => t.get Reg.KEY_STATE = 0 ∧ t.get Reg.KEY_KIND = 0 ∧ t.get Reg.KEY_TAG = 0 ∧ t.get Reg.KEY_RIGHTS = 0
      | some e => t.get Reg.KEY_STATE = (match e.state with | .live => 1 | .orphan => 2) ∧ t.get Reg.KEY_KIND = e.kind % 16
          ∧ t.get Reg.KEY_TAG = e.tag % 1024
        ∧ t.get Reg.KEY_RIGHTS = e.rights % 128))
  ∧ (∀ ns : Nat, Next (.burnishPass ns) s (fun t => t.get Reg.KEY_BURN_CNT = min (2 ^ 32 - 1) (s.get Reg.KEY_BURN_CNT + 1)
      ∧ min ns (2 ^ 32 - 1) ≤ t.get Reg.KEY_BURN_MAX_NS
      ∧ (∀ e ∈ t.handles, e.2.state = .live)
      ∧ ∀ h e, get s h = some e → e.state = .live → ∃ e', get t h = some e' ∧ e'.value = e.value ∧ e'.kind = e.kind ∧ e'.gen = e.gen))

/-! ## The twin -/

/-- R443 to R446, R449, R450, R455 to R457, R459: what each command of a pair does to the unit's state; all are void while EN is
clear.
Where the rules leave it open, what is stated is the model's choice (log entries 3, 36, 77). -/
def Obligations.twin_unit : Prop := ∀ s : State,
  let st := s.get Reg.TWN_STATE
  let en := s.flag Reg.TWN_EN
  let is (v : Nat) (t : State) : Prop := t.get Reg.TWN_STATE = v
  let gaveUp (cause : Nat) (t : State) : Prop := is TwinState.RESYNC t ∧ t.get Reg.TWN_GIVE_CAUSE = cause ∧ ⟨.twinGiveUp, 0, 0, [cause]⟩ ∈ t.wire
  let up (f : Fld) (t : State) : Prop := t.get f = min (2 ^ 32 - 1) (s.get f + 1)
  let void (i : Instr) : Prop := Next i s (· = s)
  let barred (t : State) : Prop := t.resp.status = Status.E_STATE ∧ t.mem = s.mem ∧ t.twin = s.twin
  (en = false → (∀ p, void (.pairingAttempt p) ∧ void (.partnerFound p)) ∧ (∀ l, void (.twinLinkTrained l))
      ∧ (∀ k, void (.twinHeartbeatReceive k))
    ∧ (∀ m, void (.resyncComplete m)) ∧ (s.inPair = false → ∀ m, void (.agreementRound m))
    ∧ ∀ i ∈ [Instr.joinTimeout, .roundLate, .giveUpReceive, .twinHeartbeat, .twinLinkLost, .resyncTimeout], void i)
  ∧ (if en = true ∧ (st = TwinState.SOLO ∨ st = TwinState.RESYNC) ∧ s.twin.paired = true
      ∧ s.flag Reg.TWN_RESYNC_BUSY = false then Next .twnCmdResync s (fun t => is TwinState.RESYNC t ∧ t.flag Reg.TWN_RESYNC_BUSY = true
      ∧ t.resp.status = Status.OK)
      else Next .twnCmdResync s (fun t => barred t))
  ∧ (if en = true ∧ st = TwinState.ACTIVE ∧ s.twin.peerState = TwinState.STANDBY then Next .twnCmdSwitch s (fun t => t.twin.switchIn = some 2 ∧ t.mem = s.mem
      ∧ t.resp.status = Status.OK)
      else Next .twnCmdSwitch s (fun t => barred t))
  ∧ (if en = true ∧ s.inPair = true then Next .twnCmdGiveUp s (fun t => gaveUp 1 t ∧ t.resp.status = Status.OK)
      else Next .twnCmdGiveUp s (fun t => barred t))
  ∧ (en = true →
    (∀ p : TwinPeer,
      Next (.pairingAttempt p) s (fun t => t.get Reg.TWN_PAIR_ERR = s.pairError p ∧ t.flag Reg.TWN_PARTNER = p.handshake ∧ is st t
        ∧ if s.pairError p = 0 then t.twin.paired = true ∧ t.getW Reg.TWN_PEER_SERIAL = p.serial % 2 ^ 64
          else t.twin.paired = false ∧ t.getBit (Reg.HDR_ERR_STAT Page.TWN) Err.TWN_PAIR_FAIL = true)
      ∧ (let first := if s.flag Reg.TWN_PREFER = p.prefer then decide (s.get Reg.SYS_SERIAL_HI * 2 ^ 32 + s.get Reg.SYS_SERIAL_LO < p.serial)
          else s.flag Reg.TWN_PREFER
        (if s.twin.starting = false ∨ p.handshake = false then Next (.partnerFound p) s (· = s)
            else if p.starting then Next (.partnerFound p) s (fun t => t.twin.starting = false
                ∧ (if first then is TwinState.ACTIVE t else is TwinState.RESYNC t ∧ t.flag Reg.TWN_RESYNC_BUSY = s.twin.paired))
            else if p.state.val ≤ 1 ∧ s.flag Reg.TWN_AUTO_RESYNC = true then Next (.partnerFound p) s (fun t => t.twin.starting = false
                ∧ is TwinState.RESYNC t ∧ t.flag Reg.TWN_RESYNC_BUSY = s.twin.paired)
            else Next (.partnerFound p) s (· = s))))
    ∧ When (s.twin.starting = true ∧ s.flag Reg.TWN_PARTNER = false) .joinTimeout s (fun t => t.twin.starting = false
        ∧ (s.get Reg.SCN_MODE ≠ ScanMode.RUN → is TwinState.SOLO t ∧ (st = TwinState.SOLO → t.mem = s.mem)))
    ∧ (∀ m : RoundIn, s.inPair = true →
      let other := if st = TwinState.ACTIVE then TwinState.STANDBY else TwinState.ACTIVE
      let role := if s.twin.gotGive = true ∧ st = TwinState.STANDBY then TwinState.ACTIVE
        else match s.twin.switchIn with | some k => if k ≤ 1 then other else st | none => st
      Next (.agreementRound m) s (fun t => t.twin.ownRan = (s.get Reg.SCN_MODE == 1) ∧
        if s.twin.ownRan = true ∧ s.get Reg.SCN_MODE ≠ 1 ∧ m.scanRun = true then gaveUp 8 t
        else if role = TwinState.ACTIVE then is TwinState.ACTIVE t
        else if s.roundDigest = m.digest then is TwinState.STANDBY t
        else gaveUp 5 t ∧ up Reg.TWN_DIVERGE_CNT t))
    ∧ (if st = TwinState.STANDBY then Next .roundLate s (fun t =>
        (if s.twin.gotGive then is st t ∧ t.twin.fresh = [] else gaveUp 6 t ∧ up Reg.TWN_ROUND_LATE t))
        else if st = TwinState.ACTIVE then Next .roundLate s (fun t => is st t ∧ up Reg.TWN_ROUND_LATE t)
        else Next .roundLate s (· = s))
    ∧ When (s.inPair) .giveUpReceive s (fun t => is st t ∧ t.twin.peerState = TwinState.RESYNC ∧ (t.twin.gotGive = true ↔ st = TwinState.STANDBY)
        ∧ t.getBit (Reg.HDR_IRQ_STAT Page.TWN) Irq.TWN_GIVE_UP = true)
    ∧ Next .twinHeartbeat s (fun t => t.mem = s.mem ∧ t.wire = ⟨.twinHeartbeat, 0, 20648, [st]⟩ :: s.wire)
    ∧ (∀ k : Fin 4, Next (.twinHeartbeatReceive k) s (fun t => t.twin.peerState = k.val ∧ t.twin.hbAt = some s.unow
        ∧ ∀ x, s.twin.lostAt = some x →
        if st = TwinState.SOLO ∧ k.val ≤ 1 ∧ s.unow < x + 30000000 then gaveUp 7 t else t.mem = s.mem))
    ∧ Next .twinLinkLost s (fun t => t.flag Reg.TWN_LANE0_UP = false ∧ t.flag Reg.TWN_LANE1_UP = false ∧ t.flag Reg.TWN_PARTNER = false
        ∧ t.twin.paired = false
        ∧ t.twin.lostAt = (if st = TwinState.STANDBY then some s.unow else none) ∧ is (if s.inPair then TwinState.SOLO else st) t)
    ∧ (∀ l : Bool, Next (.twinLinkTrained l) s (fun t => t.flag (if l then Reg.TWN_LANE1_UP else Reg.TWN_LANE0_UP) = true
        ∧ t.twin.epoch = s.twin.epoch + 1 ∧ is st t))
    ∧ (∀ m : ResyncIn, (if st = TwinState.RESYNC
        ∧ s.flag Reg.TWN_RESYNC_BUSY = true then Next (.resyncComplete m) s (fun t => t.flag Reg.TWN_RESYNC_BUSY = false ∧
          if m.checks then is (if s.twin.updated then TwinState.ACTIVE else TwinState.STANDBY) t ∧ t.get Reg.TWN_RESYNC_ERR = 0
              ∧ t.twin.pairSeq = m.pairSeq ∧ t.calls = KV.between m.parts.calls 0 4096 ∧ t.loops = KV.between m.parts.loops 0 256
              ∧ t.prioArrays = KV.between m.parts.prio 1 2048
          else is st t ∧ t.get Reg.TWN_RESYNC_ERR = 2 ∧ t.getBit (Reg.HDR_ERR_STAT Page.TWN) Err.TWN_RESYNC_FAIL = true)
        else if (st = TwinState.SOLO ∨ st = TwinState.ACTIVE) ∧ s.twin.paired = true
            ∧ m.checks = true then Next (.resyncComplete m) s (fun t => is (if m.updated then TwinState.STANDBY else TwinState.ACTIVE) t)
        else Next (.resyncComplete m) s (· = s)))
    ∧ When (st = TwinState.RESYNC ∧ s.flag Reg.TWN_RESYNC_BUSY = true) .resyncTimeout s (fun t => is st t ∧ t.flag Reg.TWN_RESYNC_BUSY = false
        ∧ t.get Reg.TWN_RESYNC_ERR = 1 ∧ t.getBit (Reg.HDR_ERR_STAT Page.TWN) Err.TWN_RESYNC_FAIL = true))

/-! ## The recorder and field update -/

/-- R462 to R471: an event waits for its sequence value and is written with it, to a slot or to the side buffer, a late one at once;
triggers, clears, FREEZE, the merge and the seconds of operation.
Where the rules leave it open, what is stated is the model's choice (log entries 5, 8, 57, 78). -/
def Obligations.event_recorder : Prop := ∀ s : State,
  let on := s.flag (Reg.HDR_FREEZE Page.EVR)
  let total (k : Nat) (t : State) : Prop := t.getW Reg.EVR_REC_TOTAL = (s.getW Reg.EVR_REC_TOTAL + k) % 2 ^ 64
  let off (t : State) : Prop := t.flag (Reg.HDR_FREEZE Page.EVR) = false ∧ t.flag Reg.EVR_MERGING = true ∧ t.frzSetter = none
  (∀ (sev : Fin 4) (page code : BitVec 8) (arg : Word) (late : Bool) (data : List Word),
    let start := match s.recOrder.getLast? with | none => 0 | some n => n + 1
    let written (r : RecordWords) (t : State) : Prop :=
        if on then (s.sideBuf.length < 64 → t.sideBuf = s.sideBuf ++ [r]) ∧ t.recOrder = s.recOrder
        else if s.flag Reg.EVR_MERGING then t.mergeWait = s.mergeWait ++ [r] ∧ t.recOrder = s.recOrder
        else if recordSev r < s.get Reg.EVR_MIN_SEV then t.recOrder = s.recOrder
            ∧ t.get Reg.EVR_DROP_MIN = min (2 ^ 32 - 1) (s.get Reg.EVR_DROP_MIN + 1)
        else ∀ i, s.freeRecordSlot start 4096 = some i → t.recOrder = s.recOrder.filter (fun x => x != i) ++ [i] ∧ t.get Reg.EVR_NEWEST_IDX = i
          ∧ t.getBit (Reg.HDR_IRQ_STAT Page.EVR) Irq.EVR_RECORD = true ∧ ∀ k < 32, t.word (0x07000000 + 128 * i + 4 * k) = r.getD k 0
    (s.sysHeld = true ∨ late = false → Next (.recordCapture sev page code arg late data) s (fun t => t.mem = s.mem ∧ t.recOrder = s.recOrder ∧
      ∃ e, t.heldEvents = s.heldEvents ++ [e] ∧ e.report.ts = s.tai
          ∧ e.words = s.recordWords sev page.toNat code.toNat arg.toNat 0 0 false false data))
    ∧ (s.sysHeld = false → late = true → Next (.recordCapture sev page code arg late data) s (fun t => total 1 t ∧ t.heldEvents = s.heldEvents ∧
      ∃ q, written (s.recordWords sev page.toNat code.toNat arg.toNat q 0 true false data) t))
    ∧ (∀ e : HeldEvent, s.sysHeld = false → s.seqr.waiting = [] → s.heldEvents = [e] → e.report.ts + 250000 ≤ s.tai → e.words.length = 32 →
      Next .sequenceAssign s (fun t => total 1 t ∧ t.heldEvents = [] ∧ written (numbered (s.getW Reg.ANG_SEQ) e.words) t)))
  ∧ (s.sysHeld = true ∨ s.trigPend = [] → Next .triggerIrq s (· = s))
  ∧ (∀ k l, s.sysHeld = false → s.trigPend = k :: l → Next .triggerIrq s (fun t => total 1 t ∧ ∃ m, t.trigPend = l ++ m))
  ∧ (∀ r : Requester, (s.creds r).tag = 0 → (s.creds r).may Right.EXEC = true →
    (∀ n : Nat, (if 16 ≤ n then Next (.trigger r n) s (fun t => t.resp.status = Status.E_OP ∧ t.mem = s.mem)
        else if s.flag (Reg.EVR_TRIG_EN n) = false then Next (.trigger r n) s (fun t => t.resp.status = Status.E_STATE ∧ t.mem = s.mem)
        else Next (.trigger r n) s (fun t => t.resp.status = Status.OK ∧ total (s.trigPend.length + 1) t)))
    ∧ (∀ level : Nat,
      let goes (i : Nat) : Bool := decide (getBits (s.word (0x07000000 + 128 * i)) 31 30 ≤ level)
      (if 3 < level then Next (.evrClear r level) s (fun t => t.resp.status = Status.E_OP ∧ t.mem = s.mem)
          else if level = 3 ∧ (s.creds r).may Right.RESET = false then Next (.evrClear r level) s (fun t => t.resp.status = Status.E_RIGHT
              ∧ t.recOrder = s.recOrder)
          else if on then Next (.evrClear r level) s (fun t => t.resp.status = Status.E_STATE ∧ t.mem = s.mem ∧ t.recOrder = s.recOrder)
          else Next (.evrClear r level) s (fun t => t.resp.status = Status.OK ∧ t.recOrder = s.recOrder.filter (fun i => !goes i)
          ∧ ∀ i ∈ s.recOrder, goes i = true → t.word (0x07000000 + 128 * i) = 0))))
  ∧ (∀ (r : Requester) (v : Bool), (if ¬ ((s.creds r).tag = 0 ∧ (s.creds r).may Right.WRITE = true) then Next (.evrFreezeWrite r v) s (fun t =>
      t.resp.status = (s.creds r).refusal ∧ t.flag (Reg.HDR_FREEZE Page.EVR) = on)
      else if v = on then Next (.evrFreezeWrite r v) s (fun t => t.resp.status = Status.OK ∧ t.mem = s.mem)
      else if v then Next (.evrFreezeWrite r v) s (fun t => t.resp.status = Status.OK ∧ t.flag (Reg.HDR_FREEZE Page.EVR) = true
          ∧ t.frzSetter = some r)
      else if s.frzSetter = some r ∨ isSession r = true then Next (.evrFreezeWrite r v) s (fun t => t.resp.status = Status.OK ∧ off t)
      else Next (.evrFreezeWrite r v) s (fun t => t.resp.status = Status.W_IGNORED ∧ t.flag (Reg.HDR_FREEZE Page.EVR) = true
          ∧ t.getBit (Reg.HDR_ERR_STAT Page.EVR) Err.NO_RIGHT = true)))
  ∧ When (on) .evrFreezeTimeout s (fun t => off t ∧ t.getBit (Reg.HDR_ERR_STAT Page.EVR) Err.FRZ_TMO = true)
  ∧ When (s.flag Reg.EVR_MERGING = true) .sideBufferMerge s (fun t => t.flag Reg.EVR_MERGING = false ∧ t.sideBuf = [] ∧ t.mergeWait = []
      ∧ t.getBit (Reg.HDR_IRQ_STAT Page.EVR) Irq.EVR_MERGED = true)
  ∧ When (¬ (s.pwr.powered = false)) .opSTick s (fun t => t.opSMram = min 0xFFFFFFFF (s.opSMram + 1)
      ∧ (if s.pwr.fullHeld then t.mem = s.mem else t.get Reg.EVR_OP_S = min 0xFFFFFFFF (s.opSMram + 1)))

/-- R475 to R483: staging, verification, activation and rollback, with the conditions that refuse them.
Where the rules leave it open, what is stated is the model's choice (log entries 6, 42, 79). -/
def Obligations.field_update : Prop := ∀ s : State,
  let st := s.get Reg.UPD_STATE
  let busy := s.flag Reg.UPD_STAGE_BUSY
  let u := s.upd
  let refused (code : Nat) (t : State) : Prop := t.get Reg.UPD_REFUSE = code ∧ t.resp.status = Status.E_STATE ∧ t.upd = u
    ∧ t.getBit (Reg.HDR_ERR_STAT Page.UPD) Err.UPD_REFUSED = true
  let ok (t : State) : Prop := t.resp.status = Status.OK
  let opErr (t : State) : Prop := t.resp.status = Status.E_OP ∧ t.mem = s.mem ∧ t.upd = u
  let waits (rollback : Bool) (t : State) : Prop := let code := s.activationBarred (s.fitsState rollback)
    if code ≠ 0 then refused code t else ok t ∧ t.upd = { u with waiting := some rollback } ∧ t.get Reg.UPD_REFUSE = 0
  (∀ r : Requester, let c := s.creds r
    (¬ (c.tag = 0 ∧ c.may Right.EXEC = true ∧ c.may Right.CONFIG = true) → ∀ (n k : Nat) (d : List Byte),
      ∀ i ∈ [Instr.stageBegin r n, .stageData r k d, .stageEnd r, .activate r, .updAbort r, .rollback r], Next i s (fun t =>
          t.resp.status = c.refusal ∧ t.upd = u))
    ∧ (c.tag = 0 → c.may Right.EXEC = true → c.may Right.CONFIG = true →
      (∀ len : Nat, (if len = 0 ∨ 536870912 < len then Next (.stageBegin r len) s (fun t => opErr t)
          else if s.updBarred ≠ 0 then Next (.stageBegin r len) s (fun t => refused s.updBarred t)
          else if busy = true ∨ st = 2 then Next (.stageBegin r len) s (fun t => refused 6 t)
          else Next (.stageBegin r len) s (fun t => ok t ∧ t.upd = { u with image := [], staged := none, prev := none, erasing := true }
              ∧ t.get Reg.UPD_STATE = 0
          ∧ t.flag Reg.UPD_STAGE_BUSY = true ∧ t.get Reg.UPD_STAGE_LEN = len ∧ t.get Reg.UPD_REFUSE = 0)))
      ∧ (∀ (ofs : Nat) (d : List Byte), (if ofs % 4 ≠ 0 ∨ s.get Reg.UPD_STAGE_LEN < ofs + d.length then Next (.stageData r ofs d) s (fun t =>
          opErr t)
          else if st ≠ 0 ∨ busy = true then Next (.stageData r ofs d) s (fun t => refused 6 t)
          else Next (.stageData r ofs d) s (fun t => ok t ∧ t.upd = { u with image := putBytes u.image ofs d }
              ∧ t.get Reg.UPD_RCVD = t.upd.image.length % 2 ^ 32)))
      ∧ (if st ≠ 0 ∨ busy = true ∨ s.get Reg.UPD_STAGE_LEN = 0 ∨ u.image.length ≠ s.get Reg.UPD_STAGE_LEN then Next (.stageEnd r) s (fun t =>
          refused 6 t)
          else Next (.stageEnd r) s (fun t => ok t ∧ t.upd = { u with verifying := true } ∧ t.flag Reg.UPD_STAGE_BUSY = true))
      ∧ (if st = 2 ∨ busy = true then Next (.updAbort r) s (fun t => refused 6 t)
          else Next (.updAbort r) s (fun t => ok t ∧ t.upd = { u with image := [], staged := none } ∧ t.get Reg.UPD_STATE = 0
              ∧ t.get Reg.UPD_STAGED_VER = 0))
      ∧ Next (.activate r) s (waits false) ∧ Next (.rollback r) s (waits true)))
  ∧ When (u.erasing) .stageEraseDone s (fun t => t.upd = { u with erasing := false } ∧ t.flag Reg.UPD_STAGE_BUSY = false
      ∧ WordsStay (· = Reg.UPD_STAGE_BUSY.addr) s t)
  ∧ (∀ tiles : BitVec 8, When (u.verifying = true) (.stageEndDone tiles) s (fun t =>
      let e := if s.verifyImage = 0 ∧ tiles.toNat ≠ 255 then 7 else s.verifyImage
      t.get Reg.UPD_VERIFY_ERR = e ∧ t.flag Reg.UPD_STAGE_BUSY = false ∧ t.upd.verifying = false ∧ t.upd.running = u.running ∧
        if e = 0 then t.get Reg.UPD_STATE = 1 ∧ t.upd.staged = some (imManifest u.image)
            ∧ t.get Reg.UPD_STAGED_VER = (imManifest u.image).version % 2 ^ 32
          ∧ (t.flag Reg.UPD_REACH_FULL = true ↔ needsFull u.running (imManifest u.image) = true)
        else t.get Reg.UPD_STATE = st ∧ t.upd.staged = u.staged ∧ t.getBit (Reg.HDR_IRQ_STAT Page.UPD) Irq.UPD_VERIFY_FAIL = true))
  ∧ (u.waiting = none → Next .activationInstant s (· = s))
  ∧ (∀ rb, u.waiting = some rb →
      When (s.activatesFull rb = false ∨ (s.meter.writing = none ∧ s.meter.cmdWait = false)) .activationInstant s (fun t =>
        t.upd.waiting = none ∧ ∀ m, s.nextManifest rb = some m →
          let s' := { s with upd := { u with waiting := none } }
          if s'.activationBarred (s'.fitsState rb) = 0 then t.upd.running = m ∧ t.upd.prev = some u.running ∧ t.upd.bank = !u.bank
          else t.upd.running = u.running ∧ t.get Reg.UPD_REFUSE = s'.activationBarred (s'.fitsState rb)))
  ∧ (let parts : List Nat := match u.staged with | some m => m.parts.map (fun p => p.2) | none => []
      When (s.flag Reg.UPD_AUTO_PAIR = true ∧ s.get Reg.TWN_STATE = TwinState.STANDBY ∧ st = 1
          ∧ parts = s.twin.peerParts) .autoPairActivate s (fun t =>
        t.resp = s.resp ∧ t.upd.waiting = if s.activationBarred (s.fitsState false) = 0 then some false else u.waiting))

/-! ## Test, temperature, error correction and calibration -/

/-- R485, R487 to R491: test buses and self-tests, temperatures, and the scrubs, which correct, mark and count what they find.
Where the rules leave it open, what is stated is the model's choice (log entries 2, 15, 16, 49, 80, 99). -/
def Obligations.tests_and_scrubs : Prop := ∀ s : State,
  let up (f : Fld) (t : State) : Prop := t.get f = min (2 ^ 32 - 1) (s.get f + 1)
  (∀ w : Word, (if s.get Reg.FIR_MODE = 4 then Next (.atbSelect w) s (fun t => t.word Reg.ATB_NODE_0.addr = s.word Reg.ATB_NODE_0.addr
      ∧ t.getBit (Reg.HDR_ERR_STAT Page.ATB) Err.NO_RIGHT = true)
      else Next (.atbSelect w) s (fun t => t.word Reg.ATB_NODE_0.addr = w &&& 0x3F3F3F3F ∧ WordsStay (· = Reg.ATB_NODE_0.addr) s t
      ∧ (getBits (s.word Reg.ATB_NODE_0.addr) 13 0 ≠ getBits (w &&& 0x3F3F3F3F) 13 0 → t.atbOut false = .opened)
      ∧ (∀ later : State, later = { t with cycles := later.cycles } → t.cycles + 1250 ≤ later.cycles →
          getBits (s.word Reg.ATB_NODE_0.addr) 13 0 ≠ getBits (w &&& 0x3F3F3F3F) 13 0 →
          later.atbOut false = (atbNode (getBits w 5 0) (getBits w 13 8)).elim .opened t.atbVolt))))
  ∧ (∀ r : Requester, (s.creds r).tag = 0 → (s.creds r).may Right.EXEC = true
      → (if s.get Reg.SCN_MODE ≠ 0 ∨ s.loopsOff = false then Next (.bistRun r) s (fun t => t.resp.status = Status.E_STATE ∧ t.mem = s.mem)
      else Next (.bistRun r) s (fun t => t.resp.status = Status.OK ∧ t.flag Reg.ATB_BIST_BUSY = true
          ∧ WordsStay (· = Reg.ATB_BIST_BUSY.addr) s t)))
  ∧ (∀ ok : Bool, When (s.flag Reg.ATB_BIST_BUSY) (.bistDone ok) s (fun t => t.flag Reg.ATB_BIST_BUSY = false
      ∧ t.getBit Reg.ATB_BIST_FAIL 7 = (!ok || s.getBit Reg.ATB_BIST_FAIL 7)))
  ∧ (∀ ppm : Nat, Next (.referenceCheck ppm) s (fun t => (t.flag Reg.MTR_CAL_BAD = true ↔ 1000 < ppm ∨ s.diag.calBad = true)
      ∧ t.getBit Reg.ATB_BIST_FAIL 5 = (decide (1000 < ppm) || s.getBit Reg.ATB_BIST_FAIL 5)))
  ∧ (∀ ts : List Int, (∀ v ∈ ts, -2 ^ 15 ≤ v ∧ v < 2 ^ 15) → Next (.tempRead ts) s (fun t =>
      (∀ k < 15, ∀ v, ts[k]? = some v → t.getS (Reg.ATB_TEMP k) = v)
      ∧ (∀ v, ts.head? = some v → t.get Reg.ATB_EXP_S = (if 850 < v then min (2 ^ 31 - 1) (s.get Reg.ATB_EXP_S + 1) else s.get Reg.ATB_EXP_S)
        ∧ t.getS Reg.ATB_PEAK = max (s.getS Reg.ATB_PEAK) v)))
  ∧ When (600 ≤ s.get Reg.ATB_EXP_S ∧ s.flag Reg.ATB_EXPOSED = false) .exposureReached s (fun t => t.flag Reg.ATB_EXPOSED = true)
  ∧ (∀ found : Option EccFind, (if s.flag Reg.ECC_SCRUB_EN = false ∨ s.getBit Reg.PWR_SHED 0 = true then Next (.scrubWord found) s (· = s)
      else Next (.scrubWord found) s (fun t => t.diag.scrubPos = (s.diag.scrubPos + 1) % dramWords ∧ match found with
        | none => t.diag.dramMarked = s.diag.dramMarked ∧ WordsStay (· = Reg.ECC_PASS_PCT.addr) s t
        | some e => up (if e.ue then Reg.ECC_UE_CNT 0 else Reg.ECC_CE_CNT 0) t
            ∧ (s.diag.scrubPos ∈ t.diag.dramMarked ↔ e.ue = true ∨ s.diag.scrubPos ∈ s.diag.dramMarked))))
  ∧ (∀ found later : List EccFind, Next (.sramScrub found later) s (fun t =>
      (∀ a ∈ s.eccMarked, a ∈ t.eccMarked) ∧ (∀ a ∈ s.eccNew, a ∈ t.eccMarked) ∧ (∀ e ∈ found, e.ue = true → e.addr ∈ t.eccMarked)
      ∧ (∀ a, a ∈ t.eccNew ↔ ∃ e ∈ later, e.ue = true ∧ e.addr = a) ∧ ∀ a, a ∈ t.eccSingle ↔ ∃ e ∈ later, e.ue = false ∧ e.addr = a))
  ∧ (∀ secs : Nat, Next (.scrubPassEnd secs) s (fun t => t.diag.scrubPos = 0 ∧ up Reg.ECC_PASS_CNT t
      ∧ t.get Reg.ECC_LAST_PASS_S = min 0xFFFFFFFF secs
      ∧ t.getBit (Reg.HDR_IRQ_STAT Page.ECC) Irq.ECC_PASS = true))
  ∧ (∀ (m : Fin 8) (grown : Nat), When (s.get Reg.ECC_CE_THRESH < grown) (.ceThreshold m grown) s (fun t =>
      ∃ e, t.heldEvents = s.heldEvents ++ [e] ∧ recordSev e.words = 1))

/-- R492, R493: the calibration image is read, staged, committed to both copies or set back to the factory's.
Where the rules leave it open, what is stated is the model's choice (log entry 16). -/
def Obligations.calibration_store : Prop := ∀ (s : State) (r : Requester),
  let c := s.creds r
  let opErr (t : State) : Prop := t.resp.status = Status.E_OP ∧ t.diag = s.diag ∧ t.mem = s.mem
  (¬ (c.tag = 0 ∧ c.may Right.EXEC = true) → ∀ (o n : Nat) (ws : List Word) (k : Word) (a b : Bool),
    ∀ i ∈ [Instr.calRead r o n, .calStage r o ws, .calCommit r k a b, .calFactory r], Next i s (fun t => t.resp.status = c.refusal
        ∧ t.diag = s.diag))
  ∧ (c.tag = 0 → c.may Right.EXEC = true →
    (∀ ofs cnt : Nat, (if ofs % 4 ≠ 0 ∨ calWords < ofs / 4 + cnt then Next (.calRead r ofs cnt) s (fun t => opErr t)
        else Next (.calRead r ofs cnt) s (fun t => t.resp.status = Status.OK
            ∧ t.resp.data = (List.range cnt).map (fun i => calWord s.diag.newest (ofs / 4 + i)) ∧ t.diag = s.diag ∧ t.mem = s.mem)))
    ∧ (∀ (ofs : Nat) (ws : List Word), (if ofs % 4 ≠ 0 ∨ calWords < ofs / 4 + ws.length then Next (.calStage r ofs ws) s (fun t => opErr t)
        else Next (.calStage r ofs ws) s (fun t => t.resp.status = Status.OK ∧ t.mem = s.mem ∧ ∀ i, calWord t.diag.calStage i =
        if ofs / 4 ≤ i ∧ i < ofs / 4 + ws.length then ws.getD (i - ofs / 4) 0 else calWord s.diag.calStage i)))
    ∧ Next (.calFactory r) s (fun t => t.resp.status = Status.OK ∧ t.diag = { s.diag with calStage := [] } ∧ t.mem = s.mem)
    ∧ (∀ (crc : Word) (okA okB : Bool), (if isSession r = false ∨ c.may Right.CONFIG = false
        ∨ c.may Right.RESET = false then Next (.calCommit r crc okA okB) s (fun t => t.resp.status = c.refusal ∧ t.diag = s.diag)
        else if s.flag Reg.KEY_OWNER_LOCK then Next (.calCommit r crc okA okB) s (fun t => t.resp.status = Status.E_STATE ∧ t.diag = s.diag
            ∧ t.mem = s.mem)
        else if s.calOk crc = false then Next (.calCommit r crc okA okB) s (fun t => t.resp.status = Status.E_STATE ∧ t.diag = s.diag
            ∧ t.getBit (Reg.HDR_ERR_STAT Page.CAL) Err.CAL_CAL_INVALID = true)
        else Next (.calCommit r crc okA okB) s (fun t => t.resp.status = Status.OK ∧ t.flag Reg.CAL_PEND = true
            ∧ t.diag.calForce = s.diag.calForce
        ∧ t.diag.calA = (if okA then s.diag.calStage else s.diag.calA) ∧ t.diag.calB = (if okB then s.diag.calStage else s.diag.calB)
        ∧ t.diag.calAOk = okA ∧ t.diag.calBOk = okB ∧ t.live Reg.CAL_CAL_GEN.addr = s.live Reg.CAL_CAL_GEN.addr
        ∧ (okA = false ∨ okB = false → t.getBit (Reg.HDR_ERR_STAT Page.CAL) Err.CAL_CAL_FAIL = true)))))

/-! ## Fire and evacuation -/

/-- R496 to R506: inputs and commands set the mode, a fire reset ends it, and the steps of endurance are applied and undone in
order; the voice-alarm watchdog.
Where the rules leave it open, what is stated is the model's choice (log entry 81). -/
def Obligations.fire_operation : Prop := ∀ s : State,
  let m := s.get Reg.FIR_MODE
  let input (i : Nat) : Bool :=
    let p := s.get (Reg.FIR_FIN_POINT i)
    s.flag (Reg.FIR_FIN_EN i) && if s.get (Reg.PT_QUAL p) % 16 ≤ 1 then decide (s.get (Reg.PT_VALUE p) % 2 = 1) != s.flag (Reg.FIR_FIN_INV i)
      else s.flag (Reg.FIR_FIN_FAILSAFE i) || s.getBit Reg.FIR_IN_ACTIVE i
  let any (f : Nat) : Bool := (List.range 16).any (fun i => s.flag (Reg.FIR_FIN_EN i) && s.get (Reg.FIR_FIN_FUNC i) == f && input i)
  let asked := if any FinFunc.ENDURE then 4 else if any FinFunc.FF_KEY && s.hosts then max s.fire.cmd 3
    else if any FinFunc.EVAC || any FinFunc.FF_KEY then max s.fire.cmd 2 else if any FinFunc.ALARM then max s.fire.cmd 1 else s.fire.cmd
  When (¬ (s.appUp = false ∨ s.flag (Reg.HDR_ENABLE Page.FIR) = false)) .fireJudgement s (fun t =>
      (∀ i < 16, t.getBit Reg.FIR_IN_ACTIVE i = input i) ∧ t.fire.cmd = 0
      ∧ (s.fire.cmd ≤ 4 → any FinFunc.PANEL_RESET = false → max m asked ≠ 3 ∨ any FinFunc.FF_KEY = true → t.get Reg.FIR_MODE = max m asked))
  ∧ (∀ (r : Requester) (key : BitVec 16), let c := s.creds r
    let ask (n : Nat) (t : State) : Prop :=
      if ¬ (c.tag = 0 ∧ c.may Right.WRITE = true ∧ c.may Right.COMMAND = true) then t.resp.status = c.refusal ∧ t.fire = s.fire
      else if key.toNat = 0xF17E then t.resp.status = Status.OK ∧ t.fire = { s.fire with cmd := max s.fire.cmd n } ∧ t.mem = s.mem
      else t.resp.status = Status.W_IGNORED ∧ t.fire = s.fire ∧ t.getBit (Reg.HDR_ERR_STAT Page.FIR) Err.KEY_ERR = true
    Next (.fireCmdAlert r key) s (ask 1) ∧ Next (.fireCmdEvacuate r key) s (ask 2) ∧ Next (.fireCmdEndurance r key) s (ask 4)
    ∧ (if ¬ (c.tag = 0 ∧ c.may Right.WRITE = true ∧ c.may Right.RESET = true) then Next (.fireReset r key) s (fun t => t.resp.status = c.refusal
        ∧ t.fire = s.fire)
        else if key.toNat ≠ 0xF17E then Next (.fireReset r key) s (fun t => t.resp.status = Status.W_IGNORED ∧ t.fire = s.fire)
        else if isSession r = false then Next (.fireReset r key) s (fun t => t.resp.status = Status.E_RIGHT ∧ t.fire = s.fire)
        else if s.mayReset = false then Next (.fireReset r key) s (fun t => t.resp.status = Status.E_STATE ∧ t.get Reg.FIR_MODE = m
            ∧ t.getBit (Reg.HDR_ERR_STAT Page.FIR) Err.FIR_RESET_REFUSED = true)
        else Next (.fireReset r key) s (fun t => t.resp.status = Status.OK ∧ t.get Reg.FIR_MODE = FireMode.NORMAL ∧ t.fire.cmd = 0
            ∧ t.fire.entered = none ∧ ∀ n < 8, t.ffPhase n = 0)))
  ∧ When ((m = FireMode.EVACUATE ∨ m = FireMode.FIREFIGHTER)
      ∧ (s.get Reg.FIR_ENDUR_TEMP : Int) * 10 ≤ s.sensor0) .enduranceTemp s (fun t => t.fire = { s.fire with cmd := FireMode.ENDURANCE }
      ∧ t.mem = s.mem)
  ∧ (∀ k : Fin 6, When (s.appUp = true ∧ m = FireMode.ENDURANCE
      ∧ s.get Reg.FIR_SHED = 2 ^ k.val - 1) (.enduranceStep k) s (fun t => t.get Reg.FIR_SHED = 2 ^ (k.val + 1) - 1
      ∧ (k.val = 0 → t.meter.on = false) ∧ (k.val = 5 → t.word Reg.ATB_NODE_0.addr = 0)
          ∧ (k.val = 4 → ∀ a < 8, ∀ n ∈ s.shedChannels a, 32 * a + n ∈ t.fireShed)))
  ∧ (s.fire.restore = false ∨ s.appUp = false → Next .fireResetRestoreStep s (· = s))
  ∧ (s.fire.restore = true → s.appUp = true →
      WhenSome ((List.range 6).filter (fun k => s.getBit Reg.FIR_SHED k)).getLast? .fireResetRestoreStep s (fun k t =>
        ∀ j < 6, t.getBit Reg.FIR_SHED j = (j != k && s.getBit Reg.FIR_SHED j)))
  ∧ When (m = FireMode.ENDURANCE) .enduranceLimit s (fun t => ∀ x, s.fire.entered = some x
      → t.get Reg.FIR_ENDUR_S = min 0xFFFFFFFF ((s.unow - x) / 1000000000).toNat)
  ∧ When (s.appUp = true ∧ s.flag Reg.FIR_VA_EN = true ∧ s.flag Reg.FIR_VA_FAULT = false
      ∧ s.vaSilent = true) .vaWatchdog s (fun t => t.flag Reg.FIR_VA_FAULT = true ∧ t.getBit (Reg.HDR_IRQ_STAT Page.FIR) Irq.FIR_VA_FAULT = true)

/-! ## The whole machine -/

/-- A step runs the command at the front of the queue on the state with the rest of the queue; every command answers a
next state; on an empty queue it is one cycle of the time base, the calendar and the tiles' timers, or of the last two alone while
the SYS domain is held (log entry 10). No word of the table spells a command. -/
def Obligations.step_runs_front : Prop := ∀ s : State,
  (∀ c rest, s.pending = c :: rest → step s = exec c { s with pending := rest })
  ∧ (∀ c, ∃ t, exec c s = .next t)
  ∧ (s.pending = [] → step s = .next s.idle ∧ (s.sysHeld = true → s.idle = s.oscillate.passTiles))
  ∧ ∀ nbits w, decodeTableWord nbits w = none ∧ s.withFetchWord nbits w = s

/-- Reset: nothing waits, the store lists nothing, so that every register reads the reset value of its table, of which some are
named (R7, R83, R89, R121, R139); every domain is held and the block has no power.
Where the rules leave it open, what is stated is the model's choice (log entries 1, 31). -/
def Obligations.reset_state : Prop :=
  Canonical State.reset ∧ State.reset.pending = [] ∧ (∀ a, State.reset.word a = resetWord a)
  ∧ State.reset.word 0 = 0x4D567256
      ∧ (List.range 5).map (fun w => State.reset.get (Reg.SYS_PAGE_PRESENT w)) = [0xFFFFDFFF, 0x00FF00FF, 0x00FFFFFF, 0xFFFFFFFF, 0xFFFFFFFF]
  ∧ State.reset.get Reg.SYS_UDP_PORT = 20646 ∧ State.reset.get Reg.TBS_OUTLIER = 10000 ∧ State.reset.flag Reg.RTC_OSF = true
  ∧ State.reset.pwr.powered = false ∧ State.reset.sysHeld = true ∧ State.reset.appUp = false ∧ State.reset.sessions = []

/-- Every step keeps the canonical form of the register store: addresses strictly rising, no word listed that has its reset
value. -/
def Obligations.store_stays_canonical : Prop := ∀ s t : State, Canonical s → step s = .next t → Canonical t

/-- Commands are served first in, first out: a step takes the front of the queue and leaves the others in their order. R509: the
commands of one tick enter it with their mode changes in order of rank, the other commands in the order of arrival (log entry 98). -/
def Obligations.queue_is_served : Prop := (∀ s t : State, step s = .next t → QueueServed s t)
  ∧ ∀ (s : State) (cs : List Instr),
    (s.arriveTick cs).pending = s.pending ++ s.arrangeTick cs ∧ (s.arrangeTick cs).Perm cs
    ∧ (s.arrangeTick cs).filter (fun c => (s.modeRank c).isNone) = cs.filter (fun c => (s.modeRank c).isNone)
    ∧ ((s.arrangeTick cs).filterMap s.modeRank).Pairwise (· ≤ ·)

/-- R134: a COMMIT while the clock is disciplined is refused, and leaves the calendar as it is. -/
def Obligations.commit_refused_while_disciplined : Prop := ∀ s : State, s.flag Reg.RTC_DISC_EN = true → s.flag Reg.TBS_VALID = true →
  Next .rtcCommit s (fun t => t.resp.status = Status.E_STATE ∧ t.getBit (Reg.HDR_ERR_STAT Page.RTC) Err.RTC_DISC_ACTIVE = true
    ∧ t.word 0x5040 = s.word 0x5040 ∧ t.word 0x5044 = s.word 0x5044 ∧ t.cal = s.cal)
end

