-- ==== Sys2Proof/Laws/Memory.lean ====
section
/-! SUPPORT. The laws of the sparse store and of bit fields: a read after a write, what a write leaves alone, and the canonical
form that every memory operation keeps. -/

namespace Sys2Proof.Machine

/-! ## Tables -/

theorem KV.get?_put_same {α : Type} (m : KV α) (a : Nat) (v : α) : KV.get? (KV.put m a v) a = some v := by
  induction m with
  | nil => simp [KV.put, KV.get?]
  | cons e t ih =>
    obtain ⟨b, w⟩ := e
    by_cases h : a < b
    · simp [KV.put, KV.get?, h]
    · by_cases h' : a = b <;> simp [KV.put, KV.get?, h, h', ih]

theorem KV.get?_put_ne {α : Type} (m : KV α) {a b : Nat} (v : α) (h : b ≠ a) : KV.get? (KV.put m a v) b = KV.get? m b := by
  induction m with
  | nil => simp [KV.put, KV.get?, h]
  | cons e t ih =>
    obtain ⟨c, w⟩ := e
    by_cases h1 : a < c
    · simp [KV.put, KV.get?, h1, h]
    · by_cases h2 : a = c
      · subst h2; simp [KV.put, KV.get?, h]
      · simp [KV.put, KV.get?, h1, h2, ih]

theorem KV.get?_put {α : Type} (m : KV α) (a b : Nat) (v : α) :
    KV.get? (KV.put m a v) b = if b = a then some v else KV.get? m b := by
  by_cases h : b = a
  · subst h; simp [KV.get?_put_same]
  · simp [h, KV.get?_put_ne]

theorem KV.get?_del_same {α : Type} (m : KV α) (a : Nat) : KV.get? (KV.del m a) a = none := by
  induction m with
  | nil => rfl
  | cons e t ih =>
    obtain ⟨b, w⟩ := e
    by_cases h : b = a
    · subst h; simpa [KV.del] using ih
    · have : a ≠ b := fun x => h x.symm
      simp only [KV.del] at ih
      simp [KV.del, h, KV.get?, this, ih]

theorem KV.get?_del_ne {α : Type} (m : KV α) {a b : Nat} (h : b ≠ a) : KV.get? (KV.del m a) b = KV.get? m b := by
  induction m with
  | nil => rfl
  | cons e t ih =>
    obtain ⟨c, w⟩ := e
    by_cases hc : c = a
    · subst hc
      have : KV.get? (KV.del ((c, w) :: t) c) b = KV.get? (KV.del t c) b := by simp [KV.del]
      rw [this, ih]; simp [KV.get?, h]
    · have e1 : KV.del ((c, w) :: t) a = (c, w) :: KV.del t a := by simp [KV.del, hc]
      rw [e1]; by_cases hb : b = c <;> simp [KV.get?, hb, ih]

theorem KV.get?_del {α : Type} (m : KV α) (a b : Nat) : KV.get? (KV.del m a) b = if b = a then none else KV.get? m b := by
  by_cases h : b = a
  · subst h; simp [KV.get?_del_same]
  · simp [h, KV.get?_del_ne]

/-! ## Keys strictly rising -/

theorem KV.sorted_iff {α : Type} (m : KV α) : KV.sorted m = true ↔ m.Pairwise (fun x y => x.1 < y.1) := by
  induction m with
  | nil => simp [KV.sorted]
  | cons e t ih =>
    obtain ⟨a, v⟩ := e
    cases t with
    | nil => simp [KV.sorted]
    | cons f t =>
      obtain ⟨b, w⟩ := f
      simp only [KV.sorted, Bool.and_eq_true, decide_eq_true_eq, ih]
      constructor
      · rintro ⟨h, p⟩
        refine List.pairwise_cons.2 ⟨?_, p⟩
        intro x hx
        rcases List.mem_cons.1 hx with rfl | hx
        · exact h
        · exact Nat.lt_trans h ((List.pairwise_cons.1 p).1 x hx)
      · intro p
        have q := List.pairwise_cons.1 p
        exact ⟨q.1 (b, w) (by simp), q.2⟩

theorem KV.mem_put {α : Type} {m : KV α} {a : Nat} {v : α} {e : Nat × α} (h : e ∈ KV.put m a v) : e = (a, v) ∨ e ∈ m := by
  induction m with
  | nil => simpa [KV.put] using h
  | cons f t ih =>
    obtain ⟨b, w⟩ := f
    by_cases h1 : a < b
    · simpa [KV.put, h1] using h
    · by_cases h2 : a = b
      · subst h2
        simp only [KV.put, Nat.lt_irrefl, if_false, if_true, List.mem_cons] at h
        rcases h with h | h
        · exact .inl h
        · exact .inr (List.mem_cons_of_mem _ h)
      · simp only [KV.put, h1, h2, if_false, List.mem_cons] at h
        rcases h with h | h
        · exact .inr (by simp [h])
        · rcases ih h with h | h
          · exact .inl h
          · exact .inr (List.mem_cons_of_mem _ h)

theorem KV.sorted_put {α : Type} {m : KV α} (a : Nat) (v : α) (h : KV.sorted m = true) : KV.sorted (KV.put m a v) = true := by
  rw [KV.sorted_iff] at h ⊢
  induction m with
  | nil => simp [KV.put]
  | cons f t ih =>
    obtain ⟨b, w⟩ := f
    have q := List.pairwise_cons.1 h
    by_cases h1 : a < b
    · simp only [KV.put, h1, if_true]
      refine List.pairwise_cons.2 ⟨?_, h⟩
      intro x hx
      rcases List.mem_cons.1 hx with rfl | hx
      · exact h1
      · exact Nat.lt_trans h1 (q.1 x hx)
    · by_cases h2 : a = b
      · subst h2
        simp only [KV.put, Nat.lt_irrefl, if_false, if_true]
        exact List.pairwise_cons.2 ⟨q.1, q.2⟩
      · simp only [KV.put, h1, h2, if_false]
        refine List.pairwise_cons.2 ⟨?_, ih q.2⟩
        intro x hx
        rcases KV.mem_put hx with rfl | hx
        · show b < a
          omega
        · exact q.1 x hx

theorem KV.sorted_filter {α : Type} {m : KV α} (p : Nat × α → Bool) (h : KV.sorted m = true) : KV.sorted (m.filter p) = true := by
  rw [KV.sorted_iff] at h ⊢
  exact h.filter _

/-! ## The register store -/

theorem Memory.readD_writeD_same (d : Nat → Word) (m : Memory) (a : Nat) (w : Word) : (Memory.writeD d m a w).readD d a = w := by
  unfold Memory.readD Memory.writeD
  split
  · simp [KV.get?_del_same, *]
  · simp [KV.get?_put_same]

theorem Memory.readD_writeD_ne (d : Nat → Word) (m : Memory) {a b : Nat} (w : Word) (h : b ≠ a) :
    (Memory.writeD d m a w).readD d b = m.readD d b := by
  unfold Memory.readD Memory.writeD
  split
  · simp [KV.get?_del_ne, h]
  · simp [KV.get?_put_ne, h]

/-- A read after a write of the same word. -/
@[simp] theorem Memory.read_write_same (m : Memory) (a : Nat) (w : Word) : (m.write a w).read a = w :=
  Memory.readD_writeD_same _ _ _ _

/-- A write leaves every other word alone. -/
theorem Memory.read_write_ne (m : Memory) {a b : Nat} (w : Word) (h : b ≠ a) : (m.write a w).read b = m.read b :=
  Memory.readD_writeD_ne _ _ _ h

theorem Memory.read_write (m : Memory) (a b : Nat) (w : Word) : (m.write a w).read b = if b = a then w else m.read b := by
  by_cases h : b = a
  · subst h; simp
  · simp [h, Memory.read_write_ne]

theorem Memory.wfD_iff (d : Nat → Word) (m : Memory) :
    m.wfD d = true ↔ KV.sorted m = true ∧ ∀ e ∈ m, e.2 ≠ d e.1 := by
  simp [Memory.wfD, List.all_eq_true]

theorem Memory.wfD_writeD {d : Nat → Word} {m : Memory} (a : Nat) (w : Word) (h : m.wfD d = true) : (Memory.writeD d m a w).wfD d = true := by
  rw [Memory.wfD_iff] at h ⊢
  unfold Memory.writeD
  split
  · exact ⟨KV.sorted_filter _ h.1, fun e he => h.2 e (List.mem_filter.1 he).1⟩
  · refine ⟨KV.sorted_put _ _ h.1, fun e he => ?_⟩
    rcases KV.mem_put he with rfl | he
    · assumption
    · exact h.2 e he

/-- A write keeps the canonical form. -/
theorem Memory.wf_write {m : Memory} (a : Nat) (w : Word) (h : m.wf = true) : (m.write a w).wf = true :=
  Memory.wfD_writeD a w h

/-- Dropping words keeps the canonical form. -/
theorem Memory.wf_filter {m : Memory} (p : Nat × Word → Bool) (h : m.wf = true) : Memory.wf (m.filter p) = true := by
  unfold Memory.wf at h ⊢
  rw [Memory.wfD_iff] at h ⊢
  exact ⟨KV.sorted_filter _ h.1, fun e he => h.2 e (List.mem_filter.1 he).1⟩

/-- Changing every word keeps the canonical form. -/
theorem Memory.wf_mapD {m : Memory} (g : Nat → Word → Word) (h : m.wf = true) : (m.mapD resetWord g).wf = true := by
  unfold Memory.wf at h ⊢
  rw [Memory.wfD_iff] at h ⊢
  refine ⟨?_, fun e he => ?_⟩
  · refine KV.sorted_filter _ ?_
    have hs := (KV.sorted_iff _).1 h.1
    rw [KV.sorted_iff]
    exact List.Pairwise.map _ (fun _ _ x => x) hs
  · have := (List.mem_filter.1 he).2
    simpa using this

/-- The empty store is canonical. -/
@[simp] theorem Memory.wf_nil : Memory.wf [] = true := rfl

end Sys2Proof.Machine
end

