-- ==== Sys2Proof/Laws/Fields.lean ====
section
/-! SUPPORT. Reading a field after a write of a field: the same field, another field of the word, another word. -/

namespace Sys2Proof.Machine

theorem testBit_getBits (w : Word) (hi lo i : Nat) :
    (getBits w hi lo).testBit i = (decide (i < hi + 1 - lo) && w.getLsbD (lo + i)) := by
  simp [getBits, Nat.testBit_mod_two_pow, BitVec.getLsbD]

theorem getLsbD_maskBits (hi lo i : Nat) (h : hi < 32) :
    (maskBits hi lo).getLsbD i = (decide (lo ≤ i) && decide (i ≤ hi)) := by
  simp only [maskBits, BitVec.getLsbD_shiftLeft, BitVec.getLsbD_ofNat, Nat.testBit_two_pow_sub_one]
  by_cases h1 : lo ≤ i <;> by_cases h2 : i ≤ hi <;> simp [h1, h2] <;> omega

theorem getLsbD_setBits (w : Word) (hi lo v i : Nat) (h : hi < 32) :
    (setBits w hi lo v).getLsbD i = if lo ≤ i ∧ i ≤ hi then v.testBit (i - lo) else w.getLsbD i := by
  by_cases h32 : i < 32
  · simp only [setBits, BitVec.getLsbD_or, BitVec.getLsbD_and, BitVec.getLsbD_not, getLsbD_maskBits _ _ _ h,
      BitVec.getLsbD_shiftLeft, BitVec.getLsbD_ofNat]
    by_cases h1 : lo ≤ i <;> by_cases h2 : i ≤ hi <;> simp [h1, h2, h32]
    simp [Nat.not_lt.2 h1, show i - lo < 32 by omega]
  · have e1 : (setBits w hi lo v).getLsbD i = false := BitVec.getLsbD_of_ge _ _ (by omega)
    have e2 : w.getLsbD i = false := BitVec.getLsbD_of_ge _ _ (by omega)
    rw [e1, e2, if_neg (by omega)]

/-- A field of a word after the same field has been replaced. -/
theorem getBits_setBits_same (w : Word) (hi lo v : Nat) (h : hi < 32) : getBits (setBits w hi lo v) hi lo = v % 2 ^ (hi + 1 - lo) := by
  apply Nat.eq_of_testBit_eq
  intro i
  rw [testBit_getBits, getLsbD_setBits _ _ _ _ _ h, Nat.testBit_mod_two_pow]
  by_cases hi' : i < hi + 1 - lo
  · rw [if_pos (by omega)]; simp [hi']
  · simp [hi']

/-- A field of a word after a field above or below it has been replaced. -/
theorem getBits_setBits_other (w : Word) (hi lo hi' lo' v : Nat) (h : hi < 32) (hd : hi < lo' ∨ hi' < lo) :
    getBits (setBits w hi lo v) hi' lo' = getBits w hi' lo' := by
  apply Nat.eq_of_testBit_eq
  intro i
  rw [testBit_getBits, testBit_getBits]
  by_cases hi1 : i < hi' + 1 - lo'
  · rw [getLsbD_setBits _ _ _ _ _ h, if_neg (by omega)]
  · simp [hi1]

/-- A field's value fits its width. -/
theorem getBits_lt (w : Word) (hi lo : Nat) : getBits w hi lo < 2 ^ (hi + 1 - lo) := Nat.mod_lt _ (Nat.pow_pos (by decide))

/-! ## The state's fields -/

/-- A field after a write of it. -/
theorem State.get_set_same (s : State) (f : Fld) (v : Nat) (h : f.hi < 32) : (s.set f v).get f = v % 2 ^ (f.hi + 1 - f.lo) := by
  simp [State.get, State.set, getBits_setBits_same _ _ _ _ h]

/-- A field of another word after a write. -/
theorem State.get_set_addr (s : State) (f g : Fld) (v : Nat) (h : g.addr ≠ f.addr) : (s.set f v).get g = s.get g := by
  simp [State.get, State.set, Memory.read_write_ne _ _ h]

/-- Another field after a write, of the same word or not. -/
theorem State.get_set_other (s : State) (f g : Fld) (v : Nat) (h : f.hi < 32) (hd : g.addr ≠ f.addr ∨ f.hi < g.lo ∨ g.hi < f.lo) :
    (s.set f v).get g = s.get g := by
  by_cases ha : g.addr = f.addr
  · simp only [State.get, State.set, ha, Memory.read_write_same]
    rw [getBits_setBits_other _ _ _ _ _ _ h (by omega)]
  · exact State.get_set_addr _ _ _ _ ha

/-- A word after a write of a field. -/
theorem State.word_set (s : State) (f : Fld) (v a : Nat) :
    (s.set f v).word a = if a = f.addr then setBits (s.word f.addr) f.hi f.lo v else s.word a := by
  simp [State.word, State.set, Memory.read_write]

/-- A word after a write of a word. -/
theorem State.word_setWord (s : State) (b : Nat) (w : Word) (a : Nat) : (s.setWord b w).word a = if a = b then w else s.word a := by
  simp [State.word, State.setWord, Memory.read_write]

/-- A write of a field leaves every other word alone. -/
theorem State.word_set_ne (s : State) (f : Fld) (v : Nat) {a : Nat} (h : a ≠ f.addr) : (s.set f v).word a = s.word a := by
  simp [State.word_set, h]

/-- A field is read from its word. -/
theorem State.get_eq (s : State) (f : Fld) : s.get f = getBits (s.word f.addr) f.hi f.lo := rfl

theorem State.get_lt (s : State) (f : Fld) : s.get f < 2 ^ (f.hi + 1 - f.lo) := getBits_lt _ _ _

/-- A one-bit field after it has been set from a Boolean. -/
theorem State.flag_setFlag_same (s : State) (f : Fld) (b : Bool) (h : f.hi < 32) (h1 : f.lo = f.hi) : (s.setFlag f b).flag f = b := by
  unfold State.flag State.setFlag
  rw [State.get_set_same _ _ _ h, h1]
  cases b <;> simp [b2n]

/-! ## The canonical form -/

theorem State.wf_set {s : State} (f : Fld) (v : Nat) (h : s.mem.wf = true) : (s.set f v).mem.wf = true := Memory.wf_write _ _ h

theorem State.wf_setWord {s : State} (a : Nat) (w : Word) (h : s.mem.wf = true) : (s.setWord a w).mem.wf = true := Memory.wf_write _ _ h

end Sys2Proof.Machine
end

