-- ==== Sys2Proof/Laws/Ops.lean ====
section
/-! SUPPORT. What the shared operations can do, said once: which words and which fields of the state each may change, what it
leaves in the word it is for, and that it keeps the canonical form of the register store. -/

namespace Sys2Proof.Machine

/-! ## Wide registers and runs of words -/

theorem State.word_setWords (s : State) (a : Nat) (ws : List Word) (b : Nat) :
    (s.setWords a ws).word b = if a ≤ b ∧ b < a + 4 * ws.length ∧ (b - a) % 4 = 0 then ws.getD ((b - a) / 4) 0 else s.word b := by
  induction ws generalizing s a with
  | nil => simp [State.setWords]; omega
  | cons w t ih =>
    simp only [State.setWords, ih, State.word_setWord, List.length_cons]
    by_cases h : b = a
    · subst h
      rw [if_neg (by omega), if_pos rfl, if_pos (by omega), Nat.sub_self]; rfl
    · by_cases h2 : a ≤ b ∧ b < a + 4 * (t.length + 1) ∧ (b - a) % 4 = 0
      · obtain ⟨k, hk⟩ : ∃ k, b = a + 4 + 4 * k := ⟨(b - a) / 4 - 1, by omega⟩
        have e1 : (b - a) / 4 = k + 1 := by omega
        have e2 : (b - (a + 4)) / 4 = k := by omega
        rw [if_pos (by omega), if_pos h2, e1, e2, List.getD_cons_succ]
      · rw [if_neg (by omega), if_neg h, if_neg h2]

theorem State.wf_setWords {s : State} (a : Nat) (ws : List Word) (h : s.mem.wf = true) : (s.setWords a ws).mem.wf = true := by
  induction ws generalizing s a with
  | nil => exact h
  | cons w t ih => exact ih _ (State.wf_setWord _ _ h)

theorem State.wf_setWideFrom {s : State} (a v n : Nat) (h : s.mem.wf = true) : (s.setWideFrom a v n).mem.wf = true := by
  induction n generalizing s a v with
  | zero => exact h
  | succ n ih => exact ih _ _ (State.wf_setWord _ _ h)

theorem State.wf_setW {s : State} (w : Wide) (v : Nat) (h : s.mem.wf = true) : (s.setW w v).mem.wf = true := State.wf_setWideFrom _ _ _ h

/-- A write of a wide value leaves the words outside it alone. -/
theorem State.word_setWideFrom_ne (s : State) (a v n : Nat) {b : Nat} (h : ∀ k < n, b ≠ a + 4 * k) : (s.setWideFrom a v n).word b = s.word b := by
  induction n generalizing s a v with
  | zero => rfl
  | succ n ih =>
    rw [State.setWideFrom, ih, State.word_setWord, if_neg]
    · simpa using h 0 (by omega)
    · intro k hk e
      exact h (k + 1) (by omega) (by omega)

theorem State.wf_bump {s : State} (f : Fld) (h : s.mem.wf = true) : (s.bump f).mem.wf = true := State.wf_set _ _ h

theorem State.wf_bumpBy {s : State} (f : Fld) (n : Nat) (h : s.mem.wf = true) : (s.bumpBy f n).mem.wf = true := State.wf_set _ _ h

theorem State.wf_raiseTo {s : State} (f : Fld) (v : Nat) (h : s.mem.wf = true) : (s.raiseTo f v).mem.wf = true := by
  grind [State.raiseTo, State.wf_set]

/-- A counter after it has counted up. -/
theorem State.get_bump (s : State) (f : Fld) (h : f.hi < 32) : (s.bump f).get f = min (2 ^ (f.hi + 1 - f.lo) - 1) (s.get f + 1) := by
  have hp : 0 < 2 ^ (f.hi + 1 - f.lo) := Nat.two_pow_pos _
  rw [State.bump, State.get_set_same _ _ _ h, satTo]
  split <;> rw [Nat.mod_eq_of_lt] <;> omega

/-- The greatest value seen, after another. -/
theorem State.le_get_raiseTo (s : State) (f : Fld) (v : Nat) (h : f.hi < 32) : min v (2 ^ (f.hi + 1 - f.lo) - 1) ≤ (s.raiseTo f v).get f := by
  have hp : 0 < 2 ^ (f.hi + 1 - f.lo) := Nat.two_pow_pos _
  simp only [State.raiseTo]
  split
  · rw [State.get_set_same _ _ _ h]
    simp only [satTo] at *
    split <;> rw [Nat.mod_eq_of_lt] <;> omega
  · simp only [satTo] at *
    split at * <;> omega

/-! ## Sequence values, notes, interrupts and errors -/

/-- A sequence value is the counter's, and taking one changes the store alone. -/
theorem State.takeSeq_spec (s : State) : s.takeSeq.1 = s.getW Reg.ANG_SEQ ∧ ∃ m, s.takeSeq.2 = { s with mem := m } :=
  ⟨rfl, _, rfl⟩

theorem State.word_takeSeq (s : State) {a : Nat} (h : a ≠ Reg.ANG_SEQ.addr) (h2 : a ≠ Reg.ANG_SEQ.addr + 4) : s.takeSeq.2.word a = s.word a := by
  refine State.word_setWideFrom_ne s Reg.ANG_SEQ.addr _ 2 fun k hk => ?_
  rcases k with _ | _ | k
  · simpa using h
  · simpa using h2
  · omega

theorem State.wf_takeSeq {s : State} (h : s.mem.wf = true) : s.takeSeq.2.mem.wf = true := State.wf_setW _ _ h

/-- Notes change the subscriptions and the sequence counter alone. -/
theorem State.notifySubs_spec (s : State) (sel : Sub → Bool) (p : Sub → List Word) : ∃ m u, s.notifySubs sel p = { s with mem := m, subs := u } := by
  unfold State.notifySubs
  split
  · exact ⟨_, _, rfl⟩
  · exact ⟨s.mem, s.subs, rfl⟩

theorem State.word_notifySubs (s : State) (sel : Sub → Bool) (p : Sub → List Word) {a : Nat} (h : a ≠ Reg.ANG_SEQ.addr) (h2 : a ≠ Reg.ANG_SEQ.addr + 4) :
    (s.notifySubs sel p).word a = s.word a := by
  rw [State.notifySubs]
  by_cases c : s.subs.any sel = true
  · rw [if_pos c]
    show s.takeSeq.2.word a = s.word a
    exact State.word_takeSeq s h h2
  · rw [if_neg c]

theorem State.wf_notifySubs {s : State} (sel : Sub → Bool) (p : Sub → List Word) (h : s.mem.wf = true) : (s.notifySubs sel p).mem.wf = true := by
  rw [State.notifySubs]
  by_cases c : s.subs.any sel = true
  · rw [if_pos c]
    show s.takeSeq.2.mem.wf = true
    exact State.wf_takeSeq h
  · rw [if_neg c]
    exact h

/-- An interrupt changes the store, the subscriptions and the triggers that wait, and nothing else. -/
theorem State.irq_spec (s : State) (p b : Nat) : ∃ m u l, s.irq p b = { s with mem := m, subs := u, trigPend := l } := by
  unfold State.irq
  split
  · exact ⟨s.mem, s.subs, s.trigPend, rfl⟩
  · obtain ⟨m, u, h⟩ := State.notifySubs_spec (s.setBit (Reg.HDR_IRQ_STAT p) b true) (fun u => u.kind == 1 && u.target == p && bitOf u.mask b)
      (fun u => [BitVec.ofNat 32 ((s.setBit (Reg.HDR_IRQ_STAT p) b true).get (Reg.HDR_IRQ_STAT p) &&& u.mask)])
    simp only [h]
    exact ⟨_, _, _, rfl⟩

/-- Of the store it changes the page's IRQ_STAT and the sequence counter. -/
theorem State.word_irq (s : State) (p b : Nat) {a : Nat} (h0 : a ≠ (Reg.HDR_IRQ_STAT p).addr) (h : a ≠ Reg.ANG_SEQ.addr) (h2 : a ≠ Reg.ANG_SEQ.addr + 4) :
    (s.irq p b).word a = s.word a := by
  unfold State.irq
  split
  · rfl
  · show ((s.setBit (Reg.HDR_IRQ_STAT p) b true).notifySubs _ _).word a = s.word a
    rw [State.word_notifySubs _ _ _ h h2]
    exact State.word_set_ne _ _ _ h0

theorem State.wf_irq {s : State} (p b : Nat) (h : s.mem.wf = true) : (s.irq p b).mem.wf = true := by
  unfold State.irq
  split
  · exact h
  · exact State.wf_notifySubs _ _ (State.wf_set _ _ h)

/-- The state of an error before its interrupt. -/
theorem State.err_eq (s : State) (p b : Nat) : s.err p b =
    let e : State := { (s.setBit (Reg.HDR_ERR_STAT p) b true).bump (Reg.HDR_ERR_CNT p) with errSet := true }
    if s.getBit (Reg.HDR_ERR_STAT p) b then e else e.irq p 31 := rfl

/-- An error changes what an interrupt changes, and says that an error bit was set. -/
theorem State.err_spec (s : State) (p b : Nat) : ∃ m u l, s.err p b = { s with mem := m, subs := u, trigPend := l, errSet := true } := by
  rw [State.err_eq]
  by_cases c : s.getBit (Reg.HDR_ERR_STAT p) b = true
  · rw [if_pos c]
    exact ⟨_, s.subs, s.trigPend, rfl⟩
  · rw [if_neg c]
    obtain ⟨m, u, l, h⟩ := State.irq_spec { (s.setBit (Reg.HDR_ERR_STAT p) b true).bump (Reg.HDR_ERR_CNT p) with errSet := true } p 31
    exact ⟨m, u, l, h⟩

theorem State.word_err (s : State) (p b : Nat) {a : Nat} (h0 : a ≠ (Reg.HDR_IRQ_STAT p).addr) (h1 : a ≠ (Reg.HDR_ERR_STAT p).addr)
    (h3 : a ≠ (Reg.HDR_ERR_CNT p).addr) (h : a ≠ Reg.ANG_SEQ.addr) (h2 : a ≠ Reg.ANG_SEQ.addr + 4) : (s.err p b).word a = s.word a := by
  have e : ((s.setBit (Reg.HDR_ERR_STAT p) b true).bump (Reg.HDR_ERR_CNT p)).word a = s.word a :=
    (State.word_set_ne _ _ _ h3).trans (State.word_set_ne _ _ _ h1)
  rw [State.err_eq]
  by_cases c : s.getBit (Reg.HDR_ERR_STAT p) b = true
  · rw [if_pos c]
    exact e
  · rw [if_neg c, State.word_irq _ _ _ h0 h h2]
    exact e

theorem State.wf_err {s : State} (p b : Nat) (h : s.mem.wf = true) : (s.err p b).mem.wf = true := by
  have e : ((s.setBit (Reg.HDR_ERR_STAT p) b true).bump (Reg.HDR_ERR_CNT p)).mem.wf = true := State.wf_bump _ (State.wf_set _ _ h)
  rw [State.err_eq]
  by_cases c : s.getBit (Reg.HDR_ERR_STAT p) b = true
  · rw [if_pos c]
    exact e
  · rw [if_neg c]
    exact State.wf_irq _ _ e

theorem State.wf_errIf {s : State} (c : Bool) (p b : Nat) (h : s.mem.wf = true) : (s.errIf c p b).mem.wf = true := by
  cases c
  · exact h
  · exact State.wf_err _ _ h

/-! ## Free values and messages -/

/-- A free value changes the counter it is drawn by alone. -/
theorem State.fresh_spec (s : State) : s.fresh = (Config.freeValue s.freeCtr, { s with freeCtr := s.freeCtr + 1 }) := rfl

/-- A quotient is the exact one rounded down or up, and exact where it is whole. -/
theorem State.quot_spec (s : State) (n : Int) (d : Nat) : ((s.quot n d).1 = n / d ∨ (s.quot n d).1 = n / d + 1) ∧ (n % d = 0 → s.quot n d = (n / d, s)) := by
  unfold State.quot
  split
  · exact ⟨.inl rfl, fun _ => rfl⟩
  · refine ⟨?_, fun h => absurd h ‹_›⟩
    show (n / (d : Int) + _ = _) ∨ (n / (d : Int) + _ = _)
    have := Nat.mod_two_eq_zero_or_one s.fresh.1
    rcases this with h | h <;> rw [h]
    · exact .inl (by simp)
    · exact .inr (by simp)

end Sys2Proof.Machine
end

