-- ==== Sys2Proof/Laws/State.lean ====
section
/-! SUPPORT. One lemma per field per update: each named update changes one field of the state, and every other field stays. -/

namespace Sys2Proof.Machine

/-! ## set: a field -/

@[simp] theorem State.set_pending (s : State) (f : Fld) (v : Nat) : (s.set f v).pending = s.pending := rfl
@[simp] theorem State.set_freeCtr (s : State) (f : Fld) (v : Nat) : (s.set f v).freeCtr = s.freeCtr := rfl
@[simp] theorem State.set_resp (s : State) (f : Fld) (v : Nat) : (s.set f v).resp = s.resp := rfl
@[simp] theorem State.set_errSet (s : State) (f : Fld) (v : Nat) : (s.set f v).errSet = s.errSet := rfl
@[simp] theorem State.set_wire (s : State) (f : Fld) (v : Nat) : (s.set f v).wire = s.wire := rfl
@[simp] theorem State.set_sysHeld (s : State) (f : Fld) (v : Nat) : (s.set f v).sysHeld = s.sysHeld := rfl
@[simp] theorem State.set_appUp (s : State) (f : Fld) (v : Nat) : (s.set f v).appUp = s.appUp := rfl
@[simp] theorem State.set_roles (s : State) (f : Fld) (v : Nat) : (s.set f v).roles = s.roles := rfl
@[simp] theorem State.set_pwr (s : State) (f : Fld) (v : Nat) : (s.set f v).pwr = s.pwr := rfl
@[simp] theorem State.set_latches (s : State) (f : Fld) (v : Nat) : (s.set f v).latches = s.latches := rfl
@[simp] theorem State.set_staged (s : State) (f : Fld) (v : Nat) : (s.set f v).staged = s.staged := rfl
@[simp] theorem State.set_frozen (s : State) (f : Fld) (v : Nat) : (s.set f v).frozen = s.frozen := rfl
@[simp] theorem State.set_eccMarked (s : State) (f : Fld) (v : Nat) : (s.set f v).eccMarked = s.eccMarked := rfl
@[simp] theorem State.set_eccSingle (s : State) (f : Fld) (v : Nat) : (s.set f v).eccSingle = s.eccSingle := rfl
@[simp] theorem State.set_eccNew (s : State) (f : Fld) (v : Nat) : (s.set f v).eccNew = s.eccNew := rfl
@[simp] theorem State.set_sessions (s : State) (f : Fld) (v : Nat) : (s.set f v).sessions = s.sessions := rfl
@[simp] theorem State.set_halfOpen (s : State) (f : Fld) (v : Nat) : (s.set f v).halfOpen = s.halfOpen := rfl
@[simp] theorem State.set_openTimes (s : State) (f : Fld) (v : Nat) : (s.set f v).openTimes = s.openTimes := rfl
@[simp] theorem State.set_nextSid (s : State) (f : Fld) (v : Nat) : (s.set f v).nextSid = s.nextSid := rfl
@[simp] theorem State.set_nextSubId (s : State) (f : Fld) (v : Nat) : (s.set f v).nextSubId = s.nextSubId := rfl
@[simp] theorem State.set_subs (s : State) (f : Fld) (v : Nat) : (s.set f v).subs = s.subs := rfl
@[simp] theorem State.set_tb (s : State) (f : Fld) (v : Nat) : (s.set f v).tb = s.tb := rfl
@[simp] theorem State.set_timeStepped (s : State) (f : Fld) (v : Nat) : (s.set f v).timeStepped = s.timeStepped := rfl
@[simp] theorem State.set_cal (s : State) (f : Fld) (v : Nat) : (s.set f v).cal = s.cal := rfl
@[simp] theorem State.set_seqr (s : State) (f : Fld) (v : Nat) : (s.set f v).seqr = s.seqr := rfl
@[simp] theorem State.set_slotCommit (s : State) (f : Fld) (v : Nat) : (s.set f v).slotCommit = s.slotCommit := rfl
@[simp] theorem State.set_doneQ (s : State) (f : Fld) (v : Nat) : (s.set f v).doneQ = s.doneQ := rfl
@[simp] theorem State.set_snapUnread (s : State) (f : Fld) (v : Nat) : (s.set f v).snapUnread = s.snapUnread := rfl
@[simp] theorem State.set_slotUnresolved (s : State) (f : Fld) (v : Nat) : (s.set f v).slotUnresolved = s.slotUnresolved := rfl
@[simp] theorem State.set_slotFired (s : State) (f : Fld) (v : Nat) : (s.set f v).slotFired = s.slotFired := rfl
@[simp] theorem State.set_slotDev (s : State) (f : Fld) (v : Nat) : (s.set f v).slotDev = s.slotDev := rfl
@[simp] theorem State.set_coilLearn (s : State) (f : Fld) (v : Nat) : (s.set f v).coilLearn = s.coilLearn := rfl
@[simp] theorem State.set_coilMram (s : State) (f : Fld) (v : Nat) : (s.set f v).coilMram = s.coilMram := rfl
@[simp] theorem State.set_coilSaveMin (s : State) (f : Fld) (v : Nat) : (s.set f v).coilSaveMin = s.coilSaveMin := rfl
@[simp] theorem State.set_pllA (s : State) (f : Fld) (v : Nat) : (s.set f v).pllA = s.pllA := rfl
@[simp] theorem State.set_pllB (s : State) (f : Fld) (v : Nat) : (s.set f v).pllB = s.pllB := rfl
@[simp] theorem State.set_tiles (s : State) (f : Fld) (v : Nat) : (s.set f v).tiles = s.tiles := rfl
@[simp] theorem State.set_appGoSafe (s : State) (f : Fld) (v : Nat) : (s.set f v).appGoSafe = s.appGoSafe := rfl
@[simp] theorem State.set_scan (s : State) (f : Fld) (v : Nat) : (s.set f v).scan = s.scan := rfl
@[simp] theorem State.set_cycles (s : State) (f : Fld) (v : Nat) : (s.set f v).cycles = s.cycles := rfl
@[simp] theorem State.set_fireShed (s : State) (f : Fld) (v : Nat) : (s.set f v).fireShed = s.fireShed := rfl
@[simp] theorem State.set_loops (s : State) (f : Fld) (v : Nat) : (s.set f v).loops = s.loops := rfl
@[simp] theorem State.set_loopTicks (s : State) (f : Fld) (v : Nat) : (s.set f v).loopTicks = s.loopTicks := rfl
@[simp] theorem State.set_loopLoad (s : State) (f : Fld) (v : Nat) : (s.set f v).loopLoad = s.loopLoad := rfl
@[simp] theorem State.set_axes (s : State) (f : Fld) (v : Nat) : (s.set f v).axes = s.axes := rfl
@[simp] theorem State.set_lines (s : State) (f : Fld) (v : Nat) : (s.set f v).lines = s.lines := rfl
@[simp] theorem State.set_grpPend (s : State) (f : Fld) (v : Nat) : (s.set f v).grpPend = s.grpPend := rfl
@[simp] theorem State.set_cars (s : State) (f : Fld) (v : Nat) : (s.set f v).cars = s.cars := rfl
@[simp] theorem State.set_calls (s : State) (f : Fld) (v : Nat) : (s.set f v).calls = s.calls := rfl
@[simp] theorem State.set_nextCall (s : State) (f : Fld) (v : Nat) : (s.set f v).nextCall = s.nextCall := rfl
@[simp] theorem State.set_saf (s : State) (f : Fld) (v : Nat) : (s.set f v).saf = s.saf := rfl
@[simp] theorem State.set_meter (s : State) (f : Fld) (v : Nat) : (s.set f v).meter = s.meter := rfl
@[simp] theorem State.set_prioArrays (s : State) (f : Fld) (v : Nat) : (s.set f v).prioArrays = s.prioArrays := rfl
@[simp] theorem State.set_refUnread (s : State) (f : Fld) (v : Nat) : (s.set f v).refUnread = s.refUnread := rfl
@[simp] theorem State.set_cfgStore (s : State) (f : Fld) (v : Nat) : (s.set f v).cfgStore = s.cfgStore := rfl
@[simp] theorem State.set_cfgPrio (s : State) (f : Fld) (v : Nat) : (s.set f v).cfgPrio = s.cfgPrio := rfl
@[simp] theorem State.set_covSubs (s : State) (f : Fld) (v : Nat) : (s.set f v).covSubs = s.covSubs := rfl
@[simp] theorem State.set_covInc (s : State) (f : Fld) (v : Nat) : (s.set f v).covInc = s.covInc := rfl
@[simp] theorem State.set_bacnetOn (s : State) (f : Fld) (v : Nat) : (s.set f v).bacnetOn = s.bacnetOn := rfl
@[simp] theorem State.set_pointWaiting (s : State) (f : Fld) (v : Nat) : (s.set f v).pointWaiting = s.pointWaiting := rfl
@[simp] theorem State.set_deliveries (s : State) (f : Fld) (v : Nat) : (s.set f v).deliveries = s.deliveries := rfl
@[simp] theorem State.set_mac (s : State) (f : Fld) (v : Nat) : (s.set f v).mac = s.mac := rfl
@[simp] theorem State.set_cans (s : State) (f : Fld) (v : Nat) : (s.set f v).cans = s.cans := rfl
@[simp] theorem State.set_handles (s : State) (f : Fld) (v : Nat) : (s.set f v).handles = s.handles := rfl
@[simp] theorem State.set_handleGens (s : State) (f : Fld) (v : Nat) : (s.set f v).handleGens = s.handleGens := rfl
@[simp] theorem State.set_handlesMram (s : State) (f : Fld) (v : Nat) : (s.set f v).handlesMram = s.handlesMram := rfl
@[simp] theorem State.set_ownerLockMram (s : State) (f : Fld) (v : Nat) : (s.set f v).ownerLockMram = s.ownerLockMram := rfl
@[simp] theorem State.set_ownedMram (s : State) (f : Fld) (v : Nat) : (s.set f v).ownedMram = s.ownedMram := rfl
@[simp] theorem State.set_attSignSec (s : State) (f : Fld) (v : Nat) : (s.set f v).attSignSec = s.attSignSec := rfl
@[simp] theorem State.set_attMacSec (s : State) (f : Fld) (v : Nat) : (s.set f v).attMacSec = s.attMacSec := rfl
@[simp] theorem State.set_twin (s : State) (f : Fld) (v : Nat) : (s.set f v).twin = s.twin := rfl
@[simp] theorem State.set_twinActiveS1 (s : State) (f : Fld) (v : Nat) : (s.set f v).twinActiveS1 = s.twinActiveS1 := rfl
@[simp] theorem State.set_twinActiveS2 (s : State) (f : Fld) (v : Nat) : (s.set f v).twinActiveS2 = s.twinActiveS2 := rfl
@[simp] theorem State.set_sideBuf (s : State) (f : Fld) (v : Nat) : (s.set f v).sideBuf = s.sideBuf := rfl
@[simp] theorem State.set_mergeWait (s : State) (f : Fld) (v : Nat) : (s.set f v).mergeWait = s.mergeWait := rfl
@[simp] theorem State.set_frzSetter (s : State) (f : Fld) (v : Nat) : (s.set f v).frzSetter = s.frzSetter := rfl
@[simp] theorem State.set_trigPend (s : State) (f : Fld) (v : Nat) : (s.set f v).trigPend = s.trigPend := rfl
@[simp] theorem State.set_recOrder (s : State) (f : Fld) (v : Nat) : (s.set f v).recOrder = s.recOrder := rfl
@[simp] theorem State.set_recTotalMram (s : State) (f : Fld) (v : Nat) : (s.set f v).recTotalMram = s.recTotalMram := rfl
@[simp] theorem State.set_opSMram (s : State) (f : Fld) (v : Nat) : (s.set f v).opSMram = s.opSMram := rfl
@[simp] theorem State.set_heldEvents (s : State) (f : Fld) (v : Nat) : (s.set f v).heldEvents = s.heldEvents := rfl
@[simp] theorem State.set_upd (s : State) (f : Fld) (v : Nat) : (s.set f v).upd = s.upd := rfl
@[simp] theorem State.set_diag (s : State) (f : Fld) (v : Nat) : (s.set f v).diag = s.diag := rfl
@[simp] theorem State.set_fire (s : State) (f : Fld) (v : Nat) : (s.set f v).fire = s.fire := rfl

/-! ## setWord: a word -/

@[simp] theorem State.setWord_pending (s : State) (a : Nat) (w : Word) : (s.setWord a w).pending = s.pending := rfl
@[simp] theorem State.setWord_freeCtr (s : State) (a : Nat) (w : Word) : (s.setWord a w).freeCtr = s.freeCtr := rfl
@[simp] theorem State.setWord_resp (s : State) (a : Nat) (w : Word) : (s.setWord a w).resp = s.resp := rfl
@[simp] theorem State.setWord_errSet (s : State) (a : Nat) (w : Word) : (s.setWord a w).errSet = s.errSet := rfl
@[simp] theorem State.setWord_wire (s : State) (a : Nat) (w : Word) : (s.setWord a w).wire = s.wire := rfl
@[simp] theorem State.setWord_sysHeld (s : State) (a : Nat) (w : Word) : (s.setWord a w).sysHeld = s.sysHeld := rfl
@[simp] theorem State.setWord_appUp (s : State) (a : Nat) (w : Word) : (s.setWord a w).appUp = s.appUp := rfl
@[simp] theorem State.setWord_roles (s : State) (a : Nat) (w : Word) : (s.setWord a w).roles = s.roles := rfl
@[simp] theorem State.setWord_pwr (s : State) (a : Nat) (w : Word) : (s.setWord a w).pwr = s.pwr := rfl
@[simp] theorem State.setWord_latches (s : State) (a : Nat) (w : Word) : (s.setWord a w).latches = s.latches := rfl
@[simp] theorem State.setWord_staged (s : State) (a : Nat) (w : Word) : (s.setWord a w).staged = s.staged := rfl
@[simp] theorem State.setWord_frozen (s : State) (a : Nat) (w : Word) : (s.setWord a w).frozen = s.frozen := rfl
@[simp] theorem State.setWord_eccMarked (s : State) (a : Nat) (w : Word) : (s.setWord a w).eccMarked = s.eccMarked := rfl
@[simp] theorem State.setWord_eccSingle (s : State) (a : Nat) (w : Word) : (s.setWord a w).eccSingle = s.eccSingle := rfl
@[simp] theorem State.setWord_eccNew (s : State) (a : Nat) (w : Word) : (s.setWord a w).eccNew = s.eccNew := rfl
@[simp] theorem State.setWord_sessions (s : State) (a : Nat) (w : Word) : (s.setWord a w).sessions = s.sessions := rfl
@[simp] theorem State.setWord_halfOpen (s : State) (a : Nat) (w : Word) : (s.setWord a w).halfOpen = s.halfOpen := rfl
@[simp] theorem State.setWord_openTimes (s : State) (a : Nat) (w : Word) : (s.setWord a w).openTimes = s.openTimes := rfl
@[simp] theorem State.setWord_nextSid (s : State) (a : Nat) (w : Word) : (s.setWord a w).nextSid = s.nextSid := rfl
@[simp] theorem State.setWord_nextSubId (s : State) (a : Nat) (w : Word) : (s.setWord a w).nextSubId = s.nextSubId := rfl
@[simp] theorem State.setWord_subs (s : State) (a : Nat) (w : Word) : (s.setWord a w).subs = s.subs := rfl
@[simp] theorem State.setWord_tb (s : State) (a : Nat) (w : Word) : (s.setWord a w).tb = s.tb := rfl
@[simp] theorem State.setWord_timeStepped (s : State) (a : Nat) (w : Word) : (s.setWord a w).timeStepped = s.timeStepped := rfl
@[simp] theorem State.setWord_cal (s : State) (a : Nat) (w : Word) : (s.setWord a w).cal = s.cal := rfl
@[simp] theorem State.setWord_seqr (s : State) (a : Nat) (w : Word) : (s.setWord a w).seqr = s.seqr := rfl
@[simp] theorem State.setWord_slotCommit (s : State) (a : Nat) (w : Word) : (s.setWord a w).slotCommit = s.slotCommit := rfl
@[simp] theorem State.setWord_doneQ (s : State) (a : Nat) (w : Word) : (s.setWord a w).doneQ = s.doneQ := rfl
@[simp] theorem State.setWord_snapUnread (s : State) (a : Nat) (w : Word) : (s.setWord a w).snapUnread = s.snapUnread := rfl
@[simp] theorem State.setWord_slotUnresolved (s : State) (a : Nat) (w : Word) : (s.setWord a w).slotUnresolved = s.slotUnresolved := rfl
@[simp] theorem State.setWord_slotFired (s : State) (a : Nat) (w : Word) : (s.setWord a w).slotFired = s.slotFired := rfl
@[simp] theorem State.setWord_slotDev (s : State) (a : Nat) (w : Word) : (s.setWord a w).slotDev = s.slotDev := rfl
@[simp] theorem State.setWord_coilLearn (s : State) (a : Nat) (w : Word) : (s.setWord a w).coilLearn = s.coilLearn := rfl
@[simp] theorem State.setWord_coilMram (s : State) (a : Nat) (w : Word) : (s.setWord a w).coilMram = s.coilMram := rfl
@[simp] theorem State.setWord_coilSaveMin (s : State) (a : Nat) (w : Word) : (s.setWord a w).coilSaveMin = s.coilSaveMin := rfl
@[simp] theorem State.setWord_pllA (s : State) (a : Nat) (w : Word) : (s.setWord a w).pllA = s.pllA := rfl
@[simp] theorem State.setWord_pllB (s : State) (a : Nat) (w : Word) : (s.setWord a w).pllB = s.pllB := rfl
@[simp] theorem State.setWord_tiles (s : State) (a : Nat) (w : Word) : (s.setWord a w).tiles = s.tiles := rfl
@[simp] theorem State.setWord_appGoSafe (s : State) (a : Nat) (w : Word) : (s.setWord a w).appGoSafe = s.appGoSafe := rfl
@[simp] theorem State.setWord_scan (s : State) (a : Nat) (w : Word) : (s.setWord a w).scan = s.scan := rfl
@[simp] theorem State.setWord_cycles (s : State) (a : Nat) (w : Word) : (s.setWord a w).cycles = s.cycles := rfl
@[simp] theorem State.setWord_fireShed (s : State) (a : Nat) (w : Word) : (s.setWord a w).fireShed = s.fireShed := rfl
@[simp] theorem State.setWord_loops (s : State) (a : Nat) (w : Word) : (s.setWord a w).loops = s.loops := rfl
@[simp] theorem State.setWord_loopTicks (s : State) (a : Nat) (w : Word) : (s.setWord a w).loopTicks = s.loopTicks := rfl
@[simp] theorem State.setWord_loopLoad (s : State) (a : Nat) (w : Word) : (s.setWord a w).loopLoad = s.loopLoad := rfl
@[simp] theorem State.setWord_axes (s : State) (a : Nat) (w : Word) : (s.setWord a w).axes = s.axes := rfl
@[simp] theorem State.setWord_lines (s : State) (a : Nat) (w : Word) : (s.setWord a w).lines = s.lines := rfl
@[simp] theorem State.setWord_grpPend (s : State) (a : Nat) (w : Word) : (s.setWord a w).grpPend = s.grpPend := rfl
@[simp] theorem State.setWord_cars (s : State) (a : Nat) (w : Word) : (s.setWord a w).cars = s.cars := rfl
@[simp] theorem State.setWord_calls (s : State) (a : Nat) (w : Word) : (s.setWord a w).calls = s.calls := rfl
@[simp] theorem State.setWord_nextCall (s : State) (a : Nat) (w : Word) : (s.setWord a w).nextCall = s.nextCall := rfl
@[simp] theorem State.setWord_saf (s : State) (a : Nat) (w : Word) : (s.setWord a w).saf = s.saf := rfl
@[simp] theorem State.setWord_meter (s : State) (a : Nat) (w : Word) : (s.setWord a w).meter = s.meter := rfl
@[simp] theorem State.setWord_prioArrays (s : State) (a : Nat) (w : Word) : (s.setWord a w).prioArrays = s.prioArrays := rfl
@[simp] theorem State.setWord_refUnread (s : State) (a : Nat) (w : Word) : (s.setWord a w).refUnread = s.refUnread := rfl
@[simp] theorem State.setWord_cfgStore (s : State) (a : Nat) (w : Word) : (s.setWord a w).cfgStore = s.cfgStore := rfl
@[simp] theorem State.setWord_cfgPrio (s : State) (a : Nat) (w : Word) : (s.setWord a w).cfgPrio = s.cfgPrio := rfl
@[simp] theorem State.setWord_covSubs (s : State) (a : Nat) (w : Word) : (s.setWord a w).covSubs = s.covSubs := rfl
@[simp] theorem State.setWord_covInc (s : State) (a : Nat) (w : Word) : (s.setWord a w).covInc = s.covInc := rfl
@[simp] theorem State.setWord_bacnetOn (s : State) (a : Nat) (w : Word) : (s.setWord a w).bacnetOn = s.bacnetOn := rfl
@[simp] theorem State.setWord_pointWaiting (s : State) (a : Nat) (w : Word) : (s.setWord a w).pointWaiting = s.pointWaiting := rfl
@[simp] theorem State.setWord_deliveries (s : State) (a : Nat) (w : Word) : (s.setWord a w).deliveries = s.deliveries := rfl
@[simp] theorem State.setWord_mac (s : State) (a : Nat) (w : Word) : (s.setWord a w).mac = s.mac := rfl
@[simp] theorem State.setWord_cans (s : State) (a : Nat) (w : Word) : (s.setWord a w).cans = s.cans := rfl
@[simp] theorem State.setWord_handles (s : State) (a : Nat) (w : Word) : (s.setWord a w).handles = s.handles := rfl
@[simp] theorem State.setWord_handleGens (s : State) (a : Nat) (w : Word) : (s.setWord a w).handleGens = s.handleGens := rfl
@[simp] theorem State.setWord_handlesMram (s : State) (a : Nat) (w : Word) : (s.setWord a w).handlesMram = s.handlesMram := rfl
@[simp] theorem State.setWord_ownerLockMram (s : State) (a : Nat) (w : Word) : (s.setWord a w).ownerLockMram = s.ownerLockMram := rfl
@[simp] theorem State.setWord_ownedMram (s : State) (a : Nat) (w : Word) : (s.setWord a w).ownedMram = s.ownedMram := rfl
@[simp] theorem State.setWord_attSignSec (s : State) (a : Nat) (w : Word) : (s.setWord a w).attSignSec = s.attSignSec := rfl
@[simp] theorem State.setWord_attMacSec (s : State) (a : Nat) (w : Word) : (s.setWord a w).attMacSec = s.attMacSec := rfl
@[simp] theorem State.setWord_twin (s : State) (a : Nat) (w : Word) : (s.setWord a w).twin = s.twin := rfl
@[simp] theorem State.setWord_twinActiveS1 (s : State) (a : Nat) (w : Word) : (s.setWord a w).twinActiveS1 = s.twinActiveS1 := rfl
@[simp] theorem State.setWord_twinActiveS2 (s : State) (a : Nat) (w : Word) : (s.setWord a w).twinActiveS2 = s.twinActiveS2 := rfl
@[simp] theorem State.setWord_sideBuf (s : State) (a : Nat) (w : Word) : (s.setWord a w).sideBuf = s.sideBuf := rfl
@[simp] theorem State.setWord_mergeWait (s : State) (a : Nat) (w : Word) : (s.setWord a w).mergeWait = s.mergeWait := rfl
@[simp] theorem State.setWord_frzSetter (s : State) (a : Nat) (w : Word) : (s.setWord a w).frzSetter = s.frzSetter := rfl
@[simp] theorem State.setWord_trigPend (s : State) (a : Nat) (w : Word) : (s.setWord a w).trigPend = s.trigPend := rfl
@[simp] theorem State.setWord_recOrder (s : State) (a : Nat) (w : Word) : (s.setWord a w).recOrder = s.recOrder := rfl
@[simp] theorem State.setWord_recTotalMram (s : State) (a : Nat) (w : Word) : (s.setWord a w).recTotalMram = s.recTotalMram := rfl
@[simp] theorem State.setWord_opSMram (s : State) (a : Nat) (w : Word) : (s.setWord a w).opSMram = s.opSMram := rfl
@[simp] theorem State.setWord_heldEvents (s : State) (a : Nat) (w : Word) : (s.setWord a w).heldEvents = s.heldEvents := rfl
@[simp] theorem State.setWord_upd (s : State) (a : Nat) (w : Word) : (s.setWord a w).upd = s.upd := rfl
@[simp] theorem State.setWord_diag (s : State) (a : Nat) (w : Word) : (s.setWord a w).diag = s.diag := rfl
@[simp] theorem State.setWord_fire (s : State) (a : Nat) (w : Word) : (s.setWord a w).fire = s.fire := rfl

/-! ## fresh: a free value drawn -/

@[simp] theorem State.fresh_pending (s : State) : (s.fresh.2).pending = s.pending := rfl
@[simp] theorem State.fresh_mem (s : State) : (s.fresh.2).mem = s.mem := rfl
@[simp] theorem State.fresh_resp (s : State) : (s.fresh.2).resp = s.resp := rfl
@[simp] theorem State.fresh_errSet (s : State) : (s.fresh.2).errSet = s.errSet := rfl
@[simp] theorem State.fresh_wire (s : State) : (s.fresh.2).wire = s.wire := rfl
@[simp] theorem State.fresh_sysHeld (s : State) : (s.fresh.2).sysHeld = s.sysHeld := rfl
@[simp] theorem State.fresh_appUp (s : State) : (s.fresh.2).appUp = s.appUp := rfl
@[simp] theorem State.fresh_roles (s : State) : (s.fresh.2).roles = s.roles := rfl
@[simp] theorem State.fresh_pwr (s : State) : (s.fresh.2).pwr = s.pwr := rfl
@[simp] theorem State.fresh_latches (s : State) : (s.fresh.2).latches = s.latches := rfl
@[simp] theorem State.fresh_staged (s : State) : (s.fresh.2).staged = s.staged := rfl
@[simp] theorem State.fresh_frozen (s : State) : (s.fresh.2).frozen = s.frozen := rfl
@[simp] theorem State.fresh_eccMarked (s : State) : (s.fresh.2).eccMarked = s.eccMarked := rfl
@[simp] theorem State.fresh_eccSingle (s : State) : (s.fresh.2).eccSingle = s.eccSingle := rfl
@[simp] theorem State.fresh_eccNew (s : State) : (s.fresh.2).eccNew = s.eccNew := rfl
@[simp] theorem State.fresh_sessions (s : State) : (s.fresh.2).sessions = s.sessions := rfl
@[simp] theorem State.fresh_halfOpen (s : State) : (s.fresh.2).halfOpen = s.halfOpen := rfl
@[simp] theorem State.fresh_openTimes (s : State) : (s.fresh.2).openTimes = s.openTimes := rfl
@[simp] theorem State.fresh_nextSid (s : State) : (s.fresh.2).nextSid = s.nextSid := rfl
@[simp] theorem State.fresh_nextSubId (s : State) : (s.fresh.2).nextSubId = s.nextSubId := rfl
@[simp] theorem State.fresh_subs (s : State) : (s.fresh.2).subs = s.subs := rfl
@[simp] theorem State.fresh_tb (s : State) : (s.fresh.2).tb = s.tb := rfl
@[simp] theorem State.fresh_timeStepped (s : State) : (s.fresh.2).timeStepped = s.timeStepped := rfl
@[simp] theorem State.fresh_cal (s : State) : (s.fresh.2).cal = s.cal := rfl
@[simp] theorem State.fresh_seqr (s : State) : (s.fresh.2).seqr = s.seqr := rfl
@[simp] theorem State.fresh_slotCommit (s : State) : (s.fresh.2).slotCommit = s.slotCommit := rfl
@[simp] theorem State.fresh_doneQ (s : State) : (s.fresh.2).doneQ = s.doneQ := rfl
@[simp] theorem State.fresh_snapUnread (s : State) : (s.fresh.2).snapUnread = s.snapUnread := rfl
@[simp] theorem State.fresh_slotUnresolved (s : State) : (s.fresh.2).slotUnresolved = s.slotUnresolved := rfl
@[simp] theorem State.fresh_slotFired (s : State) : (s.fresh.2).slotFired = s.slotFired := rfl
@[simp] theorem State.fresh_slotDev (s : State) : (s.fresh.2).slotDev = s.slotDev := rfl
@[simp] theorem State.fresh_coilLearn (s : State) : (s.fresh.2).coilLearn = s.coilLearn := rfl
@[simp] theorem State.fresh_coilMram (s : State) : (s.fresh.2).coilMram = s.coilMram := rfl
@[simp] theorem State.fresh_coilSaveMin (s : State) : (s.fresh.2).coilSaveMin = s.coilSaveMin := rfl
@[simp] theorem State.fresh_pllA (s : State) : (s.fresh.2).pllA = s.pllA := rfl
@[simp] theorem State.fresh_pllB (s : State) : (s.fresh.2).pllB = s.pllB := rfl
@[simp] theorem State.fresh_tiles (s : State) : (s.fresh.2).tiles = s.tiles := rfl
@[simp] theorem State.fresh_appGoSafe (s : State) : (s.fresh.2).appGoSafe = s.appGoSafe := rfl
@[simp] theorem State.fresh_scan (s : State) : (s.fresh.2).scan = s.scan := rfl
@[simp] theorem State.fresh_cycles (s : State) : (s.fresh.2).cycles = s.cycles := rfl
@[simp] theorem State.fresh_fireShed (s : State) : (s.fresh.2).fireShed = s.fireShed := rfl
@[simp] theorem State.fresh_loops (s : State) : (s.fresh.2).loops = s.loops := rfl
@[simp] theorem State.fresh_loopTicks (s : State) : (s.fresh.2).loopTicks = s.loopTicks := rfl
@[simp] theorem State.fresh_loopLoad (s : State) : (s.fresh.2).loopLoad = s.loopLoad := rfl
@[simp] theorem State.fresh_axes (s : State) : (s.fresh.2).axes = s.axes := rfl
@[simp] theorem State.fresh_lines (s : State) : (s.fresh.2).lines = s.lines := rfl
@[simp] theorem State.fresh_grpPend (s : State) : (s.fresh.2).grpPend = s.grpPend := rfl
@[simp] theorem State.fresh_cars (s : State) : (s.fresh.2).cars = s.cars := rfl
@[simp] theorem State.fresh_calls (s : State) : (s.fresh.2).calls = s.calls := rfl
@[simp] theorem State.fresh_nextCall (s : State) : (s.fresh.2).nextCall = s.nextCall := rfl
@[simp] theorem State.fresh_saf (s : State) : (s.fresh.2).saf = s.saf := rfl
@[simp] theorem State.fresh_meter (s : State) : (s.fresh.2).meter = s.meter := rfl
@[simp] theorem State.fresh_prioArrays (s : State) : (s.fresh.2).prioArrays = s.prioArrays := rfl
@[simp] theorem State.fresh_refUnread (s : State) : (s.fresh.2).refUnread = s.refUnread := rfl
@[simp] theorem State.fresh_cfgStore (s : State) : (s.fresh.2).cfgStore = s.cfgStore := rfl
@[simp] theorem State.fresh_cfgPrio (s : State) : (s.fresh.2).cfgPrio = s.cfgPrio := rfl
@[simp] theorem State.fresh_covSubs (s : State) : (s.fresh.2).covSubs = s.covSubs := rfl
@[simp] theorem State.fresh_covInc (s : State) : (s.fresh.2).covInc = s.covInc := rfl
@[simp] theorem State.fresh_bacnetOn (s : State) : (s.fresh.2).bacnetOn = s.bacnetOn := rfl
@[simp] theorem State.fresh_pointWaiting (s : State) : (s.fresh.2).pointWaiting = s.pointWaiting := rfl
@[simp] theorem State.fresh_deliveries (s : State) : (s.fresh.2).deliveries = s.deliveries := rfl
@[simp] theorem State.fresh_mac (s : State) : (s.fresh.2).mac = s.mac := rfl
@[simp] theorem State.fresh_cans (s : State) : (s.fresh.2).cans = s.cans := rfl
@[simp] theorem State.fresh_handles (s : State) : (s.fresh.2).handles = s.handles := rfl
@[simp] theorem State.fresh_handleGens (s : State) : (s.fresh.2).handleGens = s.handleGens := rfl
@[simp] theorem State.fresh_handlesMram (s : State) : (s.fresh.2).handlesMram = s.handlesMram := rfl
@[simp] theorem State.fresh_ownerLockMram (s : State) : (s.fresh.2).ownerLockMram = s.ownerLockMram := rfl
@[simp] theorem State.fresh_ownedMram (s : State) : (s.fresh.2).ownedMram = s.ownedMram := rfl
@[simp] theorem State.fresh_attSignSec (s : State) : (s.fresh.2).attSignSec = s.attSignSec := rfl
@[simp] theorem State.fresh_attMacSec (s : State) : (s.fresh.2).attMacSec = s.attMacSec := rfl
@[simp] theorem State.fresh_twin (s : State) : (s.fresh.2).twin = s.twin := rfl
@[simp] theorem State.fresh_twinActiveS1 (s : State) : (s.fresh.2).twinActiveS1 = s.twinActiveS1 := rfl
@[simp] theorem State.fresh_twinActiveS2 (s : State) : (s.fresh.2).twinActiveS2 = s.twinActiveS2 := rfl
@[simp] theorem State.fresh_sideBuf (s : State) : (s.fresh.2).sideBuf = s.sideBuf := rfl
@[simp] theorem State.fresh_mergeWait (s : State) : (s.fresh.2).mergeWait = s.mergeWait := rfl
@[simp] theorem State.fresh_frzSetter (s : State) : (s.fresh.2).frzSetter = s.frzSetter := rfl
@[simp] theorem State.fresh_trigPend (s : State) : (s.fresh.2).trigPend = s.trigPend := rfl
@[simp] theorem State.fresh_recOrder (s : State) : (s.fresh.2).recOrder = s.recOrder := rfl
@[simp] theorem State.fresh_recTotalMram (s : State) : (s.fresh.2).recTotalMram = s.recTotalMram := rfl
@[simp] theorem State.fresh_opSMram (s : State) : (s.fresh.2).opSMram = s.opSMram := rfl
@[simp] theorem State.fresh_heldEvents (s : State) : (s.fresh.2).heldEvents = s.heldEvents := rfl
@[simp] theorem State.fresh_upd (s : State) : (s.fresh.2).upd = s.upd := rfl
@[simp] theorem State.fresh_diag (s : State) : (s.fresh.2).diag = s.diag := rfl
@[simp] theorem State.fresh_fire (s : State) : (s.fresh.2).fire = s.fire := rfl

/-! ## send: a message sent -/

@[simp] theorem State.send_pending (s : State) (k : SentKind) (p d : Nat) (b : List Nat) : (s.send k p d b).pending = s.pending := rfl
@[simp] theorem State.send_mem (s : State) (k : SentKind) (p d : Nat) (b : List Nat) : (s.send k p d b).mem = s.mem := rfl
@[simp] theorem State.send_freeCtr (s : State) (k : SentKind) (p d : Nat) (b : List Nat) : (s.send k p d b).freeCtr = s.freeCtr := rfl
@[simp] theorem State.send_resp (s : State) (k : SentKind) (p d : Nat) (b : List Nat) : (s.send k p d b).resp = s.resp := rfl
@[simp] theorem State.send_errSet (s : State) (k : SentKind) (p d : Nat) (b : List Nat) : (s.send k p d b).errSet = s.errSet := rfl
@[simp] theorem State.send_sysHeld (s : State) (k : SentKind) (p d : Nat) (b : List Nat) : (s.send k p d b).sysHeld = s.sysHeld := rfl
@[simp] theorem State.send_appUp (s : State) (k : SentKind) (p d : Nat) (b : List Nat) : (s.send k p d b).appUp = s.appUp := rfl
@[simp] theorem State.send_roles (s : State) (k : SentKind) (p d : Nat) (b : List Nat) : (s.send k p d b).roles = s.roles := rfl
@[simp] theorem State.send_pwr (s : State) (k : SentKind) (p d : Nat) (b : List Nat) : (s.send k p d b).pwr = s.pwr := rfl
@[simp] theorem State.send_latches (s : State) (k : SentKind) (p d : Nat) (b : List Nat) : (s.send k p d b).latches = s.latches := rfl
@[simp] theorem State.send_staged (s : State) (k : SentKind) (p d : Nat) (b : List Nat) : (s.send k p d b).staged = s.staged := rfl
@[simp] theorem State.send_frozen (s : State) (k : SentKind) (p d : Nat) (b : List Nat) : (s.send k p d b).frozen = s.frozen := rfl
@[simp] theorem State.send_eccMarked (s : State) (k : SentKind) (p d : Nat) (b : List Nat) : (s.send k p d b).eccMarked = s.eccMarked := rfl
@[simp] theorem State.send_eccSingle (s : State) (k : SentKind) (p d : Nat) (b : List Nat) : (s.send k p d b).eccSingle = s.eccSingle := rfl
@[simp] theorem State.send_eccNew (s : State) (k : SentKind) (p d : Nat) (b : List Nat) : (s.send k p d b).eccNew = s.eccNew := rfl
@[simp] theorem State.send_sessions (s : State) (k : SentKind) (p d : Nat) (b : List Nat) : (s.send k p d b).sessions = s.sessions := rfl
@[simp] theorem State.send_halfOpen (s : State) (k : SentKind) (p d : Nat) (b : List Nat) : (s.send k p d b).halfOpen = s.halfOpen := rfl
@[simp] theorem State.send_openTimes (s : State) (k : SentKind) (p d : Nat) (b : List Nat) : (s.send k p d b).openTimes = s.openTimes := rfl
@[simp] theorem State.send_nextSid (s : State) (k : SentKind) (p d : Nat) (b : List Nat) : (s.send k p d b).nextSid = s.nextSid := rfl
@[simp] theorem State.send_nextSubId (s : State) (k : SentKind) (p d : Nat) (b : List Nat) : (s.send k p d b).nextSubId = s.nextSubId := rfl
@[simp] theorem State.send_subs (s : State) (k : SentKind) (p d : Nat) (b : List Nat) : (s.send k p d b).subs = s.subs := rfl
@[simp] theorem State.send_tb (s : State) (k : SentKind) (p d : Nat) (b : List Nat) : (s.send k p d b).tb = s.tb := rfl
@[simp] theorem State.send_timeStepped (s : State) (k : SentKind) (p d : Nat) (b : List Nat) : (s.send k p d b).timeStepped = s.timeStepped := rfl
@[simp] theorem State.send_cal (s : State) (k : SentKind) (p d : Nat) (b : List Nat) : (s.send k p d b).cal = s.cal := rfl
@[simp] theorem State.send_seqr (s : State) (k : SentKind) (p d : Nat) (b : List Nat) : (s.send k p d b).seqr = s.seqr := rfl
@[simp] theorem State.send_slotCommit (s : State) (k : SentKind) (p d : Nat) (b : List Nat) : (s.send k p d b).slotCommit = s.slotCommit := rfl
@[simp] theorem State.send_doneQ (s : State) (k : SentKind) (p d : Nat) (b : List Nat) : (s.send k p d b).doneQ = s.doneQ := rfl
@[simp] theorem State.send_snapUnread (s : State) (k : SentKind) (p d : Nat) (b : List Nat) : (s.send k p d b).snapUnread = s.snapUnread := rfl
@[simp] theorem State.send_slotUnresolved (s : State) (k : SentKind) (p d : Nat) (b : List Nat) : (s.send k p d b).slotUnresolved = s.slotUnresolved := rfl
@[simp] theorem State.send_slotFired (s : State) (k : SentKind) (p d : Nat) (b : List Nat) : (s.send k p d b).slotFired = s.slotFired := rfl
@[simp] theorem State.send_slotDev (s : State) (k : SentKind) (p d : Nat) (b : List Nat) : (s.send k p d b).slotDev = s.slotDev := rfl
@[simp] theorem State.send_coilLearn (s : State) (k : SentKind) (p d : Nat) (b : List Nat) : (s.send k p d b).coilLearn = s.coilLearn := rfl
@[simp] theorem State.send_coilMram (s : State) (k : SentKind) (p d : Nat) (b : List Nat) : (s.send k p d b).coilMram = s.coilMram := rfl
@[simp] theorem State.send_coilSaveMin (s : State) (k : SentKind) (p d : Nat) (b : List Nat) : (s.send k p d b).coilSaveMin = s.coilSaveMin := rfl
@[simp] theorem State.send_pllA (s : State) (k : SentKind) (p d : Nat) (b : List Nat) : (s.send k p d b).pllA = s.pllA := rfl
@[simp] theorem State.send_pllB (s : State) (k : SentKind) (p d : Nat) (b : List Nat) : (s.send k p d b).pllB = s.pllB := rfl
@[simp] theorem State.send_tiles (s : State) (k : SentKind) (p d : Nat) (b : List Nat) : (s.send k p d b).tiles = s.tiles := rfl
@[simp] theorem State.send_appGoSafe (s : State) (k : SentKind) (p d : Nat) (b : List Nat) : (s.send k p d b).appGoSafe = s.appGoSafe := rfl
@[simp] theorem State.send_scan (s : State) (k : SentKind) (p d : Nat) (b : List Nat) : (s.send k p d b).scan = s.scan := rfl
@[simp] theorem State.send_cycles (s : State) (k : SentKind) (p d : Nat) (b : List Nat) : (s.send k p d b).cycles = s.cycles := rfl
@[simp] theorem State.send_fireShed (s : State) (k : SentKind) (p d : Nat) (b : List Nat) : (s.send k p d b).fireShed = s.fireShed := rfl
@[simp] theorem State.send_loops (s : State) (k : SentKind) (p d : Nat) (b : List Nat) : (s.send k p d b).loops = s.loops := rfl
@[simp] theorem State.send_loopTicks (s : State) (k : SentKind) (p d : Nat) (b : List Nat) : (s.send k p d b).loopTicks = s.loopTicks := rfl
@[simp] theorem State.send_loopLoad (s : State) (k : SentKind) (p d : Nat) (b : List Nat) : (s.send k p d b).loopLoad = s.loopLoad := rfl
@[simp] theorem State.send_axes (s : State) (k : SentKind) (p d : Nat) (b : List Nat) : (s.send k p d b).axes = s.axes := rfl
@[simp] theorem State.send_lines (s : State) (k : SentKind) (p d : Nat) (b : List Nat) : (s.send k p d b).lines = s.lines := rfl
@[simp] theorem State.send_grpPend (s : State) (k : SentKind) (p d : Nat) (b : List Nat) : (s.send k p d b).grpPend = s.grpPend := rfl
@[simp] theorem State.send_cars (s : State) (k : SentKind) (p d : Nat) (b : List Nat) : (s.send k p d b).cars = s.cars := rfl
@[simp] theorem State.send_calls (s : State) (k : SentKind) (p d : Nat) (b : List Nat) : (s.send k p d b).calls = s.calls := rfl
@[simp] theorem State.send_nextCall (s : State) (k : SentKind) (p d : Nat) (b : List Nat) : (s.send k p d b).nextCall = s.nextCall := rfl
@[simp] theorem State.send_saf (s : State) (k : SentKind) (p d : Nat) (b : List Nat) : (s.send k p d b).saf = s.saf := rfl
@[simp] theorem State.send_meter (s : State) (k : SentKind) (p d : Nat) (b : List Nat) : (s.send k p d b).meter = s.meter := rfl
@[simp] theorem State.send_prioArrays (s : State) (k : SentKind) (p d : Nat) (b : List Nat) : (s.send k p d b).prioArrays = s.prioArrays := rfl
@[simp] theorem State.send_refUnread (s : State) (k : SentKind) (p d : Nat) (b : List Nat) : (s.send k p d b).refUnread = s.refUnread := rfl
@[simp] theorem State.send_cfgStore (s : State) (k : SentKind) (p d : Nat) (b : List Nat) : (s.send k p d b).cfgStore = s.cfgStore := rfl
@[simp] theorem State.send_cfgPrio (s : State) (k : SentKind) (p d : Nat) (b : List Nat) : (s.send k p d b).cfgPrio = s.cfgPrio := rfl
@[simp] theorem State.send_covSubs (s : State) (k : SentKind) (p d : Nat) (b : List Nat) : (s.send k p d b).covSubs = s.covSubs := rfl
@[simp] theorem State.send_covInc (s : State) (k : SentKind) (p d : Nat) (b : List Nat) : (s.send k p d b).covInc = s.covInc := rfl
@[simp] theorem State.send_bacnetOn (s : State) (k : SentKind) (p d : Nat) (b : List Nat) : (s.send k p d b).bacnetOn = s.bacnetOn := rfl
@[simp] theorem State.send_pointWaiting (s : State) (k : SentKind) (p d : Nat) (b : List Nat) : (s.send k p d b).pointWaiting = s.pointWaiting := rfl
@[simp] theorem State.send_deliveries (s : State) (k : SentKind) (p d : Nat) (b : List Nat) : (s.send k p d b).deliveries = s.deliveries := rfl
@[simp] theorem State.send_mac (s : State) (k : SentKind) (p d : Nat) (b : List Nat) : (s.send k p d b).mac = s.mac := rfl
@[simp] theorem State.send_cans (s : State) (k : SentKind) (p d : Nat) (b : List Nat) : (s.send k p d b).cans = s.cans := rfl
@[simp] theorem State.send_handles (s : State) (k : SentKind) (p d : Nat) (b : List Nat) : (s.send k p d b).handles = s.handles := rfl
@[simp] theorem State.send_handleGens (s : State) (k : SentKind) (p d : Nat) (b : List Nat) : (s.send k p d b).handleGens = s.handleGens := rfl
@[simp] theorem State.send_handlesMram (s : State) (k : SentKind) (p d : Nat) (b : List Nat) : (s.send k p d b).handlesMram = s.handlesMram := rfl
@[simp] theorem State.send_ownerLockMram (s : State) (k : SentKind) (p d : Nat) (b : List Nat) : (s.send k p d b).ownerLockMram = s.ownerLockMram := rfl
@[simp] theorem State.send_ownedMram (s : State) (k : SentKind) (p d : Nat) (b : List Nat) : (s.send k p d b).ownedMram = s.ownedMram := rfl
@[simp] theorem State.send_attSignSec (s : State) (k : SentKind) (p d : Nat) (b : List Nat) : (s.send k p d b).attSignSec = s.attSignSec := rfl
@[simp] theorem State.send_attMacSec (s : State) (k : SentKind) (p d : Nat) (b : List Nat) : (s.send k p d b).attMacSec = s.attMacSec := rfl
@[simp] theorem State.send_twin (s : State) (k : SentKind) (p d : Nat) (b : List Nat) : (s.send k p d b).twin = s.twin := rfl
@[simp] theorem State.send_twinActiveS1 (s : State) (k : SentKind) (p d : Nat) (b : List Nat) : (s.send k p d b).twinActiveS1 = s.twinActiveS1 := rfl
@[simp] theorem State.send_twinActiveS2 (s : State) (k : SentKind) (p d : Nat) (b : List Nat) : (s.send k p d b).twinActiveS2 = s.twinActiveS2 := rfl
@[simp] theorem State.send_sideBuf (s : State) (k : SentKind) (p d : Nat) (b : List Nat) : (s.send k p d b).sideBuf = s.sideBuf := rfl
@[simp] theorem State.send_mergeWait (s : State) (k : SentKind) (p d : Nat) (b : List Nat) : (s.send k p d b).mergeWait = s.mergeWait := rfl
@[simp] theorem State.send_frzSetter (s : State) (k : SentKind) (p d : Nat) (b : List Nat) : (s.send k p d b).frzSetter = s.frzSetter := rfl
@[simp] theorem State.send_trigPend (s : State) (k : SentKind) (p d : Nat) (b : List Nat) : (s.send k p d b).trigPend = s.trigPend := rfl
@[simp] theorem State.send_recOrder (s : State) (k : SentKind) (p d : Nat) (b : List Nat) : (s.send k p d b).recOrder = s.recOrder := rfl
@[simp] theorem State.send_recTotalMram (s : State) (k : SentKind) (p d : Nat) (b : List Nat) : (s.send k p d b).recTotalMram = s.recTotalMram := rfl
@[simp] theorem State.send_opSMram (s : State) (k : SentKind) (p d : Nat) (b : List Nat) : (s.send k p d b).opSMram = s.opSMram := rfl
@[simp] theorem State.send_heldEvents (s : State) (k : SentKind) (p d : Nat) (b : List Nat) : (s.send k p d b).heldEvents = s.heldEvents := rfl
@[simp] theorem State.send_upd (s : State) (k : SentKind) (p d : Nat) (b : List Nat) : (s.send k p d b).upd = s.upd := rfl
@[simp] theorem State.send_diag (s : State) (k : SentKind) (p d : Nat) (b : List Nat) : (s.send k p d b).diag = s.diag := rfl
@[simp] theorem State.send_fire (s : State) (k : SentKind) (p d : Nat) (b : List Nat) : (s.send k p d b).fire = s.fire := rfl

/-! ## answer: an answer -/

@[simp] theorem State.answer_pending (s : State) (c : Nat) (l : List Word) : (s.answer c l).pending = s.pending := rfl
@[simp] theorem State.answer_mem (s : State) (c : Nat) (l : List Word) : (s.answer c l).mem = s.mem := rfl
@[simp] theorem State.answer_freeCtr (s : State) (c : Nat) (l : List Word) : (s.answer c l).freeCtr = s.freeCtr := rfl
@[simp] theorem State.answer_errSet (s : State) (c : Nat) (l : List Word) : (s.answer c l).errSet = s.errSet := rfl
@[simp] theorem State.answer_wire (s : State) (c : Nat) (l : List Word) : (s.answer c l).wire = s.wire := rfl
@[simp] theorem State.answer_sysHeld (s : State) (c : Nat) (l : List Word) : (s.answer c l).sysHeld = s.sysHeld := rfl
@[simp] theorem State.answer_appUp (s : State) (c : Nat) (l : List Word) : (s.answer c l).appUp = s.appUp := rfl
@[simp] theorem State.answer_roles (s : State) (c : Nat) (l : List Word) : (s.answer c l).roles = s.roles := rfl
@[simp] theorem State.answer_pwr (s : State) (c : Nat) (l : List Word) : (s.answer c l).pwr = s.pwr := rfl
@[simp] theorem State.answer_latches (s : State) (c : Nat) (l : List Word) : (s.answer c l).latches = s.latches := rfl
@[simp] theorem State.answer_staged (s : State) (c : Nat) (l : List Word) : (s.answer c l).staged = s.staged := rfl
@[simp] theorem State.answer_frozen (s : State) (c : Nat) (l : List Word) : (s.answer c l).frozen = s.frozen := rfl
@[simp] theorem State.answer_eccMarked (s : State) (c : Nat) (l : List Word) : (s.answer c l).eccMarked = s.eccMarked := rfl
@[simp] theorem State.answer_eccSingle (s : State) (c : Nat) (l : List Word) : (s.answer c l).eccSingle = s.eccSingle := rfl
@[simp] theorem State.answer_eccNew (s : State) (c : Nat) (l : List Word) : (s.answer c l).eccNew = s.eccNew := rfl
@[simp] theorem State.answer_sessions (s : State) (c : Nat) (l : List Word) : (s.answer c l).sessions = s.sessions := rfl
@[simp] theorem State.answer_halfOpen (s : State) (c : Nat) (l : List Word) : (s.answer c l).halfOpen = s.halfOpen := rfl
@[simp] theorem State.answer_openTimes (s : State) (c : Nat) (l : List Word) : (s.answer c l).openTimes = s.openTimes := rfl
@[simp] theorem State.answer_nextSid (s : State) (c : Nat) (l : List Word) : (s.answer c l).nextSid = s.nextSid := rfl
@[simp] theorem State.answer_nextSubId (s : State) (c : Nat) (l : List Word) : (s.answer c l).nextSubId = s.nextSubId := rfl
@[simp] theorem State.answer_subs (s : State) (c : Nat) (l : List Word) : (s.answer c l).subs = s.subs := rfl
@[simp] theorem State.answer_tb (s : State) (c : Nat) (l : List Word) : (s.answer c l).tb = s.tb := rfl
@[simp] theorem State.answer_timeStepped (s : State) (c : Nat) (l : List Word) : (s.answer c l).timeStepped = s.timeStepped := rfl
@[simp] theorem State.answer_cal (s : State) (c : Nat) (l : List Word) : (s.answer c l).cal = s.cal := rfl
@[simp] theorem State.answer_seqr (s : State) (c : Nat) (l : List Word) : (s.answer c l).seqr = s.seqr := rfl
@[simp] theorem State.answer_slotCommit (s : State) (c : Nat) (l : List Word) : (s.answer c l).slotCommit = s.slotCommit := rfl
@[simp] theorem State.answer_doneQ (s : State) (c : Nat) (l : List Word) : (s.answer c l).doneQ = s.doneQ := rfl
@[simp] theorem State.answer_snapUnread (s : State) (c : Nat) (l : List Word) : (s.answer c l).snapUnread = s.snapUnread := rfl
@[simp] theorem State.answer_slotUnresolved (s : State) (c : Nat) (l : List Word) : (s.answer c l).slotUnresolved = s.slotUnresolved := rfl
@[simp] theorem State.answer_slotFired (s : State) (c : Nat) (l : List Word) : (s.answer c l).slotFired = s.slotFired := rfl
@[simp] theorem State.answer_slotDev (s : State) (c : Nat) (l : List Word) : (s.answer c l).slotDev = s.slotDev := rfl
@[simp] theorem State.answer_coilLearn (s : State) (c : Nat) (l : List Word) : (s.answer c l).coilLearn = s.coilLearn := rfl
@[simp] theorem State.answer_coilMram (s : State) (c : Nat) (l : List Word) : (s.answer c l).coilMram = s.coilMram := rfl
@[simp] theorem State.answer_coilSaveMin (s : State) (c : Nat) (l : List Word) : (s.answer c l).coilSaveMin = s.coilSaveMin := rfl
@[simp] theorem State.answer_pllA (s : State) (c : Nat) (l : List Word) : (s.answer c l).pllA = s.pllA := rfl
@[simp] theorem State.answer_pllB (s : State) (c : Nat) (l : List Word) : (s.answer c l).pllB = s.pllB := rfl
@[simp] theorem State.answer_tiles (s : State) (c : Nat) (l : List Word) : (s.answer c l).tiles = s.tiles := rfl
@[simp] theorem State.answer_appGoSafe (s : State) (c : Nat) (l : List Word) : (s.answer c l).appGoSafe = s.appGoSafe := rfl
@[simp] theorem State.answer_scan (s : State) (c : Nat) (l : List Word) : (s.answer c l).scan = s.scan := rfl
@[simp] theorem State.answer_cycles (s : State) (c : Nat) (l : List Word) : (s.answer c l).cycles = s.cycles := rfl
@[simp] theorem State.answer_fireShed (s : State) (c : Nat) (l : List Word) : (s.answer c l).fireShed = s.fireShed := rfl
@[simp] theorem State.answer_loops (s : State) (c : Nat) (l : List Word) : (s.answer c l).loops = s.loops := rfl
@[simp] theorem State.answer_loopTicks (s : State) (c : Nat) (l : List Word) : (s.answer c l).loopTicks = s.loopTicks := rfl
@[simp] theorem State.answer_loopLoad (s : State) (c : Nat) (l : List Word) : (s.answer c l).loopLoad = s.loopLoad := rfl
@[simp] theorem State.answer_axes (s : State) (c : Nat) (l : List Word) : (s.answer c l).axes = s.axes := rfl
@[simp] theorem State.answer_lines (s : State) (c : Nat) (l : List Word) : (s.answer c l).lines = s.lines := rfl
@[simp] theorem State.answer_grpPend (s : State) (c : Nat) (l : List Word) : (s.answer c l).grpPend = s.grpPend := rfl
@[simp] theorem State.answer_cars (s : State) (c : Nat) (l : List Word) : (s.answer c l).cars = s.cars := rfl
@[simp] theorem State.answer_calls (s : State) (c : Nat) (l : List Word) : (s.answer c l).calls = s.calls := rfl
@[simp] theorem State.answer_nextCall (s : State) (c : Nat) (l : List Word) : (s.answer c l).nextCall = s.nextCall := rfl
@[simp] theorem State.answer_saf (s : State) (c : Nat) (l : List Word) : (s.answer c l).saf = s.saf := rfl
@[simp] theorem State.answer_meter (s : State) (c : Nat) (l : List Word) : (s.answer c l).meter = s.meter := rfl
@[simp] theorem State.answer_prioArrays (s : State) (c : Nat) (l : List Word) : (s.answer c l).prioArrays = s.prioArrays := rfl
@[simp] theorem State.answer_refUnread (s : State) (c : Nat) (l : List Word) : (s.answer c l).refUnread = s.refUnread := rfl
@[simp] theorem State.answer_cfgStore (s : State) (c : Nat) (l : List Word) : (s.answer c l).cfgStore = s.cfgStore := rfl
@[simp] theorem State.answer_cfgPrio (s : State) (c : Nat) (l : List Word) : (s.answer c l).cfgPrio = s.cfgPrio := rfl
@[simp] theorem State.answer_covSubs (s : State) (c : Nat) (l : List Word) : (s.answer c l).covSubs = s.covSubs := rfl
@[simp] theorem State.answer_covInc (s : State) (c : Nat) (l : List Word) : (s.answer c l).covInc = s.covInc := rfl
@[simp] theorem State.answer_bacnetOn (s : State) (c : Nat) (l : List Word) : (s.answer c l).bacnetOn = s.bacnetOn := rfl
@[simp] theorem State.answer_pointWaiting (s : State) (c : Nat) (l : List Word) : (s.answer c l).pointWaiting = s.pointWaiting := rfl
@[simp] theorem State.answer_deliveries (s : State) (c : Nat) (l : List Word) : (s.answer c l).deliveries = s.deliveries := rfl
@[simp] theorem State.answer_mac (s : State) (c : Nat) (l : List Word) : (s.answer c l).mac = s.mac := rfl
@[simp] theorem State.answer_cans (s : State) (c : Nat) (l : List Word) : (s.answer c l).cans = s.cans := rfl
@[simp] theorem State.answer_handles (s : State) (c : Nat) (l : List Word) : (s.answer c l).handles = s.handles := rfl
@[simp] theorem State.answer_handleGens (s : State) (c : Nat) (l : List Word) : (s.answer c l).handleGens = s.handleGens := rfl
@[simp] theorem State.answer_handlesMram (s : State) (c : Nat) (l : List Word) : (s.answer c l).handlesMram = s.handlesMram := rfl
@[simp] theorem State.answer_ownerLockMram (s : State) (c : Nat) (l : List Word) : (s.answer c l).ownerLockMram = s.ownerLockMram := rfl
@[simp] theorem State.answer_ownedMram (s : State) (c : Nat) (l : List Word) : (s.answer c l).ownedMram = s.ownedMram := rfl
@[simp] theorem State.answer_attSignSec (s : State) (c : Nat) (l : List Word) : (s.answer c l).attSignSec = s.attSignSec := rfl
@[simp] theorem State.answer_attMacSec (s : State) (c : Nat) (l : List Word) : (s.answer c l).attMacSec = s.attMacSec := rfl
@[simp] theorem State.answer_twin (s : State) (c : Nat) (l : List Word) : (s.answer c l).twin = s.twin := rfl
@[simp] theorem State.answer_twinActiveS1 (s : State) (c : Nat) (l : List Word) : (s.answer c l).twinActiveS1 = s.twinActiveS1 := rfl
@[simp] theorem State.answer_twinActiveS2 (s : State) (c : Nat) (l : List Word) : (s.answer c l).twinActiveS2 = s.twinActiveS2 := rfl
@[simp] theorem State.answer_sideBuf (s : State) (c : Nat) (l : List Word) : (s.answer c l).sideBuf = s.sideBuf := rfl
@[simp] theorem State.answer_mergeWait (s : State) (c : Nat) (l : List Word) : (s.answer c l).mergeWait = s.mergeWait := rfl
@[simp] theorem State.answer_frzSetter (s : State) (c : Nat) (l : List Word) : (s.answer c l).frzSetter = s.frzSetter := rfl
@[simp] theorem State.answer_trigPend (s : State) (c : Nat) (l : List Word) : (s.answer c l).trigPend = s.trigPend := rfl
@[simp] theorem State.answer_recOrder (s : State) (c : Nat) (l : List Word) : (s.answer c l).recOrder = s.recOrder := rfl
@[simp] theorem State.answer_recTotalMram (s : State) (c : Nat) (l : List Word) : (s.answer c l).recTotalMram = s.recTotalMram := rfl
@[simp] theorem State.answer_opSMram (s : State) (c : Nat) (l : List Word) : (s.answer c l).opSMram = s.opSMram := rfl
@[simp] theorem State.answer_heldEvents (s : State) (c : Nat) (l : List Word) : (s.answer c l).heldEvents = s.heldEvents := rfl
@[simp] theorem State.answer_upd (s : State) (c : Nat) (l : List Word) : (s.answer c l).upd = s.upd := rfl
@[simp] theorem State.answer_diag (s : State) (c : Nat) (l : List Word) : (s.answer c l).diag = s.diag := rfl
@[simp] theorem State.answer_fire (s : State) (c : Nat) (l : List Word) : (s.answer c l).fire = s.fire := rfl

/-! ## modTile: a tile -/

@[simp] theorem State.modTile_pending (s : State) (n : Nat) (g : Tile → Tile) : (s.modTile n g).pending = s.pending := rfl
@[simp] theorem State.modTile_mem (s : State) (n : Nat) (g : Tile → Tile) : (s.modTile n g).mem = s.mem := rfl
@[simp] theorem State.modTile_freeCtr (s : State) (n : Nat) (g : Tile → Tile) : (s.modTile n g).freeCtr = s.freeCtr := rfl
@[simp] theorem State.modTile_resp (s : State) (n : Nat) (g : Tile → Tile) : (s.modTile n g).resp = s.resp := rfl
@[simp] theorem State.modTile_errSet (s : State) (n : Nat) (g : Tile → Tile) : (s.modTile n g).errSet = s.errSet := rfl
@[simp] theorem State.modTile_wire (s : State) (n : Nat) (g : Tile → Tile) : (s.modTile n g).wire = s.wire := rfl
@[simp] theorem State.modTile_sysHeld (s : State) (n : Nat) (g : Tile → Tile) : (s.modTile n g).sysHeld = s.sysHeld := rfl
@[simp] theorem State.modTile_appUp (s : State) (n : Nat) (g : Tile → Tile) : (s.modTile n g).appUp = s.appUp := rfl
@[simp] theorem State.modTile_roles (s : State) (n : Nat) (g : Tile → Tile) : (s.modTile n g).roles = s.roles := rfl
@[simp] theorem State.modTile_pwr (s : State) (n : Nat) (g : Tile → Tile) : (s.modTile n g).pwr = s.pwr := rfl
@[simp] theorem State.modTile_latches (s : State) (n : Nat) (g : Tile → Tile) : (s.modTile n g).latches = s.latches := rfl
@[simp] theorem State.modTile_staged (s : State) (n : Nat) (g : Tile → Tile) : (s.modTile n g).staged = s.staged := rfl
@[simp] theorem State.modTile_frozen (s : State) (n : Nat) (g : Tile → Tile) : (s.modTile n g).frozen = s.frozen := rfl
@[simp] theorem State.modTile_eccMarked (s : State) (n : Nat) (g : Tile → Tile) : (s.modTile n g).eccMarked = s.eccMarked := rfl
@[simp] theorem State.modTile_eccSingle (s : State) (n : Nat) (g : Tile → Tile) : (s.modTile n g).eccSingle = s.eccSingle := rfl
@[simp] theorem State.modTile_eccNew (s : State) (n : Nat) (g : Tile → Tile) : (s.modTile n g).eccNew = s.eccNew := rfl
@[simp] theorem State.modTile_sessions (s : State) (n : Nat) (g : Tile → Tile) : (s.modTile n g).sessions = s.sessions := rfl
@[simp] theorem State.modTile_halfOpen (s : State) (n : Nat) (g : Tile → Tile) : (s.modTile n g).halfOpen = s.halfOpen := rfl
@[simp] theorem State.modTile_openTimes (s : State) (n : Nat) (g : Tile → Tile) : (s.modTile n g).openTimes = s.openTimes := rfl
@[simp] theorem State.modTile_nextSid (s : State) (n : Nat) (g : Tile → Tile) : (s.modTile n g).nextSid = s.nextSid := rfl
@[simp] theorem State.modTile_nextSubId (s : State) (n : Nat) (g : Tile → Tile) : (s.modTile n g).nextSubId = s.nextSubId := rfl
@[simp] theorem State.modTile_subs (s : State) (n : Nat) (g : Tile → Tile) : (s.modTile n g).subs = s.subs := rfl
@[simp] theorem State.modTile_tb (s : State) (n : Nat) (g : Tile → Tile) : (s.modTile n g).tb = s.tb := rfl
@[simp] theorem State.modTile_timeStepped (s : State) (n : Nat) (g : Tile → Tile) : (s.modTile n g).timeStepped = s.timeStepped := rfl
@[simp] theorem State.modTile_cal (s : State) (n : Nat) (g : Tile → Tile) : (s.modTile n g).cal = s.cal := rfl
@[simp] theorem State.modTile_seqr (s : State) (n : Nat) (g : Tile → Tile) : (s.modTile n g).seqr = s.seqr := rfl
@[simp] theorem State.modTile_slotCommit (s : State) (n : Nat) (g : Tile → Tile) : (s.modTile n g).slotCommit = s.slotCommit := rfl
@[simp] theorem State.modTile_doneQ (s : State) (n : Nat) (g : Tile → Tile) : (s.modTile n g).doneQ = s.doneQ := rfl
@[simp] theorem State.modTile_snapUnread (s : State) (n : Nat) (g : Tile → Tile) : (s.modTile n g).snapUnread = s.snapUnread := rfl
@[simp] theorem State.modTile_slotUnresolved (s : State) (n : Nat) (g : Tile → Tile) : (s.modTile n g).slotUnresolved = s.slotUnresolved := rfl
@[simp] theorem State.modTile_slotFired (s : State) (n : Nat) (g : Tile → Tile) : (s.modTile n g).slotFired = s.slotFired := rfl
@[simp] theorem State.modTile_slotDev (s : State) (n : Nat) (g : Tile → Tile) : (s.modTile n g).slotDev = s.slotDev := rfl
@[simp] theorem State.modTile_coilLearn (s : State) (n : Nat) (g : Tile → Tile) : (s.modTile n g).coilLearn = s.coilLearn := rfl
@[simp] theorem State.modTile_coilMram (s : State) (n : Nat) (g : Tile → Tile) : (s.modTile n g).coilMram = s.coilMram := rfl
@[simp] theorem State.modTile_coilSaveMin (s : State) (n : Nat) (g : Tile → Tile) : (s.modTile n g).coilSaveMin = s.coilSaveMin := rfl
@[simp] theorem State.modTile_pllA (s : State) (n : Nat) (g : Tile → Tile) : (s.modTile n g).pllA = s.pllA := rfl
@[simp] theorem State.modTile_pllB (s : State) (n : Nat) (g : Tile → Tile) : (s.modTile n g).pllB = s.pllB := rfl
@[simp] theorem State.modTile_appGoSafe (s : State) (n : Nat) (g : Tile → Tile) : (s.modTile n g).appGoSafe = s.appGoSafe := rfl
@[simp] theorem State.modTile_scan (s : State) (n : Nat) (g : Tile → Tile) : (s.modTile n g).scan = s.scan := rfl
@[simp] theorem State.modTile_cycles (s : State) (n : Nat) (g : Tile → Tile) : (s.modTile n g).cycles = s.cycles := rfl
@[simp] theorem State.modTile_fireShed (s : State) (n : Nat) (g : Tile → Tile) : (s.modTile n g).fireShed = s.fireShed := rfl
@[simp] theorem State.modTile_loops (s : State) (n : Nat) (g : Tile → Tile) : (s.modTile n g).loops = s.loops := rfl
@[simp] theorem State.modTile_loopTicks (s : State) (n : Nat) (g : Tile → Tile) : (s.modTile n g).loopTicks = s.loopTicks := rfl
@[simp] theorem State.modTile_loopLoad (s : State) (n : Nat) (g : Tile → Tile) : (s.modTile n g).loopLoad = s.loopLoad := rfl
@[simp] theorem State.modTile_axes (s : State) (n : Nat) (g : Tile → Tile) : (s.modTile n g).axes = s.axes := rfl
@[simp] theorem State.modTile_lines (s : State) (n : Nat) (g : Tile → Tile) : (s.modTile n g).lines = s.lines := rfl
@[simp] theorem State.modTile_grpPend (s : State) (n : Nat) (g : Tile → Tile) : (s.modTile n g).grpPend = s.grpPend := rfl
@[simp] theorem State.modTile_cars (s : State) (n : Nat) (g : Tile → Tile) : (s.modTile n g).cars = s.cars := rfl
@[simp] theorem State.modTile_calls (s : State) (n : Nat) (g : Tile → Tile) : (s.modTile n g).calls = s.calls := rfl
@[simp] theorem State.modTile_nextCall (s : State) (n : Nat) (g : Tile → Tile) : (s.modTile n g).nextCall = s.nextCall := rfl
@[simp] theorem State.modTile_saf (s : State) (n : Nat) (g : Tile → Tile) : (s.modTile n g).saf = s.saf := rfl
@[simp] theorem State.modTile_meter (s : State) (n : Nat) (g : Tile → Tile) : (s.modTile n g).meter = s.meter := rfl
@[simp] theorem State.modTile_prioArrays (s : State) (n : Nat) (g : Tile → Tile) : (s.modTile n g).prioArrays = s.prioArrays := rfl
@[simp] theorem State.modTile_refUnread (s : State) (n : Nat) (g : Tile → Tile) : (s.modTile n g).refUnread = s.refUnread := rfl
@[simp] theorem State.modTile_cfgStore (s : State) (n : Nat) (g : Tile → Tile) : (s.modTile n g).cfgStore = s.cfgStore := rfl
@[simp] theorem State.modTile_cfgPrio (s : State) (n : Nat) (g : Tile → Tile) : (s.modTile n g).cfgPrio = s.cfgPrio := rfl
@[simp] theorem State.modTile_covSubs (s : State) (n : Nat) (g : Tile → Tile) : (s.modTile n g).covSubs = s.covSubs := rfl
@[simp] theorem State.modTile_covInc (s : State) (n : Nat) (g : Tile → Tile) : (s.modTile n g).covInc = s.covInc := rfl
@[simp] theorem State.modTile_bacnetOn (s : State) (n : Nat) (g : Tile → Tile) : (s.modTile n g).bacnetOn = s.bacnetOn := rfl
@[simp] theorem State.modTile_pointWaiting (s : State) (n : Nat) (g : Tile → Tile) : (s.modTile n g).pointWaiting = s.pointWaiting := rfl
@[simp] theorem State.modTile_deliveries (s : State) (n : Nat) (g : Tile → Tile) : (s.modTile n g).deliveries = s.deliveries := rfl
@[simp] theorem State.modTile_mac (s : State) (n : Nat) (g : Tile → Tile) : (s.modTile n g).mac = s.mac := rfl
@[simp] theorem State.modTile_cans (s : State) (n : Nat) (g : Tile → Tile) : (s.modTile n g).cans = s.cans := rfl
@[simp] theorem State.modTile_handles (s : State) (n : Nat) (g : Tile → Tile) : (s.modTile n g).handles = s.handles := rfl
@[simp] theorem State.modTile_handleGens (s : State) (n : Nat) (g : Tile → Tile) : (s.modTile n g).handleGens = s.handleGens := rfl
@[simp] theorem State.modTile_handlesMram (s : State) (n : Nat) (g : Tile → Tile) : (s.modTile n g).handlesMram = s.handlesMram := rfl
@[simp] theorem State.modTile_ownerLockMram (s : State) (n : Nat) (g : Tile → Tile) : (s.modTile n g).ownerLockMram = s.ownerLockMram := rfl
@[simp] theorem State.modTile_ownedMram (s : State) (n : Nat) (g : Tile → Tile) : (s.modTile n g).ownedMram = s.ownedMram := rfl
@[simp] theorem State.modTile_attSignSec (s : State) (n : Nat) (g : Tile → Tile) : (s.modTile n g).attSignSec = s.attSignSec := rfl
@[simp] theorem State.modTile_attMacSec (s : State) (n : Nat) (g : Tile → Tile) : (s.modTile n g).attMacSec = s.attMacSec := rfl
@[simp] theorem State.modTile_twin (s : State) (n : Nat) (g : Tile → Tile) : (s.modTile n g).twin = s.twin := rfl
@[simp] theorem State.modTile_twinActiveS1 (s : State) (n : Nat) (g : Tile → Tile) : (s.modTile n g).twinActiveS1 = s.twinActiveS1 := rfl
@[simp] theorem State.modTile_twinActiveS2 (s : State) (n : Nat) (g : Tile → Tile) : (s.modTile n g).twinActiveS2 = s.twinActiveS2 := rfl
@[simp] theorem State.modTile_sideBuf (s : State) (n : Nat) (g : Tile → Tile) : (s.modTile n g).sideBuf = s.sideBuf := rfl
@[simp] theorem State.modTile_mergeWait (s : State) (n : Nat) (g : Tile → Tile) : (s.modTile n g).mergeWait = s.mergeWait := rfl
@[simp] theorem State.modTile_frzSetter (s : State) (n : Nat) (g : Tile → Tile) : (s.modTile n g).frzSetter = s.frzSetter := rfl
@[simp] theorem State.modTile_trigPend (s : State) (n : Nat) (g : Tile → Tile) : (s.modTile n g).trigPend = s.trigPend := rfl
@[simp] theorem State.modTile_recOrder (s : State) (n : Nat) (g : Tile → Tile) : (s.modTile n g).recOrder = s.recOrder := rfl
@[simp] theorem State.modTile_recTotalMram (s : State) (n : Nat) (g : Tile → Tile) : (s.modTile n g).recTotalMram = s.recTotalMram := rfl
@[simp] theorem State.modTile_opSMram (s : State) (n : Nat) (g : Tile → Tile) : (s.modTile n g).opSMram = s.opSMram := rfl
@[simp] theorem State.modTile_heldEvents (s : State) (n : Nat) (g : Tile → Tile) : (s.modTile n g).heldEvents = s.heldEvents := rfl
@[simp] theorem State.modTile_upd (s : State) (n : Nat) (g : Tile → Tile) : (s.modTile n g).upd = s.upd := rfl
@[simp] theorem State.modTile_diag (s : State) (n : Nat) (g : Tile → Tile) : (s.modTile n g).diag = s.diag := rfl
@[simp] theorem State.modTile_fire (s : State) (n : Nat) (g : Tile → Tile) : (s.modTile n g).fire = s.fire := rfl

/-! ## modScan: the scan engine -/

@[simp] theorem State.modScan_pending (s : State) (g : ScanEngine → ScanEngine) : (s.modScan g).pending = s.pending := rfl
@[simp] theorem State.modScan_mem (s : State) (g : ScanEngine → ScanEngine) : (s.modScan g).mem = s.mem := rfl
@[simp] theorem State.modScan_freeCtr (s : State) (g : ScanEngine → ScanEngine) : (s.modScan g).freeCtr = s.freeCtr := rfl
@[simp] theorem State.modScan_resp (s : State) (g : ScanEngine → ScanEngine) : (s.modScan g).resp = s.resp := rfl
@[simp] theorem State.modScan_errSet (s : State) (g : ScanEngine → ScanEngine) : (s.modScan g).errSet = s.errSet := rfl
@[simp] theorem State.modScan_wire (s : State) (g : ScanEngine → ScanEngine) : (s.modScan g).wire = s.wire := rfl
@[simp] theorem State.modScan_sysHeld (s : State) (g : ScanEngine → ScanEngine) : (s.modScan g).sysHeld = s.sysHeld := rfl
@[simp] theorem State.modScan_appUp (s : State) (g : ScanEngine → ScanEngine) : (s.modScan g).appUp = s.appUp := rfl
@[simp] theorem State.modScan_roles (s : State) (g : ScanEngine → ScanEngine) : (s.modScan g).roles = s.roles := rfl
@[simp] theorem State.modScan_pwr (s : State) (g : ScanEngine → ScanEngine) : (s.modScan g).pwr = s.pwr := rfl
@[simp] theorem State.modScan_latches (s : State) (g : ScanEngine → ScanEngine) : (s.modScan g).latches = s.latches := rfl
@[simp] theorem State.modScan_staged (s : State) (g : ScanEngine → ScanEngine) : (s.modScan g).staged = s.staged := rfl
@[simp] theorem State.modScan_frozen (s : State) (g : ScanEngine → ScanEngine) : (s.modScan g).frozen = s.frozen := rfl
@[simp] theorem State.modScan_eccMarked (s : State) (g : ScanEngine → ScanEngine) : (s.modScan g).eccMarked = s.eccMarked := rfl
@[simp] theorem State.modScan_eccSingle (s : State) (g : ScanEngine → ScanEngine) : (s.modScan g).eccSingle = s.eccSingle := rfl
@[simp] theorem State.modScan_eccNew (s : State) (g : ScanEngine → ScanEngine) : (s.modScan g).eccNew = s.eccNew := rfl
@[simp] theorem State.modScan_sessions (s : State) (g : ScanEngine → ScanEngine) : (s.modScan g).sessions = s.sessions := rfl
@[simp] theorem State.modScan_halfOpen (s : State) (g : ScanEngine → ScanEngine) : (s.modScan g).halfOpen = s.halfOpen := rfl
@[simp] theorem State.modScan_openTimes (s : State) (g : ScanEngine → ScanEngine) : (s.modScan g).openTimes = s.openTimes := rfl
@[simp] theorem State.modScan_nextSid (s : State) (g : ScanEngine → ScanEngine) : (s.modScan g).nextSid = s.nextSid := rfl
@[simp] theorem State.modScan_nextSubId (s : State) (g : ScanEngine → ScanEngine) : (s.modScan g).nextSubId = s.nextSubId := rfl
@[simp] theorem State.modScan_subs (s : State) (g : ScanEngine → ScanEngine) : (s.modScan g).subs = s.subs := rfl
@[simp] theorem State.modScan_tb (s : State) (g : ScanEngine → ScanEngine) : (s.modScan g).tb = s.tb := rfl
@[simp] theorem State.modScan_timeStepped (s : State) (g : ScanEngine → ScanEngine) : (s.modScan g).timeStepped = s.timeStepped := rfl
@[simp] theorem State.modScan_cal (s : State) (g : ScanEngine → ScanEngine) : (s.modScan g).cal = s.cal := rfl
@[simp] theorem State.modScan_seqr (s : State) (g : ScanEngine → ScanEngine) : (s.modScan g).seqr = s.seqr := rfl
@[simp] theorem State.modScan_slotCommit (s : State) (g : ScanEngine → ScanEngine) : (s.modScan g).slotCommit = s.slotCommit := rfl
@[simp] theorem State.modScan_doneQ (s : State) (g : ScanEngine → ScanEngine) : (s.modScan g).doneQ = s.doneQ := rfl
@[simp] theorem State.modScan_snapUnread (s : State) (g : ScanEngine → ScanEngine) : (s.modScan g).snapUnread = s.snapUnread := rfl
@[simp] theorem State.modScan_slotUnresolved (s : State) (g : ScanEngine → ScanEngine) : (s.modScan g).slotUnresolved = s.slotUnresolved := rfl
@[simp] theorem State.modScan_slotFired (s : State) (g : ScanEngine → ScanEngine) : (s.modScan g).slotFired = s.slotFired := rfl
@[simp] theorem State.modScan_slotDev (s : State) (g : ScanEngine → ScanEngine) : (s.modScan g).slotDev = s.slotDev := rfl
@[simp] theorem State.modScan_coilLearn (s : State) (g : ScanEngine → ScanEngine) : (s.modScan g).coilLearn = s.coilLearn := rfl
@[simp] theorem State.modScan_coilMram (s : State) (g : ScanEngine → ScanEngine) : (s.modScan g).coilMram = s.coilMram := rfl
@[simp] theorem State.modScan_coilSaveMin (s : State) (g : ScanEngine → ScanEngine) : (s.modScan g).coilSaveMin = s.coilSaveMin := rfl
@[simp] theorem State.modScan_pllA (s : State) (g : ScanEngine → ScanEngine) : (s.modScan g).pllA = s.pllA := rfl
@[simp] theorem State.modScan_pllB (s : State) (g : ScanEngine → ScanEngine) : (s.modScan g).pllB = s.pllB := rfl
@[simp] theorem State.modScan_tiles (s : State) (g : ScanEngine → ScanEngine) : (s.modScan g).tiles = s.tiles := rfl
@[simp] theorem State.modScan_appGoSafe (s : State) (g : ScanEngine → ScanEngine) : (s.modScan g).appGoSafe = s.appGoSafe := rfl
@[simp] theorem State.modScan_cycles (s : State) (g : ScanEngine → ScanEngine) : (s.modScan g).cycles = s.cycles := rfl
@[simp] theorem State.modScan_fireShed (s : State) (g : ScanEngine → ScanEngine) : (s.modScan g).fireShed = s.fireShed := rfl
@[simp] theorem State.modScan_loops (s : State) (g : ScanEngine → ScanEngine) : (s.modScan g).loops = s.loops := rfl
@[simp] theorem State.modScan_loopTicks (s : State) (g : ScanEngine → ScanEngine) : (s.modScan g).loopTicks = s.loopTicks := rfl
@[simp] theorem State.modScan_loopLoad (s : State) (g : ScanEngine → ScanEngine) : (s.modScan g).loopLoad = s.loopLoad := rfl
@[simp] theorem State.modScan_axes (s : State) (g : ScanEngine → ScanEngine) : (s.modScan g).axes = s.axes := rfl
@[simp] theorem State.modScan_lines (s : State) (g : ScanEngine → ScanEngine) : (s.modScan g).lines = s.lines := rfl
@[simp] theorem State.modScan_grpPend (s : State) (g : ScanEngine → ScanEngine) : (s.modScan g).grpPend = s.grpPend := rfl
@[simp] theorem State.modScan_cars (s : State) (g : ScanEngine → ScanEngine) : (s.modScan g).cars = s.cars := rfl
@[simp] theorem State.modScan_calls (s : State) (g : ScanEngine → ScanEngine) : (s.modScan g).calls = s.calls := rfl
@[simp] theorem State.modScan_nextCall (s : State) (g : ScanEngine → ScanEngine) : (s.modScan g).nextCall = s.nextCall := rfl
@[simp] theorem State.modScan_saf (s : State) (g : ScanEngine → ScanEngine) : (s.modScan g).saf = s.saf := rfl
@[simp] theorem State.modScan_meter (s : State) (g : ScanEngine → ScanEngine) : (s.modScan g).meter = s.meter := rfl
@[simp] theorem State.modScan_prioArrays (s : State) (g : ScanEngine → ScanEngine) : (s.modScan g).prioArrays = s.prioArrays := rfl
@[simp] theorem State.modScan_refUnread (s : State) (g : ScanEngine → ScanEngine) : (s.modScan g).refUnread = s.refUnread := rfl
@[simp] theorem State.modScan_cfgStore (s : State) (g : ScanEngine → ScanEngine) : (s.modScan g).cfgStore = s.cfgStore := rfl
@[simp] theorem State.modScan_cfgPrio (s : State) (g : ScanEngine → ScanEngine) : (s.modScan g).cfgPrio = s.cfgPrio := rfl
@[simp] theorem State.modScan_covSubs (s : State) (g : ScanEngine → ScanEngine) : (s.modScan g).covSubs = s.covSubs := rfl
@[simp] theorem State.modScan_covInc (s : State) (g : ScanEngine → ScanEngine) : (s.modScan g).covInc = s.covInc := rfl
@[simp] theorem State.modScan_bacnetOn (s : State) (g : ScanEngine → ScanEngine) : (s.modScan g).bacnetOn = s.bacnetOn := rfl
@[simp] theorem State.modScan_pointWaiting (s : State) (g : ScanEngine → ScanEngine) : (s.modScan g).pointWaiting = s.pointWaiting := rfl
@[simp] theorem State.modScan_deliveries (s : State) (g : ScanEngine → ScanEngine) : (s.modScan g).deliveries = s.deliveries := rfl
@[simp] theorem State.modScan_mac (s : State) (g : ScanEngine → ScanEngine) : (s.modScan g).mac = s.mac := rfl
@[simp] theorem State.modScan_cans (s : State) (g : ScanEngine → ScanEngine) : (s.modScan g).cans = s.cans := rfl
@[simp] theorem State.modScan_handles (s : State) (g : ScanEngine → ScanEngine) : (s.modScan g).handles = s.handles := rfl
@[simp] theorem State.modScan_handleGens (s : State) (g : ScanEngine → ScanEngine) : (s.modScan g).handleGens = s.handleGens := rfl
@[simp] theorem State.modScan_handlesMram (s : State) (g : ScanEngine → ScanEngine) : (s.modScan g).handlesMram = s.handlesMram := rfl
@[simp] theorem State.modScan_ownerLockMram (s : State) (g : ScanEngine → ScanEngine) : (s.modScan g).ownerLockMram = s.ownerLockMram := rfl
@[simp] theorem State.modScan_ownedMram (s : State) (g : ScanEngine → ScanEngine) : (s.modScan g).ownedMram = s.ownedMram := rfl
@[simp] theorem State.modScan_attSignSec (s : State) (g : ScanEngine → ScanEngine) : (s.modScan g).attSignSec = s.attSignSec := rfl
@[simp] theorem State.modScan_attMacSec (s : State) (g : ScanEngine → ScanEngine) : (s.modScan g).attMacSec = s.attMacSec := rfl
@[simp] theorem State.modScan_twin (s : State) (g : ScanEngine → ScanEngine) : (s.modScan g).twin = s.twin := rfl
@[simp] theorem State.modScan_twinActiveS1 (s : State) (g : ScanEngine → ScanEngine) : (s.modScan g).twinActiveS1 = s.twinActiveS1 := rfl
@[simp] theorem State.modScan_twinActiveS2 (s : State) (g : ScanEngine → ScanEngine) : (s.modScan g).twinActiveS2 = s.twinActiveS2 := rfl
@[simp] theorem State.modScan_sideBuf (s : State) (g : ScanEngine → ScanEngine) : (s.modScan g).sideBuf = s.sideBuf := rfl
@[simp] theorem State.modScan_mergeWait (s : State) (g : ScanEngine → ScanEngine) : (s.modScan g).mergeWait = s.mergeWait := rfl
@[simp] theorem State.modScan_frzSetter (s : State) (g : ScanEngine → ScanEngine) : (s.modScan g).frzSetter = s.frzSetter := rfl
@[simp] theorem State.modScan_trigPend (s : State) (g : ScanEngine → ScanEngine) : (s.modScan g).trigPend = s.trigPend := rfl
@[simp] theorem State.modScan_recOrder (s : State) (g : ScanEngine → ScanEngine) : (s.modScan g).recOrder = s.recOrder := rfl
@[simp] theorem State.modScan_recTotalMram (s : State) (g : ScanEngine → ScanEngine) : (s.modScan g).recTotalMram = s.recTotalMram := rfl
@[simp] theorem State.modScan_opSMram (s : State) (g : ScanEngine → ScanEngine) : (s.modScan g).opSMram = s.opSMram := rfl
@[simp] theorem State.modScan_heldEvents (s : State) (g : ScanEngine → ScanEngine) : (s.modScan g).heldEvents = s.heldEvents := rfl
@[simp] theorem State.modScan_upd (s : State) (g : ScanEngine → ScanEngine) : (s.modScan g).upd = s.upd := rfl
@[simp] theorem State.modScan_diag (s : State) (g : ScanEngine → ScanEngine) : (s.modScan g).diag = s.diag := rfl
@[simp] theorem State.modScan_fire (s : State) (g : ScanEngine → ScanEngine) : (s.modScan g).fire = s.fire := rfl

/-! ## modMeter: the metering engine -/

@[simp] theorem State.modMeter_pending (s : State) (g : Meter → Meter) : (s.modMeter g).pending = s.pending := rfl
@[simp] theorem State.modMeter_mem (s : State) (g : Meter → Meter) : (s.modMeter g).mem = s.mem := rfl
@[simp] theorem State.modMeter_freeCtr (s : State) (g : Meter → Meter) : (s.modMeter g).freeCtr = s.freeCtr := rfl
@[simp] theorem State.modMeter_resp (s : State) (g : Meter → Meter) : (s.modMeter g).resp = s.resp := rfl
@[simp] theorem State.modMeter_errSet (s : State) (g : Meter → Meter) : (s.modMeter g).errSet = s.errSet := rfl
@[simp] theorem State.modMeter_wire (s : State) (g : Meter → Meter) : (s.modMeter g).wire = s.wire := rfl
@[simp] theorem State.modMeter_sysHeld (s : State) (g : Meter → Meter) : (s.modMeter g).sysHeld = s.sysHeld := rfl
@[simp] theorem State.modMeter_appUp (s : State) (g : Meter → Meter) : (s.modMeter g).appUp = s.appUp := rfl
@[simp] theorem State.modMeter_roles (s : State) (g : Meter → Meter) : (s.modMeter g).roles = s.roles := rfl
@[simp] theorem State.modMeter_pwr (s : State) (g : Meter → Meter) : (s.modMeter g).pwr = s.pwr := rfl
@[simp] theorem State.modMeter_latches (s : State) (g : Meter → Meter) : (s.modMeter g).latches = s.latches := rfl
@[simp] theorem State.modMeter_staged (s : State) (g : Meter → Meter) : (s.modMeter g).staged = s.staged := rfl
@[simp] theorem State.modMeter_frozen (s : State) (g : Meter → Meter) : (s.modMeter g).frozen = s.frozen := rfl
@[simp] theorem State.modMeter_eccMarked (s : State) (g : Meter → Meter) : (s.modMeter g).eccMarked = s.eccMarked := rfl
@[simp] theorem State.modMeter_eccSingle (s : State) (g : Meter → Meter) : (s.modMeter g).eccSingle = s.eccSingle := rfl
@[simp] theorem State.modMeter_eccNew (s : State) (g : Meter → Meter) : (s.modMeter g).eccNew = s.eccNew := rfl
@[simp] theorem State.modMeter_sessions (s : State) (g : Meter → Meter) : (s.modMeter g).sessions = s.sessions := rfl
@[simp] theorem State.modMeter_halfOpen (s : State) (g : Meter → Meter) : (s.modMeter g).halfOpen = s.halfOpen := rfl
@[simp] theorem State.modMeter_openTimes (s : State) (g : Meter → Meter) : (s.modMeter g).openTimes = s.openTimes := rfl
@[simp] theorem State.modMeter_nextSid (s : State) (g : Meter → Meter) : (s.modMeter g).nextSid = s.nextSid := rfl
@[simp] theorem State.modMeter_nextSubId (s : State) (g : Meter → Meter) : (s.modMeter g).nextSubId = s.nextSubId := rfl
@[simp] theorem State.modMeter_subs (s : State) (g : Meter → Meter) : (s.modMeter g).subs = s.subs := rfl
@[simp] theorem State.modMeter_tb (s : State) (g : Meter → Meter) : (s.modMeter g).tb = s.tb := rfl
@[simp] theorem State.modMeter_timeStepped (s : State) (g : Meter → Meter) : (s.modMeter g).timeStepped = s.timeStepped := rfl
@[simp] theorem State.modMeter_cal (s : State) (g : Meter → Meter) : (s.modMeter g).cal = s.cal := rfl
@[simp] theorem State.modMeter_seqr (s : State) (g : Meter → Meter) : (s.modMeter g).seqr = s.seqr := rfl
@[simp] theorem State.modMeter_slotCommit (s : State) (g : Meter → Meter) : (s.modMeter g).slotCommit = s.slotCommit := rfl
@[simp] theorem State.modMeter_doneQ (s : State) (g : Meter → Meter) : (s.modMeter g).doneQ = s.doneQ := rfl
@[simp] theorem State.modMeter_snapUnread (s : State) (g : Meter → Meter) : (s.modMeter g).snapUnread = s.snapUnread := rfl
@[simp] theorem State.modMeter_slotUnresolved (s : State) (g : Meter → Meter) : (s.modMeter g).slotUnresolved = s.slotUnresolved := rfl
@[simp] theorem State.modMeter_slotFired (s : State) (g : Meter → Meter) : (s.modMeter g).slotFired = s.slotFired := rfl
@[simp] theorem State.modMeter_slotDev (s : State) (g : Meter → Meter) : (s.modMeter g).slotDev = s.slotDev := rfl
@[simp] theorem State.modMeter_coilLearn (s : State) (g : Meter → Meter) : (s.modMeter g).coilLearn = s.coilLearn := rfl
@[simp] theorem State.modMeter_coilMram (s : State) (g : Meter → Meter) : (s.modMeter g).coilMram = s.coilMram := rfl
@[simp] theorem State.modMeter_coilSaveMin (s : State) (g : Meter → Meter) : (s.modMeter g).coilSaveMin = s.coilSaveMin := rfl
@[simp] theorem State.modMeter_pllA (s : State) (g : Meter → Meter) : (s.modMeter g).pllA = s.pllA := rfl
@[simp] theorem State.modMeter_pllB (s : State) (g : Meter → Meter) : (s.modMeter g).pllB = s.pllB := rfl
@[simp] theorem State.modMeter_tiles (s : State) (g : Meter → Meter) : (s.modMeter g).tiles = s.tiles := rfl
@[simp] theorem State.modMeter_appGoSafe (s : State) (g : Meter → Meter) : (s.modMeter g).appGoSafe = s.appGoSafe := rfl
@[simp] theorem State.modMeter_scan (s : State) (g : Meter → Meter) : (s.modMeter g).scan = s.scan := rfl
@[simp] theorem State.modMeter_cycles (s : State) (g : Meter → Meter) : (s.modMeter g).cycles = s.cycles := rfl
@[simp] theorem State.modMeter_fireShed (s : State) (g : Meter → Meter) : (s.modMeter g).fireShed = s.fireShed := rfl
@[simp] theorem State.modMeter_loops (s : State) (g : Meter → Meter) : (s.modMeter g).loops = s.loops := rfl
@[simp] theorem State.modMeter_loopTicks (s : State) (g : Meter → Meter) : (s.modMeter g).loopTicks = s.loopTicks := rfl
@[simp] theorem State.modMeter_loopLoad (s : State) (g : Meter → Meter) : (s.modMeter g).loopLoad = s.loopLoad := rfl
@[simp] theorem State.modMeter_axes (s : State) (g : Meter → Meter) : (s.modMeter g).axes = s.axes := rfl
@[simp] theorem State.modMeter_lines (s : State) (g : Meter → Meter) : (s.modMeter g).lines = s.lines := rfl
@[simp] theorem State.modMeter_grpPend (s : State) (g : Meter → Meter) : (s.modMeter g).grpPend = s.grpPend := rfl
@[simp] theorem State.modMeter_cars (s : State) (g : Meter → Meter) : (s.modMeter g).cars = s.cars := rfl
@[simp] theorem State.modMeter_calls (s : State) (g : Meter → Meter) : (s.modMeter g).calls = s.calls := rfl
@[simp] theorem State.modMeter_nextCall (s : State) (g : Meter → Meter) : (s.modMeter g).nextCall = s.nextCall := rfl
@[simp] theorem State.modMeter_saf (s : State) (g : Meter → Meter) : (s.modMeter g).saf = s.saf := rfl
@[simp] theorem State.modMeter_prioArrays (s : State) (g : Meter → Meter) : (s.modMeter g).prioArrays = s.prioArrays := rfl
@[simp] theorem State.modMeter_refUnread (s : State) (g : Meter → Meter) : (s.modMeter g).refUnread = s.refUnread := rfl
@[simp] theorem State.modMeter_cfgStore (s : State) (g : Meter → Meter) : (s.modMeter g).cfgStore = s.cfgStore := rfl
@[simp] theorem State.modMeter_cfgPrio (s : State) (g : Meter → Meter) : (s.modMeter g).cfgPrio = s.cfgPrio := rfl
@[simp] theorem State.modMeter_covSubs (s : State) (g : Meter → Meter) : (s.modMeter g).covSubs = s.covSubs := rfl
@[simp] theorem State.modMeter_covInc (s : State) (g : Meter → Meter) : (s.modMeter g).covInc = s.covInc := rfl
@[simp] theorem State.modMeter_bacnetOn (s : State) (g : Meter → Meter) : (s.modMeter g).bacnetOn = s.bacnetOn := rfl
@[simp] theorem State.modMeter_pointWaiting (s : State) (g : Meter → Meter) : (s.modMeter g).pointWaiting = s.pointWaiting := rfl
@[simp] theorem State.modMeter_deliveries (s : State) (g : Meter → Meter) : (s.modMeter g).deliveries = s.deliveries := rfl
@[simp] theorem State.modMeter_mac (s : State) (g : Meter → Meter) : (s.modMeter g).mac = s.mac := rfl
@[simp] theorem State.modMeter_cans (s : State) (g : Meter → Meter) : (s.modMeter g).cans = s.cans := rfl
@[simp] theorem State.modMeter_handles (s : State) (g : Meter → Meter) : (s.modMeter g).handles = s.handles := rfl
@[simp] theorem State.modMeter_handleGens (s : State) (g : Meter → Meter) : (s.modMeter g).handleGens = s.handleGens := rfl
@[simp] theorem State.modMeter_handlesMram (s : State) (g : Meter → Meter) : (s.modMeter g).handlesMram = s.handlesMram := rfl
@[simp] theorem State.modMeter_ownerLockMram (s : State) (g : Meter → Meter) : (s.modMeter g).ownerLockMram = s.ownerLockMram := rfl
@[simp] theorem State.modMeter_ownedMram (s : State) (g : Meter → Meter) : (s.modMeter g).ownedMram = s.ownedMram := rfl
@[simp] theorem State.modMeter_attSignSec (s : State) (g : Meter → Meter) : (s.modMeter g).attSignSec = s.attSignSec := rfl
@[simp] theorem State.modMeter_attMacSec (s : State) (g : Meter → Meter) : (s.modMeter g).attMacSec = s.attMacSec := rfl
@[simp] theorem State.modMeter_twin (s : State) (g : Meter → Meter) : (s.modMeter g).twin = s.twin := rfl
@[simp] theorem State.modMeter_twinActiveS1 (s : State) (g : Meter → Meter) : (s.modMeter g).twinActiveS1 = s.twinActiveS1 := rfl
@[simp] theorem State.modMeter_twinActiveS2 (s : State) (g : Meter → Meter) : (s.modMeter g).twinActiveS2 = s.twinActiveS2 := rfl
@[simp] theorem State.modMeter_sideBuf (s : State) (g : Meter → Meter) : (s.modMeter g).sideBuf = s.sideBuf := rfl
@[simp] theorem State.modMeter_mergeWait (s : State) (g : Meter → Meter) : (s.modMeter g).mergeWait = s.mergeWait := rfl
@[simp] theorem State.modMeter_frzSetter (s : State) (g : Meter → Meter) : (s.modMeter g).frzSetter = s.frzSetter := rfl
@[simp] theorem State.modMeter_trigPend (s : State) (g : Meter → Meter) : (s.modMeter g).trigPend = s.trigPend := rfl
@[simp] theorem State.modMeter_recOrder (s : State) (g : Meter → Meter) : (s.modMeter g).recOrder = s.recOrder := rfl
@[simp] theorem State.modMeter_recTotalMram (s : State) (g : Meter → Meter) : (s.modMeter g).recTotalMram = s.recTotalMram := rfl
@[simp] theorem State.modMeter_opSMram (s : State) (g : Meter → Meter) : (s.modMeter g).opSMram = s.opSMram := rfl
@[simp] theorem State.modMeter_heldEvents (s : State) (g : Meter → Meter) : (s.modMeter g).heldEvents = s.heldEvents := rfl
@[simp] theorem State.modMeter_upd (s : State) (g : Meter → Meter) : (s.modMeter g).upd = s.upd := rfl
@[simp] theorem State.modMeter_diag (s : State) (g : Meter → Meter) : (s.modMeter g).diag = s.diag := rfl
@[simp] theorem State.modMeter_fire (s : State) (g : Meter → Meter) : (s.modMeter g).fire = s.fire := rfl

/-! ## modFire: the fire modes -/

@[simp] theorem State.modFire_pending (s : State) (g : Fire → Fire) : (s.modFire g).pending = s.pending := rfl
@[simp] theorem State.modFire_mem (s : State) (g : Fire → Fire) : (s.modFire g).mem = s.mem := rfl
@[simp] theorem State.modFire_freeCtr (s : State) (g : Fire → Fire) : (s.modFire g).freeCtr = s.freeCtr := rfl
@[simp] theorem State.modFire_resp (s : State) (g : Fire → Fire) : (s.modFire g).resp = s.resp := rfl
@[simp] theorem State.modFire_errSet (s : State) (g : Fire → Fire) : (s.modFire g).errSet = s.errSet := rfl
@[simp] theorem State.modFire_wire (s : State) (g : Fire → Fire) : (s.modFire g).wire = s.wire := rfl
@[simp] theorem State.modFire_sysHeld (s : State) (g : Fire → Fire) : (s.modFire g).sysHeld = s.sysHeld := rfl
@[simp] theorem State.modFire_appUp (s : State) (g : Fire → Fire) : (s.modFire g).appUp = s.appUp := rfl
@[simp] theorem State.modFire_roles (s : State) (g : Fire → Fire) : (s.modFire g).roles = s.roles := rfl
@[simp] theorem State.modFire_pwr (s : State) (g : Fire → Fire) : (s.modFire g).pwr = s.pwr := rfl
@[simp] theorem State.modFire_latches (s : State) (g : Fire → Fire) : (s.modFire g).latches = s.latches := rfl
@[simp] theorem State.modFire_staged (s : State) (g : Fire → Fire) : (s.modFire g).staged = s.staged := rfl
@[simp] theorem State.modFire_frozen (s : State) (g : Fire → Fire) : (s.modFire g).frozen = s.frozen := rfl
@[simp] theorem State.modFire_eccMarked (s : State) (g : Fire → Fire) : (s.modFire g).eccMarked = s.eccMarked := rfl
@[simp] theorem State.modFire_eccSingle (s : State) (g : Fire → Fire) : (s.modFire g).eccSingle = s.eccSingle := rfl
@[simp] theorem State.modFire_eccNew (s : State) (g : Fire → Fire) : (s.modFire g).eccNew = s.eccNew := rfl
@[simp] theorem State.modFire_sessions (s : State) (g : Fire → Fire) : (s.modFire g).sessions = s.sessions := rfl
@[simp] theorem State.modFire_halfOpen (s : State) (g : Fire → Fire) : (s.modFire g).halfOpen = s.halfOpen := rfl
@[simp] theorem State.modFire_openTimes (s : State) (g : Fire → Fire) : (s.modFire g).openTimes = s.openTimes := rfl
@[simp] theorem State.modFire_nextSid (s : State) (g : Fire → Fire) : (s.modFire g).nextSid = s.nextSid := rfl
@[simp] theorem State.modFire_nextSubId (s : State) (g : Fire → Fire) : (s.modFire g).nextSubId = s.nextSubId := rfl
@[simp] theorem State.modFire_subs (s : State) (g : Fire → Fire) : (s.modFire g).subs = s.subs := rfl
@[simp] theorem State.modFire_tb (s : State) (g : Fire → Fire) : (s.modFire g).tb = s.tb := rfl
@[simp] theorem State.modFire_timeStepped (s : State) (g : Fire → Fire) : (s.modFire g).timeStepped = s.timeStepped := rfl
@[simp] theorem State.modFire_cal (s : State) (g : Fire → Fire) : (s.modFire g).cal = s.cal := rfl
@[simp] theorem State.modFire_seqr (s : State) (g : Fire → Fire) : (s.modFire g).seqr = s.seqr := rfl
@[simp] theorem State.modFire_slotCommit (s : State) (g : Fire → Fire) : (s.modFire g).slotCommit = s.slotCommit := rfl
@[simp] theorem State.modFire_doneQ (s : State) (g : Fire → Fire) : (s.modFire g).doneQ = s.doneQ := rfl
@[simp] theorem State.modFire_snapUnread (s : State) (g : Fire → Fire) : (s.modFire g).snapUnread = s.snapUnread := rfl
@[simp] theorem State.modFire_slotUnresolved (s : State) (g : Fire → Fire) : (s.modFire g).slotUnresolved = s.slotUnresolved := rfl
@[simp] theorem State.modFire_slotFired (s : State) (g : Fire → Fire) : (s.modFire g).slotFired = s.slotFired := rfl
@[simp] theorem State.modFire_slotDev (s : State) (g : Fire → Fire) : (s.modFire g).slotDev = s.slotDev := rfl
@[simp] theorem State.modFire_coilLearn (s : State) (g : Fire → Fire) : (s.modFire g).coilLearn = s.coilLearn := rfl
@[simp] theorem State.modFire_coilMram (s : State) (g : Fire → Fire) : (s.modFire g).coilMram = s.coilMram := rfl
@[simp] theorem State.modFire_coilSaveMin (s : State) (g : Fire → Fire) : (s.modFire g).coilSaveMin = s.coilSaveMin := rfl
@[simp] theorem State.modFire_pllA (s : State) (g : Fire → Fire) : (s.modFire g).pllA = s.pllA := rfl
@[simp] theorem State.modFire_pllB (s : State) (g : Fire → Fire) : (s.modFire g).pllB = s.pllB := rfl
@[simp] theorem State.modFire_tiles (s : State) (g : Fire → Fire) : (s.modFire g).tiles = s.tiles := rfl
@[simp] theorem State.modFire_appGoSafe (s : State) (g : Fire → Fire) : (s.modFire g).appGoSafe = s.appGoSafe := rfl
@[simp] theorem State.modFire_scan (s : State) (g : Fire → Fire) : (s.modFire g).scan = s.scan := rfl
@[simp] theorem State.modFire_cycles (s : State) (g : Fire → Fire) : (s.modFire g).cycles = s.cycles := rfl
@[simp] theorem State.modFire_fireShed (s : State) (g : Fire → Fire) : (s.modFire g).fireShed = s.fireShed := rfl
@[simp] theorem State.modFire_loops (s : State) (g : Fire → Fire) : (s.modFire g).loops = s.loops := rfl
@[simp] theorem State.modFire_loopTicks (s : State) (g : Fire → Fire) : (s.modFire g).loopTicks = s.loopTicks := rfl
@[simp] theorem State.modFire_loopLoad (s : State) (g : Fire → Fire) : (s.modFire g).loopLoad = s.loopLoad := rfl
@[simp] theorem State.modFire_axes (s : State) (g : Fire → Fire) : (s.modFire g).axes = s.axes := rfl
@[simp] theorem State.modFire_lines (s : State) (g : Fire → Fire) : (s.modFire g).lines = s.lines := rfl
@[simp] theorem State.modFire_grpPend (s : State) (g : Fire → Fire) : (s.modFire g).grpPend = s.grpPend := rfl
@[simp] theorem State.modFire_cars (s : State) (g : Fire → Fire) : (s.modFire g).cars = s.cars := rfl
@[simp] theorem State.modFire_calls (s : State) (g : Fire → Fire) : (s.modFire g).calls = s.calls := rfl
@[simp] theorem State.modFire_nextCall (s : State) (g : Fire → Fire) : (s.modFire g).nextCall = s.nextCall := rfl
@[simp] theorem State.modFire_saf (s : State) (g : Fire → Fire) : (s.modFire g).saf = s.saf := rfl
@[simp] theorem State.modFire_meter (s : State) (g : Fire → Fire) : (s.modFire g).meter = s.meter := rfl
@[simp] theorem State.modFire_prioArrays (s : State) (g : Fire → Fire) : (s.modFire g).prioArrays = s.prioArrays := rfl
@[simp] theorem State.modFire_refUnread (s : State) (g : Fire → Fire) : (s.modFire g).refUnread = s.refUnread := rfl
@[simp] theorem State.modFire_cfgStore (s : State) (g : Fire → Fire) : (s.modFire g).cfgStore = s.cfgStore := rfl
@[simp] theorem State.modFire_cfgPrio (s : State) (g : Fire → Fire) : (s.modFire g).cfgPrio = s.cfgPrio := rfl
@[simp] theorem State.modFire_covSubs (s : State) (g : Fire → Fire) : (s.modFire g).covSubs = s.covSubs := rfl
@[simp] theorem State.modFire_covInc (s : State) (g : Fire → Fire) : (s.modFire g).covInc = s.covInc := rfl
@[simp] theorem State.modFire_bacnetOn (s : State) (g : Fire → Fire) : (s.modFire g).bacnetOn = s.bacnetOn := rfl
@[simp] theorem State.modFire_pointWaiting (s : State) (g : Fire → Fire) : (s.modFire g).pointWaiting = s.pointWaiting := rfl
@[simp] theorem State.modFire_deliveries (s : State) (g : Fire → Fire) : (s.modFire g).deliveries = s.deliveries := rfl
@[simp] theorem State.modFire_mac (s : State) (g : Fire → Fire) : (s.modFire g).mac = s.mac := rfl
@[simp] theorem State.modFire_cans (s : State) (g : Fire → Fire) : (s.modFire g).cans = s.cans := rfl
@[simp] theorem State.modFire_handles (s : State) (g : Fire → Fire) : (s.modFire g).handles = s.handles := rfl
@[simp] theorem State.modFire_handleGens (s : State) (g : Fire → Fire) : (s.modFire g).handleGens = s.handleGens := rfl
@[simp] theorem State.modFire_handlesMram (s : State) (g : Fire → Fire) : (s.modFire g).handlesMram = s.handlesMram := rfl
@[simp] theorem State.modFire_ownerLockMram (s : State) (g : Fire → Fire) : (s.modFire g).ownerLockMram = s.ownerLockMram := rfl
@[simp] theorem State.modFire_ownedMram (s : State) (g : Fire → Fire) : (s.modFire g).ownedMram = s.ownedMram := rfl
@[simp] theorem State.modFire_attSignSec (s : State) (g : Fire → Fire) : (s.modFire g).attSignSec = s.attSignSec := rfl
@[simp] theorem State.modFire_attMacSec (s : State) (g : Fire → Fire) : (s.modFire g).attMacSec = s.attMacSec := rfl
@[simp] theorem State.modFire_twin (s : State) (g : Fire → Fire) : (s.modFire g).twin = s.twin := rfl
@[simp] theorem State.modFire_twinActiveS1 (s : State) (g : Fire → Fire) : (s.modFire g).twinActiveS1 = s.twinActiveS1 := rfl
@[simp] theorem State.modFire_twinActiveS2 (s : State) (g : Fire → Fire) : (s.modFire g).twinActiveS2 = s.twinActiveS2 := rfl
@[simp] theorem State.modFire_sideBuf (s : State) (g : Fire → Fire) : (s.modFire g).sideBuf = s.sideBuf := rfl
@[simp] theorem State.modFire_mergeWait (s : State) (g : Fire → Fire) : (s.modFire g).mergeWait = s.mergeWait := rfl
@[simp] theorem State.modFire_frzSetter (s : State) (g : Fire → Fire) : (s.modFire g).frzSetter = s.frzSetter := rfl
@[simp] theorem State.modFire_trigPend (s : State) (g : Fire → Fire) : (s.modFire g).trigPend = s.trigPend := rfl
@[simp] theorem State.modFire_recOrder (s : State) (g : Fire → Fire) : (s.modFire g).recOrder = s.recOrder := rfl
@[simp] theorem State.modFire_recTotalMram (s : State) (g : Fire → Fire) : (s.modFire g).recTotalMram = s.recTotalMram := rfl
@[simp] theorem State.modFire_opSMram (s : State) (g : Fire → Fire) : (s.modFire g).opSMram = s.opSMram := rfl
@[simp] theorem State.modFire_heldEvents (s : State) (g : Fire → Fire) : (s.modFire g).heldEvents = s.heldEvents := rfl
@[simp] theorem State.modFire_upd (s : State) (g : Fire → Fire) : (s.modFire g).upd = s.upd := rfl
@[simp] theorem State.modFire_diag (s : State) (g : Fire → Fire) : (s.modFire g).diag = s.diag := rfl

/-! ## modPwr: the supply -/

@[simp] theorem State.modPwr_pending (s : State) (g : Supply → Supply) : (s.modPwr g).pending = s.pending := rfl
@[simp] theorem State.modPwr_mem (s : State) (g : Supply → Supply) : (s.modPwr g).mem = s.mem := rfl
@[simp] theorem State.modPwr_freeCtr (s : State) (g : Supply → Supply) : (s.modPwr g).freeCtr = s.freeCtr := rfl
@[simp] theorem State.modPwr_resp (s : State) (g : Supply → Supply) : (s.modPwr g).resp = s.resp := rfl
@[simp] theorem State.modPwr_errSet (s : State) (g : Supply → Supply) : (s.modPwr g).errSet = s.errSet := rfl
@[simp] theorem State.modPwr_wire (s : State) (g : Supply → Supply) : (s.modPwr g).wire = s.wire := rfl
@[simp] theorem State.modPwr_sysHeld (s : State) (g : Supply → Supply) : (s.modPwr g).sysHeld = s.sysHeld := rfl
@[simp] theorem State.modPwr_appUp (s : State) (g : Supply → Supply) : (s.modPwr g).appUp = s.appUp := rfl
@[simp] theorem State.modPwr_roles (s : State) (g : Supply → Supply) : (s.modPwr g).roles = s.roles := rfl
@[simp] theorem State.modPwr_latches (s : State) (g : Supply → Supply) : (s.modPwr g).latches = s.latches := rfl
@[simp] theorem State.modPwr_staged (s : State) (g : Supply → Supply) : (s.modPwr g).staged = s.staged := rfl
@[simp] theorem State.modPwr_frozen (s : State) (g : Supply → Supply) : (s.modPwr g).frozen = s.frozen := rfl
@[simp] theorem State.modPwr_eccMarked (s : State) (g : Supply → Supply) : (s.modPwr g).eccMarked = s.eccMarked := rfl
@[simp] theorem State.modPwr_eccSingle (s : State) (g : Supply → Supply) : (s.modPwr g).eccSingle = s.eccSingle := rfl
@[simp] theorem State.modPwr_eccNew (s : State) (g : Supply → Supply) : (s.modPwr g).eccNew = s.eccNew := rfl
@[simp] theorem State.modPwr_sessions (s : State) (g : Supply → Supply) : (s.modPwr g).sessions = s.sessions := rfl
@[simp] theorem State.modPwr_halfOpen (s : State) (g : Supply → Supply) : (s.modPwr g).halfOpen = s.halfOpen := rfl
@[simp] theorem State.modPwr_openTimes (s : State) (g : Supply → Supply) : (s.modPwr g).openTimes = s.openTimes := rfl
@[simp] theorem State.modPwr_nextSid (s : State) (g : Supply → Supply) : (s.modPwr g).nextSid = s.nextSid := rfl
@[simp] theorem State.modPwr_nextSubId (s : State) (g : Supply → Supply) : (s.modPwr g).nextSubId = s.nextSubId := rfl
@[simp] theorem State.modPwr_subs (s : State) (g : Supply → Supply) : (s.modPwr g).subs = s.subs := rfl
@[simp] theorem State.modPwr_tb (s : State) (g : Supply → Supply) : (s.modPwr g).tb = s.tb := rfl
@[simp] theorem State.modPwr_timeStepped (s : State) (g : Supply → Supply) : (s.modPwr g).timeStepped = s.timeStepped := rfl
@[simp] theorem State.modPwr_cal (s : State) (g : Supply → Supply) : (s.modPwr g).cal = s.cal := rfl
@[simp] theorem State.modPwr_seqr (s : State) (g : Supply → Supply) : (s.modPwr g).seqr = s.seqr := rfl
@[simp] theorem State.modPwr_slotCommit (s : State) (g : Supply → Supply) : (s.modPwr g).slotCommit = s.slotCommit := rfl
@[simp] theorem State.modPwr_doneQ (s : State) (g : Supply → Supply) : (s.modPwr g).doneQ = s.doneQ := rfl
@[simp] theorem State.modPwr_snapUnread (s : State) (g : Supply → Supply) : (s.modPwr g).snapUnread = s.snapUnread := rfl
@[simp] theorem State.modPwr_slotUnresolved (s : State) (g : Supply → Supply) : (s.modPwr g).slotUnresolved = s.slotUnresolved := rfl
@[simp] theorem State.modPwr_slotFired (s : State) (g : Supply → Supply) : (s.modPwr g).slotFired = s.slotFired := rfl
@[simp] theorem State.modPwr_slotDev (s : State) (g : Supply → Supply) : (s.modPwr g).slotDev = s.slotDev := rfl
@[simp] theorem State.modPwr_coilLearn (s : State) (g : Supply → Supply) : (s.modPwr g).coilLearn = s.coilLearn := rfl
@[simp] theorem State.modPwr_coilMram (s : State) (g : Supply → Supply) : (s.modPwr g).coilMram = s.coilMram := rfl
@[simp] theorem State.modPwr_coilSaveMin (s : State) (g : Supply → Supply) : (s.modPwr g).coilSaveMin = s.coilSaveMin := rfl
@[simp] theorem State.modPwr_pllA (s : State) (g : Supply → Supply) : (s.modPwr g).pllA = s.pllA := rfl
@[simp] theorem State.modPwr_pllB (s : State) (g : Supply → Supply) : (s.modPwr g).pllB = s.pllB := rfl
@[simp] theorem State.modPwr_tiles (s : State) (g : Supply → Supply) : (s.modPwr g).tiles = s.tiles := rfl
@[simp] theorem State.modPwr_appGoSafe (s : State) (g : Supply → Supply) : (s.modPwr g).appGoSafe = s.appGoSafe := rfl
@[simp] theorem State.modPwr_scan (s : State) (g : Supply → Supply) : (s.modPwr g).scan = s.scan := rfl
@[simp] theorem State.modPwr_cycles (s : State) (g : Supply → Supply) : (s.modPwr g).cycles = s.cycles := rfl
@[simp] theorem State.modPwr_fireShed (s : State) (g : Supply → Supply) : (s.modPwr g).fireShed = s.fireShed := rfl
@[simp] theorem State.modPwr_loops (s : State) (g : Supply → Supply) : (s.modPwr g).loops = s.loops := rfl
@[simp] theorem State.modPwr_loopTicks (s : State) (g : Supply → Supply) : (s.modPwr g).loopTicks = s.loopTicks := rfl
@[simp] theorem State.modPwr_loopLoad (s : State) (g : Supply → Supply) : (s.modPwr g).loopLoad = s.loopLoad := rfl
@[simp] theorem State.modPwr_axes (s : State) (g : Supply → Supply) : (s.modPwr g).axes = s.axes := rfl
@[simp] theorem State.modPwr_lines (s : State) (g : Supply → Supply) : (s.modPwr g).lines = s.lines := rfl
@[simp] theorem State.modPwr_grpPend (s : State) (g : Supply → Supply) : (s.modPwr g).grpPend = s.grpPend := rfl
@[simp] theorem State.modPwr_cars (s : State) (g : Supply → Supply) : (s.modPwr g).cars = s.cars := rfl
@[simp] theorem State.modPwr_calls (s : State) (g : Supply → Supply) : (s.modPwr g).calls = s.calls := rfl
@[simp] theorem State.modPwr_nextCall (s : State) (g : Supply → Supply) : (s.modPwr g).nextCall = s.nextCall := rfl
@[simp] theorem State.modPwr_saf (s : State) (g : Supply → Supply) : (s.modPwr g).saf = s.saf := rfl
@[simp] theorem State.modPwr_meter (s : State) (g : Supply → Supply) : (s.modPwr g).meter = s.meter := rfl
@[simp] theorem State.modPwr_prioArrays (s : State) (g : Supply → Supply) : (s.modPwr g).prioArrays = s.prioArrays := rfl
@[simp] theorem State.modPwr_refUnread (s : State) (g : Supply → Supply) : (s.modPwr g).refUnread = s.refUnread := rfl
@[simp] theorem State.modPwr_cfgStore (s : State) (g : Supply → Supply) : (s.modPwr g).cfgStore = s.cfgStore := rfl
@[simp] theorem State.modPwr_cfgPrio (s : State) (g : Supply → Supply) : (s.modPwr g).cfgPrio = s.cfgPrio := rfl
@[simp] theorem State.modPwr_covSubs (s : State) (g : Supply → Supply) : (s.modPwr g).covSubs = s.covSubs := rfl
@[simp] theorem State.modPwr_covInc (s : State) (g : Supply → Supply) : (s.modPwr g).covInc = s.covInc := rfl
@[simp] theorem State.modPwr_bacnetOn (s : State) (g : Supply → Supply) : (s.modPwr g).bacnetOn = s.bacnetOn := rfl
@[simp] theorem State.modPwr_pointWaiting (s : State) (g : Supply → Supply) : (s.modPwr g).pointWaiting = s.pointWaiting := rfl
@[simp] theorem State.modPwr_deliveries (s : State) (g : Supply → Supply) : (s.modPwr g).deliveries = s.deliveries := rfl
@[simp] theorem State.modPwr_mac (s : State) (g : Supply → Supply) : (s.modPwr g).mac = s.mac := rfl
@[simp] theorem State.modPwr_cans (s : State) (g : Supply → Supply) : (s.modPwr g).cans = s.cans := rfl
@[simp] theorem State.modPwr_handles (s : State) (g : Supply → Supply) : (s.modPwr g).handles = s.handles := rfl
@[simp] theorem State.modPwr_handleGens (s : State) (g : Supply → Supply) : (s.modPwr g).handleGens = s.handleGens := rfl
@[simp] theorem State.modPwr_handlesMram (s : State) (g : Supply → Supply) : (s.modPwr g).handlesMram = s.handlesMram := rfl
@[simp] theorem State.modPwr_ownerLockMram (s : State) (g : Supply → Supply) : (s.modPwr g).ownerLockMram = s.ownerLockMram := rfl
@[simp] theorem State.modPwr_ownedMram (s : State) (g : Supply → Supply) : (s.modPwr g).ownedMram = s.ownedMram := rfl
@[simp] theorem State.modPwr_attSignSec (s : State) (g : Supply → Supply) : (s.modPwr g).attSignSec = s.attSignSec := rfl
@[simp] theorem State.modPwr_attMacSec (s : State) (g : Supply → Supply) : (s.modPwr g).attMacSec = s.attMacSec := rfl
@[simp] theorem State.modPwr_twin (s : State) (g : Supply → Supply) : (s.modPwr g).twin = s.twin := rfl
@[simp] theorem State.modPwr_twinActiveS1 (s : State) (g : Supply → Supply) : (s.modPwr g).twinActiveS1 = s.twinActiveS1 := rfl
@[simp] theorem State.modPwr_twinActiveS2 (s : State) (g : Supply → Supply) : (s.modPwr g).twinActiveS2 = s.twinActiveS2 := rfl
@[simp] theorem State.modPwr_sideBuf (s : State) (g : Supply → Supply) : (s.modPwr g).sideBuf = s.sideBuf := rfl
@[simp] theorem State.modPwr_mergeWait (s : State) (g : Supply → Supply) : (s.modPwr g).mergeWait = s.mergeWait := rfl
@[simp] theorem State.modPwr_frzSetter (s : State) (g : Supply → Supply) : (s.modPwr g).frzSetter = s.frzSetter := rfl
@[simp] theorem State.modPwr_trigPend (s : State) (g : Supply → Supply) : (s.modPwr g).trigPend = s.trigPend := rfl
@[simp] theorem State.modPwr_recOrder (s : State) (g : Supply → Supply) : (s.modPwr g).recOrder = s.recOrder := rfl
@[simp] theorem State.modPwr_recTotalMram (s : State) (g : Supply → Supply) : (s.modPwr g).recTotalMram = s.recTotalMram := rfl
@[simp] theorem State.modPwr_opSMram (s : State) (g : Supply → Supply) : (s.modPwr g).opSMram = s.opSMram := rfl
@[simp] theorem State.modPwr_heldEvents (s : State) (g : Supply → Supply) : (s.modPwr g).heldEvents = s.heldEvents := rfl
@[simp] theorem State.modPwr_upd (s : State) (g : Supply → Supply) : (s.modPwr g).upd = s.upd := rfl
@[simp] theorem State.modPwr_diag (s : State) (g : Supply → Supply) : (s.modPwr g).diag = s.diag := rfl
@[simp] theorem State.modPwr_fire (s : State) (g : Supply → Supply) : (s.modPwr g).fire = s.fire := rfl

/-! ## modCar: a car -/

@[simp] theorem State.modCar_pending (s : State) (n : Nat) (g : Car → Car) : (s.modCar n g).pending = s.pending := rfl
@[simp] theorem State.modCar_mem (s : State) (n : Nat) (g : Car → Car) : (s.modCar n g).mem = s.mem := rfl
@[simp] theorem State.modCar_freeCtr (s : State) (n : Nat) (g : Car → Car) : (s.modCar n g).freeCtr = s.freeCtr := rfl
@[simp] theorem State.modCar_resp (s : State) (n : Nat) (g : Car → Car) : (s.modCar n g).resp = s.resp := rfl
@[simp] theorem State.modCar_errSet (s : State) (n : Nat) (g : Car → Car) : (s.modCar n g).errSet = s.errSet := rfl
@[simp] theorem State.modCar_wire (s : State) (n : Nat) (g : Car → Car) : (s.modCar n g).wire = s.wire := rfl
@[simp] theorem State.modCar_sysHeld (s : State) (n : Nat) (g : Car → Car) : (s.modCar n g).sysHeld = s.sysHeld := rfl
@[simp] theorem State.modCar_appUp (s : State) (n : Nat) (g : Car → Car) : (s.modCar n g).appUp = s.appUp := rfl
@[simp] theorem State.modCar_roles (s : State) (n : Nat) (g : Car → Car) : (s.modCar n g).roles = s.roles := rfl
@[simp] theorem State.modCar_pwr (s : State) (n : Nat) (g : Car → Car) : (s.modCar n g).pwr = s.pwr := rfl
@[simp] theorem State.modCar_latches (s : State) (n : Nat) (g : Car → Car) : (s.modCar n g).latches = s.latches := rfl
@[simp] theorem State.modCar_staged (s : State) (n : Nat) (g : Car → Car) : (s.modCar n g).staged = s.staged := rfl
@[simp] theorem State.modCar_frozen (s : State) (n : Nat) (g : Car → Car) : (s.modCar n g).frozen = s.frozen := rfl
@[simp] theorem State.modCar_eccMarked (s : State) (n : Nat) (g : Car → Car) : (s.modCar n g).eccMarked = s.eccMarked := rfl
@[simp] theorem State.modCar_eccSingle (s : State) (n : Nat) (g : Car → Car) : (s.modCar n g).eccSingle = s.eccSingle := rfl
@[simp] theorem State.modCar_eccNew (s : State) (n : Nat) (g : Car → Car) : (s.modCar n g).eccNew = s.eccNew := rfl
@[simp] theorem State.modCar_sessions (s : State) (n : Nat) (g : Car → Car) : (s.modCar n g).sessions = s.sessions := rfl
@[simp] theorem State.modCar_halfOpen (s : State) (n : Nat) (g : Car → Car) : (s.modCar n g).halfOpen = s.halfOpen := rfl
@[simp] theorem State.modCar_openTimes (s : State) (n : Nat) (g : Car → Car) : (s.modCar n g).openTimes = s.openTimes := rfl
@[simp] theorem State.modCar_nextSid (s : State) (n : Nat) (g : Car → Car) : (s.modCar n g).nextSid = s.nextSid := rfl
@[simp] theorem State.modCar_nextSubId (s : State) (n : Nat) (g : Car → Car) : (s.modCar n g).nextSubId = s.nextSubId := rfl
@[simp] theorem State.modCar_subs (s : State) (n : Nat) (g : Car → Car) : (s.modCar n g).subs = s.subs := rfl
@[simp] theorem State.modCar_tb (s : State) (n : Nat) (g : Car → Car) : (s.modCar n g).tb = s.tb := rfl
@[simp] theorem State.modCar_timeStepped (s : State) (n : Nat) (g : Car → Car) : (s.modCar n g).timeStepped = s.timeStepped := rfl
@[simp] theorem State.modCar_cal (s : State) (n : Nat) (g : Car → Car) : (s.modCar n g).cal = s.cal := rfl
@[simp] theorem State.modCar_seqr (s : State) (n : Nat) (g : Car → Car) : (s.modCar n g).seqr = s.seqr := rfl
@[simp] theorem State.modCar_slotCommit (s : State) (n : Nat) (g : Car → Car) : (s.modCar n g).slotCommit = s.slotCommit := rfl
@[simp] theorem State.modCar_doneQ (s : State) (n : Nat) (g : Car → Car) : (s.modCar n g).doneQ = s.doneQ := rfl
@[simp] theorem State.modCar_snapUnread (s : State) (n : Nat) (g : Car → Car) : (s.modCar n g).snapUnread = s.snapUnread := rfl
@[simp] theorem State.modCar_slotUnresolved (s : State) (n : Nat) (g : Car → Car) : (s.modCar n g).slotUnresolved = s.slotUnresolved := rfl
@[simp] theorem State.modCar_slotFired (s : State) (n : Nat) (g : Car → Car) : (s.modCar n g).slotFired = s.slotFired := rfl
@[simp] theorem State.modCar_slotDev (s : State) (n : Nat) (g : Car → Car) : (s.modCar n g).slotDev = s.slotDev := rfl
@[simp] theorem State.modCar_coilLearn (s : State) (n : Nat) (g : Car → Car) : (s.modCar n g).coilLearn = s.coilLearn := rfl
@[simp] theorem State.modCar_coilMram (s : State) (n : Nat) (g : Car → Car) : (s.modCar n g).coilMram = s.coilMram := rfl
@[simp] theorem State.modCar_coilSaveMin (s : State) (n : Nat) (g : Car → Car) : (s.modCar n g).coilSaveMin = s.coilSaveMin := rfl
@[simp] theorem State.modCar_pllA (s : State) (n : Nat) (g : Car → Car) : (s.modCar n g).pllA = s.pllA := rfl
@[simp] theorem State.modCar_pllB (s : State) (n : Nat) (g : Car → Car) : (s.modCar n g).pllB = s.pllB := rfl
@[simp] theorem State.modCar_tiles (s : State) (n : Nat) (g : Car → Car) : (s.modCar n g).tiles = s.tiles := rfl
@[simp] theorem State.modCar_appGoSafe (s : State) (n : Nat) (g : Car → Car) : (s.modCar n g).appGoSafe = s.appGoSafe := rfl
@[simp] theorem State.modCar_scan (s : State) (n : Nat) (g : Car → Car) : (s.modCar n g).scan = s.scan := rfl
@[simp] theorem State.modCar_cycles (s : State) (n : Nat) (g : Car → Car) : (s.modCar n g).cycles = s.cycles := rfl
@[simp] theorem State.modCar_fireShed (s : State) (n : Nat) (g : Car → Car) : (s.modCar n g).fireShed = s.fireShed := rfl
@[simp] theorem State.modCar_loops (s : State) (n : Nat) (g : Car → Car) : (s.modCar n g).loops = s.loops := rfl
@[simp] theorem State.modCar_loopTicks (s : State) (n : Nat) (g : Car → Car) : (s.modCar n g).loopTicks = s.loopTicks := rfl
@[simp] theorem State.modCar_loopLoad (s : State) (n : Nat) (g : Car → Car) : (s.modCar n g).loopLoad = s.loopLoad := rfl
@[simp] theorem State.modCar_axes (s : State) (n : Nat) (g : Car → Car) : (s.modCar n g).axes = s.axes := rfl
@[simp] theorem State.modCar_lines (s : State) (n : Nat) (g : Car → Car) : (s.modCar n g).lines = s.lines := rfl
@[simp] theorem State.modCar_grpPend (s : State) (n : Nat) (g : Car → Car) : (s.modCar n g).grpPend = s.grpPend := rfl
@[simp] theorem State.modCar_calls (s : State) (n : Nat) (g : Car → Car) : (s.modCar n g).calls = s.calls := rfl
@[simp] theorem State.modCar_nextCall (s : State) (n : Nat) (g : Car → Car) : (s.modCar n g).nextCall = s.nextCall := rfl
@[simp] theorem State.modCar_saf (s : State) (n : Nat) (g : Car → Car) : (s.modCar n g).saf = s.saf := rfl
@[simp] theorem State.modCar_meter (s : State) (n : Nat) (g : Car → Car) : (s.modCar n g).meter = s.meter := rfl
@[simp] theorem State.modCar_prioArrays (s : State) (n : Nat) (g : Car → Car) : (s.modCar n g).prioArrays = s.prioArrays := rfl
@[simp] theorem State.modCar_refUnread (s : State) (n : Nat) (g : Car → Car) : (s.modCar n g).refUnread = s.refUnread := rfl
@[simp] theorem State.modCar_cfgStore (s : State) (n : Nat) (g : Car → Car) : (s.modCar n g).cfgStore = s.cfgStore := rfl
@[simp] theorem State.modCar_cfgPrio (s : State) (n : Nat) (g : Car → Car) : (s.modCar n g).cfgPrio = s.cfgPrio := rfl
@[simp] theorem State.modCar_covSubs (s : State) (n : Nat) (g : Car → Car) : (s.modCar n g).covSubs = s.covSubs := rfl
@[simp] theorem State.modCar_covInc (s : State) (n : Nat) (g : Car → Car) : (s.modCar n g).covInc = s.covInc := rfl
@[simp] theorem State.modCar_bacnetOn (s : State) (n : Nat) (g : Car → Car) : (s.modCar n g).bacnetOn = s.bacnetOn := rfl
@[simp] theorem State.modCar_pointWaiting (s : State) (n : Nat) (g : Car → Car) : (s.modCar n g).pointWaiting = s.pointWaiting := rfl
@[simp] theorem State.modCar_deliveries (s : State) (n : Nat) (g : Car → Car) : (s.modCar n g).deliveries = s.deliveries := rfl
@[simp] theorem State.modCar_mac (s : State) (n : Nat) (g : Car → Car) : (s.modCar n g).mac = s.mac := rfl
@[simp] theorem State.modCar_cans (s : State) (n : Nat) (g : Car → Car) : (s.modCar n g).cans = s.cans := rfl
@[simp] theorem State.modCar_handles (s : State) (n : Nat) (g : Car → Car) : (s.modCar n g).handles = s.handles := rfl
@[simp] theorem State.modCar_handleGens (s : State) (n : Nat) (g : Car → Car) : (s.modCar n g).handleGens = s.handleGens := rfl
@[simp] theorem State.modCar_handlesMram (s : State) (n : Nat) (g : Car → Car) : (s.modCar n g).handlesMram = s.handlesMram := rfl
@[simp] theorem State.modCar_ownerLockMram (s : State) (n : Nat) (g : Car → Car) : (s.modCar n g).ownerLockMram = s.ownerLockMram := rfl
@[simp] theorem State.modCar_ownedMram (s : State) (n : Nat) (g : Car → Car) : (s.modCar n g).ownedMram = s.ownedMram := rfl
@[simp] theorem State.modCar_attSignSec (s : State) (n : Nat) (g : Car → Car) : (s.modCar n g).attSignSec = s.attSignSec := rfl
@[simp] theorem State.modCar_attMacSec (s : State) (n : Nat) (g : Car → Car) : (s.modCar n g).attMacSec = s.attMacSec := rfl
@[simp] theorem State.modCar_twin (s : State) (n : Nat) (g : Car → Car) : (s.modCar n g).twin = s.twin := rfl
@[simp] theorem State.modCar_twinActiveS1 (s : State) (n : Nat) (g : Car → Car) : (s.modCar n g).twinActiveS1 = s.twinActiveS1 := rfl
@[simp] theorem State.modCar_twinActiveS2 (s : State) (n : Nat) (g : Car → Car) : (s.modCar n g).twinActiveS2 = s.twinActiveS2 := rfl
@[simp] theorem State.modCar_sideBuf (s : State) (n : Nat) (g : Car → Car) : (s.modCar n g).sideBuf = s.sideBuf := rfl
@[simp] theorem State.modCar_mergeWait (s : State) (n : Nat) (g : Car → Car) : (s.modCar n g).mergeWait = s.mergeWait := rfl
@[simp] theorem State.modCar_frzSetter (s : State) (n : Nat) (g : Car → Car) : (s.modCar n g).frzSetter = s.frzSetter := rfl
@[simp] theorem State.modCar_trigPend (s : State) (n : Nat) (g : Car → Car) : (s.modCar n g).trigPend = s.trigPend := rfl
@[simp] theorem State.modCar_recOrder (s : State) (n : Nat) (g : Car → Car) : (s.modCar n g).recOrder = s.recOrder := rfl
@[simp] theorem State.modCar_recTotalMram (s : State) (n : Nat) (g : Car → Car) : (s.modCar n g).recTotalMram = s.recTotalMram := rfl
@[simp] theorem State.modCar_opSMram (s : State) (n : Nat) (g : Car → Car) : (s.modCar n g).opSMram = s.opSMram := rfl
@[simp] theorem State.modCar_heldEvents (s : State) (n : Nat) (g : Car → Car) : (s.modCar n g).heldEvents = s.heldEvents := rfl
@[simp] theorem State.modCar_upd (s : State) (n : Nat) (g : Car → Car) : (s.modCar n g).upd = s.upd := rfl
@[simp] theorem State.modCar_diag (s : State) (n : Nat) (g : Car → Car) : (s.modCar n g).diag = s.diag := rfl
@[simp] theorem State.modCar_fire (s : State) (n : Nat) (g : Car → Car) : (s.modCar n g).fire = s.fire := rfl

/-! ## modLoop: a loop slot -/

@[simp] theorem State.modLoop_pending (s : State) (n : Nat) (g : LoopSlot → LoopSlot) : (s.modLoop n g).pending = s.pending := rfl
@[simp] theorem State.modLoop_mem (s : State) (n : Nat) (g : LoopSlot → LoopSlot) : (s.modLoop n g).mem = s.mem := rfl
@[simp] theorem State.modLoop_freeCtr (s : State) (n : Nat) (g : LoopSlot → LoopSlot) : (s.modLoop n g).freeCtr = s.freeCtr := rfl
@[simp] theorem State.modLoop_resp (s : State) (n : Nat) (g : LoopSlot → LoopSlot) : (s.modLoop n g).resp = s.resp := rfl
@[simp] theorem State.modLoop_errSet (s : State) (n : Nat) (g : LoopSlot → LoopSlot) : (s.modLoop n g).errSet = s.errSet := rfl
@[simp] theorem State.modLoop_wire (s : State) (n : Nat) (g : LoopSlot → LoopSlot) : (s.modLoop n g).wire = s.wire := rfl
@[simp] theorem State.modLoop_sysHeld (s : State) (n : Nat) (g : LoopSlot → LoopSlot) : (s.modLoop n g).sysHeld = s.sysHeld := rfl
@[simp] theorem State.modLoop_appUp (s : State) (n : Nat) (g : LoopSlot → LoopSlot) : (s.modLoop n g).appUp = s.appUp := rfl
@[simp] theorem State.modLoop_roles (s : State) (n : Nat) (g : LoopSlot → LoopSlot) : (s.modLoop n g).roles = s.roles := rfl
@[simp] theorem State.modLoop_pwr (s : State) (n : Nat) (g : LoopSlot → LoopSlot) : (s.modLoop n g).pwr = s.pwr := rfl
@[simp] theorem State.modLoop_latches (s : State) (n : Nat) (g : LoopSlot → LoopSlot) : (s.modLoop n g).latches = s.latches := rfl
@[simp] theorem State.modLoop_staged (s : State) (n : Nat) (g : LoopSlot → LoopSlot) : (s.modLoop n g).staged = s.staged := rfl
@[simp] theorem State.modLoop_frozen (s : State) (n : Nat) (g : LoopSlot → LoopSlot) : (s.modLoop n g).frozen = s.frozen := rfl
@[simp] theorem State.modLoop_eccMarked (s : State) (n : Nat) (g : LoopSlot → LoopSlot) : (s.modLoop n g).eccMarked = s.eccMarked := rfl
@[simp] theorem State.modLoop_eccSingle (s : State) (n : Nat) (g : LoopSlot → LoopSlot) : (s.modLoop n g).eccSingle = s.eccSingle := rfl
@[simp] theorem State.modLoop_eccNew (s : State) (n : Nat) (g : LoopSlot → LoopSlot) : (s.modLoop n g).eccNew = s.eccNew := rfl
@[simp] theorem State.modLoop_sessions (s : State) (n : Nat) (g : LoopSlot → LoopSlot) : (s.modLoop n g).sessions = s.sessions := rfl
@[simp] theorem State.modLoop_halfOpen (s : State) (n : Nat) (g : LoopSlot → LoopSlot) : (s.modLoop n g).halfOpen = s.halfOpen := rfl
@[simp] theorem State.modLoop_openTimes (s : State) (n : Nat) (g : LoopSlot → LoopSlot) : (s.modLoop n g).openTimes = s.openTimes := rfl
@[simp] theorem State.modLoop_nextSid (s : State) (n : Nat) (g : LoopSlot → LoopSlot) : (s.modLoop n g).nextSid = s.nextSid := rfl
@[simp] theorem State.modLoop_nextSubId (s : State) (n : Nat) (g : LoopSlot → LoopSlot) : (s.modLoop n g).nextSubId = s.nextSubId := rfl
@[simp] theorem State.modLoop_subs (s : State) (n : Nat) (g : LoopSlot → LoopSlot) : (s.modLoop n g).subs = s.subs := rfl
@[simp] theorem State.modLoop_tb (s : State) (n : Nat) (g : LoopSlot → LoopSlot) : (s.modLoop n g).tb = s.tb := rfl
@[simp] theorem State.modLoop_timeStepped (s : State) (n : Nat) (g : LoopSlot → LoopSlot) : (s.modLoop n g).timeStepped = s.timeStepped := rfl
@[simp] theorem State.modLoop_cal (s : State) (n : Nat) (g : LoopSlot → LoopSlot) : (s.modLoop n g).cal = s.cal := rfl
@[simp] theorem State.modLoop_seqr (s : State) (n : Nat) (g : LoopSlot → LoopSlot) : (s.modLoop n g).seqr = s.seqr := rfl
@[simp] theorem State.modLoop_slotCommit (s : State) (n : Nat) (g : LoopSlot → LoopSlot) : (s.modLoop n g).slotCommit = s.slotCommit := rfl
@[simp] theorem State.modLoop_doneQ (s : State) (n : Nat) (g : LoopSlot → LoopSlot) : (s.modLoop n g).doneQ = s.doneQ := rfl
@[simp] theorem State.modLoop_snapUnread (s : State) (n : Nat) (g : LoopSlot → LoopSlot) : (s.modLoop n g).snapUnread = s.snapUnread := rfl
@[simp] theorem State.modLoop_slotUnresolved (s : State) (n : Nat) (g : LoopSlot → LoopSlot) : (s.modLoop n g).slotUnresolved = s.slotUnresolved := rfl
@[simp] theorem State.modLoop_slotFired (s : State) (n : Nat) (g : LoopSlot → LoopSlot) : (s.modLoop n g).slotFired = s.slotFired := rfl
@[simp] theorem State.modLoop_slotDev (s : State) (n : Nat) (g : LoopSlot → LoopSlot) : (s.modLoop n g).slotDev = s.slotDev := rfl
@[simp] theorem State.modLoop_coilLearn (s : State) (n : Nat) (g : LoopSlot → LoopSlot) : (s.modLoop n g).coilLearn = s.coilLearn := rfl
@[simp] theorem State.modLoop_coilMram (s : State) (n : Nat) (g : LoopSlot → LoopSlot) : (s.modLoop n g).coilMram = s.coilMram := rfl
@[simp] theorem State.modLoop_coilSaveMin (s : State) (n : Nat) (g : LoopSlot → LoopSlot) : (s.modLoop n g).coilSaveMin = s.coilSaveMin := rfl
@[simp] theorem State.modLoop_pllA (s : State) (n : Nat) (g : LoopSlot → LoopSlot) : (s.modLoop n g).pllA = s.pllA := rfl
@[simp] theorem State.modLoop_pllB (s : State) (n : Nat) (g : LoopSlot → LoopSlot) : (s.modLoop n g).pllB = s.pllB := rfl
@[simp] theorem State.modLoop_tiles (s : State) (n : Nat) (g : LoopSlot → LoopSlot) : (s.modLoop n g).tiles = s.tiles := rfl
@[simp] theorem State.modLoop_appGoSafe (s : State) (n : Nat) (g : LoopSlot → LoopSlot) : (s.modLoop n g).appGoSafe = s.appGoSafe := rfl
@[simp] theorem State.modLoop_scan (s : State) (n : Nat) (g : LoopSlot → LoopSlot) : (s.modLoop n g).scan = s.scan := rfl
@[simp] theorem State.modLoop_cycles (s : State) (n : Nat) (g : LoopSlot → LoopSlot) : (s.modLoop n g).cycles = s.cycles := rfl
@[simp] theorem State.modLoop_fireShed (s : State) (n : Nat) (g : LoopSlot → LoopSlot) : (s.modLoop n g).fireShed = s.fireShed := rfl
@[simp] theorem State.modLoop_loopTicks (s : State) (n : Nat) (g : LoopSlot → LoopSlot) : (s.modLoop n g).loopTicks = s.loopTicks := rfl
@[simp] theorem State.modLoop_loopLoad (s : State) (n : Nat) (g : LoopSlot → LoopSlot) : (s.modLoop n g).loopLoad = s.loopLoad := rfl
@[simp] theorem State.modLoop_axes (s : State) (n : Nat) (g : LoopSlot → LoopSlot) : (s.modLoop n g).axes = s.axes := rfl
@[simp] theorem State.modLoop_lines (s : State) (n : Nat) (g : LoopSlot → LoopSlot) : (s.modLoop n g).lines = s.lines := rfl
@[simp] theorem State.modLoop_grpPend (s : State) (n : Nat) (g : LoopSlot → LoopSlot) : (s.modLoop n g).grpPend = s.grpPend := rfl
@[simp] theorem State.modLoop_cars (s : State) (n : Nat) (g : LoopSlot → LoopSlot) : (s.modLoop n g).cars = s.cars := rfl
@[simp] theorem State.modLoop_calls (s : State) (n : Nat) (g : LoopSlot → LoopSlot) : (s.modLoop n g).calls = s.calls := rfl
@[simp] theorem State.modLoop_nextCall (s : State) (n : Nat) (g : LoopSlot → LoopSlot) : (s.modLoop n g).nextCall = s.nextCall := rfl
@[simp] theorem State.modLoop_saf (s : State) (n : Nat) (g : LoopSlot → LoopSlot) : (s.modLoop n g).saf = s.saf := rfl
@[simp] theorem State.modLoop_meter (s : State) (n : Nat) (g : LoopSlot → LoopSlot) : (s.modLoop n g).meter = s.meter := rfl
@[simp] theorem State.modLoop_prioArrays (s : State) (n : Nat) (g : LoopSlot → LoopSlot) : (s.modLoop n g).prioArrays = s.prioArrays := rfl
@[simp] theorem State.modLoop_refUnread (s : State) (n : Nat) (g : LoopSlot → LoopSlot) : (s.modLoop n g).refUnread = s.refUnread := rfl
@[simp] theorem State.modLoop_cfgStore (s : State) (n : Nat) (g : LoopSlot → LoopSlot) : (s.modLoop n g).cfgStore = s.cfgStore := rfl
@[simp] theorem State.modLoop_cfgPrio (s : State) (n : Nat) (g : LoopSlot → LoopSlot) : (s.modLoop n g).cfgPrio = s.cfgPrio := rfl
@[simp] theorem State.modLoop_covSubs (s : State) (n : Nat) (g : LoopSlot → LoopSlot) : (s.modLoop n g).covSubs = s.covSubs := rfl
@[simp] theorem State.modLoop_covInc (s : State) (n : Nat) (g : LoopSlot → LoopSlot) : (s.modLoop n g).covInc = s.covInc := rfl
@[simp] theorem State.modLoop_bacnetOn (s : State) (n : Nat) (g : LoopSlot → LoopSlot) : (s.modLoop n g).bacnetOn = s.bacnetOn := rfl
@[simp] theorem State.modLoop_pointWaiting (s : State) (n : Nat) (g : LoopSlot → LoopSlot) : (s.modLoop n g).pointWaiting = s.pointWaiting := rfl
@[simp] theorem State.modLoop_deliveries (s : State) (n : Nat) (g : LoopSlot → LoopSlot) : (s.modLoop n g).deliveries = s.deliveries := rfl
@[simp] theorem State.modLoop_mac (s : State) (n : Nat) (g : LoopSlot → LoopSlot) : (s.modLoop n g).mac = s.mac := rfl
@[simp] theorem State.modLoop_cans (s : State) (n : Nat) (g : LoopSlot → LoopSlot) : (s.modLoop n g).cans = s.cans := rfl
@[simp] theorem State.modLoop_handles (s : State) (n : Nat) (g : LoopSlot → LoopSlot) : (s.modLoop n g).handles = s.handles := rfl
@[simp] theorem State.modLoop_handleGens (s : State) (n : Nat) (g : LoopSlot → LoopSlot) : (s.modLoop n g).handleGens = s.handleGens := rfl
@[simp] theorem State.modLoop_handlesMram (s : State) (n : Nat) (g : LoopSlot → LoopSlot) : (s.modLoop n g).handlesMram = s.handlesMram := rfl
@[simp] theorem State.modLoop_ownerLockMram (s : State) (n : Nat) (g : LoopSlot → LoopSlot) : (s.modLoop n g).ownerLockMram = s.ownerLockMram := rfl
@[simp] theorem State.modLoop_ownedMram (s : State) (n : Nat) (g : LoopSlot → LoopSlot) : (s.modLoop n g).ownedMram = s.ownedMram := rfl
@[simp] theorem State.modLoop_attSignSec (s : State) (n : Nat) (g : LoopSlot → LoopSlot) : (s.modLoop n g).attSignSec = s.attSignSec := rfl
@[simp] theorem State.modLoop_attMacSec (s : State) (n : Nat) (g : LoopSlot → LoopSlot) : (s.modLoop n g).attMacSec = s.attMacSec := rfl
@[simp] theorem State.modLoop_twin (s : State) (n : Nat) (g : LoopSlot → LoopSlot) : (s.modLoop n g).twin = s.twin := rfl
@[simp] theorem State.modLoop_twinActiveS1 (s : State) (n : Nat) (g : LoopSlot → LoopSlot) : (s.modLoop n g).twinActiveS1 = s.twinActiveS1 := rfl
@[simp] theorem State.modLoop_twinActiveS2 (s : State) (n : Nat) (g : LoopSlot → LoopSlot) : (s.modLoop n g).twinActiveS2 = s.twinActiveS2 := rfl
@[simp] theorem State.modLoop_sideBuf (s : State) (n : Nat) (g : LoopSlot → LoopSlot) : (s.modLoop n g).sideBuf = s.sideBuf := rfl
@[simp] theorem State.modLoop_mergeWait (s : State) (n : Nat) (g : LoopSlot → LoopSlot) : (s.modLoop n g).mergeWait = s.mergeWait := rfl
@[simp] theorem State.modLoop_frzSetter (s : State) (n : Nat) (g : LoopSlot → LoopSlot) : (s.modLoop n g).frzSetter = s.frzSetter := rfl
@[simp] theorem State.modLoop_trigPend (s : State) (n : Nat) (g : LoopSlot → LoopSlot) : (s.modLoop n g).trigPend = s.trigPend := rfl
@[simp] theorem State.modLoop_recOrder (s : State) (n : Nat) (g : LoopSlot → LoopSlot) : (s.modLoop n g).recOrder = s.recOrder := rfl
@[simp] theorem State.modLoop_recTotalMram (s : State) (n : Nat) (g : LoopSlot → LoopSlot) : (s.modLoop n g).recTotalMram = s.recTotalMram := rfl
@[simp] theorem State.modLoop_opSMram (s : State) (n : Nat) (g : LoopSlot → LoopSlot) : (s.modLoop n g).opSMram = s.opSMram := rfl
@[simp] theorem State.modLoop_heldEvents (s : State) (n : Nat) (g : LoopSlot → LoopSlot) : (s.modLoop n g).heldEvents = s.heldEvents := rfl
@[simp] theorem State.modLoop_upd (s : State) (n : Nat) (g : LoopSlot → LoopSlot) : (s.modLoop n g).upd = s.upd := rfl
@[simp] theorem State.modLoop_diag (s : State) (n : Nat) (g : LoopSlot → LoopSlot) : (s.modLoop n g).diag = s.diag := rfl
@[simp] theorem State.modLoop_fire (s : State) (n : Nat) (g : LoopSlot → LoopSlot) : (s.modLoop n g).fire = s.fire := rfl

/-! ## modAxis: an axis -/

@[simp] theorem State.modAxis_pending (s : State) (n : Nat) (g : Axis → Axis) : (s.modAxis n g).pending = s.pending := rfl
@[simp] theorem State.modAxis_mem (s : State) (n : Nat) (g : Axis → Axis) : (s.modAxis n g).mem = s.mem := rfl
@[simp] theorem State.modAxis_freeCtr (s : State) (n : Nat) (g : Axis → Axis) : (s.modAxis n g).freeCtr = s.freeCtr := rfl
@[simp] theorem State.modAxis_resp (s : State) (n : Nat) (g : Axis → Axis) : (s.modAxis n g).resp = s.resp := rfl
@[simp] theorem State.modAxis_errSet (s : State) (n : Nat) (g : Axis → Axis) : (s.modAxis n g).errSet = s.errSet := rfl
@[simp] theorem State.modAxis_wire (s : State) (n : Nat) (g : Axis → Axis) : (s.modAxis n g).wire = s.wire := rfl
@[simp] theorem State.modAxis_sysHeld (s : State) (n : Nat) (g : Axis → Axis) : (s.modAxis n g).sysHeld = s.sysHeld := rfl
@[simp] theorem State.modAxis_appUp (s : State) (n : Nat) (g : Axis → Axis) : (s.modAxis n g).appUp = s.appUp := rfl
@[simp] theorem State.modAxis_roles (s : State) (n : Nat) (g : Axis → Axis) : (s.modAxis n g).roles = s.roles := rfl
@[simp] theorem State.modAxis_pwr (s : State) (n : Nat) (g : Axis → Axis) : (s.modAxis n g).pwr = s.pwr := rfl
@[simp] theorem State.modAxis_latches (s : State) (n : Nat) (g : Axis → Axis) : (s.modAxis n g).latches = s.latches := rfl
@[simp] theorem State.modAxis_staged (s : State) (n : Nat) (g : Axis → Axis) : (s.modAxis n g).staged = s.staged := rfl
@[simp] theorem State.modAxis_frozen (s : State) (n : Nat) (g : Axis → Axis) : (s.modAxis n g).frozen = s.frozen := rfl
@[simp] theorem State.modAxis_eccMarked (s : State) (n : Nat) (g : Axis → Axis) : (s.modAxis n g).eccMarked = s.eccMarked := rfl
@[simp] theorem State.modAxis_eccSingle (s : State) (n : Nat) (g : Axis → Axis) : (s.modAxis n g).eccSingle = s.eccSingle := rfl
@[simp] theorem State.modAxis_eccNew (s : State) (n : Nat) (g : Axis → Axis) : (s.modAxis n g).eccNew = s.eccNew := rfl
@[simp] theorem State.modAxis_sessions (s : State) (n : Nat) (g : Axis → Axis) : (s.modAxis n g).sessions = s.sessions := rfl
@[simp] theorem State.modAxis_halfOpen (s : State) (n : Nat) (g : Axis → Axis) : (s.modAxis n g).halfOpen = s.halfOpen := rfl
@[simp] theorem State.modAxis_openTimes (s : State) (n : Nat) (g : Axis → Axis) : (s.modAxis n g).openTimes = s.openTimes := rfl
@[simp] theorem State.modAxis_nextSid (s : State) (n : Nat) (g : Axis → Axis) : (s.modAxis n g).nextSid = s.nextSid := rfl
@[simp] theorem State.modAxis_nextSubId (s : State) (n : Nat) (g : Axis → Axis) : (s.modAxis n g).nextSubId = s.nextSubId := rfl
@[simp] theorem State.modAxis_subs (s : State) (n : Nat) (g : Axis → Axis) : (s.modAxis n g).subs = s.subs := rfl
@[simp] theorem State.modAxis_tb (s : State) (n : Nat) (g : Axis → Axis) : (s.modAxis n g).tb = s.tb := rfl
@[simp] theorem State.modAxis_timeStepped (s : State) (n : Nat) (g : Axis → Axis) : (s.modAxis n g).timeStepped = s.timeStepped := rfl
@[simp] theorem State.modAxis_cal (s : State) (n : Nat) (g : Axis → Axis) : (s.modAxis n g).cal = s.cal := rfl
@[simp] theorem State.modAxis_seqr (s : State) (n : Nat) (g : Axis → Axis) : (s.modAxis n g).seqr = s.seqr := rfl
@[simp] theorem State.modAxis_slotCommit (s : State) (n : Nat) (g : Axis → Axis) : (s.modAxis n g).slotCommit = s.slotCommit := rfl
@[simp] theorem State.modAxis_doneQ (s : State) (n : Nat) (g : Axis → Axis) : (s.modAxis n g).doneQ = s.doneQ := rfl
@[simp] theorem State.modAxis_snapUnread (s : State) (n : Nat) (g : Axis → Axis) : (s.modAxis n g).snapUnread = s.snapUnread := rfl
@[simp] theorem State.modAxis_slotUnresolved (s : State) (n : Nat) (g : Axis → Axis) : (s.modAxis n g).slotUnresolved = s.slotUnresolved := rfl
@[simp] theorem State.modAxis_slotFired (s : State) (n : Nat) (g : Axis → Axis) : (s.modAxis n g).slotFired = s.slotFired := rfl
@[simp] theorem State.modAxis_slotDev (s : State) (n : Nat) (g : Axis → Axis) : (s.modAxis n g).slotDev = s.slotDev := rfl
@[simp] theorem State.modAxis_coilLearn (s : State) (n : Nat) (g : Axis → Axis) : (s.modAxis n g).coilLearn = s.coilLearn := rfl
@[simp] theorem State.modAxis_coilMram (s : State) (n : Nat) (g : Axis → Axis) : (s.modAxis n g).coilMram = s.coilMram := rfl
@[simp] theorem State.modAxis_coilSaveMin (s : State) (n : Nat) (g : Axis → Axis) : (s.modAxis n g).coilSaveMin = s.coilSaveMin := rfl
@[simp] theorem State.modAxis_pllA (s : State) (n : Nat) (g : Axis → Axis) : (s.modAxis n g).pllA = s.pllA := rfl
@[simp] theorem State.modAxis_pllB (s : State) (n : Nat) (g : Axis → Axis) : (s.modAxis n g).pllB = s.pllB := rfl
@[simp] theorem State.modAxis_tiles (s : State) (n : Nat) (g : Axis → Axis) : (s.modAxis n g).tiles = s.tiles := rfl
@[simp] theorem State.modAxis_appGoSafe (s : State) (n : Nat) (g : Axis → Axis) : (s.modAxis n g).appGoSafe = s.appGoSafe := rfl
@[simp] theorem State.modAxis_scan (s : State) (n : Nat) (g : Axis → Axis) : (s.modAxis n g).scan = s.scan := rfl
@[simp] theorem State.modAxis_cycles (s : State) (n : Nat) (g : Axis → Axis) : (s.modAxis n g).cycles = s.cycles := rfl
@[simp] theorem State.modAxis_fireShed (s : State) (n : Nat) (g : Axis → Axis) : (s.modAxis n g).fireShed = s.fireShed := rfl
@[simp] theorem State.modAxis_loops (s : State) (n : Nat) (g : Axis → Axis) : (s.modAxis n g).loops = s.loops := rfl
@[simp] theorem State.modAxis_loopTicks (s : State) (n : Nat) (g : Axis → Axis) : (s.modAxis n g).loopTicks = s.loopTicks := rfl
@[simp] theorem State.modAxis_loopLoad (s : State) (n : Nat) (g : Axis → Axis) : (s.modAxis n g).loopLoad = s.loopLoad := rfl
@[simp] theorem State.modAxis_lines (s : State) (n : Nat) (g : Axis → Axis) : (s.modAxis n g).lines = s.lines := rfl
@[simp] theorem State.modAxis_grpPend (s : State) (n : Nat) (g : Axis → Axis) : (s.modAxis n g).grpPend = s.grpPend := rfl
@[simp] theorem State.modAxis_cars (s : State) (n : Nat) (g : Axis → Axis) : (s.modAxis n g).cars = s.cars := rfl
@[simp] theorem State.modAxis_calls (s : State) (n : Nat) (g : Axis → Axis) : (s.modAxis n g).calls = s.calls := rfl
@[simp] theorem State.modAxis_nextCall (s : State) (n : Nat) (g : Axis → Axis) : (s.modAxis n g).nextCall = s.nextCall := rfl
@[simp] theorem State.modAxis_saf (s : State) (n : Nat) (g : Axis → Axis) : (s.modAxis n g).saf = s.saf := rfl
@[simp] theorem State.modAxis_meter (s : State) (n : Nat) (g : Axis → Axis) : (s.modAxis n g).meter = s.meter := rfl
@[simp] theorem State.modAxis_prioArrays (s : State) (n : Nat) (g : Axis → Axis) : (s.modAxis n g).prioArrays = s.prioArrays := rfl
@[simp] theorem State.modAxis_refUnread (s : State) (n : Nat) (g : Axis → Axis) : (s.modAxis n g).refUnread = s.refUnread := rfl
@[simp] theorem State.modAxis_cfgStore (s : State) (n : Nat) (g : Axis → Axis) : (s.modAxis n g).cfgStore = s.cfgStore := rfl
@[simp] theorem State.modAxis_cfgPrio (s : State) (n : Nat) (g : Axis → Axis) : (s.modAxis n g).cfgPrio = s.cfgPrio := rfl
@[simp] theorem State.modAxis_covSubs (s : State) (n : Nat) (g : Axis → Axis) : (s.modAxis n g).covSubs = s.covSubs := rfl
@[simp] theorem State.modAxis_covInc (s : State) (n : Nat) (g : Axis → Axis) : (s.modAxis n g).covInc = s.covInc := rfl
@[simp] theorem State.modAxis_bacnetOn (s : State) (n : Nat) (g : Axis → Axis) : (s.modAxis n g).bacnetOn = s.bacnetOn := rfl
@[simp] theorem State.modAxis_pointWaiting (s : State) (n : Nat) (g : Axis → Axis) : (s.modAxis n g).pointWaiting = s.pointWaiting := rfl
@[simp] theorem State.modAxis_deliveries (s : State) (n : Nat) (g : Axis → Axis) : (s.modAxis n g).deliveries = s.deliveries := rfl
@[simp] theorem State.modAxis_mac (s : State) (n : Nat) (g : Axis → Axis) : (s.modAxis n g).mac = s.mac := rfl
@[simp] theorem State.modAxis_cans (s : State) (n : Nat) (g : Axis → Axis) : (s.modAxis n g).cans = s.cans := rfl
@[simp] theorem State.modAxis_handles (s : State) (n : Nat) (g : Axis → Axis) : (s.modAxis n g).handles = s.handles := rfl
@[simp] theorem State.modAxis_handleGens (s : State) (n : Nat) (g : Axis → Axis) : (s.modAxis n g).handleGens = s.handleGens := rfl
@[simp] theorem State.modAxis_handlesMram (s : State) (n : Nat) (g : Axis → Axis) : (s.modAxis n g).handlesMram = s.handlesMram := rfl
@[simp] theorem State.modAxis_ownerLockMram (s : State) (n : Nat) (g : Axis → Axis) : (s.modAxis n g).ownerLockMram = s.ownerLockMram := rfl
@[simp] theorem State.modAxis_ownedMram (s : State) (n : Nat) (g : Axis → Axis) : (s.modAxis n g).ownedMram = s.ownedMram := rfl
@[simp] theorem State.modAxis_attSignSec (s : State) (n : Nat) (g : Axis → Axis) : (s.modAxis n g).attSignSec = s.attSignSec := rfl
@[simp] theorem State.modAxis_attMacSec (s : State) (n : Nat) (g : Axis → Axis) : (s.modAxis n g).attMacSec = s.attMacSec := rfl
@[simp] theorem State.modAxis_twin (s : State) (n : Nat) (g : Axis → Axis) : (s.modAxis n g).twin = s.twin := rfl
@[simp] theorem State.modAxis_twinActiveS1 (s : State) (n : Nat) (g : Axis → Axis) : (s.modAxis n g).twinActiveS1 = s.twinActiveS1 := rfl
@[simp] theorem State.modAxis_twinActiveS2 (s : State) (n : Nat) (g : Axis → Axis) : (s.modAxis n g).twinActiveS2 = s.twinActiveS2 := rfl
@[simp] theorem State.modAxis_sideBuf (s : State) (n : Nat) (g : Axis → Axis) : (s.modAxis n g).sideBuf = s.sideBuf := rfl
@[simp] theorem State.modAxis_mergeWait (s : State) (n : Nat) (g : Axis → Axis) : (s.modAxis n g).mergeWait = s.mergeWait := rfl
@[simp] theorem State.modAxis_frzSetter (s : State) (n : Nat) (g : Axis → Axis) : (s.modAxis n g).frzSetter = s.frzSetter := rfl
@[simp] theorem State.modAxis_trigPend (s : State) (n : Nat) (g : Axis → Axis) : (s.modAxis n g).trigPend = s.trigPend := rfl
@[simp] theorem State.modAxis_recOrder (s : State) (n : Nat) (g : Axis → Axis) : (s.modAxis n g).recOrder = s.recOrder := rfl
@[simp] theorem State.modAxis_recTotalMram (s : State) (n : Nat) (g : Axis → Axis) : (s.modAxis n g).recTotalMram = s.recTotalMram := rfl
@[simp] theorem State.modAxis_opSMram (s : State) (n : Nat) (g : Axis → Axis) : (s.modAxis n g).opSMram = s.opSMram := rfl
@[simp] theorem State.modAxis_heldEvents (s : State) (n : Nat) (g : Axis → Axis) : (s.modAxis n g).heldEvents = s.heldEvents := rfl
@[simp] theorem State.modAxis_upd (s : State) (n : Nat) (g : Axis → Axis) : (s.modAxis n g).upd = s.upd := rfl
@[simp] theorem State.modAxis_diag (s : State) (n : Nat) (g : Axis → Axis) : (s.modAxis n g).diag = s.diag := rfl
@[simp] theorem State.modAxis_fire (s : State) (n : Nat) (g : Axis → Axis) : (s.modAxis n g).fire = s.fire := rfl

/-! ## modCan: a CAN channel -/

@[simp] theorem State.modCan_pending (s : State) (n : Nat) (g : CanChan → CanChan) : (s.modCan n g).pending = s.pending := rfl
@[simp] theorem State.modCan_mem (s : State) (n : Nat) (g : CanChan → CanChan) : (s.modCan n g).mem = s.mem := rfl
@[simp] theorem State.modCan_freeCtr (s : State) (n : Nat) (g : CanChan → CanChan) : (s.modCan n g).freeCtr = s.freeCtr := rfl
@[simp] theorem State.modCan_resp (s : State) (n : Nat) (g : CanChan → CanChan) : (s.modCan n g).resp = s.resp := rfl
@[simp] theorem State.modCan_errSet (s : State) (n : Nat) (g : CanChan → CanChan) : (s.modCan n g).errSet = s.errSet := rfl
@[simp] theorem State.modCan_wire (s : State) (n : Nat) (g : CanChan → CanChan) : (s.modCan n g).wire = s.wire := rfl
@[simp] theorem State.modCan_sysHeld (s : State) (n : Nat) (g : CanChan → CanChan) : (s.modCan n g).sysHeld = s.sysHeld := rfl
@[simp] theorem State.modCan_appUp (s : State) (n : Nat) (g : CanChan → CanChan) : (s.modCan n g).appUp = s.appUp := rfl
@[simp] theorem State.modCan_roles (s : State) (n : Nat) (g : CanChan → CanChan) : (s.modCan n g).roles = s.roles := rfl
@[simp] theorem State.modCan_pwr (s : State) (n : Nat) (g : CanChan → CanChan) : (s.modCan n g).pwr = s.pwr := rfl
@[simp] theorem State.modCan_latches (s : State) (n : Nat) (g : CanChan → CanChan) : (s.modCan n g).latches = s.latches := rfl
@[simp] theorem State.modCan_staged (s : State) (n : Nat) (g : CanChan → CanChan) : (s.modCan n g).staged = s.staged := rfl
@[simp] theorem State.modCan_frozen (s : State) (n : Nat) (g : CanChan → CanChan) : (s.modCan n g).frozen = s.frozen := rfl
@[simp] theorem State.modCan_eccMarked (s : State) (n : Nat) (g : CanChan → CanChan) : (s.modCan n g).eccMarked = s.eccMarked := rfl
@[simp] theorem State.modCan_eccSingle (s : State) (n : Nat) (g : CanChan → CanChan) : (s.modCan n g).eccSingle = s.eccSingle := rfl
@[simp] theorem State.modCan_eccNew (s : State) (n : Nat) (g : CanChan → CanChan) : (s.modCan n g).eccNew = s.eccNew := rfl
@[simp] theorem State.modCan_sessions (s : State) (n : Nat) (g : CanChan → CanChan) : (s.modCan n g).sessions = s.sessions := rfl
@[simp] theorem State.modCan_halfOpen (s : State) (n : Nat) (g : CanChan → CanChan) : (s.modCan n g).halfOpen = s.halfOpen := rfl
@[simp] theorem State.modCan_openTimes (s : State) (n : Nat) (g : CanChan → CanChan) : (s.modCan n g).openTimes = s.openTimes := rfl
@[simp] theorem State.modCan_nextSid (s : State) (n : Nat) (g : CanChan → CanChan) : (s.modCan n g).nextSid = s.nextSid := rfl
@[simp] theorem State.modCan_nextSubId (s : State) (n : Nat) (g : CanChan → CanChan) : (s.modCan n g).nextSubId = s.nextSubId := rfl
@[simp] theorem State.modCan_subs (s : State) (n : Nat) (g : CanChan → CanChan) : (s.modCan n g).subs = s.subs := rfl
@[simp] theorem State.modCan_tb (s : State) (n : Nat) (g : CanChan → CanChan) : (s.modCan n g).tb = s.tb := rfl
@[simp] theorem State.modCan_timeStepped (s : State) (n : Nat) (g : CanChan → CanChan) : (s.modCan n g).timeStepped = s.timeStepped := rfl
@[simp] theorem State.modCan_cal (s : State) (n : Nat) (g : CanChan → CanChan) : (s.modCan n g).cal = s.cal := rfl
@[simp] theorem State.modCan_seqr (s : State) (n : Nat) (g : CanChan → CanChan) : (s.modCan n g).seqr = s.seqr := rfl
@[simp] theorem State.modCan_slotCommit (s : State) (n : Nat) (g : CanChan → CanChan) : (s.modCan n g).slotCommit = s.slotCommit := rfl
@[simp] theorem State.modCan_doneQ (s : State) (n : Nat) (g : CanChan → CanChan) : (s.modCan n g).doneQ = s.doneQ := rfl
@[simp] theorem State.modCan_snapUnread (s : State) (n : Nat) (g : CanChan → CanChan) : (s.modCan n g).snapUnread = s.snapUnread := rfl
@[simp] theorem State.modCan_slotUnresolved (s : State) (n : Nat) (g : CanChan → CanChan) : (s.modCan n g).slotUnresolved = s.slotUnresolved := rfl
@[simp] theorem State.modCan_slotFired (s : State) (n : Nat) (g : CanChan → CanChan) : (s.modCan n g).slotFired = s.slotFired := rfl
@[simp] theorem State.modCan_slotDev (s : State) (n : Nat) (g : CanChan → CanChan) : (s.modCan n g).slotDev = s.slotDev := rfl
@[simp] theorem State.modCan_coilLearn (s : State) (n : Nat) (g : CanChan → CanChan) : (s.modCan n g).coilLearn = s.coilLearn := rfl
@[simp] theorem State.modCan_coilMram (s : State) (n : Nat) (g : CanChan → CanChan) : (s.modCan n g).coilMram = s.coilMram := rfl
@[simp] theorem State.modCan_coilSaveMin (s : State) (n : Nat) (g : CanChan → CanChan) : (s.modCan n g).coilSaveMin = s.coilSaveMin := rfl
@[simp] theorem State.modCan_pllA (s : State) (n : Nat) (g : CanChan → CanChan) : (s.modCan n g).pllA = s.pllA := rfl
@[simp] theorem State.modCan_pllB (s : State) (n : Nat) (g : CanChan → CanChan) : (s.modCan n g).pllB = s.pllB := rfl
@[simp] theorem State.modCan_tiles (s : State) (n : Nat) (g : CanChan → CanChan) : (s.modCan n g).tiles = s.tiles := rfl
@[simp] theorem State.modCan_appGoSafe (s : State) (n : Nat) (g : CanChan → CanChan) : (s.modCan n g).appGoSafe = s.appGoSafe := rfl
@[simp] theorem State.modCan_scan (s : State) (n : Nat) (g : CanChan → CanChan) : (s.modCan n g).scan = s.scan := rfl
@[simp] theorem State.modCan_cycles (s : State) (n : Nat) (g : CanChan → CanChan) : (s.modCan n g).cycles = s.cycles := rfl
@[simp] theorem State.modCan_fireShed (s : State) (n : Nat) (g : CanChan → CanChan) : (s.modCan n g).fireShed = s.fireShed := rfl
@[simp] theorem State.modCan_loops (s : State) (n : Nat) (g : CanChan → CanChan) : (s.modCan n g).loops = s.loops := rfl
@[simp] theorem State.modCan_loopTicks (s : State) (n : Nat) (g : CanChan → CanChan) : (s.modCan n g).loopTicks = s.loopTicks := rfl
@[simp] theorem State.modCan_loopLoad (s : State) (n : Nat) (g : CanChan → CanChan) : (s.modCan n g).loopLoad = s.loopLoad := rfl
@[simp] theorem State.modCan_axes (s : State) (n : Nat) (g : CanChan → CanChan) : (s.modCan n g).axes = s.axes := rfl
@[simp] theorem State.modCan_lines (s : State) (n : Nat) (g : CanChan → CanChan) : (s.modCan n g).lines = s.lines := rfl
@[simp] theorem State.modCan_grpPend (s : State) (n : Nat) (g : CanChan → CanChan) : (s.modCan n g).grpPend = s.grpPend := rfl
@[simp] theorem State.modCan_cars (s : State) (n : Nat) (g : CanChan → CanChan) : (s.modCan n g).cars = s.cars := rfl
@[simp] theorem State.modCan_calls (s : State) (n : Nat) (g : CanChan → CanChan) : (s.modCan n g).calls = s.calls := rfl
@[simp] theorem State.modCan_nextCall (s : State) (n : Nat) (g : CanChan → CanChan) : (s.modCan n g).nextCall = s.nextCall := rfl
@[simp] theorem State.modCan_saf (s : State) (n : Nat) (g : CanChan → CanChan) : (s.modCan n g).saf = s.saf := rfl
@[simp] theorem State.modCan_meter (s : State) (n : Nat) (g : CanChan → CanChan) : (s.modCan n g).meter = s.meter := rfl
@[simp] theorem State.modCan_prioArrays (s : State) (n : Nat) (g : CanChan → CanChan) : (s.modCan n g).prioArrays = s.prioArrays := rfl
@[simp] theorem State.modCan_refUnread (s : State) (n : Nat) (g : CanChan → CanChan) : (s.modCan n g).refUnread = s.refUnread := rfl
@[simp] theorem State.modCan_cfgStore (s : State) (n : Nat) (g : CanChan → CanChan) : (s.modCan n g).cfgStore = s.cfgStore := rfl
@[simp] theorem State.modCan_cfgPrio (s : State) (n : Nat) (g : CanChan → CanChan) : (s.modCan n g).cfgPrio = s.cfgPrio := rfl
@[simp] theorem State.modCan_covSubs (s : State) (n : Nat) (g : CanChan → CanChan) : (s.modCan n g).covSubs = s.covSubs := rfl
@[simp] theorem State.modCan_covInc (s : State) (n : Nat) (g : CanChan → CanChan) : (s.modCan n g).covInc = s.covInc := rfl
@[simp] theorem State.modCan_bacnetOn (s : State) (n : Nat) (g : CanChan → CanChan) : (s.modCan n g).bacnetOn = s.bacnetOn := rfl
@[simp] theorem State.modCan_pointWaiting (s : State) (n : Nat) (g : CanChan → CanChan) : (s.modCan n g).pointWaiting = s.pointWaiting := rfl
@[simp] theorem State.modCan_deliveries (s : State) (n : Nat) (g : CanChan → CanChan) : (s.modCan n g).deliveries = s.deliveries := rfl
@[simp] theorem State.modCan_mac (s : State) (n : Nat) (g : CanChan → CanChan) : (s.modCan n g).mac = s.mac := rfl
@[simp] theorem State.modCan_handles (s : State) (n : Nat) (g : CanChan → CanChan) : (s.modCan n g).handles = s.handles := rfl
@[simp] theorem State.modCan_handleGens (s : State) (n : Nat) (g : CanChan → CanChan) : (s.modCan n g).handleGens = s.handleGens := rfl
@[simp] theorem State.modCan_handlesMram (s : State) (n : Nat) (g : CanChan → CanChan) : (s.modCan n g).handlesMram = s.handlesMram := rfl
@[simp] theorem State.modCan_ownerLockMram (s : State) (n : Nat) (g : CanChan → CanChan) : (s.modCan n g).ownerLockMram = s.ownerLockMram := rfl
@[simp] theorem State.modCan_ownedMram (s : State) (n : Nat) (g : CanChan → CanChan) : (s.modCan n g).ownedMram = s.ownedMram := rfl
@[simp] theorem State.modCan_attSignSec (s : State) (n : Nat) (g : CanChan → CanChan) : (s.modCan n g).attSignSec = s.attSignSec := rfl
@[simp] theorem State.modCan_attMacSec (s : State) (n : Nat) (g : CanChan → CanChan) : (s.modCan n g).attMacSec = s.attMacSec := rfl
@[simp] theorem State.modCan_twin (s : State) (n : Nat) (g : CanChan → CanChan) : (s.modCan n g).twin = s.twin := rfl
@[simp] theorem State.modCan_twinActiveS1 (s : State) (n : Nat) (g : CanChan → CanChan) : (s.modCan n g).twinActiveS1 = s.twinActiveS1 := rfl
@[simp] theorem State.modCan_twinActiveS2 (s : State) (n : Nat) (g : CanChan → CanChan) : (s.modCan n g).twinActiveS2 = s.twinActiveS2 := rfl
@[simp] theorem State.modCan_sideBuf (s : State) (n : Nat) (g : CanChan → CanChan) : (s.modCan n g).sideBuf = s.sideBuf := rfl
@[simp] theorem State.modCan_mergeWait (s : State) (n : Nat) (g : CanChan → CanChan) : (s.modCan n g).mergeWait = s.mergeWait := rfl
@[simp] theorem State.modCan_frzSetter (s : State) (n : Nat) (g : CanChan → CanChan) : (s.modCan n g).frzSetter = s.frzSetter := rfl
@[simp] theorem State.modCan_trigPend (s : State) (n : Nat) (g : CanChan → CanChan) : (s.modCan n g).trigPend = s.trigPend := rfl
@[simp] theorem State.modCan_recOrder (s : State) (n : Nat) (g : CanChan → CanChan) : (s.modCan n g).recOrder = s.recOrder := rfl
@[simp] theorem State.modCan_recTotalMram (s : State) (n : Nat) (g : CanChan → CanChan) : (s.modCan n g).recTotalMram = s.recTotalMram := rfl
@[simp] theorem State.modCan_opSMram (s : State) (n : Nat) (g : CanChan → CanChan) : (s.modCan n g).opSMram = s.opSMram := rfl
@[simp] theorem State.modCan_heldEvents (s : State) (n : Nat) (g : CanChan → CanChan) : (s.modCan n g).heldEvents = s.heldEvents := rfl
@[simp] theorem State.modCan_upd (s : State) (n : Nat) (g : CanChan → CanChan) : (s.modCan n g).upd = s.upd := rfl
@[simp] theorem State.modCan_diag (s : State) (n : Nat) (g : CanChan → CanChan) : (s.modCan n g).diag = s.diag := rfl
@[simp] theorem State.modCan_fire (s : State) (n : Nat) (g : CanChan → CanChan) : (s.modCan n g).fire = s.fire := rfl

/-! ## modSafCar: a car of Stirrup -/

@[simp] theorem State.modSafCar_pending (s : State) (n : Nat) (g : SafCar → SafCar) : (s.modSafCar n g).pending = s.pending := rfl
@[simp] theorem State.modSafCar_mem (s : State) (n : Nat) (g : SafCar → SafCar) : (s.modSafCar n g).mem = s.mem := rfl
@[simp] theorem State.modSafCar_freeCtr (s : State) (n : Nat) (g : SafCar → SafCar) : (s.modSafCar n g).freeCtr = s.freeCtr := rfl
@[simp] theorem State.modSafCar_resp (s : State) (n : Nat) (g : SafCar → SafCar) : (s.modSafCar n g).resp = s.resp := rfl
@[simp] theorem State.modSafCar_errSet (s : State) (n : Nat) (g : SafCar → SafCar) : (s.modSafCar n g).errSet = s.errSet := rfl
@[simp] theorem State.modSafCar_wire (s : State) (n : Nat) (g : SafCar → SafCar) : (s.modSafCar n g).wire = s.wire := rfl
@[simp] theorem State.modSafCar_sysHeld (s : State) (n : Nat) (g : SafCar → SafCar) : (s.modSafCar n g).sysHeld = s.sysHeld := rfl
@[simp] theorem State.modSafCar_appUp (s : State) (n : Nat) (g : SafCar → SafCar) : (s.modSafCar n g).appUp = s.appUp := rfl
@[simp] theorem State.modSafCar_roles (s : State) (n : Nat) (g : SafCar → SafCar) : (s.modSafCar n g).roles = s.roles := rfl
@[simp] theorem State.modSafCar_pwr (s : State) (n : Nat) (g : SafCar → SafCar) : (s.modSafCar n g).pwr = s.pwr := rfl
@[simp] theorem State.modSafCar_latches (s : State) (n : Nat) (g : SafCar → SafCar) : (s.modSafCar n g).latches = s.latches := rfl
@[simp] theorem State.modSafCar_staged (s : State) (n : Nat) (g : SafCar → SafCar) : (s.modSafCar n g).staged = s.staged := rfl
@[simp] theorem State.modSafCar_frozen (s : State) (n : Nat) (g : SafCar → SafCar) : (s.modSafCar n g).frozen = s.frozen := rfl
@[simp] theorem State.modSafCar_eccMarked (s : State) (n : Nat) (g : SafCar → SafCar) : (s.modSafCar n g).eccMarked = s.eccMarked := rfl
@[simp] theorem State.modSafCar_eccSingle (s : State) (n : Nat) (g : SafCar → SafCar) : (s.modSafCar n g).eccSingle = s.eccSingle := rfl
@[simp] theorem State.modSafCar_eccNew (s : State) (n : Nat) (g : SafCar → SafCar) : (s.modSafCar n g).eccNew = s.eccNew := rfl
@[simp] theorem State.modSafCar_sessions (s : State) (n : Nat) (g : SafCar → SafCar) : (s.modSafCar n g).sessions = s.sessions := rfl
@[simp] theorem State.modSafCar_halfOpen (s : State) (n : Nat) (g : SafCar → SafCar) : (s.modSafCar n g).halfOpen = s.halfOpen := rfl
@[simp] theorem State.modSafCar_openTimes (s : State) (n : Nat) (g : SafCar → SafCar) : (s.modSafCar n g).openTimes = s.openTimes := rfl
@[simp] theorem State.modSafCar_nextSid (s : State) (n : Nat) (g : SafCar → SafCar) : (s.modSafCar n g).nextSid = s.nextSid := rfl
@[simp] theorem State.modSafCar_nextSubId (s : State) (n : Nat) (g : SafCar → SafCar) : (s.modSafCar n g).nextSubId = s.nextSubId := rfl
@[simp] theorem State.modSafCar_subs (s : State) (n : Nat) (g : SafCar → SafCar) : (s.modSafCar n g).subs = s.subs := rfl
@[simp] theorem State.modSafCar_tb (s : State) (n : Nat) (g : SafCar → SafCar) : (s.modSafCar n g).tb = s.tb := rfl
@[simp] theorem State.modSafCar_timeStepped (s : State) (n : Nat) (g : SafCar → SafCar) : (s.modSafCar n g).timeStepped = s.timeStepped := rfl
@[simp] theorem State.modSafCar_cal (s : State) (n : Nat) (g : SafCar → SafCar) : (s.modSafCar n g).cal = s.cal := rfl
@[simp] theorem State.modSafCar_seqr (s : State) (n : Nat) (g : SafCar → SafCar) : (s.modSafCar n g).seqr = s.seqr := rfl
@[simp] theorem State.modSafCar_slotCommit (s : State) (n : Nat) (g : SafCar → SafCar) : (s.modSafCar n g).slotCommit = s.slotCommit := rfl
@[simp] theorem State.modSafCar_doneQ (s : State) (n : Nat) (g : SafCar → SafCar) : (s.modSafCar n g).doneQ = s.doneQ := rfl
@[simp] theorem State.modSafCar_snapUnread (s : State) (n : Nat) (g : SafCar → SafCar) : (s.modSafCar n g).snapUnread = s.snapUnread := rfl
@[simp] theorem State.modSafCar_slotUnresolved (s : State) (n : Nat) (g : SafCar → SafCar) : (s.modSafCar n g).slotUnresolved = s.slotUnresolved := rfl
@[simp] theorem State.modSafCar_slotFired (s : State) (n : Nat) (g : SafCar → SafCar) : (s.modSafCar n g).slotFired = s.slotFired := rfl
@[simp] theorem State.modSafCar_slotDev (s : State) (n : Nat) (g : SafCar → SafCar) : (s.modSafCar n g).slotDev = s.slotDev := rfl
@[simp] theorem State.modSafCar_coilLearn (s : State) (n : Nat) (g : SafCar → SafCar) : (s.modSafCar n g).coilLearn = s.coilLearn := rfl
@[simp] theorem State.modSafCar_coilMram (s : State) (n : Nat) (g : SafCar → SafCar) : (s.modSafCar n g).coilMram = s.coilMram := rfl
@[simp] theorem State.modSafCar_coilSaveMin (s : State) (n : Nat) (g : SafCar → SafCar) : (s.modSafCar n g).coilSaveMin = s.coilSaveMin := rfl
@[simp] theorem State.modSafCar_pllA (s : State) (n : Nat) (g : SafCar → SafCar) : (s.modSafCar n g).pllA = s.pllA := rfl
@[simp] theorem State.modSafCar_pllB (s : State) (n : Nat) (g : SafCar → SafCar) : (s.modSafCar n g).pllB = s.pllB := rfl
@[simp] theorem State.modSafCar_tiles (s : State) (n : Nat) (g : SafCar → SafCar) : (s.modSafCar n g).tiles = s.tiles := rfl
@[simp] theorem State.modSafCar_appGoSafe (s : State) (n : Nat) (g : SafCar → SafCar) : (s.modSafCar n g).appGoSafe = s.appGoSafe := rfl
@[simp] theorem State.modSafCar_scan (s : State) (n : Nat) (g : SafCar → SafCar) : (s.modSafCar n g).scan = s.scan := rfl
@[simp] theorem State.modSafCar_cycles (s : State) (n : Nat) (g : SafCar → SafCar) : (s.modSafCar n g).cycles = s.cycles := rfl
@[simp] theorem State.modSafCar_fireShed (s : State) (n : Nat) (g : SafCar → SafCar) : (s.modSafCar n g).fireShed = s.fireShed := rfl
@[simp] theorem State.modSafCar_loops (s : State) (n : Nat) (g : SafCar → SafCar) : (s.modSafCar n g).loops = s.loops := rfl
@[simp] theorem State.modSafCar_loopTicks (s : State) (n : Nat) (g : SafCar → SafCar) : (s.modSafCar n g).loopTicks = s.loopTicks := rfl
@[simp] theorem State.modSafCar_loopLoad (s : State) (n : Nat) (g : SafCar → SafCar) : (s.modSafCar n g).loopLoad = s.loopLoad := rfl
@[simp] theorem State.modSafCar_axes (s : State) (n : Nat) (g : SafCar → SafCar) : (s.modSafCar n g).axes = s.axes := rfl
@[simp] theorem State.modSafCar_lines (s : State) (n : Nat) (g : SafCar → SafCar) : (s.modSafCar n g).lines = s.lines := rfl
@[simp] theorem State.modSafCar_grpPend (s : State) (n : Nat) (g : SafCar → SafCar) : (s.modSafCar n g).grpPend = s.grpPend := rfl
@[simp] theorem State.modSafCar_cars (s : State) (n : Nat) (g : SafCar → SafCar) : (s.modSafCar n g).cars = s.cars := rfl
@[simp] theorem State.modSafCar_calls (s : State) (n : Nat) (g : SafCar → SafCar) : (s.modSafCar n g).calls = s.calls := rfl
@[simp] theorem State.modSafCar_nextCall (s : State) (n : Nat) (g : SafCar → SafCar) : (s.modSafCar n g).nextCall = s.nextCall := rfl
@[simp] theorem State.modSafCar_meter (s : State) (n : Nat) (g : SafCar → SafCar) : (s.modSafCar n g).meter = s.meter := rfl
@[simp] theorem State.modSafCar_prioArrays (s : State) (n : Nat) (g : SafCar → SafCar) : (s.modSafCar n g).prioArrays = s.prioArrays := rfl
@[simp] theorem State.modSafCar_refUnread (s : State) (n : Nat) (g : SafCar → SafCar) : (s.modSafCar n g).refUnread = s.refUnread := rfl
@[simp] theorem State.modSafCar_cfgStore (s : State) (n : Nat) (g : SafCar → SafCar) : (s.modSafCar n g).cfgStore = s.cfgStore := rfl
@[simp] theorem State.modSafCar_cfgPrio (s : State) (n : Nat) (g : SafCar → SafCar) : (s.modSafCar n g).cfgPrio = s.cfgPrio := rfl
@[simp] theorem State.modSafCar_covSubs (s : State) (n : Nat) (g : SafCar → SafCar) : (s.modSafCar n g).covSubs = s.covSubs := rfl
@[simp] theorem State.modSafCar_covInc (s : State) (n : Nat) (g : SafCar → SafCar) : (s.modSafCar n g).covInc = s.covInc := rfl
@[simp] theorem State.modSafCar_bacnetOn (s : State) (n : Nat) (g : SafCar → SafCar) : (s.modSafCar n g).bacnetOn = s.bacnetOn := rfl
@[simp] theorem State.modSafCar_pointWaiting (s : State) (n : Nat) (g : SafCar → SafCar) : (s.modSafCar n g).pointWaiting = s.pointWaiting := rfl
@[simp] theorem State.modSafCar_deliveries (s : State) (n : Nat) (g : SafCar → SafCar) : (s.modSafCar n g).deliveries = s.deliveries := rfl
@[simp] theorem State.modSafCar_mac (s : State) (n : Nat) (g : SafCar → SafCar) : (s.modSafCar n g).mac = s.mac := rfl
@[simp] theorem State.modSafCar_cans (s : State) (n : Nat) (g : SafCar → SafCar) : (s.modSafCar n g).cans = s.cans := rfl
@[simp] theorem State.modSafCar_handles (s : State) (n : Nat) (g : SafCar → SafCar) : (s.modSafCar n g).handles = s.handles := rfl
@[simp] theorem State.modSafCar_handleGens (s : State) (n : Nat) (g : SafCar → SafCar) : (s.modSafCar n g).handleGens = s.handleGens := rfl
@[simp] theorem State.modSafCar_handlesMram (s : State) (n : Nat) (g : SafCar → SafCar) : (s.modSafCar n g).handlesMram = s.handlesMram := rfl
@[simp] theorem State.modSafCar_ownerLockMram (s : State) (n : Nat) (g : SafCar → SafCar) : (s.modSafCar n g).ownerLockMram = s.ownerLockMram := rfl
@[simp] theorem State.modSafCar_ownedMram (s : State) (n : Nat) (g : SafCar → SafCar) : (s.modSafCar n g).ownedMram = s.ownedMram := rfl
@[simp] theorem State.modSafCar_attSignSec (s : State) (n : Nat) (g : SafCar → SafCar) : (s.modSafCar n g).attSignSec = s.attSignSec := rfl
@[simp] theorem State.modSafCar_attMacSec (s : State) (n : Nat) (g : SafCar → SafCar) : (s.modSafCar n g).attMacSec = s.attMacSec := rfl
@[simp] theorem State.modSafCar_twin (s : State) (n : Nat) (g : SafCar → SafCar) : (s.modSafCar n g).twin = s.twin := rfl
@[simp] theorem State.modSafCar_twinActiveS1 (s : State) (n : Nat) (g : SafCar → SafCar) : (s.modSafCar n g).twinActiveS1 = s.twinActiveS1 := rfl
@[simp] theorem State.modSafCar_twinActiveS2 (s : State) (n : Nat) (g : SafCar → SafCar) : (s.modSafCar n g).twinActiveS2 = s.twinActiveS2 := rfl
@[simp] theorem State.modSafCar_sideBuf (s : State) (n : Nat) (g : SafCar → SafCar) : (s.modSafCar n g).sideBuf = s.sideBuf := rfl
@[simp] theorem State.modSafCar_mergeWait (s : State) (n : Nat) (g : SafCar → SafCar) : (s.modSafCar n g).mergeWait = s.mergeWait := rfl
@[simp] theorem State.modSafCar_frzSetter (s : State) (n : Nat) (g : SafCar → SafCar) : (s.modSafCar n g).frzSetter = s.frzSetter := rfl
@[simp] theorem State.modSafCar_trigPend (s : State) (n : Nat) (g : SafCar → SafCar) : (s.modSafCar n g).trigPend = s.trigPend := rfl
@[simp] theorem State.modSafCar_recOrder (s : State) (n : Nat) (g : SafCar → SafCar) : (s.modSafCar n g).recOrder = s.recOrder := rfl
@[simp] theorem State.modSafCar_recTotalMram (s : State) (n : Nat) (g : SafCar → SafCar) : (s.modSafCar n g).recTotalMram = s.recTotalMram := rfl
@[simp] theorem State.modSafCar_opSMram (s : State) (n : Nat) (g : SafCar → SafCar) : (s.modSafCar n g).opSMram = s.opSMram := rfl
@[simp] theorem State.modSafCar_heldEvents (s : State) (n : Nat) (g : SafCar → SafCar) : (s.modSafCar n g).heldEvents = s.heldEvents := rfl
@[simp] theorem State.modSafCar_upd (s : State) (n : Nat) (g : SafCar → SafCar) : (s.modSafCar n g).upd = s.upd := rfl
@[simp] theorem State.modSafCar_diag (s : State) (n : Nat) (g : SafCar → SafCar) : (s.modSafCar n g).diag = s.diag := rfl
@[simp] theorem State.modSafCar_fire (s : State) (n : Nat) (g : SafCar → SafCar) : (s.modSafCar n g).fire = s.fire := rfl

/-! ## modConn: a safety connection -/

@[simp] theorem State.modConn_pending (s : State) (n : Nat) (g : SafConn → SafConn) : (s.modConn n g).pending = s.pending := rfl
@[simp] theorem State.modConn_mem (s : State) (n : Nat) (g : SafConn → SafConn) : (s.modConn n g).mem = s.mem := rfl
@[simp] theorem State.modConn_freeCtr (s : State) (n : Nat) (g : SafConn → SafConn) : (s.modConn n g).freeCtr = s.freeCtr := rfl
@[simp] theorem State.modConn_resp (s : State) (n : Nat) (g : SafConn → SafConn) : (s.modConn n g).resp = s.resp := rfl
@[simp] theorem State.modConn_errSet (s : State) (n : Nat) (g : SafConn → SafConn) : (s.modConn n g).errSet = s.errSet := rfl
@[simp] theorem State.modConn_wire (s : State) (n : Nat) (g : SafConn → SafConn) : (s.modConn n g).wire = s.wire := rfl
@[simp] theorem State.modConn_sysHeld (s : State) (n : Nat) (g : SafConn → SafConn) : (s.modConn n g).sysHeld = s.sysHeld := rfl
@[simp] theorem State.modConn_appUp (s : State) (n : Nat) (g : SafConn → SafConn) : (s.modConn n g).appUp = s.appUp := rfl
@[simp] theorem State.modConn_roles (s : State) (n : Nat) (g : SafConn → SafConn) : (s.modConn n g).roles = s.roles := rfl
@[simp] theorem State.modConn_pwr (s : State) (n : Nat) (g : SafConn → SafConn) : (s.modConn n g).pwr = s.pwr := rfl
@[simp] theorem State.modConn_latches (s : State) (n : Nat) (g : SafConn → SafConn) : (s.modConn n g).latches = s.latches := rfl
@[simp] theorem State.modConn_staged (s : State) (n : Nat) (g : SafConn → SafConn) : (s.modConn n g).staged = s.staged := rfl
@[simp] theorem State.modConn_frozen (s : State) (n : Nat) (g : SafConn → SafConn) : (s.modConn n g).frozen = s.frozen := rfl
@[simp] theorem State.modConn_eccMarked (s : State) (n : Nat) (g : SafConn → SafConn) : (s.modConn n g).eccMarked = s.eccMarked := rfl
@[simp] theorem State.modConn_eccSingle (s : State) (n : Nat) (g : SafConn → SafConn) : (s.modConn n g).eccSingle = s.eccSingle := rfl
@[simp] theorem State.modConn_eccNew (s : State) (n : Nat) (g : SafConn → SafConn) : (s.modConn n g).eccNew = s.eccNew := rfl
@[simp] theorem State.modConn_sessions (s : State) (n : Nat) (g : SafConn → SafConn) : (s.modConn n g).sessions = s.sessions := rfl
@[simp] theorem State.modConn_halfOpen (s : State) (n : Nat) (g : SafConn → SafConn) : (s.modConn n g).halfOpen = s.halfOpen := rfl
@[simp] theorem State.modConn_openTimes (s : State) (n : Nat) (g : SafConn → SafConn) : (s.modConn n g).openTimes = s.openTimes := rfl
@[simp] theorem State.modConn_nextSid (s : State) (n : Nat) (g : SafConn → SafConn) : (s.modConn n g).nextSid = s.nextSid := rfl
@[simp] theorem State.modConn_nextSubId (s : State) (n : Nat) (g : SafConn → SafConn) : (s.modConn n g).nextSubId = s.nextSubId := rfl
@[simp] theorem State.modConn_subs (s : State) (n : Nat) (g : SafConn → SafConn) : (s.modConn n g).subs = s.subs := rfl
@[simp] theorem State.modConn_tb (s : State) (n : Nat) (g : SafConn → SafConn) : (s.modConn n g).tb = s.tb := rfl
@[simp] theorem State.modConn_timeStepped (s : State) (n : Nat) (g : SafConn → SafConn) : (s.modConn n g).timeStepped = s.timeStepped := rfl
@[simp] theorem State.modConn_cal (s : State) (n : Nat) (g : SafConn → SafConn) : (s.modConn n g).cal = s.cal := rfl
@[simp] theorem State.modConn_seqr (s : State) (n : Nat) (g : SafConn → SafConn) : (s.modConn n g).seqr = s.seqr := rfl
@[simp] theorem State.modConn_slotCommit (s : State) (n : Nat) (g : SafConn → SafConn) : (s.modConn n g).slotCommit = s.slotCommit := rfl
@[simp] theorem State.modConn_doneQ (s : State) (n : Nat) (g : SafConn → SafConn) : (s.modConn n g).doneQ = s.doneQ := rfl
@[simp] theorem State.modConn_snapUnread (s : State) (n : Nat) (g : SafConn → SafConn) : (s.modConn n g).snapUnread = s.snapUnread := rfl
@[simp] theorem State.modConn_slotUnresolved (s : State) (n : Nat) (g : SafConn → SafConn) : (s.modConn n g).slotUnresolved = s.slotUnresolved := rfl
@[simp] theorem State.modConn_slotFired (s : State) (n : Nat) (g : SafConn → SafConn) : (s.modConn n g).slotFired = s.slotFired := rfl
@[simp] theorem State.modConn_slotDev (s : State) (n : Nat) (g : SafConn → SafConn) : (s.modConn n g).slotDev = s.slotDev := rfl
@[simp] theorem State.modConn_coilLearn (s : State) (n : Nat) (g : SafConn → SafConn) : (s.modConn n g).coilLearn = s.coilLearn := rfl
@[simp] theorem State.modConn_coilMram (s : State) (n : Nat) (g : SafConn → SafConn) : (s.modConn n g).coilMram = s.coilMram := rfl
@[simp] theorem State.modConn_coilSaveMin (s : State) (n : Nat) (g : SafConn → SafConn) : (s.modConn n g).coilSaveMin = s.coilSaveMin := rfl
@[simp] theorem State.modConn_pllA (s : State) (n : Nat) (g : SafConn → SafConn) : (s.modConn n g).pllA = s.pllA := rfl
@[simp] theorem State.modConn_pllB (s : State) (n : Nat) (g : SafConn → SafConn) : (s.modConn n g).pllB = s.pllB := rfl
@[simp] theorem State.modConn_tiles (s : State) (n : Nat) (g : SafConn → SafConn) : (s.modConn n g).tiles = s.tiles := rfl
@[simp] theorem State.modConn_appGoSafe (s : State) (n : Nat) (g : SafConn → SafConn) : (s.modConn n g).appGoSafe = s.appGoSafe := rfl
@[simp] theorem State.modConn_scan (s : State) (n : Nat) (g : SafConn → SafConn) : (s.modConn n g).scan = s.scan := rfl
@[simp] theorem State.modConn_cycles (s : State) (n : Nat) (g : SafConn → SafConn) : (s.modConn n g).cycles = s.cycles := rfl
@[simp] theorem State.modConn_fireShed (s : State) (n : Nat) (g : SafConn → SafConn) : (s.modConn n g).fireShed = s.fireShed := rfl
@[simp] theorem State.modConn_loops (s : State) (n : Nat) (g : SafConn → SafConn) : (s.modConn n g).loops = s.loops := rfl
@[simp] theorem State.modConn_loopTicks (s : State) (n : Nat) (g : SafConn → SafConn) : (s.modConn n g).loopTicks = s.loopTicks := rfl
@[simp] theorem State.modConn_loopLoad (s : State) (n : Nat) (g : SafConn → SafConn) : (s.modConn n g).loopLoad = s.loopLoad := rfl
@[simp] theorem State.modConn_axes (s : State) (n : Nat) (g : SafConn → SafConn) : (s.modConn n g).axes = s.axes := rfl
@[simp] theorem State.modConn_lines (s : State) (n : Nat) (g : SafConn → SafConn) : (s.modConn n g).lines = s.lines := rfl
@[simp] theorem State.modConn_grpPend (s : State) (n : Nat) (g : SafConn → SafConn) : (s.modConn n g).grpPend = s.grpPend := rfl
@[simp] theorem State.modConn_cars (s : State) (n : Nat) (g : SafConn → SafConn) : (s.modConn n g).cars = s.cars := rfl
@[simp] theorem State.modConn_calls (s : State) (n : Nat) (g : SafConn → SafConn) : (s.modConn n g).calls = s.calls := rfl
@[simp] theorem State.modConn_nextCall (s : State) (n : Nat) (g : SafConn → SafConn) : (s.modConn n g).nextCall = s.nextCall := rfl
@[simp] theorem State.modConn_meter (s : State) (n : Nat) (g : SafConn → SafConn) : (s.modConn n g).meter = s.meter := rfl
@[simp] theorem State.modConn_prioArrays (s : State) (n : Nat) (g : SafConn → SafConn) : (s.modConn n g).prioArrays = s.prioArrays := rfl
@[simp] theorem State.modConn_refUnread (s : State) (n : Nat) (g : SafConn → SafConn) : (s.modConn n g).refUnread = s.refUnread := rfl
@[simp] theorem State.modConn_cfgStore (s : State) (n : Nat) (g : SafConn → SafConn) : (s.modConn n g).cfgStore = s.cfgStore := rfl
@[simp] theorem State.modConn_cfgPrio (s : State) (n : Nat) (g : SafConn → SafConn) : (s.modConn n g).cfgPrio = s.cfgPrio := rfl
@[simp] theorem State.modConn_covSubs (s : State) (n : Nat) (g : SafConn → SafConn) : (s.modConn n g).covSubs = s.covSubs := rfl
@[simp] theorem State.modConn_covInc (s : State) (n : Nat) (g : SafConn → SafConn) : (s.modConn n g).covInc = s.covInc := rfl
@[simp] theorem State.modConn_bacnetOn (s : State) (n : Nat) (g : SafConn → SafConn) : (s.modConn n g).bacnetOn = s.bacnetOn := rfl
@[simp] theorem State.modConn_pointWaiting (s : State) (n : Nat) (g : SafConn → SafConn) : (s.modConn n g).pointWaiting = s.pointWaiting := rfl
@[simp] theorem State.modConn_deliveries (s : State) (n : Nat) (g : SafConn → SafConn) : (s.modConn n g).deliveries = s.deliveries := rfl
@[simp] theorem State.modConn_mac (s : State) (n : Nat) (g : SafConn → SafConn) : (s.modConn n g).mac = s.mac := rfl
@[simp] theorem State.modConn_cans (s : State) (n : Nat) (g : SafConn → SafConn) : (s.modConn n g).cans = s.cans := rfl
@[simp] theorem State.modConn_handles (s : State) (n : Nat) (g : SafConn → SafConn) : (s.modConn n g).handles = s.handles := rfl
@[simp] theorem State.modConn_handleGens (s : State) (n : Nat) (g : SafConn → SafConn) : (s.modConn n g).handleGens = s.handleGens := rfl
@[simp] theorem State.modConn_handlesMram (s : State) (n : Nat) (g : SafConn → SafConn) : (s.modConn n g).handlesMram = s.handlesMram := rfl
@[simp] theorem State.modConn_ownerLockMram (s : State) (n : Nat) (g : SafConn → SafConn) : (s.modConn n g).ownerLockMram = s.ownerLockMram := rfl
@[simp] theorem State.modConn_ownedMram (s : State) (n : Nat) (g : SafConn → SafConn) : (s.modConn n g).ownedMram = s.ownedMram := rfl
@[simp] theorem State.modConn_attSignSec (s : State) (n : Nat) (g : SafConn → SafConn) : (s.modConn n g).attSignSec = s.attSignSec := rfl
@[simp] theorem State.modConn_attMacSec (s : State) (n : Nat) (g : SafConn → SafConn) : (s.modConn n g).attMacSec = s.attMacSec := rfl
@[simp] theorem State.modConn_twin (s : State) (n : Nat) (g : SafConn → SafConn) : (s.modConn n g).twin = s.twin := rfl
@[simp] theorem State.modConn_twinActiveS1 (s : State) (n : Nat) (g : SafConn → SafConn) : (s.modConn n g).twinActiveS1 = s.twinActiveS1 := rfl
@[simp] theorem State.modConn_twinActiveS2 (s : State) (n : Nat) (g : SafConn → SafConn) : (s.modConn n g).twinActiveS2 = s.twinActiveS2 := rfl
@[simp] theorem State.modConn_sideBuf (s : State) (n : Nat) (g : SafConn → SafConn) : (s.modConn n g).sideBuf = s.sideBuf := rfl
@[simp] theorem State.modConn_mergeWait (s : State) (n : Nat) (g : SafConn → SafConn) : (s.modConn n g).mergeWait = s.mergeWait := rfl
@[simp] theorem State.modConn_frzSetter (s : State) (n : Nat) (g : SafConn → SafConn) : (s.modConn n g).frzSetter = s.frzSetter := rfl
@[simp] theorem State.modConn_trigPend (s : State) (n : Nat) (g : SafConn → SafConn) : (s.modConn n g).trigPend = s.trigPend := rfl
@[simp] theorem State.modConn_recOrder (s : State) (n : Nat) (g : SafConn → SafConn) : (s.modConn n g).recOrder = s.recOrder := rfl
@[simp] theorem State.modConn_recTotalMram (s : State) (n : Nat) (g : SafConn → SafConn) : (s.modConn n g).recTotalMram = s.recTotalMram := rfl
@[simp] theorem State.modConn_opSMram (s : State) (n : Nat) (g : SafConn → SafConn) : (s.modConn n g).opSMram = s.opSMram := rfl
@[simp] theorem State.modConn_heldEvents (s : State) (n : Nat) (g : SafConn → SafConn) : (s.modConn n g).heldEvents = s.heldEvents := rfl
@[simp] theorem State.modConn_upd (s : State) (n : Nat) (g : SafConn → SafConn) : (s.modConn n g).upd = s.upd := rfl
@[simp] theorem State.modConn_diag (s : State) (n : Nat) (g : SafConn → SafConn) : (s.modConn n g).diag = s.diag := rfl
@[simp] theorem State.modConn_fire (s : State) (n : Nat) (g : SafConn → SafConn) : (s.modConn n g).fire = s.fire := rfl

end Sys2Proof.Machine
end

