-- ==== Sys2Proof/Tests/Slice0.lean ====
section
/-! SUPPORT. Tests: ill-formed commands that the check of well-formedness refuses, a state that meets the hypotheses of each
statement (at the limits of its ranges, where it has several clauses), and the effect of single commands on small states, with
values worked out from the spec's rules. -/

namespace Sys2Proof.Tests
open Sys2Proof Sys2Proof.Machine

/-! ## States to test on -/

/-- A unit after bring-up, with every role. -/
def up : State := { State.reset with
  sysHeld := false
  appUp := true
  roles := 7
  meter := { State.reset.meter with on := true }
  pwr := { State.reset.pwr with powered := true, running := true, episode := false, sources := [], fullHeld := false, point := 9 } }

/-- The state with some fields given values. -/
def put (s : State) (l : List (Fld × Nat)) : State := l.foldl (fun s e => s.set e.1 e.2) s

/-- The state after a command. -/
def after (c : Instr) (s : State) : State := match exec c s with
  | .next t => t
  | _ => s

/-- A session over MNT with every right, opened with the credential of a handle. -/
def ses (cred : Nat) : Session where
  sc := false
  udp := 20646
  sid := 77
  tag := 0
  rights := 127
  prio := 5
  keyHandle := 1472
  credHandle := cred
  port := .MNT
  lastReq := .MNT
  limit := 1400
  pins := []
  highest := 10
  performed := [10]
  held := []
  seqMax := 0
  seqSeen := []
  rxCount := 0
  txCount := 0
  waiting := []
  hub := 0

/-- A unit with sessions 0, of the factory's credential, and 1, of a tenant. -/
def withSessions : State := { up with sessions := [(0, ses 3), (1, { ses 5 with tag := 3, sid := 78, rights := 1 })] }

/-- The same with an owner. -/
def owned : State := match execOwnerTake (.session 0) true withSessions with
  | .next t => t
  | _ => withSessions

/-- A datagram that arrives whole. -/
def arrives (seq : Nat) : Arrival := ⟨.MNT, 20646, false, true, seq⟩

/-- A unit under bring-up, the next point to pass being after `p`. -/
def bringing (p : Nat) : State :=
  let s := put up [(Reg.PWR_BUS_OK, 1), (Reg.PWR_A_LOAD, 1)]
  { s with pwr := { s.pwr with episode := true, reach := 4, point := p } }

/-! ## Well-formedness -/

theorem wf_freq_window_refused : (Instr.freqWindow [1, 2, 3] 0).wf = false := by decide
theorem wf_open_init_key_refused : (Instr.openInit ⟨.A, 20646, false, 2 ^ 776, 0, 0, 2, 1400, false, []⟩).wf = false := by decide +kernel
theorem wf_open_init_nonce_refused : (Instr.openInit ⟨.A, 20646, false, 0, 2 ^ 256, 0, 2, 1400, false, []⟩).wf = false := by decide +kernel
theorem wf_open_init_cred_refused : (Instr.openInit ⟨.A, 20646, false, 0, 0, 2 ^ 32, 2, 1400, false, []⟩).wf = false := by decide +kernel
theorem wf_open_init_majors_refused : (Instr.openInit ⟨.A, 20646, false, 0, 0, 0, 2 ^ 16, 1400, false, []⟩).wf = false := by decide +kernel
theorem wf_open_init_limit_refused : (Instr.openInit ⟨.A, 20646, false, 0, 0, 0, 2, 2 ^ 16, false, []⟩).wf = false := by decide +kernel
theorem wf_open_init_pins_refused : (Instr.openInit ⟨.A, 20646, false, 0, 0, 0, 2, 1400, false, List.replicate 65 ⟨1, 1, 0⟩⟩).wf = false := by decide +kernel
theorem wf_open_init_pin_refused : (Instr.openInit ⟨.A, 20646, false, 0, 0, 0, 2, 1400, false, [⟨2 ^ 16, 1, 0⟩]⟩).wf = false
    ∧ (Instr.openInit ⟨.A, 20646, false, 0, 0, 0, 2, 1400, false, [⟨1, 256, 0⟩]⟩).wf = false ∧ (Instr.openInit ⟨.A, 20646, false, 0, 0, 0, 2, 1400, false, [⟨1, 1, 256⟩]⟩).wf = false := by decide +kernel
theorem wf_seq_refused : (Instr.openConfirm 1 ⟨.A, 20646, false, true, 0⟩ 0).wf = false ∧ (Instr.close 1 ⟨.A, 20646, false, true, 2 ^ 64⟩).wf = false := by decide +kernel
theorem wf_mac_refused : (Instr.openConfirm 1 (arrives 1) (2 ^ 384)).wf = false := by decide +kernel
theorem wf_request_refused : (Instr.request 1 (arrives 0) ⟨1, 0, 0, 1, 0, 0, []⟩).wf = false ∧ (Instr.request 1 (arrives 1) ⟨256, 0, 0, 1, 0, 0, []⟩).wf = false
    ∧ (Instr.request 1 (arrives 1) ⟨1, 256, 0, 1, 0, 0, []⟩).wf = false ∧ (Instr.request 1 (arrives 1) ⟨1, 0, 2 ^ 16, 1, 0, 0, []⟩).wf = false
    ∧ (Instr.request 1 (arrives 1) ⟨1, 0, 0, 2 ^ 32, 0, 0, []⟩).wf = false ∧ (Instr.request 1 (arrives 1) ⟨1, 0, 0, 1, 2 ^ 32, 0, []⟩).wf = false := by decide
theorem wf_request_payload_refused : ∀ l : List Byte, l.length = 2 ^ 16 → (Instr.request 1 (arrives 1) ⟨1, 0, 0, 1, 0, 0, l⟩).wf = false := by
  intro l h
  show ((arrives 1).wf && (_ && decide (l.length < 2 ^ 16))) = false
  simp [h]
theorem wf_bulk_read_refused : (Instr.bulkRead .firmware 0 (2 ^ 32)).wf = false := by decide
theorem wf_bulk_write_refused : ∀ l : List Word, l.length = 2 ^ 14 → (Instr.bulkWrite .firmware 0 l).wf = false := by
  intro l h
  show decide (4 * l.length < 2 ^ 16) = false
  simp [h]
theorem wf_exec_refused : ∀ l : List Byte, l.length = 2 ^ 16 → (Instr.exec .firmware 0 0 l).wf = false := by
  intro l h
  show decide (l.length < 2 ^ 16) = false
  simp [h]
theorem wf_subscribe_refused : (Instr.subscribe 0 0 4 0).wf = false := by decide
theorem wf_order_timeout_refused : (Instr.orderTimeout 0 (2 ^ 32)).wf = false := by decide
theorem wf_ack_refused : (Instr.ack 1 (arrives 0) 0 0).wf = false ∧ (Instr.ack 1 (arrives 1) 0 (2 ^ 32)).wf = false := by decide
theorem wf_close_refused : (Instr.close 1 (arrives 0)).wf = false := by decide
theorem wf_announce_refused : (Instr.announceReceive .A ⟨2 ^ 64, 0, 0, 0, 0, 0, 0, 0, 0, 0, true, false, false, 0⟩).wf = false
    ∧ (Instr.announceReceive .A ⟨0, 2 ^ 64, 0, 0, 0, 0, 0, 0, 0, 0, true, false, false, 0⟩).wf = false
    ∧ (Instr.announceReceive .A ⟨0, 0, 256, 0, 0, 0, 0, 0, 0, 0, true, false, false, 0⟩).wf = false
    ∧ (Instr.announceReceive .A ⟨0, 0, 0, 256, 0, 0, 0, 0, 0, 0, true, false, false, 0⟩).wf = false
    ∧ (Instr.announceReceive .A ⟨0, 0, 0, 0, 256, 0, 0, 0, 0, 0, true, false, false, 0⟩).wf = false
    ∧ (Instr.announceReceive .A ⟨0, 0, 0, 0, 0, 2 ^ 16, 0, 0, 0, 0, true, false, false, 0⟩).wf = false
    ∧ (Instr.announceReceive .A ⟨0, 0, 0, 0, 0, 0, 256, 0, 0, 0, true, false, false, 0⟩).wf = false
    ∧ (Instr.announceReceive .A ⟨0, 0, 0, 0, 0, 0, 0, 2 ^ 16, 0, 0, true, false, false, 0⟩).wf = false
    ∧ (Instr.announceReceive .A ⟨0, 0, 0, 0, 0, 0, 0, 0, 256, 0, true, false, false, 0⟩).wf = false
    ∧ (Instr.announceReceive .A ⟨0, 0, 0, 0, 0, 0, 0, 0, 0, 2 ^ 16, true, false, false, 0⟩).wf = false := by decide
theorem wf_sync_refused : (Instr.syncReceive .A ⟨2 ^ 64, 0, 0, 0, 0⟩).wf = false := by decide
theorem wf_coil_refused : ∀ m, (Instr.coilMeasurement 0 m tsEnd).wf = false := by intro m; rfl
theorem wf_report_refused : (Instr.lateReport ⟨tsEnd, .stirrup⟩).wf = false ∧ (Instr.lateReport ⟨0, .other 160⟩).wf = false := by decide
theorem wf_telegram_refused : (Instr.telegramReceive .A ⟨2 ^ 16, 0, 0, 0, 0, 0, 0, 0⟩).wf = false ∧ (Instr.telegramReceive .A ⟨0, 256, 0, 0, 0, 0, 0, 0⟩).wf = false
    ∧ (Instr.telegramReceive .A ⟨0, 0, 256, 0, 0, 0, 0, 0⟩).wf = false ∧ (Instr.telegramReceive .A ⟨0, 0, 0, 0, 2 ^ 32, 0, 0, 0⟩).wf = false := by decide
theorem wf_position_refused : (Instr.positionSample [(0, .ssi (2 ^ 32) false true)]).wf = false := by decide
theorem wf_sample_refused : (Instr.meteringSample [] 0).wf = false := by decide
theorem wf_prio_refused : (Instr.writePrio .firmware 0 (2 ^ 32) 0 0).wf = false ∧ (Instr.relinquish .firmware 0 (2 ^ 32)).wf = false := by decide
theorem wf_frame_refused : (Instr.frameReceive .A ⟨[], true, 0⟩).wf = false ∧ (Instr.frameReceive .A ⟨List.replicate 60 0, true, tsEnd⟩).wf = false := by decide
theorem wf_can_frame_refused : (Instr.canFrameReceive 0 ⟨false, false, false, false, false, 0, 2048, [], 0⟩ none).wf = false
    ∧ (Instr.canFrameReceive 0 ⟨true, false, false, false, false, 0, 2 ^ 29, [], 0⟩ none).wf = false
    ∧ (Instr.canFrameReceive 0 ⟨false, false, false, false, false, 16, 0, [], 0⟩ none).wf = false
    ∧ (Instr.canFrameReceive 0 ⟨false, false, false, false, false, 0, 0, List.replicate 65 0, 0⟩ none).wf = false
    ∧ (Instr.canFrameReceive 0 ⟨false, false, false, false, false, 0, 0, [256], 0⟩ none).wf = false
    ∧ (Instr.canFrameReceive 0 ⟨false, false, false, false, false, 0, 0, [], tsEnd⟩ none).wf = false := by decide
theorem wf_wake_refused : (Instr.canWakeEvent 0 (.frame false false 2048 0 0)).wf = false ∧ (Instr.canWakeEvent 0 (.frame false false 0 16 0)).wf = false := by decide
theorem wf_tenant_root_refused : (Instr.tenantRoot .firmware (2 ^ 32) true).wf = false := by decide
theorem wf_cred_refused : (Instr.credCreate .firmware ⟨2 ^ 32, 6, 0, 0, 0, none⟩ true).wf = false ∧ (Instr.credCreate .firmware ⟨2, 2 ^ 32, 0, 0, 0, none⟩ true).wf = false
    ∧ (Instr.credCreate .firmware ⟨2, 6, 2 ^ 32, 0, 0, none⟩ true).wf = false ∧ (Instr.credCreate .firmware ⟨2, 6, 0, 2 ^ 32, 0, none⟩ true).wf = false
    ∧ (Instr.credCreate .firmware ⟨2, 6, 0, 0, 2 ^ 32, none⟩ true).wf = false ∧ (Instr.credCreate .firmware ⟨2, 6, 0, 0, 0, some (2 ^ 384)⟩ true).wf = false := by decide +kernel
theorem wf_attest_refused : (Instr.attestSign .firmware [0]).wf = false ∧ (Instr.attestMac .firmware 0 [0]).wf = false
    ∧ (Instr.attestMac .firmware (2 ^ 32) [0, 0, 0, 0, 0, 0, 0, 0]).wf = false := by decide
theorem wf_peer_refused : (Instr.pairingAttempt ⟨true, 2 ^ 64, [], [], 0, true, true, 0, false, false⟩).wf = false
    ∧ (Instr.partnerFound ⟨true, 2 ^ 64, [], [], 0, true, true, 0, false, false⟩).wf = false := by decide
theorem wf_round_refused : (Instr.agreementRound ⟨[], [], [], 0, 2 ^ 64, 0, 0, true, true, false, 0, 0, none, []⟩).wf = false
    ∧ (Instr.agreementRound ⟨[], [], [], 0, 1, 2 ^ 16, 0, true, true, false, 0, 0, none, []⟩).wf = false := by decide
theorem wf_resync_refused : (Instr.resyncComplete ⟨[], UnitCopy.initial, 2 ^ 64, 0, 0, false, true⟩).wf = false ∧ (Instr.resyncComplete ⟨[], UnitCopy.initial, 0, 2 ^ 16, 0, false, true⟩).wf = false
    ∧ (Instr.resyncComplete ⟨[(2 ^ 32, 0)], UnitCopy.initial, 0, 0, 0, false, true⟩).wf = false ∧ (Instr.resyncComplete ⟨[(2, 0)], UnitCopy.initial, 0, 0, 0, false, true⟩).wf = false := by decide
theorem wf_record_refused : (Instr.recordCapture 0 0 0 0 false (List.replicate 17 0)).wf = false := by decide
theorem wf_trigger_refused : (Instr.trigger .firmware (2 ^ 32)).wf = false ∧ (Instr.evrClear .firmware (2 ^ 32)).wf = false := by decide
theorem wf_stage_refused : (Instr.stageBegin .firmware (2 ^ 32)).wf = false ∧ (Instr.stageData .firmware (2 ^ 32) []).wf = false := by decide
theorem wf_scrub_refused : (Instr.scrubWord (some ⟨2 ^ 32, false, 0⟩)).wf = false ∧ (Instr.scrubWord (some ⟨2, false, 0⟩)).wf = false
    ∧ (Instr.sramScrub [⟨2, true, 0⟩] []).wf = false ∧ (Instr.sramScrub [] [⟨2, true, 0⟩]).wf = false := by decide
theorem wf_calibration_refused : (Instr.calRead .firmware (2 ^ 32) 0).wf = false ∧ (Instr.calRead .firmware 0 (2 ^ 32)).wf = false
    ∧ (Instr.calStage .firmware (2 ^ 32) []).wf = false := by decide
theorem wf_din_sample_refused : ∀ t n l, (Instr.dinSample t n l [(0, 2 ^ 32)]).wf = false := by intro t n l; rfl
theorem wf_count_edge_refused : ∀ t n l, (Instr.countEdge t n l tsEnd).wf = false := by intro t n l; rfl
theorem wf_currents_refused : ∀ t a b, (Instr.currentMeasure t [] a b).wf = false := by intro t a b; rfl

/-! ## Supply, resets and bring-up -/

/-- Budgets at the limits of R25: a port takes load from 40 W on, and keeps it down to 21 W. -/
theorem witness_ports_and_fuses_grant : (2 ^ 32 - 1 : Nat) < 2 ^ 32 ∧ (after (.portGrantChange .A true 39999) up).flag Reg.PWR_A_LOAD = false
    ∧ (after (.portGrantChange .A true 40000) up).flag Reg.PWR_A_LOAD = true
    ∧ (after (.portGrantChange .B true 21000) (put up [(Reg.PWR_B_LOAD, 1)])).flag Reg.PWR_B_LOAD = true
    ∧ (after (.portGrantChange .B true 20999) (put up [(Reg.PWR_B_LOAD, 1)])).flag Reg.PWR_B_LOAD = false := by decide
/-- FS_7 at 17.5 V does not let a fuse close, a millivolt more does (R32). -/
theorem witness_ports_and_fuses_close :
    let s (mv : Nat) : State := let s := put up [(Reg.CAN_FIX_EN, 1)]; s.setTile 7 { s.tile 7 with fsMv := mv }
    (after (.fuseClose 0) (s 17500)).pwr.fuses.contains 0 = false ∧ (after (.fuseClose 0) (s 17501)).pwr.fuses.contains 0 = true := by decide
theorem witness_ports_and_fuses_trip :
    let s : State := { up with pwr := { up.pwr with fuses := [3] } }
    (after (.fuseTrip 3) s).fuseTripped 3 = true ∧ (after (.fuseTrip 3) up).fuseTripped 3 = false
      ∧ (let u : State := { put up [(Reg.CAN_FIX_EN, 8)] with pwr := { up.pwr with tripped := [3] } }; u.pwr.powered = true ∧ u.fuseEnabled 3 = true ∧ u.pwr.tripped.contains 3 = true) := by decide
theorem witness_supply_modes_bounds : (0 : Nat) < 2 ^ 32 ∧ (2 ^ 32 - 1 : Nat) < 2 ^ 32 := by decide
theorem witness_supply_modes_shed :
    let s := put up [(Reg.PWR_A_LOAD, 1), (Reg.PWR_A_GRANT, 50000), (Reg.PWR_BUDGET_MW, 50001)]
    s.pwrLive = true ∧ (s.get Reg.PWR_MODE = 0 ∨ s.get Reg.PWR_MODE = 3) ∧ s.totalGrant < s.get Reg.PWR_BUDGET_MW
      ∧ (put s [(Reg.PWR_MODE, 1)]).get Reg.FIR_MODE ≠ 4 ∧ s.get Reg.PWR_SHED ≠ 7 ∧ s.totalGrant < 48001 + 2000 := by decide
theorem witness_supply_modes_recovery :
    let s := put up [(Reg.PWR_MODE, 1), (Reg.PWR_A_LOAD, 1), (Reg.PWR_A_GRANT, 50000), (Reg.PWR_BUDGET_MW, 50000)]
    s.pwrLive = true ∧ s.get Reg.PWR_BUDGET_MW ≤ s.totalGrant ∧ (put s [(Reg.PWR_MODE, 3)]).get Reg.PWR_MODE = 3 := by decide
theorem witness_holdup : up.pwrLive = true ∧ up.flag Reg.PWR_PWR_WARN = false
    ∧ (let s : State := { put up [(Reg.PWR_MODE, 2)] with pwr := { up.pwr with final := 1 } }; s.get Reg.PWR_MODE = 2 ∧ s.pwr.final = 1)
    ∧ (let s : State := { put up [(Reg.PWR_MODE, 2)] with pwr := { up.pwr with final := 2, warnTest := true } }; s.pwr.final = 2 ∧ s.pwr.warnTest = true)
    ∧ (let s : State := { put up [(Reg.PWR_MODE, 2)] with pwr := { up.pwr with final := 2 } }; s.pwrLive = true ∧ s.get Reg.PWR_MODE = 2 ∧ s.pwr.final = 2 ∧ s.pwr.warnTest = false)
    ∧ up.sysHeld = false := by decide
theorem witness_reset_sources : up.pwr.powered = true ∧ up.pwr.sources.contains 8 = false ∧ up.pwr.running = true ∧ up.flag Reg.RST_START_OK = false
    ∧ up.get Reg.CLK_REF_SRC = 0 ∧ up.pwr.sources.contains 12 = false ∧ up.pwr.fullHeld = false ∧ up.pwr.nMask = false
    ∧ up.islandOn = true ∧ up.getBit Reg.CLK_LOCK 7 = false ∧ ({ up with pwr := { up.pwr with clkOut := [(7, 2)], nMask := true } } : State).pwr.nMask = true := by decide
theorem witness_reset_commands : withSessions.pwr.powered = true ∧ (withSessions.creds (.session 0)).tag = 0
    ∧ (withSessions.creds (.session 0)).may Right.WRITE = true ∧ (withSessions.creds (.session 0)).may Right.RESET = true := by decide
theorem witness_reset_releases : State.reset.pwr.powered = false ∧ State.reset.anyLoad = false ∧ ({ up with pwr := { up.pwr with sources := [3, 9] } } : State).pwr.sources.contains 3 = true
    ∧ (put up [(Reg.PWR_A_LOAD, 1)]).anyLoad = true := by decide
theorem witness_bring_up_points : (bringing 0).mayPass 1 = true ∧ (bringing 1).mayPass 2 = true ∧ (bringing 2).mayPass 3 = true ∧ (bringing 3).mayPass 4 = true
    ∧ (bringing 4).mayPass 5 = true ∧ (bringing 5).mayPass 6 = true ∧ (bringing 6).mayPass 7 = true ∧ (bringing 6).pwr.fullHeld = false ∧ (bringing 7).mayPass 8 = true
    ∧ (bringing 8).mayPass 9 = true ∧ (bringing 8).appGoSafe = [] ∧ 1 < (bringing 8).pwr.reach := by decide
theorem test_bring_up_b1 : (after (.sysDomainRelease 5) { bringing 0 with sysHeld := true }).sysHeld = false := by decide +kernel
theorem test_points_in_order : (after .firstValidFrame (bringing 0)).pwr.point = 0 := by decide
theorem witness_clocks_and_starts : up.pwrLive = true ∧ up.sysHeld = false ∧ up.flag (Reg.HDR_LOCK Page.RST) = false
    ∧ up.pwr.running = true ∧ (put up [(Reg.RST_TACK, 1)]).flag Reg.RST_TACK = true ∧ (put up [(Reg.CLK_REF_SRC, 1)]).get Reg.CLK_REF_SRC ≠ 0 := by decide
/-- The coin cell carries the backup domain once its voltage is the greater, and logic power while it is there (R34). -/
theorem test_backup_source : (after (.bkpSourceChange ⟨3000, 3001⟩) State.reset).get Reg.BKP_SOURCE = 2 ∧ (after (.bkpSourceChange ⟨3000, 3001⟩) up).get Reg.BKP_SOURCE = 0 := by decide
theorem witness_watched_inputs : State.reset.pwr.powered = false ∧ up.get Reg.BKP_SOURCE = 0 ∧ up.get Reg.RTC_SWO_CNT < 2 ^ 32 - 1 ∧ (put up [(Reg.RTC_SWO_ARMED, 1)]).flag Reg.RTC_SWO_ARMED = true := by decide

/-! ## Registers and Billet -/

theorem witness_plain_register_access : up.sysHeld = false ∧ up.flag (Reg.HDR_FREEZE Page.BKP) = false ∧ up.badWord 0x4080 = false ∧ up.badWord 0x40FC = false := by decide
theorem test_read_after_write : (after (.read .firmware 0x40FC) (after (.write .firmware 0x40FC 7) up)).resp.data = [7] := by decide
theorem witness_refused_accesses : up.sysHeld = false ∧ (0x4081 : Nat) % 4 ≠ 0 ∧ ownerPage 0x4081 = some 4 ∧ (0xD000 : Nat) % 4 = 0 ∧ ownerPage 0xD000 = none
    ∧ rowsAt 0x4060 = [] ∧ rowsAt 0x4040 ≠ [] ∧ accMask isRwl 0x4040 = 0 ∧ accMask isPlain 0x4040 = 0 ∧ ownerPage 0x4040 = some 4 := by decide
theorem witness_clearing_and_wide : up.sysHeld = false ∧ up.flag (Reg.HDR_FREEZE Page.SYS) = false ∧ up.badWord 0x8C = false ∧ up.badWord 0x6040 = false
    ∧ up.flag (Reg.HDR_LOCK Page.TWN) = false ∧ ({ up with staged := [(.firmware, 0xE054, 5)] } : State).staged = [(.firmware, 0xE054, 5)] := by decide
/-- RC at a session: the counter of the SYS page, BLK_VER of a wide value, and the low words that are written. -/
theorem witness_admitted_reads : let s := withSessions; let r : Requester := .session 0
    isNarrow r = false ∧ s.admitted r 0x8C none = true ∧ s.badWord 0x8C = false ∧ holdsRc 0x8C = true ∧ wideAt 0x8C = none ∧ s.eccSingle.contains 0x8C = false
      ∧ (rowsAt 0x8C).any (fun f => f.acc == .rc && f.words == 1) = true ∧ s.admitted r 0xB404 none = true ∧ holdsRc 0xB404 = true ∧ isWideLow 0xB404 = true
      ∧ (rowsAt 0xB404).any (fun f => f.acc == .rc && f.words == 2) = true ∧ s.admitted r 0x6040 none = true ∧ wideAt 0x6040 = some (0x6040, 4) := by decide
theorem witness_admitted_wide_writes : let s := withSessions; let r : Requester := .session 0
    (∀ b ∈ [0xE050, 0x90044, 0x4006C, 0x4106C, 0x06000004], s.admitted r b (some 5) = true ∧ wideAt b = some (b, 2) ∧ accMask isRwl b ||| accMask isPlain b ≠ 0
        ∧ s.ignored r b 5 = none) ∧ ownerPage 0xE050 = some Page.TWN ∧ s.flag (Reg.HDR_LOCK Page.TWN) = false
      ∧ (s.wideWords r 0x90044 2 0).all (· == 0) = true ∧ (s.wideWords r 0x90044 2 1).all (· == 0) = false
      ∧ s.carAxis 23 = false ∧ (put s [(Reg.LFT_CAR_MAP, 1), (Reg.CAR_MODE 0, CarMode.OUT_OF_SERVICE), (Reg.CAR_HOST_MOVE 0, 1)]).hostMoves 0 = true
      ∧ (put { s with roles := 65535 } [(Reg.LFT_CAR_MAP, 1)]).carAxis 0 = true ∧ (put s [(Reg.LFT_CAR_MAP, 1)]).hostMoves 0 = false := by decide +kernel
theorem test_rc_clears : (after (.readClear (.session 0) 0x8C) (put withSessions [(⟨0x8C, 31, 0⟩, 7)])).word 0x8C = 0 := by decide
theorem witness_header_controls : up.sysHeld = false ∧ pageKind 0 = some .SYS ∧ up.flag (Reg.HDR_SOFT_RESET 0) = false ∧ roleGated .SYS = false
    ∧ pageKind Page.SCN = some .SCN ∧ roleGated .SCN = true ∧ ({ up with roles := 0 } : State).roleRuns Page.SCN = false
    ∧ (put up [(Reg.HDR_ENABLE Page.SCN, 0)]).flag (Reg.HDR_ENABLE Page.SCN) = false ∧ up.flag (Reg.HDR_FREEZE 0) = false := by decide
theorem witness_host_set_time : up.sysHeld = false ∧ up.flag (Reg.HDR_LOCK Page.TBS) = false ∧ up.staged = [] ∧ (up.word 0x6054).toNat < 1000000000
    ∧ ((put up [(⟨0x6054, 31, 0⟩, 999999999)]).word 0x6054).toNat < 1000000000 ∧ up.get Reg.TBS_SERVO = 0 ∧ (put up [(Reg.TBS_SERVO, 1)]).get Reg.TBS_SERVO ≠ 0 := by decide
theorem witness_bulk_and_exec : up.sysHeld = false ∧ (32 : Nat) ≤ 32 ∧ up.flag (Reg.HDR_FREEZE Page.BKP) = false ∧ up.eccMarked = [] ∧ up.eccNew = []
    ∧ (List.replicate 32 (0 : Word)).length ≤ 32 ∧ 3 < (4 : Word).toNat := by decide
theorem witness_admitted_times : let s := withSessions; let r : Requester := .session 0
    s.admitted r 0x6050 (some 7) = true ∧ s.ownerOrFirmware r = true ∧ ((s.wideWords r 0x6050 4 7).getD 1 0).toNat < 1000000000
      ∧ 1000000000 ≤ (({ s with staged := [(r, 0x6054, 1000000000)] } : State).wideWords r 0x6050 4 7 |>.getD 1 0).toNat
      ∧ s.admitted r 0x6060 (some (setBits (s.word 0x6060) 8 8 1)) = true := by decide
theorem witness_admitted_bursts : let s := withSessions; let r : Requester := .session 0
    s.admitted r 0x4080 none = true ∧ wideCut 0x4080 (4 * 32) = none ∧ (∀ i ∈ List.range 32, sameRegion 0x4080 (0x4080 + 4 * i) = true
        ∧ s.mayRead r (0x4080 + 4 * i) = true ∧ s.badWord (0x4080 + 4 * i) = false ∧ wideAt (0x4080 + 4 * i) = none ∧ storesOnly (0x4080 + 4 * i) = true
        ∧ s.mayWrite r (0x4080 + 4 * i) 3 = true)
      ∧ readEffect 0x40FC s = s ∧ s.admitted r 0x4080 (some 3) = true ∧ ownerPage 0x4080 = some Page.BKP ∧ s.flag (Reg.HDR_LOCK Page.BKP) = false
      ∧ storesOnly 0x04000000 = true := by decide +kernel
theorem witness_admitted_exec : let s := withSessions; let r : Requester := .session 0
    s.reaches r = true ∧ (∀ e ∈ [(Page.SCN, 1), (Page.LFT, 3), (Page.SAF, 2), (Page.MTR, 1), (Page.KEY, 9), (Page.UPD, 6), (Page.ATB, 1), (Page.CAL, 4)],
        s.pinRefused r (4096 * e.1) = false ∧ (pageKind e.1).elim false (fun k => s.mayExec r k e.2 [] && (execCode r k e.2 []).isSome) = true)
      ∧ s.mntBars r none = false ∧ execCode r .EVR 3 [] = none ∧ beWords [0, 0, 1, 2] = [258] ∧ (execCode r .EVR 1 [0, 0, 1, 2]).isSome = true
      ∧ s.mayExec r .EVR 1 [0, 0, 1, 2] = true := by decide
theorem test_bulk_write_order : (after (.bulkWrite .firmware 0x4080 [1, 2, 3]) up).word 0x4088 = 3 := by decide
theorem witness_opening_within_limits :
    let o : OpenInit := ⟨.MNT, 20646, false, 5, 6, 1, 2, 1024, false, []⟩
    up.linkUp o.port = true ∧ o.udp = up.get Reg.SYS_UDP_PORT ∧ o.fragment = false ∧ up.portOn o.port = true ∧ up.halfOpen.length < 32 ∧ up.recentOpens.length < up.get Reg.SYS_BLT_OPEN_RATE ∧ up.flag Reg.RST_TACK = false
      ∧ 1024 ≤ o.limit ∧ bitOf o.majors 1 = true ∧ o.strict = false ∧ up.freeSessionHandle = some 1472 := by decide
theorem witness_opening_beyond_limits :
    let s : State := { up with halfOpen := List.replicate 32 ⟨1, 20646, 1, 1, .MNT, 1400, [], 0⟩ }
    s.linkUp .MNT = true ∧ s.portOn .MNT = true ∧ 32 ≤ s.halfOpen.length ∧ (put up [(Reg.SYS_BLT_OPEN_RATE, 0)]).get Reg.SYS_BLT_OPEN_RATE ≤ up.recentOpens.length
      ∧ (put up [(Reg.SYS_EN_A, 0)]).portOn .A = false ∧ (put up [(Reg.SYS_EN_A, 0)]).linkUp .A = true := by decide
theorem test_open_init_elsewhere : after (.openInit ⟨.MNT, 4711, false, 5, 6, 1, 2, 1024, false, []⟩) up = up := by decide +kernel
theorem witness_opening_confirmed :
    let x : HalfOpen := ⟨9, 20646, 44, 4, .MNT, 1400, [], 0⟩
    let k : Handle := ⟨Kind.CREDENTIAL, .live, 0, 1, 0, 3, 1, 5, 44, 0, 0⟩
    let s : State := { up with halfOpen := [x], handles := [(0, ⟨Kind.DEVICE_ROOT, .live, 0, 0, 0, 0, 0, 0, 0, 0, 0⟩), (4, k)] }
    s.hears .MNT 20646 = true ∧ x.udp = (arrives 1).udp ∧ s.portOn .MNT = true ∧ (arrives 1).fragment = false ∧ (arrives 1).tagOk = true ∧ s.halfOpen.find? (fun g => g.sid == x.sid) = some x
      ∧ s.findCred x.credId x.port = some (4, k) ∧ s.usable x.keyHandle = true ∧ s.freeEntry k.tag = some 0 := by decide
theorem witness_requests :
    let s := withSessions; let e := ses 3
    s.hears .MNT 20646 = true ∧ e.udp = (arrives 1).udp ∧ e.rxCount + 1 < 2 ^ 32 ∧ e.txCount + 1 < 2 ^ 32 ∧ s.portOn .MNT = true ∧ s.sessionOf e.sid = some (0, e) ∧ KV.get? s.sessions 0 = some e ∧ e.accepts 1 = true ∧ e.tag = 0 ∧ bitOf e.rights 0 = true
      ∧ e.pins = [] ∧ e.waiting = [] ∧ e.performed.contains 74 = false ∧ e.highest < 11 ∧ e.highest < 74 ∧ 74 ≤ e.highest + 64
      ∧ s.flag (Reg.HDR_FREEZE Page.BKP) = false ∧ s.badWord 0x4080 = false ∧ e.sc = false := by decide
theorem witness_requests_stale : let e : Session := { ses 3 with highest := 100 }
    35 + 63 < e.highest + 0 ∧ 36 + 63 < e.highest ∧ ¬ (37 + 63 < e.highest) ∧ e.accepts 1 = true := by decide
theorem witness_requests_order :
    let e : Session := { ses 3 with waiting := [⟨.B, ⟨1, 4, 0, 12, 0x4080, 0, []⟩⟩] }
    e.waiting.find? (fun v => v.req.reqId == 12) = some ⟨.B, ⟨1, 4, 0, 12, 0x4080, 0, []⟩⟩ := by decide
theorem test_request_below_window : (after (.request 77 (arrives 1) ⟨1, 0, 0, 36, 0x4080, 0, []⟩) { up with sessions := [(0, { ses 3 with highest := 100 })] }).resp.status
    = Status.E_STALE := by decide
theorem witness_subscribe : let s := withSessions
    s.reaches (.session 0) = true ∧ (s.creds (.session 0)).tag = 0 ∧ (s.creds (.session 0)).may Right.SUBSCRIBE = true ∧ s.pinRefused (.session 0) (4096 * 159) = false
      ∧ (159 : Nat) < 160 ∧ pageKind 0 ≠ none ∧ pageKind 159 ≠ none ∧ (s.subs.filter (fun u => u.sess == 0)).length < 32 ∧ s.subs.length < 4096 := by decide
theorem witness_subscribe_cancel : let u : Sub := ⟨1, 0, 1, 0, 1, [], [], 1⟩; let s : State := { withSessions with subs := [u] }
    s.reaches (.session 0) = true ∧ u ∈ s.subs ∧ u.sess = 0 := by decide
theorem witness_notify : let x : Note := ⟨1, false, 5, []⟩; let u : Sub := ⟨1, 0, 1, 0, 1, [x], List.replicate 7 x, 2⟩; let s : State := { withSessions with subs := [u] }
    s.subs = [u] ∧ s.notesPaused = false ∧ s.appUp = true ∧ u.unacked.length < 8 ∧ u.waiting ≠ [] ∧ u.unacked.find? (fun y => y.seq == x.seq) = some x
      ∧ (KV.get? s.sessions u.sess).isSome = true ∧ s.underRekey u.sess = true := by decide
theorem test_rekey : KV.get? (after (.request 77 (arrives 1) ⟨9, 0, 0, 11, 0, 0, []⟩) { up with sessions := [(0, { ses 3 with rxCount := 2 ^ 32 - 1 })] }).sessions 0 = none := by decide
theorem witness_ack : let x : Note := ⟨1, false, 5, []⟩; let u : Sub := ⟨1, 0, 1, 0, 1, [], [x], 2⟩; let s : State := { withSessions with subs := [u] }
    s.subs = [u] ∧ s.hears (arrives 1).port (arrives 1).udp = true ∧ (ses 3).udp = (arrives 1).udp ∧ (ses 3).rxCount + 1 < 2 ^ 32 ∧ s.portOn (arrives 1).port = true ∧ s.sessionOf (ses 3).sid = some (u.sess, ses 3) ∧ (ses 3).accepts (arrives 1).seq = true := by decide

/-! ## Time -/

theorem witness_network_time :
    let s := put up [(Reg.TBS_PTP_EN, 1), (Reg.TBS_PORT_A_EN, 1), (Reg.TBS_PARENT_PORT, 1), (Reg.TBS_SERVO, Servo.LOCKED), (Reg.TBS_PORT_A_STATE, PtpState.MASTER)]
    let p : State := { s with tb := { s.tb with mpdKnown := true, parentId := 9, portA := { s.tb.portA with link := some true } } }
    p.ptpEnabled .A = true ∧ (p.ptpPort .A).link = some true ∧ p.get Reg.TBS_PARENT_PORT = portCode .A ∧ p.tb.parentId = 9 ∧ p.tb.mpdKnown = true
      ∧ p.get Reg.TBS_SERVO = Servo.LOCKED ∧ (put p [(Reg.TBS_SERVO, Servo.HOLDOVER)]).get Reg.TBS_SERVO = Servo.HOLDOVER ∧ p.get (portStateFld .A) = PtpState.MASTER
      ∧ (put p [(Reg.TBS_DELAY_MECH, 1)]).flag Reg.TBS_DELAY_MECH = true ∧ p.flag Reg.TBS_DELAY_MECH = false
      ∧ (p.ptpPort (otherLan .A)).best = none ∧ (put p [(Reg.TBS_PARENT_PORT, 2)]).get Reg.TBS_PARENT_PORT = portCode .B ∧ p.get (portStateFld .B) ≠ PtpState.MASTER := by decide
/-- A master's Delay_Resp carries the instant at which the request came (R116, R124). -/
theorem test_delay_resp : ((after (.masterMessageSend .A .delayResp) (put up [(Reg.TBS_PTP_EN, 1), (Reg.TBS_PORT_A_EN, 1), (Reg.TBS_PORT_A_STATE, PtpState.MASTER)])).wire.map (·.kind)) = [.ptpDelayResp] := by decide
theorem test_sync_loss : (after .syncLossTimeout (put up [(Reg.TBS_SERVO, Servo.LOCKED), (Reg.TBS_HOLD_S, 9)])).get Reg.TBS_HOLD_S = 0 := by decide
theorem witness_calendar_rollover : let s := put up [(Reg.RTC_DISC_EN, 1), (Reg.TBS_VALID, 1), (Reg.RTC_MONTH, 1), (Reg.RTC_DAY, 1)]
    s.disciplined = true ∧ s.cal.pendDst = none ∧ s.civil.secs + 1 ≠ calRange := by decide
/-- 23:59:59 on 31 December 2000 rolls over to 1 January 2001 (R129). -/
theorem test_calendar_year_end : let t := after .secondRollover (put up [(Reg.RTC_YEAR_OFS, 0), (Reg.RTC_MONTH, 12), (Reg.RTC_DAY, 31), (Reg.RTC_HOUR, 23), (Reg.RTC_MIN, 59), (Reg.RTC_SEC, 59)])
    (t.get Reg.RTC_YEAR_OFS, t.get Reg.RTC_MONTH, t.get Reg.RTC_DAY, t.get Reg.RTC_HOUR, t.get Reg.RTC_SEC) = (1, 1, 1, 0, 0) := by decide +kernel
/-- 28 February 2000 is followed by the 29th (R129). -/
theorem test_calendar_leap_day : let t := after .secondRollover (put up [(Reg.RTC_YEAR_OFS, 0), (Reg.RTC_MONTH, 2), (Reg.RTC_DAY, 28), (Reg.RTC_HOUR, 23), (Reg.RTC_MIN, 59), (Reg.RTC_SEC, 59)])
    (t.get Reg.RTC_MONTH, t.get Reg.RTC_DAY) = (2, 29) := by decide +kernel
theorem witness_calendar_commit : let s := put up [(Reg.RTC_STG_MONTH, 2), (Reg.RTC_STG_DAY, 29)]
    s.disciplined = false ∧ s.stagedCivil.valid = true ∧ (put s [(Reg.RTC_STG_YEAR_OFS, 1)]).stagedCivil.valid = false := by decide
theorem witness_calendar_dst : let s := put up [(Reg.RTC_MONTH, 7), (Reg.RTC_DAY, 1)]
    s.flag Reg.RTC_DST = false ∧ s.cal.pendDst = none ∧ 0 ≤ s.dstResult .add ∧ s.dstResult .add < (calRange : Int)
      ∧ (put s [(Reg.RTC_DST, 1)]).flag Reg.RTC_DST = true ∧ 0 ≤ (put s [(Reg.RTC_DST, 1)]).dstResult .sub := by decide
theorem witness_calendar_discipline : (put up [(Reg.TBS_UTC_OFS, 37)]).utcValid = true ∧ State.reset.flag Reg.RTC_OSF = true := by decide
theorem witness_commit_refused : let s := put up [(Reg.RTC_DISC_EN, 1), (Reg.TBS_VALID, 1)]; s.flag Reg.RTC_DISC_EN = true ∧ s.flag Reg.TBS_VALID = true := by decide

/-! ## The angle scheduler -/

theorem witness_mains_bases :
    let s := (up.setFlag (pllHeld .A) true).setW (pllPh .A) 32768
    let m : MainsSeen := ⟨45000, 40000, 10⟩; let f : MainsFault := ⟨.B, 39999, 230000, 2, 0⟩; let g : MainsFault := ⟨.B, 50000, 230000, 0, 5001⟩
    (65535 : Nat) < 65536 ∧ (s.pll .A).ever = false ∧ s.sysHeld = false ∧ s.appUp = true ∧ pllLocks m = true ∧ pllLoses f = true ∧ pllLoses g = true
      ∧ pllLocks { m with mHz := 65001 } = false ∧ ({ s with pllA := ⟨true, 50000, 0⟩ } : State).pllA.ever = true ∧ s.flag (pllHeld .A) = true ∧ 32768 ≤ s.getW (pllPh .A) ∧ s.getW (pllPh .A) + 32768 < 2 ^ 64
      ∧ (up.setFlag (pllLock .B) true).flag (pllLock .B) = true ∧ (put up [(Reg.ANG_LOCK_A, 1)]).flag Reg.ANG_LOCK_A = true
      ∧ (put up [(Reg.ANG_PRED_EN, 1)]).flag Reg.ANG_PRED_EN = true ∧ up.flag (Reg.HDR_ENABLE Page.ANG) = true := by decide
/-- A phase of 20 000 after a coordinate that ends in 50 000 is reached forward, over the cycle's end (R144). -/
theorem test_relock_forward : (after (.mainsPllRelock .A ⟨50000, 230000, 10⟩ 10000) ((up.setFlag (pllHeld .A) true).setW (pllPh .A) 115536)).getW (pllPh .A) = 141072 := by decide
theorem witness_slot_commands :
    let c : SlotCommit := ⟨125000, 0, false, 1, false⟩
    let s : State := { put up [(Reg.SLOT_STATE 0, SlotState.COMMITTED), (Reg.SLOT_ACTION 0, SlotAction.POST_IRQ)] with slotCommit := [(0, c)] }
    up.get (Reg.SLOT_STATE 1023) = SlotState.FREE ∧ s.get (Reg.SLOT_STATE 0) = SlotState.COMMITTED ∧ KV.get? s.slotCommit 0 = some c ∧ c.tc - s.unow = 125000
      ∧ s.get (Reg.SLOT_ACTION 0) = SlotAction.POST_IRQ ∧ (put s [(Reg.SLOT_ACTION 0, SlotAction.SNAPSHOT)]).get (Reg.SLOT_ACTION 0) = SlotAction.SNAPSHOT
      ∧ (put s [(Reg.SLOT_ACTION 0, SlotAction.START_PROFILE)]).get (Reg.SLOT_ACTION 0) = SlotAction.START_PROFILE
      ∧ (put s [(Reg.SLOT_ACTION 0, SlotAction.SET_CH)]).get (Reg.SLOT_ACTION 0) = SlotAction.SET_CH
      ∧ (put s [(Reg.SLOT_ACTION 0, SlotAction.SET_CH)]).timedHeld 0 = false
      ∧ (put s [(Reg.SLOT_STATE 0, SlotState.ARMED)]).get (Reg.SLOT_STATE 0) = SlotState.ARMED
      ∧ (put s [(Reg.SLOT_STATE 0, SlotState.DONE)]).get (Reg.SLOT_STATE 0) = SlotState.DONE := by decide
theorem witness_coil_timed :
    let s : State := up.setTile 0 { up.tile 0 with timed := [⟨5, true, 1023, 10⟩], ch := [(5, { Chan.initial with cfg := 0x30000000 })] }
    (s.tile 0).timed = [⟨5, true, 1023, 10⟩] ∧ ((s.tile 0).chan 5).isOut = true ∧ ((s.tile 0).chan 5).safety = false ∧ ((s.tile 0).chan 5).shed = false
      ∧ bitOf (s.tile 0).fireHold 5 = false := by decide
theorem witness_coil_measurement :
    let x : CoilLearn := ⟨62, 63, 0, 0, some 0, some 0, some 65535000, some 65535000, none⟩
    let s : State := { put up [(Reg.ANG_SRC 7, 2), (Reg.ANG_LEARN 7, 1)] with coilLearn := [(7, x)] }
    KV.get? s.coilLearn 7 = some x ∧ x.onCmd = some 0 ∧ x.offCmd = some 0 ∧ x.slot = none ∧ x.onAt = some ((65535000 : Int) - s.tb.stepSum) ∧ x.offAt = x.onAt ∧ ((65535000 : Int) - s.tb.stepSum = 0 + 1000 * 65535)
      ∧ s.flag (Reg.ANG_LEARN 7) = true := by decide
/-- 160 µs after a mean of 0: a sixteenth is 10 µs (R161). -/
theorem test_coil_mean : (after (.coilMeasurement 7 true 160000) { put up [(Reg.ANG_SRC 7, 2), (Reg.ANG_LEARN 7, 1)] with coilLearn := [(7, { CoilLearn.initial with onCmd := some 0, onAt := some 160000 })] }).get
    (Reg.ANG_ON_US 7) = 10 := by decide
/-- The first edge of the feedback channel after the command is the contact, to 1 µs (R156). -/
theorem test_coil_feedback : KV.get? (after (.countEdge 1 9 true 2345678) { (put up [(Reg.ANG_SRC 7, 1), (Reg.ANG_FB_CH 7, 41)]).modTile 1 (fun x =>
    { x with ch := [(9, { Chan.initial with cfg := 0x20001000 })] }) with coilLearn := [(7, { CoilLearn.initial with onCmd := some 2000000 })] }).coilLearn 7
    = some { CoilLearn.initial with onCmd := some 2000000, onAt := some 2345000 } := by decide
theorem witness_coil_save : let s := put up [(Reg.ANG_ON_US 3, 1000)]
    coilMoved 0 (s.get (Reg.ANG_ON_US 3)) = true ∧ s.coilSaveMin ≠ some (s.get Reg.EVR_OP_S / 60) := by decide
theorem witness_sequencer_order : let s : State := { up with seqr := { up.seqr with waiting := [⟨5, .metering⟩, ⟨5, .stirrup⟩] } }
    s.sysHeld = false ∧ s.seqr.waiting.length = 2 ∧ s.tai ≤ 5 + 250000 := by decide

/-! ## Tiles -/

theorem witness_tile_channels :
    let c : Chan := { Chan.initial with cfg := 0x10000000 }
    let s : State := up.setTile 6 { up.tile 6 with trainedA := true, first := true, cfgSend := [5], ch := [(5, c)], timers := [(3, { (up.tile 6).timer 3 with run := true, cfg := 0x80000000, fifo := [0x80000400] })] }
    s.flag (Reg.HDR_LOCK (Page.TILE 6)) = false ∧ s.flag (Reg.TILE_SAFETY 6 5) = false ∧ modeValid 0x10000000 = true ∧ (s.tile 6).trainedA = true ∧ 5 ∈ (s.tile 6).cfgSend
      ∧ ((s.tile 6).chan 5).mode = ChMode.DIN ∧ ([((30000 : Int), (1 : Nat))])[0]? = some (30000, 1) ∧ ((s.tile 6).timer 3).run = true
      ∧ ((s.tile 6).timer 3).enabled = true ∧ ¬ (s.tile 6).clk < ((s.tile 6).timer 3).ready ∧ s.getBit Reg.PWR_SHED 2 = false ∧ (s.tile 6).safe = false ∧ (s.tile 6).fsRev = false := by decide
theorem witness_tile_channel_modes : ({ Chan.initial with cfg := 0x20000000 } : Chan).mode = ChMode.COUNT ∧ ({ Chan.initial with cfg := 0x50000000 } : Chan).mode = ChMode.PULSE
    ∧ getBits (0x50000000 : Word) 31 28 = ChMode.PULSE ∧ getBits (0x50000000 : Word) 13 12 = 0
    ∧ ({ Tile.initial with first := true, ch := [(5, { Chan.initial with cfg := 0x50000000, pulses := 1 })] } : Tile).pulseFree 5 = true := by decide
/-- A pulse of 1 ms stands on the terminal until 1 ms has passed (R173). -/
theorem test_pulse_end : let c : Chan := { Chan.initial with cfg := 0x50000000, wave := true, waveEnd := some 1000000, param := 0x00020001 }
    (c.at_ 999992).wave = true ∧ (c.at_ 1000000).wave = false ∧ (c.at_ 1000000).busyTo = 3000000 := by decide
/-- PWM at half duty: high in the first half of its period of 4 µs (R172). -/
theorem test_pwm : let c : Chan := { Chan.initial with cfg := 0x40001000, pwm := 0x00288000, param := 0x00288000 }
    (c.at_ 1992).wave = true ∧ (c.at_ 2000).wave = false ∧ (c.at_ 4000).wave = true := by decide
/-- A step whose direction changes waits until DIR_CH has led it by DIR_SETUP (R174). -/
theorem test_dir_setup : let x := ({ Tile.initial with timers := [(0, { StepTimer.initial with cfg := 0x80050000 })] } : Tile).pushStep 0 0x80000400
    ((x.stepDue 0).timer 0).due = some 5000 ∧ ((x.stepDue 0).timer 0).posInc = 0 ∧ (({ x with clk := 5000 }.stepDue 0).timer 0).posInc = 1 := by decide
theorem witness_tile_faults_and_tests :
    let c : Chan := { Chan.initial with cfg := 0x30000400, short := true, out := true, swA := true, swB := true }
    let s : State := up.setTile 6 { up.tile 6 with first := true, ch := [(5, c)], over8 := 40, sum := 8001, below := 4000, shedOrder := [(5, 10)] }
    ((s.tile 6).chan 5).isOut = true ∧ (s.tile 6).commanded 5 = true ∧ (s.tile 6).limits 5 = true ∧ (s.tile 6).autoRestore = true ∧ (s.tile 6).fsFail = false ∧ 40 ≤ (s.tile 6).over8 ∧ 8000 < (s.tile 6).sum ∧ 4000 ≤ (s.tile 6).below
      ∧ ((s.tile 6).chan 5).mode = ChMode.DOUT ∧ (s.tile 6).test = none := by decide
theorem test_output_short : let s : State := up.setTile 2 { up.tile 2 with first := true, ch := [(5, { Chan.initial with cfg := 0x30000000, out := true })] }
    (((after (.shortDetect 2 5) s).tile 2).chan 5).short = true ∧ (after (.shortDetect 2 5) s).mem = s.mem := by decide
theorem witness_welt_frames :
    let s : State := up.setTile 6 { up.tile 6 with trainedA := true, first := true, commit := some true }
    up.laneUp 6 .A = false ∧ s.laneUp 6 .A = true ∧ s.sysHeld = false ∧ (s.tile 6).commit = some true ∧ up.get (Reg.TILE_BARRIER_US 6) ≤ 65535
      ∧ (put up [(Reg.TILE_LINK_UP 6, 1)]).flag (Reg.TILE_LINK_UP 6) = true := by decide
/-- Pulse requests and a new table reach the tile with the next frame (R180). -/
theorem test_messages_ride : let s : State := up.setTile 6 { up.tile 6 with trainedA := true, first := true, commitOut := some 5, pulseOut := [(3, 2)] }
    let t := after (.downlinkFrame 6 .A .good) s
    s.fioStopped = false ∧ (s.tile 6).commitOut = some 5 ∧ (t.tile 6).pulseOut = [] ∧ (t.tile 6).commitOut = none ∧ (t.tile 6).commit.isSome = true := by decide +kernel
theorem witness_welt_gaps : (seqGap (some 5) 6).isSome = true ∧ (seqGap (some 5) 5).isSome = false ∧ (seqGap none 0).isSome = true := by decide

/-! ## The scan engine -/

theorem witness_scan_commands :
    let s := put up [(Reg.SCN_MODE, ScanMode.RUN), (Reg.SCN_PHASE, ScanPhase.EXECUTE), (Reg.HDR_ENABLE Page.SCN, 1)]
    let r : State := { put up [(Reg.SCN_MODE, ScanMode.RUN)] with scan := { up.scan with swapRest := 2 } }
    s.get Reg.SCN_MODE = ScanMode.RUN ∧ s.get Reg.SCN_PHASE = ScanPhase.EXECUTE ∧ s.flag (Reg.HDR_ENABLE Page.SCN) = true ∧ s.inPair = false ∧ s.get Reg.FIR_MODE = 0
      ∧ (put s [(Reg.SCN_MODE, ScanMode.HOLD)]).get Reg.SCN_MODE = ScanMode.HOLD ∧ up.get Reg.SCN_MODE = ScanMode.STOP ∧ up.scan.toRun = false
      ∧ 0 < r.scan.swapRest ∧ r.get Reg.SCN_PHASE = ScanPhase.IDLE ∧ (put s [(Reg.SCN_PHASE, ScanPhase.OUTPUT)]).get Reg.SCN_PHASE = ScanPhase.OUTPUT ∧ (put s [(Reg.SCN_SWAP_PEND, 1)]).flag Reg.SCN_SWAP_PEND = true := by decide
theorem test_stop_waits_for_end : let t := after .scnCmdStop (put up [(Reg.SCN_MODE, ScanMode.RUN), (Reg.SCN_PHASE, ScanPhase.EXECUTE)])
    t.scan.toStop = true ∧ t.get Reg.SCN_MODE = ScanMode.RUN := by decide
theorem witness_scan_stores :
    let c : RetCopy := { up.scan.shadow with gen := 2, kind := 2 }
    let s : State := { withSessions with scan := { up.scan with writing := some (true, c), handed := [8191], saving := some [] } }
    up.flag (Reg.HDR_LOCK Page.SCN) = false ∧ dataWritable 0x6000 = true ∧ s.scan.handed.contains 8191 = true ∧ (s.creds (.session 0)).tag = 0
      ∧ (s.creds (.session 0)).may Right.EXEC = true ∧ s.scan.saving = some [] ∧ s.scan.writing = some (true, c) ∧ c.kind = 2 ∧ up.scan.writing = none := by decide
theorem test_data_window_write : (after (.dataWindowWrite 0x6000 9) up).dataWord 0x6000 = 9 := by decide
theorem witness_scan_control :
    let s (st : List StkEntry) : State := { put up [(Reg.SCN_SCAN_WDT_US, 60000)] with scan := { up.scan with bank := [(8, 100)], cpu := { up.scan.cpu with stack := st, ba := true } } }
    (s []).cpu.stack = [] ∧ (s []).get Reg.SCN_PHASE ≠ ScanPhase.EXECUTE ∧ (99 : BitVec 24).toNat < 2 ^ 18 ∧ (99 : BitVec 24).toNat < (s []).codeLen
      ∧ (s (List.replicate 15 (.bit true))).cpu.stack.length < 16 ∧ (s [.ret 5]).cpu.stack = .ret 5 :: [] ∧ (s [.bit false]).cpu.stack = .bit false :: [] := by decide
theorem witness_scan_end :
    let s : State := { put up [(Reg.SCN_SCAN_WDT_US, 60000), (Reg.SCN_PHASE, ScanPhase.EXECUTE)] with scan := { up.scan with bank := [(8, 100)] } }
    s.cpu.stack = [] ∧ s.get Reg.SCN_PHASE = ScanPhase.EXECUTE
      ∧ s.scanTotal + 10 ≤ s.get Reg.SCN_SCAN_WDT_US * 2000 ∧ s.broken s.outputReads = none ∧ ¬ s.scanTotal + 10 ≤ s.scan.limit
      ∧ ({ s with scan := { s.scan with limit := 10000 } } : State).scanTotal + 10 ≤ 10000 := by decide
/-- A copy never written holds no valid CRC (R212, R532). -/
theorem test_retentive_crc : RetCopy.initial.holds = false := by decide +kernel
theorem witness_bit_operand : BitOperand 0x800001 up true ∧ BitOperand 0x800000 up false := by
  exact ⟨.inl ⟨by decide, by decide, by decide⟩, .inl ⟨by decide, by decide, by decide⟩⟩
/-- An immediate operand of −1, and a zero, at which a division has its corner. -/
theorem witness_scan_arithmetic : Operand 0xBFFFFF up 0xFFFFFFFF Qual.GOOD ∧ Operand 0x800000 up 0 Qual.GOOD ∧ opSp 0x800003 = 2 ∧ opAddr 0x800003 < 4 := by
  exact ⟨.inl ⟨by decide, by decide, by decide⟩, .inl ⟨by decide, by decide, by decide⟩, by decide, by decide⟩
theorem witness_real_zero : (∀ n e, fval 0x3F800000 ≠ .fin n 0 e) ∧ fval 0 = .fin false 0 0 := by
  have h : fval 0x3F800000 = .fin false 8388608 (-23) := by decide
  refine ⟨fun n e k => ?_, by decide⟩
  rw [h] at k; cases k
theorem witness_scan_word : placeW false 0 0x003000 = some (.word 0x3000) ∧ CleanWord 0x3000 up ∧ CleanWord 0x3001 up ∧ WordQual 0x3000 up Qual.GOOD ∧ WordQual 0x3001 up Qual.GOOD := by
  simp only [CleanWord, WordQual]; decide
theorem witness_scan_store : placeW true up.cpu.x 0x003000 = some (.word 0x3000) ∧ dataWritable 0x3000 = true ∧ placeB true up.cpu.x 0x0C0000 = some (.bit 0x6000 0)
    ∧ dataWritable 0x6000 = true ∧ CleanWord 0x6000 up ∧ placeB false up.cpu.x 0x0C0000 = some (.bit 0x6000 0) ∧ (1 : BitVec 24) ≠ 0 := by
  simp only [CleanWord]; decide
theorem witness_structure : StructOperand 0x006000 up 0x6000 ∧ StructOperand 0x01FFFD up 0x1FFFD := by
  simp only [StructOperand, CleanWord]; decide
/-- A timer of 5 ms with 4 ms passed that sees 1 ms more is done (R235). -/
theorem test_ton_done : (Timer.ton 1000 true ⟨5, 4, true, false, false, 0⟩).q = true := by decide
theorem test_div_by_zero : (after (.scDiv 0x800000) { up with scan := { up.scan with cpu := { up.scan.cpu with wa := 0xFFFFFFFB } } }).cpu.wa = 0x80000000 := by decide
theorem test_add_saturates : (after (.scAdd 0x800001) { up with scan := { up.scan with cpu := { up.scan.cpu with wa := 0x7FFFFFFF } } }).cpu.wa = 0x7FFFFFFF := by decide
theorem test_mul_float : (fmul 0x40000000 0xC0400000).w = 0xC0C00000 := by decide
theorem test_add_float : (fadd 0x3F800000 0x3F800000).w = 0x40000000 := by decide

/-! ## Loops, motion, cars and doors -/

theorem witness_loop_commands :
    let s0 := put up [(Reg.LOOP_LAW 0, 1), (Reg.LOOP_PERIOD 0, 100), (Reg.LOOP_IN_KIND 0, 3), (Reg.LOOP_IN_INDEX 0, 8), (Reg.HDR_ENABLE Page.LPE, 1)]
    let s : State := { s0 with loops := [(0, { s0.loop 0 with applied := true, cfg := s0.loopWords 0, take := some (0, s0.loopWords 0) })] }
    (s.loop 0).applied = true ∧ s.loopMode 0 = LoopMode.OFF ∧ loopDest (s.loop 0).cfg = none ∧ cfgGet (s.loop 0).cfg (Reg.LOOP_LAW 0) ≠ 0 ∧ s.applyMarked = []
      ∧ (s.loop 0).take = some (0, s0.loopWords 0) ∧ s.flag (Reg.HDR_ENABLE Page.LPE) = true ∧ (up.loop 255).applied = false
      ∧ (0 : Nat) ∈ (put s [(Reg.LPE_APPLY_MAP 0, 1)]).applyMarked := by decide
theorem witness_axis_commands :
    let s := put up [(Reg.AXIS_STATE 20, AxState.MOVING)]
    s.carAxis 20 = false ∧ s.activating = false ∧ s.get (Reg.AXIS_STATE 20) = AxState.MOVING
      ∧ (put up [(Reg.AXIS_STATE 20, AxState.STOPPED), (Reg.AXIS_RESUME_OK 20, 1)]).flag (Reg.AXIS_RESUME_OK 20) = true
      ∧ (put up [(Reg.AXIS_STATE 20, AxState.FAULT)]).causeGone 20 = true ∧ (up.axis 20).stopping = false ∧ bitOf (0x80100000 : Word).toNat 20 = true
      ∧ (put up [(Reg.LFT_CAR_MAP, 255)]).carAxis 0 = true ∧ (put up [(Reg.LFT_CAR_MAP, 255)]).hostMoves 0 = false := by decide
/-- The worked example of a ratio change (spec 12, G1 to G4): 21 500 at 10 000, 21 750 at 10 200, 21 900 at 10 400, 22 200 at 11 000. -/
theorem test_gear_ramp :
    let g : Gear := { Gear.initial with on := true, num := 3, den := 2, ref := 9000 * 65536, chg := some ⟨1, 2, 10000 * 65536, 400 * 65536, some true⟩ }
    [10000, 10200, 10400, 11000].map (fun m => g.value (m * 65536)) = [1500 * 65536, 1750 * 65536, 1900 * 65536, 2200 * 65536] := by decide +kernel
/-- The worked example of a reversal (spec 12): seven phases end after 0.1, 1.0, 1.1, 2.3, 2.4, 2.8 and 2.9 s. -/
theorem test_reversal_times :
    (knotsOf (12000 * fine1, 4000 * fine1, 0) 0 (minTime (-6000 * fine1) (4000 * fine1) 0 (4000 * fine1) (8000 * fine1) (80000 * fine1))).map
      (fun k => (k.1 * 1000000 + fine1 / 2) / fine1) = [100000, 1000000, 1100000, 2300000, 2400000, 2800000, 2900000] := by decide +kernel
/-- A segment at constant 4 000 steps/s, evaluated in binary64 (R262), and its steps on the 4 ns grid (R278). -/
theorem test_segment_eval :
    let g : Seg := ⟨0, 1000000, 0, 4000 * 256, 4 * 65536, 4000 * 256, none, false, false, false⟩
    g.eval 250000 = ⟨65536, 4000 * 256, 0⟩ ∧ ({ Axis.initial with plan := [g] }.stepsTo 0 1000000) = [(250000, true), (500000, true), (750000, true), (1000000, true)] := by decide +kernel
/-- R509: a scan command, a shed entry and a power warning of one tick apply in order of rank; the tick itself keeps its place. -/
theorem test_rank_order : (up.arriveTick [.shedEntry, .scnCmdStop, .loopTick 0, .pwrWarn]).pending = up.pending ++ [.pwrWarn, .scnCmdStop, .loopTick 0, .shedEntry] := by decide
/-- R486: the supercapacitor at 2.5 V shows 1 V; code 0x0B is reserved. -/
theorem test_atb_nodes :
    ((put up [(Reg.BKP_SCAP_MV, 2500)]).atbVolt .scap) = .volts 1000000 ∧ atbNode 0x0B 0 = none ∧ atbNode 0x0A 48 = none ∧ atbNode 0x2C 0 = some (.fieldSupply 7) := by decide
theorem test_start_needs_state : (after (.axisCmdStop 20) up).resp.status = Status.E_STATE := by decide
theorem witness_motion_groups :
    let s := put up [(Reg.MOT_MEMBERS 3, 0x10), (Reg.AXIS_STATE 4, AxState.STANDSTILL)]
    (∀ n ∈ s.members 3, s.get (Reg.AXIS_STATE n) = AxState.STANDSTILL) ∧ s.members 3 = [4] ∧ s.flag (Reg.HDR_LOCK Page.MOT) = false
      ∧ (∀ n < 24, ∀ k < 24, bitOf (getBits (0x10 : Word) 23 0) n = true → bitOf (getBits (0x10 : Word) 23 0) k = true → axisClass n = axisClass k) := by decide
theorem witness_motion_gears : let s := put up [(Reg.AXIS_GEAR_SRC 4, 1), (Reg.AXIS_GEAR_EN 4, 1), (Reg.CAR_POS_VALID 0, 1)]
    s.master 4 = some 0 ∧ s.flag (Reg.AXIS_GEAR_EN 4) = true ∧ up.master 4 = none ∧ (s.axis 4).gear.chg = none := by decide
theorem witness_motion_faults :
    let s := put up [(Reg.AXIS_STATE 3, AxState.STANDSTILL), (Reg.AXIS_FE_EN 3, 1), (⟨(Reg.AXIS_SP_POS 3).addr, 31, 0⟩, 6553601), (Reg.HDR_ENABLE Page.MOT, 1), (Reg.AXIS_NODE 3, 3)]
    s.get (Reg.AXIS_STATE 3) ≠ AxState.DISABLED ∧ s.get (Reg.AXIS_STATE 3) ≠ AxState.FAULT ∧ s.flag (Reg.AXIS_FE_EN 3) = true
      ∧ s.get (Reg.AXIS_FE_MAX 3) * 65536 < (s.getWS (Reg.AXIS_SP_POS 3) - s.getWS (Reg.AXIS_ACT_POS 3)).natAbs
      ∧ (put s [(Reg.CANCH_STATE 0, CanState.ACTIVE), (Reg.HDR_ENABLE (Page.CANCH 0), 1)]).canOn 0 = true
      ∧ s.get (Reg.AXIS_CAN_CH 3) = 0 ∧ s.axisNode 3 = 3 ∧ (4 : BitVec 16).getLsbD 2 = true := by decide
theorem witness_cars_position :
    let s := put up [(Reg.LFT_CAR_MAP, 255), (Reg.CAR_ENC 7, 1), (Reg.CAR_SSI_BITS 7, 24)]
    (s.rawRead 7 (.ssi 0 false true)).map (·.2) = some false ∧ s.sysHeld = false ∧ s.carPresent 7 = true ∧ s.inPair = false ∧ (s.car 7).hist = [] := by decide
theorem witness_cars_learn :
    let s := put up [(Reg.LFT_CAR_MAP, 255), (Reg.AXIS_STATE 2, AxState.STANDSTILL), (Reg.SAF_CD_CLOSED, 255), (Reg.SAF_LD_CLOSED, 255), (Reg.SAF_LOCKED, 255),
      (Reg.CAR_MODE 2, CarMode.OUT_OF_SERVICE), (Reg.CAR_POS_VALID 2, 1), (Reg.CAR_DZ_IN 2, 1)]
    s.carPresent 2 = true ∧ s.get (Reg.CAR_MODE 2) = CarMode.OUT_OF_SERVICE ∧ s.get (Reg.AXIS_STATE 2) = AxState.STANDSTILL ∧ s.closedLocked 2 = true
      ∧ s.flag (Reg.CAR_POS_VALID 2) = true ∧ s.flag (Reg.CAR_DZ_IN 2) = true ∧ s.flag (Reg.CAR_LEVEL_VALID 2 ((s.landings 2).headD 0)) = false
      ∧ s.get (Reg.CAR_LEARN_ST 2) ≠ 1 ∧ (put s [(Reg.CAR_LEARN_ST 2, 2)]).get (Reg.CAR_LEARN_ST 2) = 2 ∧ (put s [(Reg.CAR_ENC 2, 2)]).get (Reg.CAR_ENC 2) = 2
      ∧ up.carPresent 2 = false := by decide
theorem witness_cars_arrival :
    let x : Stop := ⟨0, false, false, true, 0⟩
    let s0 := put up [(Reg.LFT_CAR_MAP, 255), (Reg.AXIS_STATE 2, AxState.STANDSTILL)]
    let s : State := { s0 with cars := [(2, { s0.car 2 with stops := [x], h1 := 1 })] }
    (s.car 2).stops = x :: [] ∧ x.com = true ∧ s.getWS (Reg.AXIS_SP_POS 2) = s.level 2 x.landing * 65536 ∧ s.carPresent 2 = true
      ∧ s.get (Reg.AXIS_STATE 2) = AxState.STANDSTILL ∧ s.axisRests 2 = true ∧ (s.axis 2).newTarget = false ∧ (s.car 2).door.relevel < 2 ∧ s.ffPhase 2 ≠ 1
      ∧ (s.car 2).h1 = 1 := by decide
theorem witness_cars_recall : let s : State := { put up [(Reg.FIR_FF_PHASE, 1)] with cars := [(0, { up.car 0 with recallStep := 2 })] }
    s.ffPhase 0 = 1 ∧ (s.car 0).recallStep = 2 := by decide
theorem witness_lift_calls :
    let s := put { withSessions with calls := [(0, ⟨9, 0, 0, false, false, false, 1, 2, 1, 0, 0, none, 1, 0, false⟩)] } [(Reg.LFT_CAR_MAP, 255), (Reg.HDR_ENABLE Page.LFT, 1)]
    s.flag (Reg.HDR_ENABLE Page.LFT) = true ∧ (s.creds (.session 0)).tag = 0 ∧ (s.creds (.session 0)).may Right.EXEC = true
      ∧ (s.calls.find? (fun e => e.2.id == 9 && e.2.state != 3)).isSome = true ∧ (s.call 0).isSome = true ∧ (s.call 4095).isSome = false
      ∧ s.get Reg.TWN_STATE ≠ TwinState.STANDBY := by decide
theorem witness_doors :
    let s := put up [(Reg.LFT_CAR_MAP, 255), (Reg.CAR_DOOR_STATE 2, DoorState.OPEN)]
    s.activating = false ∧ s.get (Reg.CAR_MODE 2) = CarMode.NORMAL ∧ s.get (Reg.CAR_DOOR_STATE 2) = DoorState.OPEN
      ∧ (put s [(Reg.CAR_MODE 2, CarMode.INSPECTION), (Reg.CAR_IN_DZ 2, 1)]).flag (Reg.CAR_IN_DZ 2) = true ∧ s.axisRests 2 = true
      ∧ s.getWS (Reg.AXIS_SP_POS 10) = (s.get (Reg.CAR_OPEN_POS 2) : Int) * 65536 ∧ s.axisRests 10 = true
      ∧ (put s [(Reg.CAR_DOOR_STATE 2, DoorState.OPENING)]).get (Reg.CAR_DOOR_STATE 2) = DoorState.OPENING
      ∧ (put s [(Reg.CAR_DOOR_STATE 2, DoorState.FAULT)]).get (Reg.CAR_DOOR_STATE 2) = DoorState.FAULT
      ∧ (put s [(Reg.CAR_CLOSED_TOL 2, 100)]).nearClosed 2 = true ∧ s.coupling 2 = false ∧ (put s [(Reg.SAF_CD_CLOSED, 255), (Reg.SAF_LD_CLOSED, 255), (Reg.SAF_LOCKED, 255)]).closedLocked 2 = true := by decide
theorem witness_doors_relevel :
    let s : State := { put up [(⟨(Reg.CAR_POS 2).addr, 31, 0⟩, 401), (Reg.CAR_DOOR_STATE 2, DoorState.OPEN)] with cars := [(2, { up.car 2 with at_ := some 0 })] }
    (s.car 2).at_ = some 0 ∧ 400 < (s.getS (Reg.CAR_POS 2) - s.getS (Reg.CAR_LEVEL 2 0)).natAbs ∧ (s.car 2).door.relevel = 0
      ∧ s.groupMoves 2 = true ∧ s.coupling 2 = false ∧ s.get (Reg.CAR_DOOR_STATE 2) = DoorState.OPEN := by decide
theorem test_hold_not_in_normal : (after (.doorCmdHold 2 false) (put up [(Reg.LFT_CAR_MAP, 255), (Reg.CAR_DOOR_STATE 2, DoorState.OPEN)])).get (Reg.CAR_DOOR_STATE 2) = DoorState.OPEN := by decide

/-! ## Stirrup -/

/-- One car, with a door contact on input 1, a stop on input 2 and a brake on output 3. -/
def oneCar (st inputs : Nat) : State :=
  let s := put up [(Reg.SAF_STATE, st), (⟨Reg.SAF_IN_A.addr, 31, 0⟩, inputs), (⟨Reg.SAF_IN_B.addr, 31, 0⟩, inputs)]
  { s with saf := { s.saf with carMap := 1, force := [((Reg.SAF_SIN_FUNC 1).addr, 0x10000000), ((Reg.SAF_SIN_FUNC 2).addr, 0x90000000), ((Reg.SAF_SIN_FUNC 3).addr, 0x40000000)] } }
theorem witness_safety_cycle :
    let s := oneCar SafState.RUN 6
    s.get Reg.SAF_STATE = SafState.RUN ∧ (oneCar SafState.HALT 6).get Reg.SAF_STATE = SafState.HALT ∧ bitOf s.saf.carMap 0 = true ∧ s.saf.latched = []
      ∧ ({ s with saf := { s.saf with cross := 1 } } : State).saf.cross = 1 ∧ s.par (Reg.SAF_SIN_FUNC 1) ≠ 0 ∧ s.viewsDiffer 1 = false
      ∧ (put s [(⟨Reg.SAF_IN_B.addr, 31, 0⟩, 4)]).viewsDiffer 1 = true ∧ (1 : Nat) ∉ s.saf.disc := by decide
theorem test_telegram_crc_differs : chkA 1 [1, 2, 3] ≠ chkA 2 [1, 2, 3] := by decide
/-- The contact has counted as closed. -/
def pressedBy (s : State) : State := { (put s [(Reg.SAF_RESET_IN, 1)]) with saf := { s.saf with rtn := 2, pressed := true } }
/-- Two pulses in phase in both cores close the contact, one alone does not (R346). -/
theorem test_contact :
    let s := (up.readContact (some (true, true)))
    s.flag Reg.SAF_RESET_IN = false ∧ (s.readContact (some (true, true))).flag Reg.SAF_RESET_IN = true ∧ (s.readContact (some (true, false))).flag Reg.SAF_RESET_IN = false := by decide
theorem witness_safety_reset_press :
    let s := pressedBy (put up [(Reg.SAF_STATE, SafState.LOCKED), (Reg.SAF_PARAM_PEND, 1)])
    s.saf.pressed = true ∧ 200 ≤ 200 ∧ 50 ≤ 50 ∧ 50 < 5000 ∧ 4999 < 5000 ∧ s.saf.lastTrip = none ∧ s.get Reg.SAF_STATE = SafState.LOCKED ∧ s.flag Reg.SAF_PARAM_PEND = true ∧ s.allRest = true := by decide
/-- A press of 50 ms is valid, one of 49 ms and one of 5 s are not (R347). -/
theorem test_press_lengths : (after (.safetyResetPress 200 50) (pressedBy up)).get Reg.SAF_RESET_OK = 1 ∧ (after (.safetyResetPress 200 49) (pressedBy up)).get Reg.SAF_RESET_OK = 0
    ∧ (after (.safetyResetPress 200 5000) (pressedBy up)).get Reg.SAF_RESET_OK = 0 ∧ (after (.safetyResetPress 199 50) (pressedBy up)).get Reg.SAF_RESET_OK = 0 := by decide +kernel
theorem witness_safety_parameters : (withSessions.creds (.session 0)).tag = 0 ∧ (withSessions.creds (.session 0)).may Right.EXEC = true
    ∧ (withSessions.creds (.session 1)).tag ≠ 0 ∧ (put up [(Reg.SAF_RESET_IN, 1)]).flag Reg.SAF_RESET_IN = true ∧ up.pwr.fullHeld = false
    ∧ up.pwr.powered = true ∧ (put up [(Reg.SAF_STATE, SafState.SELFTEST)]).get Reg.SAF_STATE = SafState.SELFTEST
    ∧ (put up [(Reg.PWR_MODE, PowerMode.HOLDUP)]).get Reg.PWR_MODE = PowerMode.HOLDUP := by decide
theorem witness_safety_telegrams :
    let s : State := { up with saf := { up.saf with force := [((Reg.SAF_CONN_EN 0).addr, 0x80000000), ((Reg.SAF_CONN_ID 0).addr, 2)] } }
    s.sysHeld = false ∧ s.parFlag (Reg.SAF_CONN_EN 0) = true ∧ (0x5357 : Nat) = 0x5357 ∧ (∀ n, (s.safConn 0).last = some n → n ≠ 1) := by
  refine ⟨by decide, by decide, rfl, fun n h => ?_⟩
  exact absurd h (by decide +revert)

/-! ## Metering -/

theorem witness_metering_samples :
    let s := put up [(Reg.PULSE_CH 0, 6), (⟨chCfgAddr 0 6, 31, 0⟩, 0x50001000), (Reg.TILE_LINK_UP 0, 1), (Reg.PULSE_OWED 0, 5), (Reg.PULSE_AT_TILE 0, 15), (Reg.HDR_ENABLE (Page.PULSE 0), 1)]
    s.meter.on = true ∧ s.pulseOn 0 = true ∧ s.pulseCh 0 = true
      ∧ s.flag (Reg.TILE_LINK_UP 0) = true ∧ s.flag (Reg.TILE_SAFE 0) = false ∧ (s.tile 0).safe = false ∧ min (s.get (Reg.PULSE_OWED 0)) (16 - s.get (Reg.PULSE_AT_TILE 0)) = 1
      ∧ s.flag (Reg.HDR_LOCK Page.MTR) = false := by decide
theorem witness_metering_intervals :
    let c : MeterCopy := { up.meter.copyA with kind := 1 }
    up.meter.on = true ∧ up.meter.writing = none ∧ up.meter.final = false ∧ up.meter.finalDue = false ∧ up.meter.queued = none ∧ up.meter.cmdWait = false ∧ up.meter.old = none
      ∧ ({ up with meter := { up.meter with last := some 5 } } : State).periodicSampled = true ∧ ({ up.meter with queued := some c } : Meter).queued = some c
      ∧ ({ up.meter with writing := some (true, c), cmdWait := true } : Meter).writing = some (true, c)
      ∧ (withSessions.creds (.session 0)).tag = 0 ∧ (withSessions.creds (.session 0)).may Right.EXEC = true ∧ (∀ h, Requester.firmware ≠ .session h) ∧ (up.creds .firmware).tag = 0
      ∧ (255 : BitVec 8).toNat = 0xFF ∧ (47 : BitVec 8).toNat < 48 ∧ ¬ ((48 : BitVec 8).toNat < 48) := by
  refine ⟨by decide, by decide, by decide, by decide, by decide, by decide, by decide, by decide, by decide, by decide, by decide, by decide, ?_, by decide, by decide, by decide, by decide⟩
  intro h e; cases e
theorem test_max_reset_bad : (after (.maxReset 48) up).resp.status = Status.E_OP := by decide

/-! ## Points, sessions and BACnet -/

theorem witness_point_writes :
    let s := put withSessions [(Reg.PT_CMD 1, 1), (Reg.PT_PA 1, 5), (Reg.PT_TAG 1, 3), (Reg.PT_PA 8191, 0)]
    s.mayWritePoint (s.creds (.session 0)) 1 = true ∧ s.mayWritePoint (s.creds (.session 1)) 8191 = false ∧ s.ptIn 1 = false ∧ s.gated (s.creds (.session 0)) 1 = false
      ∧ s.flag (Reg.PT_CMD 1) = true ∧ s.get (Reg.PT_PA 1) ≠ 0 ∧ paWinner [(5, ⟨7, 0, true⟩), (16, ⟨8, 0, true⟩)] = some (5, ⟨7, 0, true⟩) ∧ (5 : Nat) ≤ 16
      ∧ s.mayCommandPoint (s.creds (.session 0)) 1 = true ∧ s.flag (Reg.HDR_LOCK Page.PGD) = false := by decide
theorem witness_point_writes_narrow : isNarrow (.coreNarrow 3) = true ∧ isNarrow (.core 3) = false
    ∧ (after (.pointValueWrite (.coreNarrow 3) 1 7 0) up).resp.status = Status.E_ALIGN := by decide
theorem test_binding_delivers : (after (.bindingDelivery 1 9 0) up).word (ptAddr 1 0) = up.word (ptAddr 1 0) := by decide
theorem witness_sessions_and_bacnet :
    let s := put withSessions [(Reg.PGD_BIP_EN, 1), (Reg.PGD_BIP_TAG, 3), (Reg.PGD_BIP_RIGHTS, 127), (Reg.PT_TAG 1, 3), (Reg.PT_OBJ_ID 1, 0x00800001), (Reg.PT_TYPE 1, 2), (Reg.PT_COV 1, 1)]
    (s.creds (.session 0)).tag = 0 ∧ (s.creds (.session 0)).may Right.EXEC = true ∧ s.bacnetServes .firmware = false ∧ s.bacnetServes .bacnetIp = true
      ∧ s.flag (Reg.PT_COV 1) = true ∧ (KV.get? s.sessions 0).isSome = true ∧ (KV.get? s.sessions 511).isSome = false ∧ s.objKnown (s.creds .bacnetIp) 1 = true ∧ s.ptAnalog 1 = true
      ∧ s.objKnown (s.creds .bacnetIp) 2 = false ∧ s.mayWritePoint (s.creds .bacnetIp) 1 = true ∧ s.freeEntry 0 = some 2 ∧ s.freeSessionHandle = some 1472 := by decide
/-- COV_Increment 5.0 on an INT32 point (R391), and OBJ_ID 0 in use by one entry and by two (R383). -/
theorem test_cov_increment : apartBy 2 10 5 0x40A00000 = true ∧ apartBy 2 9 5 0x40A00000 = false ∧ apartBy 2 5 5 0 = false
    ∧ apartBy 4 0x3F800000 0x3F000000 0x3F000000 = true ∧ apartBy 4 0x3F800000 0x3F000001 0x3F000000 = false := by decide
theorem test_object_identifier_in_use : (put up [(Reg.PT_TYPE 1, 2), (Reg.PT_TYPE 2, 2)]).objTaken 1 = true ∧ (put up [(Reg.PT_TYPE 1, 2)]).objTaken 1 = false := by decide
theorem witness_bacnet_sc :
    let k : Handle := ⟨Kind.SC_CERT, .live, 0, 1, 0, 3, 1, 5, 44, 0, 0⟩
    let s : State := { up with handles := [(0, ⟨Kind.DEVICE_ROOT, .live, 0, 0, 0, 0, 0, 0, 0, 0, 0⟩), (5, k)] }
    KV.get? s.handles 5 = some k ∧ k.kind = Kind.SC_CERT ∧ s.usable 5 = true ∧ s.freeEntry k.tag = some 0 ∧ s.freeSessionHandle = some 1472 := by decide
theorem witness_bacnet_sc_tack : (put up [(Reg.RST_TACK, 1)]).flag Reg.RST_TACK = true ∧ up.flag Reg.RST_TACK = false := by decide
theorem test_end_session : KV.get? (after (.endSession (.session 0) 1) withSessions).sessions 1 = none := by decide

/-! ## Frames and CAN -/

theorem witness_ethernet_receive :
    let s := put up [(Reg.MAC_LINK_UP 0, 1), (Reg.MAC_BCAST_EN 0, 1), (Reg.MAC_RX_EN 0, 1), (Reg.MAC_RX_LEN 0, 16), (Reg.MAC_RX_TAIL 0, 9), (Reg.MAC_RX_BUF_SIZE 0, 2048)]
    let bs := (List.replicate 6 255 ++ List.replicate 6 2 ++ [0x88, 0xF7] ++ List.replicate 46 0)
    s.sysHeld = false ∧ s.flag (Reg.MAC_LINK_UP 0) = true ∧ bs.length = 60 ∧ engineAddr (frameDst bs) = false ∧ s.accepts 0 (frameDst bs) = true ∧ s.prpActive = false
      ∧ s.ringHeld 0 7 (s.get (Reg.MAC_RX_HEAD 0)) = 9 ∧ s.accepts 0 0x020202020202 = false := by decide
theorem test_runt : (after (.frameReceive .A ⟨List.replicate 59 2, true, 0⟩) (put up [(Reg.MAC_LINK_UP 0, 1)])).get (Reg.MAC_RX_RUNT 0) = 1 := by decide +kernel
theorem witness_ethernet_prp :
    let e : PrpNode := ⟨0x010101010101, [(9, 1)], 1⟩
    let s : State := { put up [(Reg.MAC_PRP_ACTIVE 0, 1)] with mac := { up.mac with nodes := [e] } }
    let bs := List.replicate 54 1 ++ [0, 9, 0xA0, 46, 0x88, 0xFB]
    s.prpActive = true ∧ rctOf bs = some (9, 10) ∧ s.mac.nodes.find? (fun x => x.src == frameSrc bs) = some e := by decide
theorem witness_ethernet_transmit :
    let c : TxCopy := ⟨List.replicate 60 1, 0, 3, 0, false, none⟩
    let p : MacPort := { up.mac.portA with queues := [(3, [c])] }
    let s : State := { put up [(Reg.MAC_LINK_UP 0, 1), (Reg.MAC_GATES 0, 255)] with mac := { up.mac with portA := p } }
    (s.port 0).sending = none ∧ s.flag (Reg.MAC_QBV_EN 0) = false ∧ KV.getD p.queues 3 [] = [c] ∧ c.q = 3 ∧ s.getBit (Reg.MAC_GATES 0) 3 = true
      ∧ (∀ q' ∈ [4, 5, 6], KV.getD p.queues q' [] = []) := by decide
theorem witness_ethernet_gates : gclOk (0xFF0003E8 :: List.replicate 15 0) = true ∧ gclOk (List.replicate 16 1) = false := by decide
theorem witness_can_channels :
    let f : CanFrame := ⟨false, false, false, false, 8, 5, [1, 2], none, 0, 1⟩
    let s : State := { put up [(Reg.CANCH_STATE 3, CanState.ACTIVE), (Reg.HDR_ENABLE (Page.CANCH 3), 1), (Reg.CANCH_NODE_CFG 3 3, 0x80000000), (Reg.CANCH_FLT_EN 3 31, 1)] with
      cans := [(3, { up.can 3 with tx := [f], sdo := [(127, 1, 5)] })] }
    s.canOn 3 = true ∧ offered (s.can 3).tx = some 0 ∧ (s.can 3).tx[0]? = some f ∧ s.get Reg.TWN_STATE ≠ TwinState.RESYNC ∧ (s.can 3).rx.length = 0
      ∧ s.getBit (Reg.CANCH_NODE_CFG 3 3) 31 = true ∧ (s.can 3).sdo.find? (fun e => e.1 == 127) = some (127, 1, 5) ∧ s.engineNode 3 5 = none
      ∧ (put s [(Reg.CANCH_STATE 3, CanState.BUS_OFF)]).get (Reg.CANCH_STATE 3) = CanState.BUS_OFF := by decide
/-- A frame of identifier 5 on a channel whose first filter takes all: in time the entry waits for its sequence value (R158). -/
theorem test_can_entry_waits :
    let t := after (.canFrameReceive 3 ⟨false, false, false, false, false, 2, 5, [1, 2], 0⟩ none)
      (put up [(Reg.CANCH_STATE 3, CanState.ACTIVE), (Reg.HDR_ENABLE (Page.CANCH 3), 1), (Reg.CANCH_FLT_EN 3 0, 1), (Reg.CANCH_FLT_ID 3 0, 5)])
    (t.can 3).rx.map (fun e => (e.id, e.seq)) = [(5, 0)] ∧ t.seqr.waiting = [⟨0, .can 3⟩] := by decide +kernel
theorem test_can_ack_beyond : (after (.rxAck 0 1) up).getBit (Reg.HDR_ERR_STAT (Page.CANCH 0)) Err.CANCH_ACK_RANGE = true := by decide
theorem witness_can_download : let s : State := { put up [(Reg.PT_BIND 1, 2), (Reg.PT_TARGET 1, 2 ^ 26 + 2 ^ 19 * 127)] with deliveries := [(1, 5)] }
    s.deliveries.find? (fun e => e.1 == 1) = some (1, 5) ∧ s.get (Reg.PT_BIND 1) = 2 ∧ s.get (Reg.PT_TARGET 1) / 2 ^ 26 % 4 = 1 ∧ s.get (Reg.PT_TARGET 1) / 2 ^ 19 % 128 = 127
      ∧ s.nodeAbsent 1 127 = false := by decide

/-! ## Keys and the twin -/

theorem witness_keys : let s := withSessions
    (s.creds (.session 0)).tag = 0 ∧ (s.creds (.session 0)).may Right.EXEC = true ∧ ¬ ((s.creds (.session 1)).tag = 0) ∧ s.owned = false
      ∧ KV.get? s.sessions 0 = some (ses 3) ∧ (ses 3).credHandle = 3 := by decide
theorem witness_keys_owned : owned.owned = true ∧ (owned.creds (.session 0)).tag = 0 ∧ (KV.get? owned.handles 2).isSome = true ∧ KV.firstFree owned.handles 4 1468 = some 5
    ∧ owned.flag Reg.KEY_OWNER_LOCK = false := by decide +kernel
theorem test_owner_take_twice : (after (.ownerTake (.session 0) true) owned).resp.status = Status.E_STATE := by decide +kernel
theorem test_tenant_root_tag_zero : (after (.tenantRoot (.session 0) 0 true) owned).resp.status = Status.E_STATE := by decide +kernel
theorem witness_twin_unit :
    let s : State := { put up [(Reg.TWN_EN, 1), (Reg.TWN_STATE, TwinState.STANDBY)] with twin := { up.twin with paired := true, starting := true, gotGive := true, lostAt := some 0 } }
    up.flag Reg.TWN_EN = false ∧ s.flag Reg.TWN_EN = true ∧ s.inPair = true ∧ up.inPair = false ∧ s.twin.paired = true ∧ s.twin.starting = true ∧ s.twin.lostAt = some 0
      ∧ (put s [(Reg.TWN_STATE, TwinState.SOLO)]).get Reg.TWN_STATE = TwinState.SOLO ∧ (put s [(Reg.TWN_STATE, TwinState.RESYNC), (Reg.TWN_RESYNC_BUSY, 1)]).flag Reg.TWN_RESYNC_BUSY = true := by decide
theorem test_round_late_standby : (after .roundLate (put up [(Reg.TWN_EN, 1), (Reg.TWN_STATE, TwinState.ACTIVE)])).get Reg.TWN_STATE = TwinState.ACTIVE := by decide

/-! ## Recorder, update, tests, calibration and fire -/

theorem witness_event_recorder : (withSessions.creds (.session 0)).tag = 0 ∧ (withSessions.creds (.session 0)).may Right.EXEC = true ∧ up.sysHeld = false
    ∧ State.reset.sysHeld = true ∧ ({ up with trigPend := [3] } : State).trigPend = 3 :: [] ∧ up.trigPend = []
    ∧ up.flag (Reg.HDR_FREEZE Page.EVR) = false ∧ (put up [(Reg.HDR_FREEZE Page.EVR, 1)]).flag (Reg.HDR_FREEZE Page.EVR) = true ∧ up.sideBuf.length < 64
    ∧ (put up [(Reg.EVR_MERGING, 1)]).flag Reg.EVR_MERGING = true ∧ up.freeRecordSlot 0 4096 = some 0 ∧ (put up [(Reg.EVR_TRIG_EN 15, 1)]).flag (Reg.EVR_TRIG_EN 15) = true := by decide
/-- While the SYS domain is held an event waits in its block (R463). -/
theorem witness_event_due : let e : HeldEvent := ⟨⟨0, .other 5⟩, List.replicate 32 0⟩; let s : State := { put up [(Reg.TBS_TIME_NS, 250000)] with heldEvents := [e] }
    s.sysHeld = false ∧ s.seqr.waiting = [] ∧ e.report.ts + 250000 ≤ s.tai ∧ e.words.length = 32 ∧ (after .sequenceAssign s).recOrder = [0] := by decide +kernel
theorem test_event_waits : (after (.recordCapture 2 5 1 0 false []) State.reset).heldEvents.length = 1 ∧ (after (.recordCapture 2 5 1 0 false []) up).recOrder = []
    ∧ (after (.recordCapture 2 5 1 0 true []) up).recOrder = [0] := by decide +kernel
theorem test_trigger_range : (after (.trigger (.session 0) 16) withSessions).resp.status = Status.E_OP ∧ (after (.trigger (.session 0) 15) withSessions).resp.status = Status.E_STATE := by decide
theorem witness_field_update :
    let s : State := { withSessions with upd := { up.upd with waiting := some false, staged := some up.upd.running, erasing := true, verifying := true } }
    (s.creds (.session 0)).tag = 0 ∧ (s.creds (.session 0)).may Right.EXEC = true ∧ (s.creds (.session 0)).may Right.CONFIG = true ∧ s.upd.waiting = some false
      ∧ s.nextManifest false = some up.upd.running ∧ s.upd.erasing = true ∧ s.upd.verifying = true ∧ ¬ (536870912 < 536870912) ∧ ¬ ((s.creds (.session 1)).tag = 0) := by decide
theorem test_stage_length : (after (.stageBegin (.session 0) 0) withSessions).resp.status = Status.E_OP ∧ (after (.stageBegin (.session 0) 536870913) withSessions).resp.status = Status.E_OP := by decide +kernel
theorem witness_tests_and_scrubs : (withSessions.creds (.session 0)).tag = 0 ∧ (withSessions.creds (.session 0)).may Right.EXEC = true
    ∧ (∀ v ∈ [(-32768 : Int), 32767], -2 ^ 15 ≤ v ∧ v < 2 ^ 15) ∧ (put up [(Reg.ECC_SCRUB_EN, 1)]).flag Reg.ECC_SCRUB_EN = true ∧ up.getBit Reg.PWR_SHED 0 = false
    ∧ 600 ≤ (put up [(Reg.ATB_EXP_S, 600)]).get Reg.ATB_EXP_S ∧ up.sysHeld = false := by decide
theorem test_reference_check_limit : (after (.referenceCheck 1000) up).flag Reg.MTR_CAL_BAD = false := by decide
theorem witness_calibration_store : (withSessions.creds (.session 0)).tag = 0 ∧ (withSessions.creds (.session 0)).may Right.EXEC = true ∧ ¬ ((withSessions.creds (.session 1)).tag = 0)
    ∧ (withSessions.creds (.session 0)).may Right.CONFIG = true ∧ (withSessions.creds (.session 0)).may Right.RESET = true := by decide
theorem test_calibration_read_odd : (after (.calRead (.session 0) 2 1) withSessions).resp.status = Status.E_OP := by decide +kernel
theorem witness_fire_operation :
    let s : State := { put withSessions [(Reg.FIR_MODE, 4), (Reg.FIR_SHED, 31), (Reg.HDR_ENABLE Page.FIR, 1)] with fire := { up.fire with restore := true, entered := some 0 } }
    s.appUp = true ∧ s.flag (Reg.HDR_ENABLE Page.FIR) = true ∧ s.fire.cmd ≤ 4 ∧ s.get Reg.FIR_MODE = FireMode.ENDURANCE ∧ s.get Reg.FIR_SHED = 2 ^ 5 - 1 ∧ s.fire.entered = some 0
      ∧ (s.creds (.session 0)).may Right.WRITE = true ∧ (s.creds (.session 0)).may Right.COMMAND = true ∧ (0xF17E : BitVec 16).toNat = 0xF17E ∧ s.fire.restore = true
      ∧ ((List.range 6).filter (fun k => s.getBit Reg.FIR_SHED k)).getLast? = some 4 := by decide
theorem test_fire_key : (after (.fireCmdAlert (.session 0) 0xF17F) withSessions).fire.cmd = 0 ∧ (after (.fireCmdAlert (.session 0) 0xF17E) withSessions).fire.cmd = 1 := by decide

/-! ## The whole machine -/

theorem witness_step_runs_front : ({ up with pending := [.busOkLost] } : State).pending = .busOkLost :: [] ∧ State.reset.pending = [] ∧ State.reset.sysHeld = true := by decide
theorem witness_store_stays_canonical : Canonical State.reset ∧ ∃ t, step State.reset = .next t := ⟨by simp only [Canonical]; decide, _, rfl⟩
theorem witness_queue_is_served : ∃ t, step { State.reset with pending := [.busOkLost, .eccFatal] } = .next t := ⟨_, rfl⟩

end Sys2Proof.Tests
end

section
/-! The refusal of a COMMIT while the clock is disciplined (06_calendar_clock.md, R134): what an error leaves in ERR_STAT of its
page, the status and state that COMMIT then gives, and O60. -/

namespace Sys2Proof.Machine

/-- ERR_STAT fills its word, so its bits are the word's. -/
theorem State.getBit_errStat (s : State) (p : Nat) {b : Nat} (h : b < 32) :
    s.getBit (Reg.HDR_ERR_STAT p) b = (s.word (Reg.HDR_ERR_STAT p).addr).getLsbD b := by
  have e : s.getBit (Reg.HDR_ERR_STAT p) b = (s.get (Reg.HDR_ERR_STAT p)).testBit b :=
    Nat.testBit_eq_decide_div_mod_eq.symm
  rw [e, State.get_eq, testBit_getBits]
  simp [Reg.HDR_ERR_STAT, h]

/-- R75: neither the count in ERR_CNT nor the interrupt of an error touches the bit that it set. -/
theorem State.getBit_err_same (s : State) (p : Nat) {b : Nat} (h : b < 32) :
    (s.err p b).getBit (Reg.HDR_ERR_STAT p) b = true := by
  have hset : ((s.setBit (Reg.HDR_ERR_STAT p) b true).bump (Reg.HDR_ERR_CNT p)).getBit (Reg.HDR_ERR_STAT p) b = true := by
    rw [State.getBit_errStat _ _ h, State.bump, State.word_set_ne _ _ _ (by simp [Reg.HDR_ERR_STAT, Reg.HDR_ERR_CNT]),
      State.setBit, State.word_set, if_pos rfl, getLsbD_setBits _ _ _ _ _ (by simpa [Reg.HDR_ERR_STAT] using h)]
    simp [Reg.HDR_ERR_STAT, b2n]
  rw [State.err_eq]
  by_cases c : s.getBit (Reg.HDR_ERR_STAT p) b = true
  · rw [if_pos c]
    exact hset
  · rw [if_neg c, State.getBit_errStat _ _ h, State.word_irq, ← State.getBit_errStat _ _ h]
    · exact hset
    · simp [Reg.HDR_ERR_STAT, Reg.HDR_IRQ_STAT]
    · simp only [Reg.HDR_ERR_STAT, Reg.ANG_SEQ]; omega
    · simp only [Reg.HDR_ERR_STAT, Reg.ANG_SEQ]; omega

/-- An error leaves the calendar's own state alone. -/
theorem State.cal_err (s : State) (p b : Nat) : (s.err p b).cal = s.cal := by
  obtain ⟨m, u, l, h⟩ := State.err_spec s p b
  rw [h]

/-- R138: the calendar is disciplined exactly where DISC_EN and TBS.VALID are both 1. -/
theorem State.disciplined_iff (s : State) :
    s.disciplined = true ↔ s.flag Reg.RTC_DISC_EN = true ∧ s.flag Reg.TBS_VALID = true :=
  Bool.and_eq_true_iff

/-- R134: a COMMIT to a disciplined calendar answers E_STATE, and its error is all that it does. -/
theorem exec_rtcCommit_of_disciplined {s : State} (h : s.disciplined = true) :
    exec .rtcCommit s = .next ((s.err Page.RTC Err.RTC_DISC_ACTIVE).answer Status.E_STATE []) := by
  show Host.Outcome.next (State.answered (rtcCommit s)) = _
  rw [rtcCommit, if_pos h]
  rfl

/-- Settles O60: the refusal is an error of page RTC, whose words are those of the page's header and the sequence counter, so the
words of TIME (0x5040) and DATE (0x5044) stay. -/
theorem commitRefusedWhileDisciplined : Obligations.commit_refused_while_disciplined := by
  intro s hen hvalid
  refine ⟨_, exec_rtcCommit_of_disciplined (s.disciplined_iff.2 ⟨hen, hvalid⟩), rfl, ?_, ?_, ?_, ?_⟩
  · exact State.getBit_err_same s Page.RTC (by decide)
  · exact State.word_err s Page.RTC _ (by decide) (by decide) (by decide) (by decide) (by decide)
  · exact State.word_err s Page.RTC _ (by decide) (by decide) (by decide) (by decide) (by decide)
  · exact State.cal_err s Page.RTC _

end Sys2Proof.Machine
end

section
/-! The press of the reset contact (15_stirrup_safety.md, R346 to R348, R352; log entry 70): the stages of a valid press as
operations of their own, what each leaves of Stirrup's page and state, and O40. -/

namespace Sys2Proof.Machine

/-! ## Interrupts -/

@[simp] theorem State.saf_irq (s : State) (p b : Nat) : (s.irq p b).saf = s.saf := by
  obtain ⟨m, u, l, h⟩ := State.irq_spec s p b
  rw [h]

@[simp] theorem State.saf_err (s : State) (p b : Nat) : (s.err p b).saf = s.saf := by
  obtain ⟨m, u, l, h⟩ := State.err_spec s p b
  rw [h]

/-- The bits of a field that begins at bit 0 are its word's. -/
theorem State.getBit_of_lo_zero (s : State) {f : Fld} {c : Nat} (hlo : f.lo = 0) (hc : c ≤ f.hi) :
    s.getBit f c = (s.word f.addr).getLsbD c := by
  have e : s.getBit f c = (s.get f).testBit c := Nat.testBit_eq_decide_div_mod_eq.symm
  rw [e, State.get_eq, testBit_getBits, hlo, decide_eq_true (by omega), Bool.true_and, Nat.zero_add]

theorem State.getBit_irqStat (s : State) (p : Nat) {c : Nat} (h : c < 32) :
    s.getBit (Reg.HDR_IRQ_STAT p) c = (s.word (Reg.HDR_IRQ_STAT p).addr).getLsbD c :=
  State.getBit_of_lo_zero s rfl (Nat.le_of_lt_succ h)

/-- A bit of IRQ_STAT that goes from 0 to 1 changes that bit of its word. -/
theorem State.word_irqStat_irq (s : State) (p b : Nat) (h : s.getBit (Reg.HDR_IRQ_STAT p) b = false) :
    (s.irq p b).word (Reg.HDR_IRQ_STAT p).addr = setBits (s.word (Reg.HDR_IRQ_STAT p).addr) b b 1 := by
  rw [State.irq, if_neg (by simp [h])]
  show ((s.setBit (Reg.HDR_IRQ_STAT p) b true).notifySubs _ _).word _ = _
  rw [State.word_notifySubs]
  · simp [State.setBit, State.word_set, Reg.HDR_IRQ_STAT, b2n]
  · simp only [Reg.HDR_IRQ_STAT, Reg.ANG_SEQ]; omega
  · simp only [Reg.HDR_IRQ_STAT, Reg.ANG_SEQ]; omega

/-- R81: an interrupt sets its own bit of its page's IRQ_STAT and leaves the others. -/
theorem State.getBit_irq (s : State) (p : Nat) {b c : Nat} (hb : b < 32) (hc : c < 32) :
    (s.irq p b).getBit (Reg.HDR_IRQ_STAT p) c = (decide (c = b) || s.getBit (Reg.HDR_IRQ_STAT p) c) := by
  cases h : s.getBit (Reg.HDR_IRQ_STAT p) b with
  | true =>
    rw [State.irq, if_pos h]
    by_cases e : c = b
    · simp [e, h]
    · simp [e]
  | false =>
    rw [State.getBit_irqStat _ _ hc, State.word_irqStat_irq _ _ _ h, getLsbD_setBits _ _ _ _ _ hb,
      State.getBit_irqStat _ _ hc]
    by_cases e : c = b
    · simp [e]
    · rw [if_neg (by omega)]; simp [e]

/-- The words of SAF from its first block-specific offset on are no interrupt's. -/
theorem State.word_irq_saf (s : State) (b : Nat) {a : Nat} (h : 0x1a040 ≤ a) : (s.irq Page.SAF b).word a = s.word a :=
  State.word_irq _ _ _ (by simp only [Reg.HDR_IRQ_STAT, Page.SAF]; omega) (by simp only [Reg.ANG_SEQ]; omega)
    (by simp only [Reg.ANG_SEQ]; omega)

theorem State.get_irq_saf (s : State) (b : Nat) {g : Fld} (h : 0x1a040 ≤ g.addr) : (s.irq Page.SAF b).get g = s.get g := by
  rw [State.get_eq, State.word_irq_saf _ _ h, ← State.get_eq]

/-! ## What a set of parameters taking force leaves of Stirrup -/

/-- The registers of Stirrup before those of its connections stay, no bit of its IRQ_STAT falls, and of its state beside the
registers the connections alone change. -/
structure State.SafKept (s t : State) : Prop where
  words : ∀ a, 0x1a040 ≤ a → a < 0x1a100 → t.word a = s.word a
  irq   : ∀ c < 32, s.getBit (Reg.HDR_IRQ_STAT Page.SAF) c = true → t.getBit (Reg.HDR_IRQ_STAT Page.SAF) c = true
  saf   : ∃ k, t.saf = { s.saf with conns := k }

theorem State.SafKept.refl (s : State) : s.SafKept s := ⟨fun _ _ _ => rfl, fun _ _ h => h, s.saf.conns, rfl⟩

theorem State.SafKept.trans {s t u : State} (h : s.SafKept t) (h' : t.SafKept u) : s.SafKept u := by
  obtain ⟨k, hk⟩ := h.saf
  obtain ⟨k', hk'⟩ := h'.saf
  exact ⟨fun a ha hb => (h'.words a ha hb).trans (h.words a ha hb), fun c hc hs => h'.irq c hc (h.irq c hc hs), k', by rw [hk', hk]⟩

/-- A field of those registers. -/
theorem State.SafKept.get {s t : State} (h : s.SafKept t) {g : Fld} (ha : 0x1a040 ≤ g.addr) (hb : g.addr < 0x1a100) :
    t.get g = s.get g := by
  rw [State.get_eq, h.words _ ha hb, ← State.get_eq]

/-- What leaves every word of page SAF alone. -/
theorem State.SafKept.of_words {s t : State} (h : ∀ a, 0x1a000 ≤ a → a < 0x1b000 → t.word a = s.word a) (k : t.saf = s.saf) :
    s.SafKept t := by
  refine ⟨fun a ha hb => h a (by omega) (by omega), fun c hc hs => ?_, s.saf.conns, k⟩
  rwa [State.getBit_irqStat _ _ hc, h _ (by decide) (by decide), ← State.getBit_irqStat _ _ hc]

theorem State.SafKept.foldl {l : List Nat} {f : State → Nat → State} (h : ∀ (s : State) n, s.SafKept (f s n)) (s : State) :
    s.SafKept (l.foldl f s) :=
  List.foldlRecOn l f (State.SafKept.refl s) fun _ hs n _ => hs.trans (h _ n)

theorem State.SafKept.irq_saf (s : State) {b : Nat} (hb : b < 32) : s.SafKept (s.irq Page.SAF b) :=
  ⟨fun _ ha _ => State.word_irq_saf _ _ ha, fun c hc hs => by rw [State.getBit_irq _ _ hb hc, hs, Bool.or_true],
    s.saf.conns, State.saf_irq _ _ _⟩

/-- A write above the registers that stay. -/
theorem State.SafKept.of_words_below {s t : State} (h : ∀ a, a < 0x1a100 → t.word a = s.word a) (k : ∃ k, t.saf = { s.saf with conns := k }) :
    s.SafKept t := by
  refine ⟨fun a _ hb => h a hb, fun c hc hs => ?_, k⟩
  rwa [State.getBit_irqStat _ _ hc, h _ (by decide), ← State.getBit_irqStat _ _ hc]

theorem State.safKept_setConnState (s : State) (c v : Nat) : s.SafKept (s.setConnState c v) := by
  rw [State.setConnState]
  split
  · exact .refl s
  · refine State.SafKept.trans (.of_words_below (fun a ha => State.word_set_ne _ _ _ ?_) ⟨s.saf.conns, rfl⟩) (.irq_saf _ (by decide))
    simp only [Reg.SAF_CONN_STATE]; omega

/-- A connection's received bits lie above the registers that stay. -/
theorem State.safKept_setConnRx (s : State) (c v : Nat) : s.SafKept (s.setW (Reg.SAF_CONN_RX c) v) := by
  refine .of_words_below (fun a ha => State.word_setWideFrom_ne _ _ _ _ fun k _ => ?_) ⟨s.saf.conns, rfl⟩
  simp only [Reg.SAF_CONN_RX]; omega

theorem State.safKept_connSafe (s : State) (c : Nat) : s.SafKept (s.connSafe c) :=
  ((s.safKept_setConnState c 2).trans (State.safKept_setConnRx _ c 0)).trans ⟨fun _ _ _ => rfl, fun _ _ h => h, _, rfl⟩

theorem State.safKept_startConns (s : State) : s.SafKept s.startConns := by
  refine State.SafKept.foldl (fun t c => ?_) s
  dsimp only
  split
  · split
    · exact t.safKept_connSafe c
    · exact .refl t
  · exact (t.safKept_setConnState c 0).trans (State.safKept_setConnRx _ c 0)

/-- The registers of a channel as Stirrup writes them. -/
def State.writeSafety (t n w : Nat) (s : State) : State :=
  let s := (s.setWord (chCfgAddr t n) (if w = 0 then resetWord (chCfgAddr t n) else BitVec.ofNat 32 w)).set (Reg.TILE_CH_ACTION t n) 0
  let s := if w = 0 then s else s.setWord (chParamAddr t n) (resetWord (chParamAddr t n))
  s.modTile t (fun x => { x with cfgSend := x.cfgSend.filter (· != n) ++ [n] })

/-- The configuration word that the set in force asks of a channel, 0 for one that it leaves to the host. -/
def State.safetyCfg (s : State) (k : Nat) : Nat :=
  if s.par (Reg.SAF_SIN_FUNC k) ≠ 0 then ChMode.DIN * 2 ^ 28 + (s.par (Reg.SAF_SIN_FILT k) + 1) * 2 ^ 16 + 2 ^ 9
  else if s.par (Reg.SAF_SOUT_FUNC k) ≠ 0 then ChMode.DOUT * 2 ^ 28 + s.par (Reg.SAF_SOUT_TEST k) * 2 ^ 10 + 2 ^ 9 else 0

/-- R331, R332: a channel that the set names neither now nor before is left alone. -/
theorem State.configureSafety_eq (k : Nat) (s : State) : s.configureSafety k =
    if s.safetyCfg k = 0 ∧ s.flag (Reg.TILE_SAFETY (6 + k / 32) (k % 32)) = false then s
    else s.writeSafety (6 + k / 32) (k % 32) (s.safetyCfg k) := rfl

theorem State.saf_writeSafety (t n w : Nat) (s : State) : (s.writeSafety t n w).saf = s.saf := by
  unfold State.writeSafety
  by_cases h : w = 0 <;> simp [h]

/-- The registers of a tile's channels lie above those of Stirrup. -/
theorem State.word_writeSafety (t n w : Nat) (s : State) {a : Nat} (h : a < 0x20000) : (s.writeSafety t n w).word a = s.word a := by
  have hc : a ≠ chCfgAddr t n := by simp only [chCfgAddr]; omega
  have hp : a ≠ chParamAddr t n := by simp only [chParamAddr]; omega
  have ha : a ≠ (Reg.TILE_CH_ACTION t n).addr := by simp only [Reg.TILE_CH_ACTION]; omega
  have hs : ((s.setWord (chCfgAddr t n) (if w = 0 then resetWord (chCfgAddr t n) else BitVec.ofNat 32 w)).set
      (Reg.TILE_CH_ACTION t n) 0).word a = s.word a := by
    rw [State.word_set_ne _ _ _ ha, State.word_setWord, if_neg hc]
  by_cases h0 : w = 0
  · rw [State.writeSafety, if_pos h0]
    exact hs
  · rw [State.writeSafety, if_neg h0]
    show (State.setWord _ (chParamAddr t n) _).word a = _
    rw [State.word_setWord, if_neg hp]
    exact hs

theorem State.safKept_configureSafety (k : Nat) (s : State) : s.SafKept (s.configureSafety k) := by
  rw [State.configureSafety_eq]
  split
  · exact .refl s
  · exact .of_words (fun a _ h => State.word_writeSafety _ _ _ s (by omega)) (State.saf_writeSafety _ _ _ s)

/-- R316: judging a car's door values writes registers of the car's page and the sequence counter alone. -/
theorem State.safKept_judgeDoorV (n : Nat) (s : State) : s.SafKept (s.judgeDoorV n) := by
  rw [State.judgeDoorV, State.errIf]
  split
  · refine .of_words (fun a ha hb => State.word_err _ _ _ ?_ ?_ ?_ ?_ ?_) (State.saf_err _ _ _)
    all_goals simp only [Reg.HDR_IRQ_STAT, Reg.HDR_ERR_STAT, Reg.HDR_ERR_CNT, Reg.ANG_SEQ, Page.CAR]; omega
  · exact .refl s

/-! ## The waiting set takes force (R352) -/

/-- The waiting set is in force and in both of Stirrup's MRAM copies. -/
def State.putInForce (s : State) : State :=
  { s with saf := { s.saf with force := s.saf.waiting, storedA := some s.saf.waiting, storedB := some s.saf.waiting, waiting := [] } }

/-- PARAM_PEND, PARAM_BAD, PARAM_GEN and PARAM_CRC show the set in force. -/
def State.showInForce (s : State) : State :=
  (((s.setFlag Reg.SAF_PARAM_PEND false).setFlag Reg.SAF_PARAM_BAD false).bump Reg.SAF_PARAM_GEN).showParamCrc

/-- The set has been put in force, and the channels and connections follow it. -/
def State.applyForce (s : State) : State := (foldN 64 State.configureSafety s.putInForce).startConns

theorem State.get_showParamCrc (s : State) {g : Fld} (h : g.addr ≠ 0x1a07c) : s.showParamCrc.get g = s.get g :=
  State.get_set_addr s _ _ _ h

theorem State.safCars_showParamCrc (s : State) : s.showParamCrc.safCars = s.safCars := by
  rw [State.safCars, State.showParamCrc, State.set_saf, ← State.safCars]

theorem State.forceParams_eq (s : State) :
    s.forceParams = s.applyForce.showInForce.safCars.foldl (fun t n => t.judgeDoorV n) s.applyForce.showInForce := by
  rw [State.showInForce, State.safCars_showParamCrc]
  rfl

theorem State.safKept_applyForce (s : State) : s.putInForce.SafKept s.applyForce :=
  (State.SafKept.foldl (fun t n => t.safKept_configureSafety n) _).trans (State.safKept_startConns _)

theorem State.safKept_forceParams (s : State) : s.applyForce.showInForce.SafKept s.forceParams := by
  rw [State.forceParams_eq]
  exact .foldl (fun t n => t.safKept_judgeDoorV n) _

/-- A field of Stirrup's page that none of the four shows. -/
theorem State.get_showInForce (s : State) {g : Fld} (hc : g.addr ≠ 0x1a07c) (hg : g.addr ≠ 0x1a0a0)
    (hs : g.addr ≠ 0x1a040 ∨ g.hi < 27 ∨ 28 < g.lo) : s.showInForce.get g = s.get g := by
  rw [State.showInForce, State.get_showParamCrc _ hc, State.bump, State.get_set_addr _ _ _ _ hg,
    State.setFlag, State.get_set_other _ _ _ _ (by decide) (by simp only [Reg.SAF_PARAM_BAD]; omega),
    State.setFlag, State.get_set_other _ _ _ _ (by decide) (by simp only [Reg.SAF_PARAM_PEND]; omega)]

/-- A field of Stirrup's page before its connections stays where a set takes force, but for those four. -/
theorem State.get_forceParams (s : State) {g : Fld} (ha : 0x1a040 ≤ g.addr) (hb : g.addr < 0x1a100) (hc : g.addr ≠ 0x1a07c)
    (hg : g.addr ≠ 0x1a0a0) (hs : g.addr ≠ 0x1a040 ∨ g.hi < 27 ∨ 28 < g.lo) : s.forceParams.get g = s.get g := by
  rw [s.safKept_forceParams.get ha hb, State.get_showInForce _ hc hg hs, s.safKept_applyForce.get ha hb]
  rfl

theorem State.saf_forceParams (s : State) : ∃ k, s.forceParams.saf = { s.putInForce.saf with conns := k } := by
  obtain ⟨k, hk⟩ := s.safKept_applyForce.saf
  obtain ⟨k', hk'⟩ := s.safKept_forceParams.saf
  exact ⟨k', by rw [hk']; show { s.applyForce.saf with conns := k' } = _; rw [hk]⟩

theorem State.flag_forceParams_pend (s : State) : s.forceParams.flag Reg.SAF_PARAM_PEND = false := by
  rw [State.flag, s.safKept_forceParams.get (by decide) (by decide), State.showInForce,
    State.get_showParamCrc _ (by decide), State.bump, State.get_set_addr _ _ _ _ (by decide), State.setFlag,
    State.get_set_other _ _ _ _ (by decide) (by decide), ← State.flag]
  exact State.flag_setFlag_same _ _ _ (by decide) (by decide)

theorem State.flag_forceParams_bad (s : State) : s.forceParams.flag Reg.SAF_PARAM_BAD = false := by
  rw [State.flag, s.safKept_forceParams.get (by decide) (by decide), State.showInForce,
    State.get_showParamCrc _ (by decide), State.bump, State.get_set_addr _ _ _ _ (by decide), ← State.flag]
  exact State.flag_setFlag_same _ _ _ (by decide) (by decide)

theorem State.get_forceParams_gen (s : State) :
    s.forceParams.get Reg.SAF_PARAM_GEN = min (2 ^ 32 - 1) (s.get Reg.SAF_PARAM_GEN + 1) := by
  rw [s.safKept_forceParams.get (by decide) (by decide), State.showInForce,
    State.get_showParamCrc _ (by decide), State.get_bump _ _ (by decide), State.setFlag,
    State.get_set_addr _ _ _ _ (by decide), State.setFlag, State.get_set_addr _ _ _ _ (by decide),
    s.safKept_applyForce.get (by decide) (by decide)]
  rfl

/-- No bit of SAF's IRQ_STAT falls where a set takes force. -/
theorem State.irq_forceParams (s : State) {c : Nat} (hc : c < 32) (h : s.getBit (Reg.HDR_IRQ_STAT Page.SAF) c = true) :
    s.forceParams.getBit (Reg.HDR_IRQ_STAT Page.SAF) c = true := by
  refine s.safKept_forceParams.irq c hc ?_
  rw [State.getBit, State.get_showInForce _ (by decide) (by decide) (by decide), ← State.getBit]
  exact s.safKept_applyForce.irq c hc h

/-! ## LATCH and the trips of the cars shown -/

@[simp] theorem State.saf_showTrips (s : State) : s.showTrips.saf = s.saf :=
  List.foldlRecOn (motive := fun (t : State) => t.saf = s.saf) _ _ rfl fun _ ht _ _ => ht

/-- Showing the trips leaves every field but LATCH and those of 0x080 to 0x09C alone. -/
theorem State.get_showTrips (s : State) {g : Fld} (h : g.addr ≠ 0x1a040 ∨ 7 < g.lo) (hr : g.addr < 0x1a080 ∨ 0x1a0a0 ≤ g.addr) :
    s.showTrips.get g = s.get g := by
  refine List.foldlRecOn (motive := fun (t : State) => t.get g = s.get g) _ _ ?_ fun t ht n hn => ?_
  · exact State.get_set_other _ _ _ _ (by decide) (by simp only [Reg.SAF_LATCH]; omega)
  · have hn : n < 8 := List.mem_range.1 hn
    dsimp only
    rw [State.get_set_addr _ _ _ _ (by simp only [Reg.SAF_TRIP_ACTIVE]; omega),
      State.get_set_addr _ _ _ _ (by simp only [Reg.SAF_TRIP_LATCHED]; omega), ht]

/-! ## The stages of a valid press (R348) -/

/-- The latched trips whose conditions persist. -/
def State.staying (s : State) : List Trip := s.saf.latched.filter (fun x => !s.tripGone x)

/-- The latched trips whose conditions are gone are cleared, in MRAM as well. -/
def State.clearGone (s : State) : State :=
  { s with saf := { s.saf with latched := s.staying, kept := s.saf.kept.filter (fun x => s.staying.contains x) } }

/-- RESET_OK counts the press, and RESET_BAD where a trip stays latched. -/
def State.countPress (s : State) : State :=
  let t := (s.bump Reg.SAF_RESET_OK).irq Page.SAF Irq.SAF_RESET
  if s.saf.latched.isEmpty then t else t.bump Reg.SAF_RESET_BAD

/-- LOCKED is left for START where no trip of global scope remains. -/
def State.leaveLocked (s : State) : State :=
  if s.get Reg.SAF_STATE = SafState.LOCKED ∧ s.globalLatched = false then s.setSafState SafState.START else s

/-- A waiting set takes force where every car rests. -/
def State.takeWaiting (s : State) : State :=
  if s.flag Reg.SAF_PARAM_PEND && s.allRest then s.forceParams else s

/-- What a valid press does before a waiting set takes force. -/
def State.acceptPress (s : State) : State := s.openContact.clearGone.countPress.leaveLocked

/-- What a valid press does. -/
def State.takePress (s : State) : State := s.acceptPress.takeWaiting.showTrips

/-- R347: the conditions of a valid press. -/
def State.validPress (s : State) (openMs heldMs : Nat) : Prop :=
  200 ≤ openMs ∧ 50 ≤ heldMs ∧ heldMs < 5000 ∧ ∀ x, s.saf.lastTrip = some x → x < s.unow - (heldMs : Int) * 1000000

/-- The model's test of them. -/
def State.testsValid (s : State) (openMs heldMs : Nat) : Bool :=
  decide (200 ≤ openMs) && decide (50 ≤ heldMs) && decide (heldMs < 5000)
    && (match s.saf.lastTrip with | some t => decide (t < s.unow - (heldMs : Int) * 1000000) | none => true)

theorem State.testsValid_iff (s : State) (openMs heldMs : Nat) : s.testsValid openMs heldMs = true ↔ s.validPress openMs heldMs := by
  unfold State.testsValid State.validPress
  cases s.saf.lastTrip <;> simp [and_assoc]

/-- The opening of the contact, by its stages (R346 to R348, R352). -/
theorem safetyResetPress_eq (openMs heldMs : Nat) (s : State) : safetyResetPress openMs heldMs s =
    if !s.saf.pressed then s
    else if 5000 ≤ heldMs then s.openContact
    else if !s.testsValid openMs heldMs then s.openContact.irq Page.SAF Irq.SAF_RESET
    else s.takePress := rfl

/-- R346: a contact that has not counted as closed makes no press. -/
theorem safetyResetPress_of_not_pressed {s : State} (openMs heldMs : Nat) (h : s.saf.pressed = false) :
    safetyResetPress openMs heldMs s = s := by
  rw [safetyResetPress_eq, h, if_pos (by decide)]

theorem safetyResetPress_of_not_valid {s : State} {openMs heldMs : Nat} (h : s.saf.pressed = true) (hv : ¬ s.validPress openMs heldMs) :
    safetyResetPress openMs heldMs s = if 5000 ≤ heldMs then s.openContact else s.openContact.irq Page.SAF Irq.SAF_RESET := by
  rw [← State.testsValid_iff, Bool.not_eq_true] at hv
  rw [safetyResetPress_eq, h, hv, if_neg (by decide), Bool.not_false, if_pos rfl]

theorem safetyResetPress_of_valid {s : State} {openMs heldMs : Nat} (h : s.saf.pressed = true) (hv : s.validPress openMs heldMs) :
    safetyResetPress openMs heldMs s = s.takePress := by
  have h5 : ¬ 5000 ≤ heldMs := by obtain ⟨-, -, h5, -⟩ := hv; omega
  rw [safetyResetPress_eq, h, (s.testsValid_iff openMs heldMs).2 hv, if_neg (by decide), if_neg h5, if_neg (by decide)]

/-! ## What the safety inputs say of a car -/

theorem State.wideFrom_congr {s t : State} (a n : Nat) (h : ∀ k < n, t.word (a + 4 * k) = s.word (a + 4 * k)) :
    t.wideFrom a n = s.wideFrom a n := by
  induction n generalizing a with
  | zero => rfl
  | succ n ih =>
    have h0 : t.word a = s.word a := h 0 (by omega)
    rw [State.wideFrom, State.wideFrom, h0, ih]
    intro k hk
    rw [show a + 4 + 4 * k = a + 4 * (k + 1) by omega]
    exact h _ (by omega)

/-- The set in force, the cars as Stirrup holds them and both cores' views of the inputs are the same. -/
structure State.SameInputs (s t : State) : Prop where
  force : t.saf.force = s.saf.force
  cars  : t.saf.cars = s.saf.cars
  views : ∀ a, 0x1a04c ≤ a → a < 0x1a05c → t.word a = s.word a

theorem State.SameInputs.par {s t : State} (h : s.SameInputs t) (f : Fld) : t.par f = s.par f := by
  simp only [State.par, State.safWord, h.force]

theorem State.SameInputs.safIn {s t : State} (h : s.SameInputs t) (i : Nat) : t.safIn i = s.safIn i := by
  have ha : t.getW Reg.SAF_IN_A = s.getW Reg.SAF_IN_A :=
    State.wideFrom_congr _ _ fun k hk => h.views _ (by simp only [Reg.SAF_IN_A]; omega) (by simp only [Reg.SAF_IN_A] at hk ⊢; omega)
  have hb : t.getW Reg.SAF_IN_B = s.getW Reg.SAF_IN_B :=
    State.wideFrom_congr _ _ fun k hk => h.views _ (by simp only [Reg.SAF_IN_B]; omega) (by simp only [Reg.SAF_IN_B] at hk ⊢; omega)
  have hp : t.parFlag = s.parFlag := funext fun f => by rw [State.parFlag, h.par, ← State.parFlag]
  rw [State.safIn, ha, hb, hp, ← State.safIn]

theorem State.SameInputs.tap {s t : State} (h : s.SameInputs t) (n f : Nat) : t.tap n f = s.tap n f := by
  have hi : t.safIn = s.safIn := funext h.safIn
  simp only [State.tap, State.sinsOf, h.par, hi]

theorem State.SameInputs.safCar {s t : State} (h : s.SameInputs t) (n : Nat) : t.safCar n = s.safCar n := by
  simp only [State.safCar, h.cars]

theorem State.SameInputs.allRest {s t : State} (h : s.SameInputs t) (hm : t.saf.carMap = s.saf.carMap) : t.allRest = s.allRest := by
  simp only [State.allRest, State.safCars, hm, h.safCar, h.tap]

/-- Whether a trip's condition is gone, judged by the same inputs, conditions present and states of the connections. -/
theorem State.SameInputs.tripGone {s t : State} (h : s.SameInputs t) (hp : t.saf.present = s.saf.present)
    (hc : ∀ c, t.get (Reg.SAF_CONN_STATE c) = s.get (Reg.SAF_CONN_STATE c)) (x : Trip) : t.tripGone x = s.tripGone x := by
  simp only [State.tripGone, h.safCar, h.tap, hp, hc]

/-! ## What each stage leaves -/

theorem State.flag_openContact (s : State) : s.openContact.flag Reg.SAF_RESET_IN = false :=
  State.flag_setFlag_same s _ _ (by decide) (by decide)

theorem State.word_openContact (s : State) {a : Nat} (h : a ≠ 0x1a040) : s.openContact.word a = s.word a :=
  State.word_set_ne s _ _ h

/-- The opening of the contact writes RESET_IN alone. -/
theorem State.get_openContact (s : State) {g : Fld} (h : g.addr ≠ 0x1a040 ∨ 24 < g.lo ∨ g.hi < 24) : s.openContact.get g = s.get g :=
  State.get_set_other s _ _ _ (by decide) h

theorem State.staying_openContact (s : State) : s.openContact.staying = s.staying := by
  have hin : s.SameInputs s.openContact := ⟨rfl, rfl, fun a ha _ => s.word_openContact (by omega)⟩
  have hgone : s.openContact.tripGone = s.tripGone :=
    funext (hin.tripGone rfl fun c => s.get_openContact (.inl (by simp only [Reg.SAF_CONN_STATE]; omega)))
  rw [State.staying, hgone]
  rfl

theorem State.saf_countPress (s : State) : s.countPress.saf = s.saf := by
  rw [State.countPress]
  split
  · exact State.saf_irq _ _ _
  · exact State.saf_irq _ _ _

theorem State.word_countPress (s : State) {a : Nat} (h : 0x1a040 ≤ a) (h0 : a ≠ 0x1a070) (h1 : a ≠ 0x1a074) :
    s.countPress.word a = s.word a := by
  have h2 : ((s.bump Reg.SAF_RESET_OK).irq Page.SAF Irq.SAF_RESET).word a = s.word a := by
    rw [State.word_irq_saf _ _ h]
    exact State.word_set_ne _ _ _ h0
  rw [State.countPress]
  split
  · exact h2
  · exact (State.word_set_ne _ _ _ h1).trans h2

theorem State.get_countPress_ok (s : State) : s.countPress.get Reg.SAF_RESET_OK = min (2 ^ 32 - 1) (s.get Reg.SAF_RESET_OK + 1) := by
  have h : ((s.bump Reg.SAF_RESET_OK).irq Page.SAF Irq.SAF_RESET).get Reg.SAF_RESET_OK = min (2 ^ 32 - 1) (s.get Reg.SAF_RESET_OK + 1) := by
    rw [State.get_irq_saf _ _ (by decide)]
    exact State.get_bump _ _ (by decide)
  rw [State.countPress]
  split
  · exact h
  · exact (State.get_set_addr _ _ _ _ (by decide)).trans h

/-- RESET_BAD counts one for any number of trips that stay (log entry 70). -/
theorem State.get_countPress_bad (s : State) : s.countPress.get Reg.SAF_RESET_BAD =
    if s.saf.latched = [] then s.get Reg.SAF_RESET_BAD else min (2 ^ 32 - 1) (s.get Reg.SAF_RESET_BAD + 1) := by
  have h : ((s.bump Reg.SAF_RESET_OK).irq Page.SAF Irq.SAF_RESET).get Reg.SAF_RESET_BAD = s.get Reg.SAF_RESET_BAD := by
    rw [State.get_irq_saf _ _ (by decide)]
    exact State.get_set_addr _ _ _ _ (by decide)
  simp only [State.countPress, List.isEmpty_iff]
  split
  · exact h
  · rw [State.get_bump _ _ (by decide), h]
    rfl

theorem State.irq_countPress (s : State) : s.countPress.getBit (Reg.HDR_IRQ_STAT Page.SAF) Irq.SAF_RESET = true := by
  have h : ((s.bump Reg.SAF_RESET_OK).irq Page.SAF Irq.SAF_RESET).getBit (Reg.HDR_IRQ_STAT Page.SAF) Irq.SAF_RESET = true :=
    State.getBit_irq _ _ (by decide) (by decide)
  rw [State.countPress]
  split
  · exact h
  · rw [State.getBit, State.bump, State.get_set_addr _ _ _ _ (by decide)]
    exact h

theorem State.saf_setSafState (s : State) (v : Nat) : (s.setSafState v).saf = s.saf := by
  rw [State.setSafState]
  split
  · rfl
  · exact State.saf_irq _ _ _

theorem State.get_setSafState (s : State) {v : Nat} (h : v < 8) : (s.setSafState v).get Reg.SAF_STATE = v := by
  rw [State.setSafState]
  split
  · assumption
  · rw [State.get_irq_saf _ _ (by decide), State.get_set_same _ _ _ (by decide)]
    exact Nat.mod_eq_of_lt h

theorem State.get_setSafState_other (s : State) (v : Nat) {g : Fld} (ha : 0x1a040 ≤ g.addr) (h : g.addr ≠ 0x1a040 ∨ g.hi < 29) :
    (s.setSafState v).get g = s.get g := by
  rw [State.setSafState]
  split
  · rfl
  · rw [State.get_irq_saf _ _ ha]
    exact State.get_set_other _ _ _ _ (by decide) (by simp only [Reg.SAF_STATE]; omega)

theorem State.word_setSafState (s : State) (v : Nat) {a : Nat} (h : 0x1a040 < a) : (s.setSafState v).word a = s.word a := by
  rw [State.setSafState]
  split
  · rfl
  · rw [State.word_irq_saf _ _ (by omega)]
    exact State.word_set_ne _ _ _ (by simp only [Reg.SAF_STATE]; omega)

theorem State.irq_setSafState (s : State) (v : Nat) {c : Nat} (hc : c < 32) (h : s.getBit (Reg.HDR_IRQ_STAT Page.SAF) c = true) :
    (s.setSafState v).getBit (Reg.HDR_IRQ_STAT Page.SAF) c = true := by
  rw [State.setSafState]
  split
  · exact h
  · rw [State.getBit_irq _ _ (by decide) hc, State.getBit, State.get_set_addr _ _ _ _ (by decide), ← State.getBit, h, Bool.or_true]

/-! ## A valid press up to the parameter set -/

theorem State.saf_acceptPress (s : State) : s.acceptPress.saf = { s.saf with
    rtn := 0, pressed := false, latched := s.staying, kept := s.saf.kept.filter (fun x => s.staying.contains x) } := by
  have h : s.acceptPress.saf = s.openContact.clearGone.saf := by
    rw [State.acceptPress, State.leaveLocked]
    split
    · rw [State.saf_setSafState, State.saf_countPress]
    · exact State.saf_countPress _
  rw [h, State.clearGone, State.staying_openContact]
  rfl

theorem State.globalLatched_congr {s t : State} (h : t.saf.latched = s.saf.latched) : t.globalLatched = s.globalLatched := by
  rw [State.globalLatched, h, ← State.globalLatched]

/-- The words of both cores' views and those above them, but for the two counts. -/
theorem State.word_acceptPress (s : State) {a : Nat} (h : 0x1a040 < a) (h0 : a ≠ 0x1a070) (h1 : a ≠ 0x1a074) :
    s.acceptPress.word a = s.word a := by
  have hc : s.openContact.clearGone.countPress.word a = s.word a :=
    (State.word_countPress _ (by omega) h0 h1).trans (s.word_openContact (by omega))
  rw [State.acceptPress, State.leaveLocked]
  split
  · rw [State.word_setSafState _ _ h, hc]
  · exact hc

/-- Of the registers from SAF_STAT on, leaving LOCKED writes STATE alone. -/
theorem State.get_leaveLocked (s : State) {g : Fld} (ha : 0x1a040 ≤ g.addr) (h : g.addr ≠ 0x1a040 ∨ g.hi < 29) :
    s.leaveLocked.get g = s.get g := by
  rw [State.leaveLocked]
  split
  · exact State.get_setSafState_other _ _ ha h
  · rfl

theorem State.get_countPress (s : State) {g : Fld} (h : 0x1a040 ≤ g.addr) (h0 : g.addr ≠ 0x1a070) (h1 : g.addr ≠ 0x1a074) :
    s.countPress.get g = s.get g := by
  rw [State.get_eq, State.word_countPress _ h h0 h1, ← State.get_eq]

/-- What is neither STATE, RESET_IN nor a count stays. -/
theorem State.get_acceptPress (s : State) {g : Fld} (ha : 0x1a040 ≤ g.addr) (h : g.addr ≠ 0x1a040 ∨ 24 < g.lo ∧ g.hi < 29)
    (h0 : g.addr ≠ 0x1a070) (h1 : g.addr ≠ 0x1a074) : s.acceptPress.get g = s.get g := by
  rw [State.acceptPress, State.get_leaveLocked _ ha (by omega), State.get_countPress _ ha h0 h1]
  exact s.get_openContact (by omega)

theorem State.flag_acceptPress_contact (s : State) : s.acceptPress.flag Reg.SAF_RESET_IN = false := by
  rw [State.acceptPress, State.flag, State.get_leaveLocked _ (by decide) (by decide),
    State.get_countPress _ (by decide) (by decide) (by decide)]
  exact s.flag_openContact

theorem State.get_acceptPress_ok (s : State) : s.acceptPress.get Reg.SAF_RESET_OK = min (2 ^ 32 - 1) (s.get Reg.SAF_RESET_OK + 1) := by
  have h : s.openContact.clearGone.get Reg.SAF_RESET_OK = s.get Reg.SAF_RESET_OK := s.get_openContact (by decide)
  rw [State.acceptPress, State.get_leaveLocked _ (by decide) (by decide), State.get_countPress_ok, h]

theorem State.get_acceptPress_bad (s : State) : s.acceptPress.get Reg.SAF_RESET_BAD =
    if s.staying = [] then s.get Reg.SAF_RESET_BAD else min (2 ^ 32 - 1) (s.get Reg.SAF_RESET_BAD + 1) := by
  have h : s.openContact.clearGone.get Reg.SAF_RESET_BAD = s.get Reg.SAF_RESET_BAD := s.get_openContact (by decide)
  have hl : s.openContact.clearGone.saf.latched = s.staying := s.staying_openContact
  rw [State.acceptPress, State.get_leaveLocked _ (by decide) (by decide), State.get_countPress_bad, h, hl]

theorem State.irq_acceptPress (s : State) : s.acceptPress.getBit (Reg.HDR_IRQ_STAT Page.SAF) Irq.SAF_RESET = true := by
  rw [State.acceptPress, State.leaveLocked]
  split
  · exact State.irq_setSafState _ _ (by decide) (State.irq_countPress _)
  · exact State.irq_countPress _

/-- R348: LOCKED is left for START when no trip of global scope remains. -/
theorem State.get_acceptPress_state (s : State) (h : s.get Reg.SAF_STATE = SafState.LOCKED) :
    s.acceptPress.get Reg.SAF_STATE = if s.acceptPress.globalLatched then SafState.LOCKED else SafState.START := by
  have hs : s.openContact.clearGone.countPress.get Reg.SAF_STATE = SafState.LOCKED :=
    (State.get_countPress _ (by decide) (by decide) (by decide)).trans ((s.get_openContact (by decide)).trans h)
  have hg : s.acceptPress.globalLatched = s.openContact.clearGone.countPress.globalLatched := by
    refine State.globalLatched_congr ?_
    rw [State.saf_acceptPress, State.saf_countPress]
    exact s.staying_openContact.symm
  rw [hg, State.acceptPress, State.leaveLocked, hs]
  cases hc : s.openContact.clearGone.countPress.globalLatched with
  | true => simpa using hs
  | false => simpa using State.get_setSafState _ (by decide)

/-- The press moves no car and no input. -/
theorem State.allRest_acceptPress (s : State) : s.acceptPress.allRest = s.allRest := by
  have hin : s.SameInputs s.acceptPress := by
    refine ⟨?_, ?_, fun a ha hb => s.word_acceptPress (by omega) (by omega) (by omega)⟩
    · rw [State.saf_acceptPress]
    · rw [State.saf_acceptPress]
  exact hin.allRest (by rw [State.saf_acceptPress])

/-! ## The parameter set at a press -/

/-- A field of Stirrup's page before its connections that a set taking force does not show. -/
theorem State.get_takeWaiting (s : State) {g : Fld} (ha : 0x1a040 ≤ g.addr) (hb : g.addr < 0x1a100) (hc : g.addr ≠ 0x1a07c)
    (hg : g.addr ≠ 0x1a0a0) (hs : g.addr ≠ 0x1a040 ∨ g.hi < 27 ∨ 28 < g.lo) : s.takeWaiting.get g = s.get g := by
  rw [State.takeWaiting]
  split
  · exact s.get_forceParams ha hb hc hg hs
  · rfl

theorem State.irq_takeWaiting (s : State) {c : Nat} (hc : c < 32) (h : s.getBit (Reg.HDR_IRQ_STAT Page.SAF) c = true) :
    s.takeWaiting.getBit (Reg.HDR_IRQ_STAT Page.SAF) c = true := by
  rw [State.takeWaiting]
  split
  · exact s.irq_forceParams hc h
  · exact h

/-- A set taking force touches neither the latched trips nor the contact. -/
theorem State.saf_takeWaiting (s : State) : s.takeWaiting.saf.latched = s.saf.latched ∧ s.takeWaiting.saf.pressed = s.saf.pressed := by
  rw [State.takeWaiting]
  split
  · obtain ⟨k, hk⟩ := s.saf_forceParams
    rw [hk]
    exact ⟨rfl, rfl⟩
  · exact ⟨rfl, rfl⟩

/-! ## A valid press -/

/-- What neither the set in force nor the trips of the cars show is as the press had left it before. -/
theorem State.get_takePress (s : State) {g : Fld} (ha : 0x1a040 ≤ g.addr) (hb : g.addr < 0x1a07c)
    (hs : g.addr ≠ 0x1a040 ∨ 7 < g.lo ∧ (g.hi < 27 ∨ 28 < g.lo)) : s.takePress.get g = s.acceptPress.get g := by
  rw [State.takePress, State.get_showTrips _ (by omega) (by omega), State.get_takeWaiting _ ha (by omega) (by omega) (by omega) (by omega)]

theorem State.irq_takePress (s : State) :
    s.takePress.getBit (Reg.HDR_IRQ_STAT Page.SAF) Irq.SAF_RESET = true := by
  rw [State.takePress, State.getBit, State.get_showTrips _ (by decide) (by decide), ← State.getBit]
  exact State.irq_takeWaiting _ (by decide) s.irq_acceptPress

theorem State.latched_takePress (s : State) : s.takePress.saf.latched = s.staying := by
  rw [State.takePress, State.saf_showTrips, s.acceptPress.saf_takeWaiting.1, State.saf_acceptPress]

theorem State.pressed_takePress (s : State) : s.takePress.saf.pressed = false := by
  rw [State.takePress, State.saf_showTrips, s.acceptPress.saf_takeWaiting.2, State.saf_acceptPress]

theorem State.state_takePress (s : State) (h : s.get Reg.SAF_STATE = SafState.LOCKED) :
    s.takePress.get Reg.SAF_STATE =
      if s.takePress.globalLatched then SafState.LOCKED else SafState.START := by
  have hg : s.takePress.globalLatched = s.acceptPress.globalLatched :=
    State.globalLatched_congr (by rw [s.latched_takePress, State.saf_acceptPress])
  rw [hg, State.get_takePress _ (by decide) (by decide) (by decide), s.get_acceptPress_state h]

/-- R352: what shows that the set waiting in `s` is in force in `t`. -/
structure State.TookForce (s t : State) : Prop where
  force : t.saf.force = s.saf.waiting
  copyA : t.saf.storedA = some s.saf.waiting
  copyB : t.saf.storedB = some s.saf.waiting
  pend  : t.flag Reg.SAF_PARAM_PEND = false
  bad   : t.flag Reg.SAF_PARAM_BAD = false
  gen   : t.get Reg.SAF_PARAM_GEN = min (2 ^ 32 - 1) (s.get Reg.SAF_PARAM_GEN + 1)

theorem State.tookForce_takePress (s : State) (hp : s.flag Reg.SAF_PARAM_PEND = true) (hr : s.allRest = true) :
    s.TookForce s.takePress := by
  have hp' : s.acceptPress.flag Reg.SAF_PARAM_PEND = true := by
    rw [State.flag, s.get_acceptPress (by decide) (by decide) (by decide) (by decide), ← State.flag, hp]
  have hf : s.acceptPress.takeWaiting = s.acceptPress.forceParams := by
    rw [State.takeWaiting, hp', s.allRest_acceptPress, hr, if_pos (by decide)]
  have hw : s.acceptPress.saf.waiting = s.saf.waiting := by rw [State.saf_acceptPress]
  obtain ⟨k, hk⟩ := s.acceptPress.saf_forceParams
  rw [State.takePress, hf]
  refine ⟨?_, ?_, ?_, ?_, ?_, ?_⟩
  · rw [State.saf_showTrips, hk, ← hw]; rfl
  · rw [State.saf_showTrips, hk, ← hw]; rfl
  · rw [State.saf_showTrips, hk, ← hw]; rfl
  · rw [State.flag, State.get_showTrips _ (by decide) (by decide)]
    exact State.flag_forceParams_pend _
  · rw [State.flag, State.get_showTrips _ (by decide) (by decide)]
    exact State.flag_forceParams_bad _
  · rw [State.get_showTrips _ (by decide) (by decide), State.get_forceParams_gen,
      s.get_acceptPress (by decide) (by decide) (by decide) (by decide)]

/-! ## A press that is not valid -/

/-- It opens the contact, and where the contact had not been closed for 5 s it is an interrupt (log entry 70). -/
theorem safetyResetPress_invalid_frame {s : State} {openMs heldMs : Nat} (h : s.saf.pressed = true) (hv : ¬ s.validPress openMs heldMs) :
    (safetyResetPress openMs heldMs s).saf = { s.saf with rtn := 0, pressed := false }
      ∧ ∀ {g : Fld}, 0x1a040 ≤ g.addr → (safetyResetPress openMs heldMs s).get g = s.openContact.get g := by
  rw [safetyResetPress_of_not_valid h hv]
  split
  · exact ⟨rfl, fun _ => rfl⟩
  · exact ⟨State.saf_irq _ _ _, fun ha => State.get_irq_saf _ _ ha⟩

theorem safetyResetPress_invalid_irq {s : State} {openMs heldMs : Nat} (h : s.saf.pressed = true) (hv : ¬ s.validPress openMs heldMs)
    (h5 : heldMs < 5000) : (safetyResetPress openMs heldMs s).getBit (Reg.HDR_IRQ_STAT Page.SAF) Irq.SAF_RESET = true := by
  rw [safetyResetPress_of_not_valid h hv, if_neg (by omega)]
  exact State.getBit_irq _ _ (by decide) (by decide)

theorem exec_safetyResetPress (openMs heldMs : Nat) (s : State) :
    exec (.safetyResetPress openMs heldMs) s = .next (safetyResetPress openMs heldMs s) := rfl

namespace Settled

/-- Settles O40, by cases: a contact that has not counted as closed (R346), a valid press (R347, R348, R352), of which each
stage keeps what those before it did, and one that is not valid, which opens the contact and, below 5 s, reports RESET
(R354, log entry 70). -/
theorem safetyResetPress : Obligations.safety_reset_press := by
  intro s openMs heldMs valid stay
  cases hp : s.saf.pressed with
  | false => exact ⟨_, exec_safetyResetPress openMs heldMs s, safetyResetPress_of_not_pressed openMs heldMs hp⟩
  | true =>
    rw [if_neg (by decide)]
    refine ⟨_, exec_safetyResetPress openMs heldMs s, ?_⟩
    by_cases hv : s.validPress openMs heldMs
    · rw [safetyResetPress_of_valid hp hv]
      refine ⟨?_, s.pressed_takePress, fun _ => s.irq_takePress, fun hn => absurd hv hn, fun _ =>
        ⟨s.latched_takePress, ?_, ?_, s.state_takePress, fun hpend hrest => ?_⟩⟩
      · rw [State.flag, State.get_takePress _ (by decide) (by decide) (by decide)]
        exact s.flag_acceptPress_contact
      · rw [State.get_takePress _ (by decide) (by decide) (by decide), State.get_acceptPress_ok]
      · rw [State.get_takePress _ (by decide) (by decide) (by decide)]
        exact s.get_acceptPress_bad
      · obtain ⟨hforce, hA, hB, hpend', hbad, hgen⟩ := s.tookForce_takePress hpend hrest
        exact ⟨hforce, hA, hB, hpend', hbad, hgen⟩
    · obtain ⟨hsaf, hget⟩ := safetyResetPress_invalid_frame hp hv
      refine ⟨?_, by rw [hsaf], safetyResetPress_invalid_irq hp hv, fun _ => ⟨hsaf, ?_⟩, fun h => absurd h hv⟩
      · rw [State.flag, hget (by decide)]
        exact s.flag_openContact
      · rw [hget (by decide)]
        exact s.get_openContact (by decide)

end Settled

end Sys2Proof.Machine
end
